-- ==== Sys2Proof/Word.lean ====
section
/-!
DEFINITION. Word.lean: the units in which the block's data is written down: bytes, byte strings and
sparse tables.
-/

namespace Sys2Proof

/-- One byte. Every dictionary value, frame and message is made of these (R4, R28). -/
abbrev Byte := BitVec 8

/-- A byte string, first byte first. -/
abbrev Bytes := List Byte

/-- A sparse table: (key, value) pairs, keys strictly rising, and no entry equal to what an unlisted key reads as.
The canonical form is `tabWf` in Machine/Ops.lean. -/
abbrev Tab (α : Type) := List (Nat × α)

end Sys2Proof
end

