-- ==== Sys2Proof/Syntax.lean ====
section
/-!
DEFINITION. Syntax.lean: the commands of the block, one constructor per row of the command table, and the data that
comes with them from outside (assumption log 3).
-/
namespace Sys2Proof

/-- The sessions of R38, the senders of dictionary requests; and the hot registers of BAR0 (R56). -/
inductive Session where
  | sdo (n : Fin 4)
  | pxp (n : Fin 8)
  | mailbox (n : Fin 4)
  | spi
  | bar0
deriving DecidableEq, Repr

/-- Where a PXP datagram came from: IPv4 address and UDP port (R50 answers to them). -/
structure PxpSource where
  addr : Fin 4294967296
  port : Fin 65536
deriving DecidableEq, Repr

/-- How a received mPacket started (R160, R162): an ordinary SFD, a preemptable frame that was reassembled from
`fragments` fragments, or one whose reassembly or fragment count failed. -/
inductive MacStart where
  | sfd
  | preemptable (fragments : Nat)
  | reassemblyError
deriving DecidableEq, Repr

/-- An Ethernet frame as the ingress MAC receives it: its bytes from the destination MAC to the last byte before the
FCS, whether its FCS is good, how it started, and whether the link was lost in the middle of it (R100). -/
structure EthFrame where
  bytes : Bytes
  fcsGood : Bool
  start : MacStart
  truncated : Bool
deriving DecidableEq, Repr

/-- CAN and LIN frame formats of R169 and R209. -/
inductive BusFmt where
  | classical | fd | fdBrs | xl | lin
deriving DecidableEq, Repr

/-- A CAN or LIN frame: identifier (29 bits if extended, 11 bits if base, 6 bits for LIN), remote request, CAN XL
fields, error state indicator, the LIN checksum model that held, the DLC as received (R210), and data bytes. -/
structure BusFrame where
  fmt : BusFmt
  ext : Bool
  remote : Bool
  ident : Fin 536870912
  sdt : Byte
  vcid : Byte
  af : Fin 4294967296
  esi : Bool
  sec : Bool
  enhanced : Bool
  dlc : Fin 16
  data : Bytes
deriving DecidableEq, Repr

/-- What the comparator of a lane sees at the end of one pass-pair (R197, R198): the divergent bits of the three words
(pass A XOR restored pass B), parity errors in the stage 4 read, the compare buffer and the sample hold, and whether the
digest recomputed from the pass A list disagrees. -/
structure PassPair where
  word0 : Fin 18446744073709551616
  word1 : Fin 18446744073709551616
  word2 : Fin 18446744073709551616
  stage4Parity : Bool
  bufferParity : Bool
  holdParity : Bool
  digestMismatch : Bool
deriving DecidableEq, Repr

/-- The kinds of spoof of R185. -/
inductive SpoofKind where
  | foreign | collision | replayed
deriving DecidableEq, Repr

/-- The bus errors of R221, as the engine's last-error code names them, and the role the engine had. -/
inductive CanErrorKind where
  | stuff | form | ack | bit1 | bit0 | crc | pwm
deriving DecidableEq, Repr

/-- A bus error: its kind, whether the engine was the transmitter, and the conditions that ISO 11898-1 attaches to the
error counters (R221): a dominant bit after a receiver's error flag, an exception of ISO 11898-1 under which the transmit error
counter does not change, and an error in the XL data phase. -/
structure CanError where
  kind : CanErrorKind
  transmitter : Bool
  dominantAfterFlag : Bool
  exempt : Bool
  inXlData : Bool
deriving DecidableEq, Repr

/-- A LIN response as heard on the bus: its data bytes, whether its checksum holds under the model that the frame table names (in capture:
under either), whether that model is the enhanced one, whether a collision of event-triggered responders was heard, and whether a bit read
back wrong while this engine published. -/
structure LinResponse where
  data : Bytes
  checksumGood : Bool
  enhanced : Bool
  collision : Bool
  bitError : Bool
deriving DecidableEq, Repr

/-- Errors that the memory shows when the egress reader reads an ell (R104): position in the frame's chain and kind. -/
inductive EllError where
  | corrected (pos : Nat)
  | data (pos : Nat)
  | metadata (pos : Nat)
deriving DecidableEq, Repr

/-- What the egress side of a transmission shows at its end (R98, R100): ell errors and a rewrite parity error. -/
structure TxEnd where
  ells : List EllError
  rewriteParity : Bool
deriving DecidableEq, Repr

/-- The table-access records: a select subindex, fields, and a command subindex with 0x01 read committed, 0x02 write
staged and, on some, 0x03 clear. -/
inductive TableRec where
  | vlan | stream | filter | streamGate | meter
  | ternaryRule | canRule | action | rewrite | flow | check | profile | limiter | guard
  | route | program | container | receiveEntry | braiderLimiter
  | peck | eventExport | prefetch
deriving DecidableEq, Repr

/-- A PTP message after parsing (R272): type, domain, sequence number, source port identity, whether it is two-step,
its origin timestamp and correction in ns, and the rate ratio and grandmaster identity that it carries. -/
structure PtpMessage where
  kind : Fin 16
  domain : Byte
  sequence : Fin 65536
  source : Nat
  origin : Nat
  correction : Int
  ratio : Int
  grandmaster : Nat
deriving DecidableEq, Repr

/-- What a Sync of the steering instance gives (R275): the offset of local time from the master in ns, and the estimated rate
ratio as a rate adjustment in units of A (R266). -/
structure SyncInfo where
  offset : Int
  ratio : Int
deriving DecidableEq, Repr

/-- A completed link-delay exchange (R273): mean link delay in ns, and neighbour rate ratio in ppb. -/
structure DelayExchange where
  delay : Nat
  ratio : Int
deriving DecidableEq, Repr

/-- An access of the host to the remote aperture of BAR0 (R348). -/
inductive HostAccess where
  | read (size : Nat)
  | write (data : Bytes)
deriving DecidableEq, Repr

/-- What host memory answers to the reads of a descriptor's data (R361): good data, or poisoned data or a PCIe error at the k-th
descriptor that is read. -/
inductive HostRead where
  | good
  | poisoned (k : Nat)
  | failed (k : Nat)
deriving DecidableEq, Repr

/-- An instruction loaded in Update-IR of the TAP (R492). -/
inductive JtagInstr where
  | idcode | bypass | other
deriving DecidableEq, Repr

/-- What the header of a verified image says (R428), and its identity. -/
structure ImageInfo where
  major : Fin 65
  minor : Fin 65536
  release : Fin 65536
  evaluated : Bool
  identity : Nat
deriving DecidableEq, Repr

/-- What the boot ROM finds in the firmware slot that it tries first and in the other one (R374, R375): the image, or none where its hash
or signature fails. -/
structure FirmwareLoad where
  first : Option ImageInfo
  second : Option ImageInfo
deriving DecidableEq, Repr

/-- A configuration image, loaded: its header, its objects by index, subindex and entry (entry plus one, 0 for an object outside a table),
its static FDB entries by MAC and FID with their masks, and its flows by key. -/
structure ConfigImage where
  info : ImageInfo
  objs : List (Nat × Nat × Nat × Nat)
  fdb : List (Nat × Nat × Nat)
  flows : List (Nat × Nat)
deriving DecidableEq, Repr

/-- What the two configuration slots hold (R36, R375), in the order in which they are tried. -/
structure ConfigLoad where
  first : Option ConfigImage
  second : Option ConfigImage
deriving DecidableEq, Repr

/-- The commands of the block, one per row of spec/opcode_table.json. -/
inductive Instr where
  /-- DICTIONARY_WRITE, R30: A write to a dictionary object that has no row of its own, checked against access class, type length, range and state. -/
  | dictionaryWrite (ses : Session) (index : Fin 65536) (sub : Fin 256) (offset : Fin 4096) (data : List Byte)
  /-- CONFIGURE_REQUEST, R38: A write of 0x02 to 0x1002:01 takes the Configure lock and opens the staged copy of every RWC object. -/
  | configureRequest (ses : Session)
  /-- COMMIT, R39: The lock holder writes 0x03 to 0x1002:01 and validation of the staged configuration starts. -/
  | commit (ses : Session)
  /-- COMMIT_VALIDATION_COMPLETE, R40: Validation ends, and either the tables switch in one FCLK cycle or the commit is refused with 0x0800_00A4 and the details go to 0x1003. -/
  | commitValidationComplete
  /-- DISCARD, R39: The lock holder writes 0x13, the staged edits are discarded and the device returns to Operate. -/
  | discard (ses : Session)
  /-- CONFIGURE_IDLE_RELEASE, R39: The Configure idle limit expires, the staged edits are discarded and 0x1003 records 0x0504_0000. -/
  | configureIdleRelease
  /-- SESSION_LOSS, R39: The session holding the lock closes or times out, and its staged edits are discarded. -/
  | sessionLoss (ses : Session)
  /-- SDO_REQUEST, R48: An SDO request frame reaches an enabled server and is answered or continues a segmented or block transfer. -/
  | sdoRequest (server : Fin 4) (data : List Byte)
  /-- SDO_SEGMENT_TIMEOUT, R48: The next segment does not arrive within 0x120n:05, and the transfer ends with abort 0x0504_0000. -/
  | sdoSegmentTimeout (server : Fin 4)
  /-- PXP_OPEN, R50: An OPEN message is answered with a CHALLENGE, or refused when the session limit or the per-source rate is exceeded. -/
  | pxpOpen (source : PxpSource) (msg : List Byte)
  /-- PXP_PROVE, R50: The Crust checks a PROVE message, derives the session key and answers with ACCEPT, or frees the session. -/
  | pxpProve (source : PxpSource) (msg : List Byte)
  /-- PXP_READ, R51: A READ message whose CMAC and sequence are accepted reads an object locally or remotely. -/
  | pxpRead (source : PxpSource) (msg : List Byte)
  /-- PXP_WRITE, R51: A WRITE message whose CMAC and sequence are accepted writes an object locally or remotely. -/
  | pxpWrite (source : PxpSource) (msg : List Byte)
  /-- PXP_KEEPALIVE, R51: A KEEPALIVE message refreshes the idle time of its session. -/
  | pxpKeepalive (source : PxpSource) (msg : List Byte)
  /-- PXP_CLOSE, R51: A CLOSE message ends its session. -/
  | pxpClose (source : PxpSource) (msg : List Byte)
  /-- PXP_IDLE_TIMEOUT, R51: A session with no accepted message for 0x1210:03 is closed without any message. -/
  | pxpIdleTimeout (session : Fin 8)
  /-- MAILBOX_READ, R53: A doorbell on a mailbox whose opcode is READ runs the read, writes status and data, sets Done and sends the vector. -/
  | mailboxRead (mbox : Fin 4) (clear : Fin 4) (device : Byte) (index : Fin 65536) (sub : Fin 256) (offset length : Fin 65536)
  /-- MAILBOX_WRITE, R53: A doorbell on a mailbox whose opcode is WRITE runs the write, writes status, sets Done and sends the vector. -/
  | mailboxWrite (mbox : Fin 4) (clear : Fin 4) (device : Byte) (index : Fin 65536) (sub : Fin 256) (offset : Fin 65536) (data : List Byte)
  /-- SPI_READ, R54: An SPI READ request transaction is checked by CRC, executed, and signalled by MS_INT_N. -/
  | spiRead (device : Byte) (index : Fin 65536) (sub : Fin 256) (offset length : Fin 65536) (crc : Fin 65536)
  /-- SPI_WRITE, R54: An SPI WRITE request transaction is checked by CRC, executed, and signalled by MS_INT_N. -/
  | spiWrite (device : Byte) (index : Fin 65536) (sub : Fin 256) (offset length : Fin 65536) (data : List Byte) (crc : Fin 65536)
  /-- SPI_FETCH, R54: A FETCH transaction returns the waiting status, data and CRC, or 0x0800_0022 when no result waits. -/
  | spiFetch
  /-- REMOTE_RESPONSE_TIMEOUT, R57: A remote device does not answer within 0x1010:02, and the request is refused with 0x0504_0000. -/
  | remoteResponseTimeout (request : Nat)
  /-- MANAGEMENT_CORE_WATCHDOG, R409: The management-core watchdog expires and the core restarts, into Headless unless the device is in Safe or Terminal. -/
  | managementCoreWatchdog
  /-- FIRMWARE_RETURN, R36: Firmware returns after a management-core restart and the device goes from Headless to Operate. -/
  | firmwareReturn
  /-- HEADLESS_TIMEOUT, R25: Headless lasts 1,000 ms and the management-restart-timeout source 0xE1 fires. -/
  | headlessTimeout
  /-- PORT_BRING_UP, R65: After its peck grant a BB or ZN port reads the PHY identifier, checks it and starts its initialisation list. -/
  | portBringUp (port : Fin 30) (phyId : Fin 4294967296)
  /-- PHY_IDENTIFIER_RETRY, R65: A port held down with reason 0x07 reads the PHY identifier again each second. -/
  | phyIdentifierRetry (port : Fin 30) (phyId : Fin 4294967296)
  /-- INIT_ENTRY_DELAY_END, R65: An initialisation-list entry's delay ends and the next entry is written or the serdes lane is enabled. -/
  | initEntryDelayEnd (port : Fin 30)
  /-- LINK_POLL, R62: The external PHY's link-status bit is polled at the interval of B+0x00:0B. -/
  | linkPoll (port : Fin 16) (linkBit : Bool)
  /-- PCS_LOSS, R62: The PCS loses block lock or sync and the port goes down within 10 µs. -/
  | pcsLoss (port : Fin 33)
  /-- LINK_UP, R62: The PCS and the PHY both report link and the port comes up at its operating rate. -/
  | linkUp (port : Fin 33) (rate : Fin 8)
  /-- IN_BAND_RATE_CHANGE, R61: A new SGMII or USXGMII rate word drops the link and brings it up at the new rate. -/
  | inBandRateChange (port : Fin 16) (rate : Fin 8)
  /-- STARVED_FALLBACK, R63: A BB port peck-starved for 1 ms retries in its fallback mode or stays down with reason 0x0A. -/
  | starvedFallback (port : Fin 16)
  /-- MDIO_READ, R66: Pass-through command 0x01 issues a Clause 22 or Clause 45 read frame. -/
  | mdioRead (ses : Session) (port : Fin 16)
  /-- MDIO_WRITE, R66: Pass-through command 0x02 issues a Clause 22 or Clause 45 write frame. -/
  | mdioWrite (ses : Session) (port : Fin 16)
  /-- ID_RECORD_READ, R77: The ID-bus hardware completes the read of one Port Identity Record slot, or finds the address absent. -/
  | idRecordRead (slot : Fin 24) (answered : Bool) (record : List Byte)
  /-- ID_BUS_STRETCH_TIMEOUT, R74: A target stretches SCL for more than 1 ms, the read ends and the record counts as absent. -/
  | idBusStretchTimeout (slot : Fin 24)
  /-- RECORD_SIGNATURE_CHECK, R77: The Crust finishes checking a record's signature, which settles the record's validity. -/
  | recordSignatureCheck (slot : Fin 24)
  /-- FOREIGN_BEACON, R71: A coordinator port receives a BEACON that it did not send and counts it. -/
  | foreignBeacon (port : Fin 33)
  /-- TC10_SLEEP_ENTRY, R72: The partner acknowledges the sleep request, or 16 ms pass, and a TP or SP port enters sleep. -/
  | tc10SleepEntry (port : Fin 33) (acknowledged : Bool)
  /-- TC10_WAKE_PULSE, R72: The PD_AON detector sees a wake pulse on a sleeping TP or SP port. -/
  | tc10WakePulse (port : Fin 33)
  /-- ETHERNET_FRAME_RECEIVE, R67: An Ethernet frame arrives at an ingress MAC, is parsed, classified, keyed, written into ells and checked at its end. -/
  | ethernetFrameReceive (port : Fin 33) (frame : EthFrame)
  /-- VERDICT_RELEASE, R198: A Sieve verdict is released and every permitted copy passes the action, stream stages and admission. -/
  | verdictRelease (frame : Nat)
  /-- TRANSMISSION_SELECTION, R127: A port that becomes free selects an eligible queue by strict priority, fair queuing, gates and credit. -/
  | transmissionSelection (port : Fin 33)
  /-- FRAME_TRANSMIT_END, R98: The egress MAC finishes a frame and appends its FCS, or stomps it. -/
  | frameTransmitEnd (port : Fin 33) (seen : TxEnd)
  /-- FDB_AGEING_SCAN, R88: The scanner visits each dynamic entry every T/4, raising its age and removing it at age 5. -/
  | fdbAgeingScan
  /-- FDB_FLUSH_ALL, R89: Flush command 0x01 removes every dynamic entry that existed when it was accepted. -/
  | fdbFlushAll (ses : Session)
  /-- FDB_FLUSH_BY_PORT, R89: Flush command 0x02 removes the dynamic entries of the port in 0x3001:09. -/
  | fdbFlushByPort (ses : Session)
  /-- FDB_FLUSH_BY_FID, R89: Flush command 0x03 removes the dynamic entries of the FID in 0x3001:0A. -/
  | fdbFlushByFid (ses : Session)
  /-- FDB_FLUSH_COMPLETE, R89: A running flush completes within 100 µs and the command reads idle. -/
  | fdbFlushComplete
  /-- FDB_LOOK_UP, R86: Command 0x01 at 0x3002:06 looks up the live table for the given MAC and FID. -/
  | fdbLookUp (ses : Session)
  /-- FDB_WRITE_STATIC, R86: Command 0x02 at 0x3002:06 writes a static entry into the staged table. -/
  | fdbWriteStatic (ses : Session)
  /-- FDB_DELETE_STATIC, R86: Command 0x03 at 0x3002:06 deletes a static entry from the staged table. -/
  | fdbDeleteStatic (ses : Session)
  /-- READ_COMMITTED, R191: Command 0x01 of a table-access record reads the committed entry that the record selects. -/
  | readCommitted (ses : Session) (table : TableRec)
  /-- WRITE_STAGED, R38: Command 0x02 of a table-access record writes the selected entry into the staged configuration. -/
  | writeStaged (ses : Session) (table : TableRec)
  /-- CLEAR_ENTRY_COUNTERS, R191: Command 0x03 of a table-access record clears the live counters of the selected entry. -/
  | clearEntryCounters (ses : Session) (table : TableRec)
  /-- FLOW_DELETE_STAGED, R174: Command 0x03 at 0x4013:03 deletes a flow entry from the staged table. -/
  | flowDeleteStaged (ses : Session)
  /-- FRER_RESET_TIMEOUT, R92: A stream with no accepted frame for its reset timeout returns its history to empty. -/
  | frerResetTimeout (stream : Fin 4096)
  /-- ORPHAN_SCAN, R105: Once a second every orphaned ell is returned to the free list. -/
  | orphanScan
  /-- OVERLOAD_TICK, R119: At each 1 ms tick the run of dropping ticks is counted, and the 100th sets the sustained-overload bit. -/
  | overloadTick
  /-- HOST_RING_DROP, R122: A frame at the head of an HP queue without a free receive descriptor is dropped at dequeue. -/
  | hostRingDrop (queue : Fin 8)
  /-- STREAM_GATE_ENTRY_CHANGE, R139: A stream gate moves to its next list entry at the end of the entry's interval. -/
  | streamGateEntryChange (gate : Fin 256)
  /-- STREAM_GATE_CLEAR_LATCH, R139: Command 0x03 at 0x3220:0A clears a stream gate's closed latch. -/
  | streamGateClearLatch (ses : Session)
  /-- FILTER_CLEAR_BLOCKED, R138: Command 0x03 at 0x3210:0E clears a filter's Blocked state and counters. -/
  | filterClearBlocked (ses : Session)
  /-- METER_CLEAR_LATCH, R144: Command 0x03 at 0x3230:0D clears a meter's red latch and counters. -/
  | meterClearLatch (ses : Session)
  /-- GATE_ENTRY_CHANGE, R151: A gate control list moves to its next entry, and the new gate states take effect at selection. -/
  | gateEntryChange (port : Fin 22)
  /-- GATE_LIST_SWITCH_OVER, R156: At the change time the administrative list becomes operational, extending or truncating the cycle in progress. -/
  | gateListSwitchOver (port : Fin 22)
  /-- GATE_ENTRY_READ, R148: Command 0x01 at 0x3540:07 reads a staged, committed or operational gate list entry. -/
  | gateEntryRead (ses : Session)
  /-- GATE_ENTRY_WRITE_STAGED, R149: Command 0x02 at 0x3540:07 writes an administrative gate list entry into the staged configuration. -/
  | gateEntryWriteStaged (ses : Session)
  /-- HOLD_ASSERT, R164: The hold advance before a Set-And-Hold-MAC entry is reached and hold is asserted. -/
  | holdAssert (port : Fin 16)
  /-- HOLD_RELEASE, R164: The release advance before a Set-And-Release-MAC entry is reached and hold is released. -/
  | holdRelease (port : Fin 16)
  /-- VERIFY_MPACKET_SEND, R160: The verify time elapses and another verify mPacket is sent, or the third failure sets status failed. -/
  | verifyMpacketSend (port : Fin 16)
  /-- VERIFY_MPACKET_RECEIVE, R160: A received verify mPacket is answered with a respond mPacket while preemption is enabled. -/
  | verifyMpacketReceive (port : Fin 16)
  /-- RESPOND_MPACKET_RECEIVE, R160: A received respond mPacket sets verification to succeeded. -/
  | respondMpacketReceive (port : Fin 16)
  /-- PASS_PAIR_OUTCOME, R198: Pass B's last word is compared and the pass-pair is clean, latent, retried or diverged. -/
  | passPairOutcome (lane : Fin 2) (pair : PassPair)
  /-- LANE_DRAIN_END, R201: A lane that is being withdrawn finishes its accepted decisions and is switched off or clock-gated. -/
  | laneDrainEnd (lane : Fin 2)
  /-- RESTORE_LANE, R202: A write to 0x4050:07 restores a withdrawn lane whose fault source is clear by powering it and self-testing it. -/
  | restoreLane (ses : Session) (lane : Fin 2)
  /-- LANE_SELF_TEST_COMPLETE, R203: The lane self-test ends and the lane works, or it stays withdrawn with cause 5. -/
  | laneSelfTestComplete (lane : Fin 2) (passed : Bool)
  /-- SEEDED_COMPARATOR_TEST, R205: At each 1 ms tick each working lane launches a test decision with one inverted output bit. -/
  | seededComparatorTest (lane : Fin 2)
  /-- COMPARATOR_FAULT, R204: The two-rail checker output stops alternating and the comparator source fires at Safe-State class. -/
  | comparatorFault (lane : Fin 2)
  /-- GUARD_SPOOF, R186: An engine reports a foreign, collision or replayed frame carrying a guard identifier. -/
  | guardSpoof (engine : Fin 64) (kind : SpoofKind) (frame : BusFrame)
  /-- QUARANTINE_END, R186: The quarantine time of an engine ends and its frames are judged again. -/
  | quarantineEnd (engine : Fin 64)
  /-- GUARD_CLEAR_COUNTERS, R186: Command 0x03 at 0x4030:0C under a Workshop credential clears a guard entry's spoof count and time. -/
  | guardClearCounters (ses : Session)
  /-- ZONE_PAIR_COUNTERS_READ, R192: Command 0x01 at 0x4040:07 reads the counters of the selected zone pair. -/
  | zonePairCountersRead (ses : Session)
  /-- ZONE_PAIR_COUNTERS_CLEAR, R192: Command 0x03 at 0x4040:07 clears the counters of the selected zone pair. -/
  | zonePairCountersClear (ses : Session)
  /-- FRESHNESS_FLASH_COPY, R182: Every 60 s firmware writes each profile's latest freshness value to its flash copy. -/
  | freshnessFlashCopy
  /-- CAN_FRAME_RECEIVE, R216: A CAN frame becomes valid at its end of frame and is handed with its stamp to the Braider. -/
  | canFrameReceive (engine : Fin 48) (frame : BusFrame) (sofAgo : Fin 4294967296)
  /-- PROTOCOL_EXCEPTION, R209: A frame of a higher format than the mode allows stops decoding until 11 recessive bits. -/
  | protocolException (engine : Fin 48)
  /-- CAN_BUS_ERROR, R221: An engine detects a bus error and applies fault confinement and error signalling. -/
  | canBusError (engine : Fin 48) (error : CanError)
  /-- BUS_OFF_HOLD_OFF_END, R222: The staged-recovery hold-off ends and counting of recessive sequences starts. -/
  | busOffHoldOffEnd (engine : Fin 48)
  /-- BUS_OFF_RECOVERY_COMPLETE, R222: 128 sequences of 11 recessive bits have been seen and the engine is error-active again. -/
  | busOffRecoveryComplete (engine : Fin 48)
  /-- CAN_RECOVER, R222: Command 0x01 at E+0x00:0D starts manual bus-off recovery. -/
  | canRecover (ses : Session) (engine : Fin 48)
  /-- CAN_CLEAR_COUNTERS, R208: Command 0x03 at E+0x00:0D clears the engine's status counters. -/
  | canClearCounters (ses : Session) (engine : Fin 48)
  /-- TRANSMIT_SLOT_SELECTION, R218: An engine selects the slot that would win arbitration and starts its frame. -/
  | transmitSlotSelection (engine : Fin 48)
  /-- TRANSMIT_CONFIRMATION, R219: A transmission completes without error, the slot unlocks and a confirmation goes to the Braider.
  `loopDelay`: the delay from CANn_TXD to CANn_RXD in BCLK cycles that was measured in it (R213). -/
  | transmitConfirmation (engine : Fin 48) (loopDelay : Fin 4096)
  /-- TRANSMIT_ATTEMPT_FAILED, R220: A transmission is lost in arbitration or ended by an error, and it is retried or its slot is freed.
  `loopDelay`: the delay of R213, where the attempt came as far as its measurement. -/
  | transmitAttemptFailed (engine : Fin 48) (byArbitration : Bool) (loopDelay : Option (Fin 4096))
  /-- BUS_HELD_DOMINANT, R223: A receive ball stays low for 2 ms in normal mode and source 0x82 fires. -/
  | busHeldDominant (engine : Fin 64)
  /-- ENGINE_SETTINGS_TAKEOVER, R214: At the next bus idle after a commit an engine takes its new mode and timing and integrates again. -/
  | engineSettingsTakeover (engine : Fin 48)
  /-- CAPTURE_JOIN, R225: At 0.2 ms after PORST_N release catch-enabled engines join in capture with the copied settings. -/
  | captureJoin
  /-- LIN_SLOT_START, R229: A commander schedule slot starts at a time-base tick and its header is sent or the slot stays silent. -/
  | linSlotStart (bus : Fin 16)
  /-- LIN_HEADER_RECEIVE, R228: A LIN responder or capture engine receives a break, sync and protected identifier and acts by its frame table. -/
  | linHeaderReceive (bus : Fin 16) (ident : Fin 64) (measured : Fin 65536)
  /-- LIN_RESPONSE_RECEIVE, R232: A subscribed or event-triggered response completes and is delivered, or fails its checksum. -/
  | linResponseReceive (bus : Fin 16) (response : LinResponse)
  /-- LIN_RESPONSE_TIMEOUT, R232: A subscribed response has not completed by TFrame_Max and is counted as missing or as a framing error. -/
  | linResponseTimeout (bus : Fin 16) (bytesSeen : Bool)
  /-- LIN_TABLE_REQUEST, R230: A write to L+0x01:01 requests a schedule table, or a stop, at the end of the slot in progress. -/
  | linTableRequest (ses : Session) (bus : Fin 16) (table : Byte)
  /-- LIN_WAKE_UP, R233: Command 0x01 at L+0x00:0B drives a dominant wake-up pulse. -/
  | linWakeUp (ses : Session) (bus : Fin 16)
  /-- LIN_GO_TO_SLEEP, R233: Command 0x02 at L+0x00:0B sends the go-to-sleep frame and stops the schedule. -/
  | linGoToSleep (ses : Session) (bus : Fin 16)
  /-- LIN_CLEAR_COUNTERS, R208: Command 0x03 at L+0x00:0B clears the LIN status counters. -/
  | linClearCounters (ses : Session) (bus : Fin 16)
  /-- GO_TO_SLEEP_RECEIVE, R233: A responder receives the go-to-sleep frame and reports it to the wake logic. -/
  | goToSleepReceive (bus : Fin 16)
  /-- TRANSCEIVER_STANDBY_REQUEST, R235: An engine stops starting frames, waits for bus idle and drives its mode ball to standby or sleep. -/
  | transceiverStandbyRequest (engine : Fin 64)
  /-- TRANSCEIVER_MODE_CHANGE_END, R234: The mode-change time after releasing standby ends and the engine integrates on 11 recessive bits. -/
  | transceiverModeChangeEnd (engine : Fin 64)
  /-- ROUTE_EXECUTE, R240: A route executor runs the permitted routes of a record after its verdict. -/
  | routeExecute
  /-- PERIODIC_TRANSMIT, R249: Local time reaches a multiple of a periodic route's period and its mailbox frame joins the pending set. -/
  | periodicTransmit (route : Fin 12288)
  /-- MINIMUM_INTERVAL_END, R249: A minimum-interval route's interval ends and the latest value joins the pending set. -/
  | minimumIntervalEnd (route : Fin 12288)
  /-- LIMITER_TOKEN_RELEASE, R250: A token becomes available and a held frame of a limited route joins the pending set. -/
  | limiterTokenRelease (limiter : Fin 1024)
  /-- TRANSMIT_WINDOW_EDGE, R253: A time-triggered transmit window opens or closes and changes which frames are eligible. -/
  | transmitWindowEdge (engine : Fin 48)
  /-- CONTAINER_DEADLINE_CLOSE, R256: The earliest PDU deadline of an open container is reached and it closes for BP. -/
  | containerDeadlineClose (stream : Fin 64)
  /-- CONTAINER_UNPACK, R258: A permitted container to port 32 is matched to a receive entry and unpacked into bus records. -/
  | containerUnpack
  /-- BEACON_ALIGNMENT, R260: At a grid point an aligned coordinator sends the BEACON of its next PLCA cycle. -/
  | beaconAlignment (port : Fin 8)
  /-- PLCA_TAKEOVER, R261: No BEACON arrives for the takeover time and the SP port becomes coordinator. -/
  | plcaTakeover (port : Fin 8)
  /-- REPLAY_RECORD_SUBMIT, R263: The Braider submits the next caught record in stamp order, or discards it by age. -/
  | replayRecordSubmit
  /-- REPLAY_END, R264: The last waiting record has been replayed and the replay state reads ended. -/
  | replayEnd
  /-- PTP_MESSAGE_RECEIVE, R272: A PTP frame reaches the time unit after its verdict and is processed or discarded. -/
  | ptpMessageReceive (port : Fin 33) (msg : PtpMessage)
  /-- SYNC_RECEIVE, R275: A Sync of the steering instance gives an offset, and local time is stepped or steered. -/
  | syncReceive (msg : SyncInfo)
  /-- PPS_IN_EDGE, R275: A PPS_IN edge under steering source 2 steers or steps local time. -/
  | ppsInEdge
  /-- LINK_DELAY_EXCHANGE, R273: A link-delay exchange completes and updates the port's mean link delay and asCapable. -/
  | linkDelayExchange (port : Fin 22) (exchange : DelayExchange)
  /-- SYNC_RECEIPT_TIMEOUT, R276: syncReceiptTimeout of the steering instance expires and time enters holdover. -/
  | syncReceiptTimeout
  /-- PPS_IN_TIMEOUT, R276: No PPS_IN edge arrives for 2 s and time enters holdover. -/
  | ppsInTimeout
  /-- HOLDOVER_LIMIT, R276: Holdover lasts 0x3801:04 and source 0xC6 fires. -/
  | holdoverLimit
  /-- STEP_BY, R277: Step command 0x01 under Workshop steps local time by the value in 0x3802:07. -/
  | stepBy (ses : Session)
  /-- SET_ABSOLUTE, R277: Step command 0x02 under Authority sets local time to the absolute value in 0x3802:07. -/
  | setAbsolute (ses : Session)
  /-- COMPARATOR_ARM, R279: Command 0x01 at 0x3840+k:0A arms a comparator when its target is inside the window. -/
  | comparatorArm (ses : Session) (comp : Fin 16)
  /-- COMPARATOR_DISARM, R280: Command 0x02 at 0x3840+k:0A disarms a comparator at the next TCLK edge. -/
  | comparatorDisarm (ses : Session) (comp : Fin 16)
  /-- COMPARATOR_FIRE, R279: Local time reaches an armed target and the comparator drives its ball or internal target and re-arms if periodic. -/
  | comparatorFire (comp : Fin 16)
  /-- CAPTURE_EDGE, R284: A filtered ball edge or internal event is stamped into its capture channel. -/
  | captureEdge (channel : Fin 12) (rising : Bool)
  /-- CAPTURE_POP, R284: A read of 0x3850+c:06 pops the oldest capture entry. -/
  | capturePop (ses : Session) (channel : Fin 12)
  /-- CROSS_STAMP_LATCH, R285: A write to 0x3803:01 latches local time at the time unit. -/
  | crossStampLatch (ses : Session)
  /-- PPS_OUT_PULSE, R286: At each whole second of local time PPS_OUT rises for its pulse width. -/
  | ppsOutPulse
  /-- WAKE_SOURCE_VALIDATED, R289: A wake source holds its level through its filter and the wake domain wakes its clusters. -/
  | wakeSourceValidated (source : Fin 96)
  /-- WAKE_TIMER_EXPIRY, R289: The wake timer counted from sleep entry expires and wakes its clusters. -/
  | wakeTimerExpiry
  /-- NM_PDU_RECEIVE, R295: An NM PDU is received and counted for the clusters its bus and PN vector select. -/
  | nmPduReceive (bus : Fin 94) (data : List Byte)
  /-- OWN_NM_PDU_SEND, R296: Each own-NM cycle the device sends its NM PDU on every CAN member of a cluster it keeps awake. -/
  | ownNmPduSend (cluster : Fin 8)
  /-- NM_TIMEOUT, R297: The NM timeout of an awake cluster expires without a keeper and the cluster enters prepare. -/
  | nmTimeout (cluster : Fin 8)
  /-- LIN_RESPONDER_HOLD_END, R295: A LIN responder has received no header for 4 s and stops holding its cluster awake. -/
  | linResponderHoldEnd (bus : Fin 16)
  /-- SLEEP_COMMIT, R298: The prepare time ends and the cluster's members stop, enter standby and go down. -/
  | sleepCommit (cluster : Fin 8)
  /-- STANDBY_POINT, R297: Every member transceiver and port of a committed cluster is asleep and the cluster sleeps. -/
  | standbyPoint (cluster : Fin 8)
  /-- SLEEP_DWELL_END, R299: The minimum sleep dwell ends and a latched or held wake is served. -/
  | sleepDwellEnd (cluster : Fin 8)
  /-- SLEEP_READY, R301: Firmware reports sleep-ready after its flash writes and sealing. -/
  | sleepReady
  /-- DEVICE_SLEEP_ENTRY, R301: With the standby point reached and sleep-ready reported, domains are quiesced and the device sleeps. -/
  | deviceSleepEntry
  /-- WARM_DWELL_LIMIT, R293: Warm sleep lasts 0x5040:02 minutes, INH_OUT0 falls and the device enters cold sleep. -/
  | warmDwellLimit
  /-- WARM_WAKE, R303: A validated wake in warm sleep raises INH_OUT1 and restores the device from retention to Operate. -/
  | warmWake
  /-- COLD_WAKE, R304: A validated wake in cold sleep raises INH_OUT0 and starts the device again from PORST_N release. -/
  | coldWake
  /-- WAKE_DONE, R308: Firmware reports wake-done on reaching Operate or Configure, which stops the wake watchdog. -/
  | wakeDone
  /-- AWAKE_TIMER_EXPIRY, R306: A cluster's maximum awake time expires and its recent keepers are withheld. -/
  | awakeTimerExpiry (cluster : Fin 8)
  /-- WITHHOLDING_END, R307: Every held bus has been silent for the NM timeout plus the prepare time and withholding ends. -/
  | withholdingEnd (cluster : Fin 8)
  /-- WAKE_WATCHDOG_EXPIRY, R308: The 500 ms handshake watchdog expires and the wake domain takes the fail-safe path to cold sleep. -/
  | wakeWatchdogExpiry
  /-- WAKE_BACKOFF_END, R309: The wake-source masking backoff ends and latched wakes are served. -/
  | wakeBackoffEnd
  /-- SAFE_SLEEP_TIMEOUT, R310: The device has been in Safe or Terminal for 0x5040:04 and takes the fail-safe path with cause 3. -/
  | safeSleepTimeout
  /-- GRANT_RECEIVE, R319: A member accepts or refuses a GRANT, acknowledges it and takes a lease or stops for its partner. -/
  | grantReceive (msg : List Byte)
  /-- RELEASE_RECEIVE, R319: A member receiving a RELEASE stops starting frames and yields once its engines are idle. -/
  | releaseReceive (msg : List Byte)
  /-- LEASE_YIELD, R319: Every leased engine is idle and the member ends its lease and sends an ACK with yield set. -/
  | leaseYield
  /-- LEASE_END, R319: Local time reaches the lease end or the 4 ms monotonic bound passes and the member enters shadow. -/
  | leaseEnd
  /-- LEASE_ACK_RECEIVE, R321: The referee receives an ACK and resumes renewals or ends the lease on yield. -/
  | leaseAckReceive (referee : Fin 3) (msg : List Byte)
  /-- HEALTH_REPORT_SEND, R318: Every 10 ms a member sends its health report on each configured path. -/
  | healthReportSend
  /-- HEALTH_REPORT_RECEIVE, R321: A health report is accepted and updates eligibility and the referee's failure decision. -/
  | healthReportReceive (msg : List Byte)
  /-- PARTNER_HEALTH_TIMEOUT, R318: A member receives no health report from its partner for 30 ms and source 0xCA fires. -/
  | partnerHealthTimeout
  /-- REFEREE_GRANT_RENEWAL, R320: Every 1 ms the referee sends a GRANT to the holder with a lease end 4 ms ahead. -/
  | refereeGrantRenewal (referee : Fin 3)
  /-- REFEREE_ACK_TIMEOUT, R321: No ACK to a GRANT arrives within 0.5 ms and renewals are withheld. -/
  | refereeAckTimeout (referee : Fin 3)
  /-- REFEREE_LEASE_LAPSE, R321: The previous lease has ended by the referee's clock and the other eligible member is granted. -/
  | refereeLeaseLapse (referee : Fin 3)
  /-- REFEREE_LOST, R325: No valid referee message arrives on either path for 3 ms and source 0xCB fires. -/
  | refereeLost
  /-- SHADOW_OMISSION, R315: A shadow frame unmatched within the compare window is treated as sent and counted as an omission. -/
  | shadowOmission (engine : Fin 48)
  /-- TRANSMIT_WITHOUT_LEASE, R313: The hardware monitor sees a dominant bit driven on a leased engine without a valid lease. -/
  | transmitWithoutLease (engine : Fin 48)
  /-- HAND_OVER, R324: Command 0x01 at 0x5440+k:0B hands the lease to the other member by RELEASE and GRANT. -/
  | handOver (ses : Session) (referee : Fin 3)
  /-- RELEASE_ALL, R324: Command 0x02 at 0x5440+k:0B releases the holder and grants no one. -/
  | releaseAll (ses : Session) (referee : Fin 3)
  /-- RESUME, R324: Command 0x03 at 0x5440+k:0B makes the referee grant again under its criteria. -/
  | resume (ses : Session) (referee : Fin 3)
  /-- PE_PERST_N, R332: Assertion or release of PE_PERST_N resets the link, configuration space, MSI-X table, mailboxes and DMA. -/
  | pePerstN (asserted : Bool)
  /-- FUNCTION_LEVEL_RESET, R332: A function level reset resets the PCIe function within 100 ms. -/
  | functionLevelReset
  /-- UNSUPPORTED_ACCESS, R334: A PCIe access of unsupported size completes as Unsupported Request or is discarded, and it is counted. -/
  | unsupportedAccess (isRead : Bool)
  /-- TIME80_LOW_HALF_READ, R333: A read of the low 8 bytes of a 16-byte TIME80 register copies the upper half into a shadow. -/
  | time80LowHalfRead (offset : Fin 65536)
  /-- REMOTE_APERTURE_ACCESS, R348: A BAR0 remote-aperture access becomes a READ or POSTED WRITE to the remote device. -/
  | remoteApertureAccess (offset : Fin 65536) (access : HostAccess)
  /-- TRANSPORT_FRAME_RECEIVE, R343: A backbone transport frame is checked by CMAC, epoch and sequence, and is then accepted or discarded. -/
  | transportFrameReceive (frame : List Byte)
  /-- TRANSPORT_ACK_DUE, R343: A receiver with nothing to send acknowledges with a link frame within 20 µs. -/
  | transportAckDue (peer : Fin 8)
  /-- RETRANSMIT_TIMEOUT, R343: No progress for 0x5C20:07 retransmits the unacknowledged frames, or takes the link down after the limit. -/
  | retransmitTimeout (peer : Fin 8)
  /-- HELLO_SEND, R344: Every HELLO interval the device sends a HELLO to the group address. -/
  | helloSend
  /-- HELLO_RECEIVE, R344: A HELLO discovers or refreshes a peer, restarts its link, or reveals a device-number conflict. -/
  | helloReceive (frame : List Byte)
  /-- PEER_DISCOVERY_TIMEOUT, R344: No HELLO from a peer for three intervals and the peer is no longer discovered. -/
  | peerDiscoveryTimeout (peer : Fin 8)
  /-- EVENT_MESSAGE_RECEIVE, R349: An EVENT message runs its remote action: MSI-X, DMA doorbell or source 0xF3. -/
  | eventMessageReceive (peer : Fin 8) (data : List Byte)
  /-- EVENT_EXPORT, R349: A source of an enabled export entry fires and an EVENT is sent to its destination device. -/
  | eventExport (entry : Fin 32)
  /-- SOFTWARE_EVENT_SEND, R349: Command 0x01 at 0x5C22:03 sends a kind-7 event with the 8 data bytes. -/
  | softwareEventSend (ses : Session)
  /-- PREFETCH_HOLD_END, R350: The hold time of a prefetched block ends and its values are discarded. -/
  | prefetchHoldEnd (window : Fin 32)
  /-- DMA_DOORBELL, R357: A write to a channel's doorbell advances its producer index or is discarded as out of range. -/
  | dmaDoorbell (channel : Fin 64) (value : Fin 4294967296)
  /-- DMA_START, R366: Control command 0x01 starts or resumes a channel. -/
  | dmaStart (ses : Session) (channel : Fin 64)
  /-- DMA_ABORT, R366: Control command 0x02 aborts a solo channel at a burst boundary with a write-back of status 0x02. -/
  | dmaAbort (ses : Session) (channel : Fin 64)
  /-- DMA_DISABLE, R367: Control command 0x03 stops a gang or channel at once and loses everything in flight. -/
  | dmaDisable (ses : Session) (channel : Fin 64)
  /-- DMA_RESET_RING, R357: Control command 0x04 resets both ring indexes to 0 and the expected phase to 1. -/
  | dmaResetRing (ses : Session) (channel : Fin 64)
  /-- DESCRIPTOR_FETCH, R360: A channel reads posted descriptors and checks their phase bit. -/
  | descriptorFetch (channel : Fin 64) (bytes : List Byte)
  /-- PHASE_REREAD, R360: A descriptor with the wrong phase is read again after 1 µs, and the channel stops after the fourth read. -/
  | phaseReread (channel : Fin 64) (bytes : List Byte)
  /-- DESCRIPTOR_WRITE_BACK, R361: A descriptor ends and its write-back is issued, with a FIFO record and vector if flagged. -/
  | descriptorWriteBack (channel : Fin 64)
  /-- COMPLETION_POP, R361: A read of 0x5D00+n:11 pops the oldest completion record. -/
  | completionPop (ses : Session) (channel : Fin 64)
  /-- RECEIVE_FRAME_TO_HOST, R362: A receive channel takes a frame from its HP queue and writes header and bytes into host buffers. -/
  | receiveFrameToHost (channel : Fin 64) (seen : TxEnd)
  /-- TRANSMIT_FRAME_FROM_HOST, R363: A transmit channel collects a frame up to end of frame and presents it to port 30. -/
  | transmitFrameFromHost (channel : Fin 64) (frame : List Byte) (host : HostRead)
  /-- COPY_DESCRIPTOR, R364: A copy channel moves elements between host memory and a device endpoint through the holding register. -/
  | copyDescriptor (channel : Fin 64) (data : List Byte) (host : HostRead)
  /-- DMA_DOMAIN_LOSS, R368: A domain at either end of a channel powers down and the channel stops with status 0x03. -/
  | dmaDomainLoss (channel : Fin 64)
  /-- CHALLENGE_READ, R388: A read of 0x6010:02 returns a fresh challenge that replaces the previous one. -/
  | challengeRead (ses : Session)
  /-- CREDENTIAL_RESPONSE, R388: A write to 0x6010:03 is verified and grants the role, or counts a failure toward lockout. -/
  | credentialResponse (ses : Session) (response : List Byte)
  /-- ROLE_RELEASE, R388: A write of 0 to 0x6010:04 releases the session's role. -/
  | roleRelease (ses : Session)
  /-- LOCKOUT_END, R390: A role's lockout time ends and its challenges are served again. -/
  | lockoutEnd (role : Fin 4)
  /-- LOAD_WRAPPED_BLOB, R379: Key command 0x01 unwraps a blob under slot 0xE1 into the selected slot. -/
  | loadWrappedBlob (ses : Session)
  /-- IMPORT_PUBLIC_KEY, R379: Key command 0x02 imports a public key into the selected slot. -/
  | importPublicKey (ses : Session)
  /-- UNWRAP_SAK, R379: Key command 0x03 unwraps a MACsec SAK under the CAK-derived KEK. -/
  | unwrapSak (ses : Session)
  /-- ERASE_KEY, R379: Key command 0x04 erases the selected slot. -/
  | eraseKey (ses : Session)
  /-- CLEAR_IMPORT, R379: Key command 0x07 loads a symmetric key from a clear-import record in lifecycle Provisioned. -/
  | clearImport (ses : Session)
  /-- KEY_PARITY_ERROR, R378: A parity error on a key word erases the slot and fires source 0xA6. -/
  | keyParityError (slot : Fin 256)
  /-- TRNG_HEALTH_FAILURE, R381: A continuous TRNG test fails, source 0xA3 fires and the TRNG is withdrawn. -/
  | trngHealthFailure
  /-- TRNG_START_UP_TEST, R381: The 1,024-sample start-up test completes at Boot or wake, or its failure fires source 0xA4. -/
  | trngStartUpTest (passed : Bool)
  /-- AUTH_UNIT_SELF_TEST, R383: Every 10 ms the PDU authentication unit runs a known-answer CMAC, and a failure withdraws it. -/
  | authUnitSelfTest (passed : Bool)
  /-- TRANSMIT_AN_WRITE, R385: A write of a new transmit AN switches the port's transmit SA at the next frame. -/
  | transmitAnWrite (ses : Session) (port : Fin 16) (an : Byte)
  /-- SA_READ, R385: Command 0x01 at 0x6180:0C reads a secure association. -/
  | saRead (ses : Session)
  /-- SA_WRITE, R385: Command 0x02 at 0x6180:0C writes a secure association, taking effect at once. -/
  | saWrite (ses : Session)
  /-- PN_EXHAUSTION, R385: The transmit SA's PN reaches its warning level or maximum, and the maximum withholds transmission. -/
  | pnExhaustion (port : Fin 16)
  /-- DERIVE_KEK_ICK, R386: MKA command 0x01 derives the KEK and ICK from the CAK slot. -/
  | deriveKekIck (ses : Session)
  /-- COMPUTE_ICV, R386: MKA command 0x02 computes the ICV of the MKPDU in 0x6030:04. -/
  | computeIcv (ses : Session)
  /-- SEALED_RECORD_WRITE, R393: A queued sealed record is written to the flash ring within 10 ms of creation. -/
  | sealedRecordWrite
  /-- LOG_ACKNOWLEDGE, R395: A write of a counter to 0x6040:05 under Workshop acknowledges every record up to it. -/
  | logAcknowledge (ses : Session) (through : Fin 18446744073709551616)
  /-- LOG_EXPORT, R396: Command 0x01 at 0x6040:0B hashes and signs a range of records within 60 ms. -/
  | logExport (ses : Session)
  /-- MODULE_BIND, R398: Command 0x01 at 0x6050+p:04 binds a port to the digest of its present record. -/
  | moduleBind (ses : Session) (port : Fin 16)
  /-- MODULE_UNBIND, R398: Command 0x02 at 0x6050+p:04 unbinds a port. -/
  | moduleUnbind (ses : Session) (port : Fin 16)
  /-- TAMPER_EVENT, R399: A voltage, clock, temperature or mesh sensor trips and its response code is applied. -/
  | tamperEvent (sensor : Fin 4)
  /-- TAMPER_LATCH_CLEAR, R399: A W1C write to 0x6000:04 under Workshop clears latched tamper bits. -/
  | tamperLatchClear (ses : Session) (bits : Byte)
  /-- JTAG_INSTRUCTION, R492: An instruction loaded in Update-IR is executed, or refused with source 0xB0 and a record while JTAG is locked. -/
  | jtagInstruction (instruction : JtagInstr)
  /-- SOURCE_FIRE, R408: A fault source fires and the collector records it and starts, pre-empts or pends its class reaction. -/
  | sourceFire (source : Fin 256) (data : Fin 4294967296)
  /-- REACTION_COMPLETE, R408: A reaction completes and the highest pending reaction runs next. -/
  | reactionComplete
  /-- FORCE_SOURCE, R419: A write of 0x01 to 0x5900+s:07 fires source s as if its hardware had reported it. -/
  | forceSource (ses : Session) (source : Fin 256)
  /-- CLEAR_SOURCE, R420: A write of 1 to 0x5900+s:04 clears a source status under its credential, and withdrawn units rejoin. -/
  | clearSource (ses : Session) (source : Fin 256)
  /-- CLEAR_FIRST_FAULTS, R414: Command 0x01 at 0x5800:07 clears the first-fault captures except class 3. -/
  | clearFirstFaults (ses : Session)
  /-- ERR_IN_N_ASSERT, R418: ERR_IN_N stays low through its filter and level source 0xE0 enters condition. -/
  | errInNAssert
  /-- SAFE_N_READBACK_MISMATCH, R417: The SAFE_N ball reads high while driven low and source 0xE3 fires. -/
  | safeNReadbackMismatch
  /-- LEVEL_CONDITION_END, R406: A level source's condition ends, so it can fire again and be cleared. -/
  | levelConditionEnd (source : Fin 256)
  /-- UPDATE_BEGIN, R432: Command 0x01 at 0x6800:06 erases the staging area and starts receiving a package. -/
  | updateBegin (ses : Session)
  /-- UPDATE_DATA, R432: A write to 0x6800:05 stores a package piece at the write offset and advances it. -/
  | updateData (ses : Session) (data : List Byte)
  /-- UPDATE_INSTALL, R432: Command 0x02 at 0x6800:06 starts installing the received package into the inactive slot. -/
  | updateInstall (ses : Session)
  /-- UPDATE_DISCARD, R433: Command 0x03 at 0x6800:06 discards the staged package. -/
  | updateDiscard (ses : Session)
  /-- INSTALL_COMPLETE, R431: An install ends with the image installed and verified, or failed with a result code. -/
  | installComplete (base : List Byte) (flashError : Bool)
  /-- ACTIVATION_ARM, R438: Command 0x01 at 0x6808:05 arms an activation at the target time, or is refused with a cause. -/
  | activationArm (ses : Session)
  /-- ACTIVATION_CANCEL, R438: Command 0x02 at 0x6808:05 cancels an armed activation. -/
  | activationCancel (ses : Session)
  /-- ACTIVATION_ARM_NOW, R438: Command 0x03 at 0x6808:05 arms an activation 100 ms ahead without the state check. -/
  | activationArmNow (ses : Session)
  /-- ACTIVATION_HEADER_DEADLINE, R440: 50 ms before the instant the flash header must be rewritten, or the activation is cancelled with cause 9. -/
  | activationHeaderDeadline (written : Bool)
  /-- ACTIVATION, R440: At the target instant the tables switch and the core restarts from the new slot, and the proofing window opens. -/
  | activation (image : ConfigImage)
  /-- FIRMWARE_CONFIRM, R442: Firmware sets 0x6810:02 after its self-checks, and with any host part the floors rise. -/
  | firmwareConfirm (burned : Bool)
  /-- HOST_CONFIRM, R442: Host verdict 0x01 at 0x6810:04 supplies the host part of the confirmation. -/
  | hostConfirm (ses : Session) (burned : Bool)
  /-- HOST_REJECT, R443: Host verdict 0x02 at 0x6810:04 reverts the activated kinds. -/
  | hostReject (ses : Session)
  /-- PROOFING_WINDOW_EXPIRY, R443: The proofing window ends unconfirmed and the device reverts to the previous slots. -/
  | proofingWindowExpiry
  /-- THERMOMETER_BURN_RETRY, R445: At a start with the active major above the thermometer the burn is tried again. -/
  | thermometerBurnRetry (burned : Bool)
  /-- RECOVERY_ERASE, R446: Recovery-loader opcode 0x20 erases part of a slot. -/
  | recoveryErase (slot : Byte) (offset : Fin 4294967296) (length : Fin 65536) (crc : Fin 65536)
  /-- RECOVERY_WRITE, R446: Recovery-loader opcode 0x21 writes data into a slot. -/
  | recoveryWrite (slot : Byte) (offset : Fin 4294967296) (length : Fin 65536) (data : List Byte) (crc : Fin 65536)
  /-- RECOVERY_VERIFY, R446: Recovery-loader opcode 0x22 verifies a slot and makes it active if it passes. -/
  | recoveryVerify (slot : Byte) (offset : Fin 4294967296) (length : Fin 65536) (crc : Fin 65536) (held : List Byte)
  /-- RECOVERY_RESTART, R446: Recovery-loader opcode 0x23 starts the device from PORST_N. -/
  | recoveryRestart (slot : Byte) (offset : Fin 4294967296) (length : Fin 65536) (crc : Fin 65536)
  /-- PORST_N_ASSERT, R461: PORST_N goes low past its filter and the device holds its reset levels. -/
  | porstNAssert
  /-- PORST_N_RELEASE, R465: PORST_N is released, straps are latched and the first-second sequence begins. -/
  | porstNRelease (straps : Fin 1024)
  /-- RST_N_RESET, R461: RST_N is held low for at least 1 µs and the device resets, keeping PD_AON. -/
  | rstNReset
  /-- SOFTWARE_RESET, R461: A write of 0x01 to 0x5050:05 under Workshop resets the device, keeping PD_AON. -/
  | softwareReset (ses : Session)
  /-- SUPPLY_RESET, R449: VDD_CORE or VDD_SR falls below its reset threshold for 1 µs and the device resets until the rails recover. -/
  | supplyReset
  /-- RAIL_OUT_OF_RANGE, R449: A monitored rail leaves its operating range and its level source fires. -/
  | railOutOfRange (rail : Fin 16) (low : Bool)
  /-- RETENTION_LOST, R450: VDD_CORE falls below 0.52 V in warm sleep and the next wake is served as a cold wake. -/
  | retentionLost
  /-- VDD_AON_LOSS, R504: VDD_AON stays below 1.45 V for 10 µs and PD_AON is cleared. -/
  | vddAonLoss
  /-- VDDIO_BUS_LOSS, R488: VDDIO_BUS falls below its range with VDD_AON up, and a power-down begins. -/
  | vddioBusLoss
  /-- VDDIO_BUS_RETURN, R488: VDDIO_BUS enters its range with VDD_AON up and INH_OUT rise within 0.1 ms. -/
  | vddioBusReturn
  /-- XTAL_STABLE, R452: The XTAL oscillator becomes stable and an extended internal reset is released. -/
  | xtalStable
  /-- XTAL_LOSS, R454: The XTAL monitor finds XTAL missing or off frequency and source 0x40 fires. -/
  | xtalLoss
  /-- PLL_LOCK, R453: A PLL locks, which enables the units of its clock domain. -/
  | pllLock (pll : Fin 10)
  /-- PLL_UNLOCK, R454: A PLL lock detector reports loss of lock and its source fires. -/
  | pllUnlock (pll : Fin 10)
  /-- STRAP_DRIVER_ENABLE, R490: 20 µs after PORST_N release the TTRIG and PPS_OUT drivers are enabled and drive low. -/
  | strapDriverEnable
  /-- PECK_REQUEST, R473: A consumer requests its charge, which is granted at once or waits. -/
  | peckRequest (consumer : Fin 62)
  /-- PECK_GRANT, R473: A waiting request is granted once budget, ramp cap and rank allow it. -/
  | peckGrant (consumer : Fin 62)
  /-- PECK_RETURN, R476: A consumer returns its charge to the arbiter. -/
  | peckReturn (consumer : Fin 62)
  /-- PECK_STARVATION, R479: A request has waited 100 µs, the consumer is peck-starved and applies its fallback. -/
  | peckStarvation (consumer : Fin 62)
  /-- DERATING_UPDATE, R477: Each millisecond the arbiter reads Tj and sets the effective budget. -/
  | deratingUpdate (tj : Int)
  /-- SERDES_STEP, R480: At a serdes step the requests of the ports whose records are checked are issued up to the step allowance. -/
  | serdesStep
  /-- STEP_REQUEST_WITHDRAW, R480: A port request still waiting 1 ms after its step is withdrawn and issued again at the next step. -/
  | stepRequestWithdraw (consumer : Fin 62)
  /-- DOMAIN_READY, R458: A granted domain is switched on, leaves reset and its units start their bring-up. -/
  | domainReady (domain : Fin 18)
  /-- DOMAIN_POWER_DOWN, R459: A domain power-down request quiesces the domain and starts its drain. -/
  | domainPowerDown (domain : Fin 18)
  /-- DOMAIN_DRAIN_END, R459: The drain ends or reaches its limit, the switch opens and the pecks return. -/
  | domainDrainEnd (domain : Fin 18)
  /-- POWER_SWITCH_FAULT, R460: A domain switch fails to open or close and source 0x4E fires. -/
  | powerSwitchFault (domain : Fin 18)
  /-- FIRMWARE_IMAGE_VERIFIED, R375: The boot ROM finishes hashing and checking the signature of the firmware image, then starts the management core or fires 0xA2 and stays in Boot. -/
  | firmwareImageVerified (image : FirmwareLoad)
  /-- CONFIGURATION_IMAGE_LOADED, R36: The configuration image is verified and loaded, and the device goes from Catch to Operate, or to Configure when no image verifies. -/
  | configurationImageLoaded (image : ConfigLoad)
  /-- DICTIONARY_AVAILABLE, R47: At 15 ms after a cold start the dictionary becomes available, and requests stop being answered with 0x0800_0022. -/
  | dictionaryAvailable
  /-- STAGED_BANK_REFRESH_COMPLETE, R191: The copy that refreshes the Sieve's staged bank after a commit finishes, and staged writes that waited for it proceed. -/
  | stagedBankRefreshComplete
  /-- MDIO_FRAME_COMPLETE, R66: An MDIO frame on a bus ends, a pass-through command reads done or no response, and the next queued frame or poll is served. -/
  | mdioFrameComplete (bus : Fin 2) (result : Fin 65536)
  /-- INTEGRATION_COMPLETE, R234: An engine sees 11 consecutive recessive bits and becomes able to receive and send. -/
  | integrationComplete (engine : Fin 64)
  /-- GRANDMASTER_SYNC_SEND, R271: An instance acting as grandmaster, or a bridge that has assumed grandmaster on loss, sends Sync from local time at each log sync interval. -/
  | grandmasterSyncSend (inst : Fin 4) (port : Fin 33)
  /-- LINK_DELAY_REQUEST_SEND, R273: At each log link-delay interval a port starts a link-delay exchange with its neighbour. -/
  | linkDelayRequestSend (port : Fin 22)
  /-- REFEREE_HEALTH_TIMEOUT, R321: The referee has had no health report from the holder for 30 ms on both paths, withholds renewals, and lets the member's eligibility lapse. -/
  | refereeHealthTimeout (referee : Fin 3)
  /-- REFEREE_FIRST_GRANT, R325: After its start the referee grants the only reporting member 30 ms after that member's first health report. -/
  | refereeFirstGrant (referee : Fin 3)
  /-- PCIE_CONFIGURATION_REQUEST, R332: A host configuration request is answered with Configuration Request Retry Status until Operate or Configure, at most 1.0 s after PE_PERST_N release, and normally afterwards. -/
  | pcieConfigurationRequest
  /-- PME_TURN_OFF, R330: A PME_Turn_Off message from the host drains the endpoint under 0x5020 and takes the link to L2. -/
  | pmeTurnOff
  /-- PCIE_LINK_UP, R467: Link training with the root port completes, and the link reaches L0 and is recorded at 0x5010:07. -/
  | pcieLinkUp (gen : Fin 5) (lanes : Fin 5)
  /-- PCIE_LINK_DOWN, R368: The PCIe link is lost abruptly, so DMA channels stop at a burst boundary and HP is treated as down. -/
  | pcieLinkDown
  /-- MSIX_VECTOR_UNMASK, R336: The host unmasks an MSI-X vector in BAR4, and a message for its set pending bit is sent. -/
  | msixVectorUnmask (vector : Fin 128)
  /-- LIFECYCLE_TRANSITION, R373: The OTP lifecycle moves between Blank, Provisioned, Field and Retired under the required credential, with the JTAG lock or key erasure that the move brings. -/
  | lifecycleTransition (ses : Session) (target : Fin 4)
  /-- ROOT_KEY_REVOCATION, R373: A root public key hash in OTP has its revocation bit set under an Authority credential. -/
  | rootKeyRevocation (ses : Session) (key : Fin 4)
  /-- RST_N_RELEASE, R461: RST_N returns high and the device runs the start sequence, keeping PD_AON and restoring local time under R268. -/
  | rstNRelease
  /-- SUPPLY_RESET_RELEASE, R449: VDD_CORE and VDD_SR have been back in range for 100 µs, and the supply reset ends and the device starts again. -/
  | supplyResetRelease
  /-- VDD_AON_RETURN, R452: VDD_AON enters its range, which starts the XTAL amplifier and lets the wake domain, PD_AON and the power-up rail order proceed. -/
  | vddAonReturn
  /-- LOG_EXPORT_COMPLETE, R396: A sealed-log export finishes hashing and signing, and its result is placed at 0x6040:0A, or it is refused when records in range were overwritten. -/
  | logExportComplete
  /-- REVERT_CONFIGURATION_SWITCH, R443: After a revert, the previous configuration image has been read and verified and its tables switch under R17. -/
  | revertConfigurationSwitch (image : ConfigImage)
deriving DecidableEq, Repr

end Sys2Proof
end

