-- ==== Sys2Proof/Config.lean ====
section
/-!
DEFINITION. Config.lean: what the spec leaves open (free values) and the cryptographic functions that the spec names
by their public standards and does not define. Every one is an uninterpreted constant: no proof can see a value of it.
-/
namespace Sys2Proof

/-- A value the spec leaves open, numbered by the plain counter `State.fresh` (assumption log 10). -/
opaque Config.freeValue : Nat → Nat

/-- A value the spec leaves open that is a function of its operands (assumption log 10): the first argument numbers the
function, the second holds its operands. -/
opaque Config.freeFun : Nat → List Nat → Nat

/-- SHA-256 and SHA-384 of a byte string, as numbers (assumption log 11). -/
opaque Config.sha256 : Bytes → Nat
opaque Config.sha384 : Bytes → Nat

/-- AES-CMAC (RFC 4493, NIST SP 800-38B) under a key value, 128-bit result (assumption log 11). -/
opaque Config.cmac : Nat → Bytes → Nat

/-- ECDSA verification of a digest under a public key with a signature (assumption log 11). -/
opaque Config.ecdsaVerify : (key digest signature : Nat) → Bool

/-- ECDSA signature of a digest under a private key (assumption log 11). -/
opaque Config.ecdsaSign : (key digest : Nat) → Nat

/-- Key derivation and key unwrapping (NIST SP 800-108, RFC 3394): result as a number; `none` where the integrity check
of an unwrap fails (assumption log 11). -/
opaque Config.kdf : (key : Nat) → (label : Bytes) → Nat
opaque Config.unwrap : (key : Nat) → (wrapped : Bytes) → Option Nat

/-- The device-unique key and the serial number of OTP, and the attestation key generated at Provisioned; the public key of a private one; a
CTR_DRBG output of the TRNG, by its running number (assumption log 11). -/
opaque Config.deviceKey : Nat
opaque Config.serial : Nat
opaque Config.attestKey : Nat
opaque Config.publicKey : Nat → Nat
opaque Config.random : Nat → Nat

/-- GCM-AES (IEEE 802.1AE): opening a protected frame under key and nonce, `none` where the ICV is wrong; and sealing
one (assumption log 11). -/
opaque Config.gcmOpen : (key nonce : Nat) → Bytes → Option Bytes
opaque Config.gcmSeal : (key nonce : Nat) → Bytes → Bytes

/-- The SHA-384 root public key hashes in OTP (R373; assumption log 11). -/
opaque Config.rootHash : Nat → Nat

end Sys2Proof
end

