-- ==== Sys2Proof/Machine/Card.lean ====
section
/-!
DEFINITION. Card.lean: the form of an object card (R27–R32): type, access class, default and range of each subindex.
-/
namespace Sys2Proof.Machine

/-- Object types of R28. `u n` and `i n` are integers of n bytes, `octet n` a byte string of n bytes. -/
inductive OTy where
  | bool
  | u (n : Nat)
  | i (n : Nat)
  | octet (n : Nat)
  | time80
deriving DecidableEq, Repr

/-- Length in bytes of a type (R28). -/
def OTy.size : OTy → Nat
  | .bool => 1
  | .u n => n
  | .i n => n
  | .octet n => n
  | .time80 => 10

/-- Access classes of R30. -/
inductive Acc where
  | ro | rw | wo | rwc | w1c | seal | cmd
deriving DecidableEq, Repr

/-- The range column of a card (R32). `mask m` is a field with reserved bits: a bit outside m is refused (R5).
`special` is a range that depends on the index or on other objects; it is written out in Machine/Objects.lean. -/
inductive Chk where
  | any
  | range (lo hi : Nat)
  | srange (lo hi : Int)
  | oneOf (l : List Nat)
  | rangeOr (lo hi : Nat) (l : List Nat)
  | mask (m : Nat)
  | special
deriving DecidableEq, Repr

/-- One row of a card: subindexes lo to hi, type, access class, default (little-endian number of its bytes), range, and
the rank of the role that a SEAL object needs (1 Owner, 2 Workshop, 3 Authority, 4 Manufacturer). -/
structure Sub where
  lo : Nat
  hi : Nat
  ty : OTy
  acc : Acc
  dflt : Nat
  chk : Chk
  role : Nat
deriving DecidableEq, Repr

/-- A card: `count` indexes starting at `base`, `stride` apart. -/
structure Card where
  base : Nat
  stride : Nat
  count : Nat
  subs : List Sub
deriving DecidableEq, Repr

/-- A card describes an index. -/
def cardHas (i : Nat) (c : Card) : Bool :=
  c.base ≤ i && (i - c.base) % c.stride == 0 && (i - c.base) / c.stride < c.count

/-- The row of a card for a subindex. -/
def cardSub (j : Nat) (c : Card) : Option Sub := c.subs.find? fun r => r.lo ≤ j && j ≤ r.hi

/-- The highest subindex of a card (R27). -/
def cardTop (c : Card) : Nat := c.subs.foldl (fun m r => max m r.hi) 0

end Sys2Proof.Machine
end

