-- ==== Sys2Proof/Machine/CardTableA.lean ====
section
/-!
DEFINITION. CardTableA.lean: object cards of 0x1000–0x2FFF, row by row as the spec prints them.
-/
namespace Sys2Proof.Machine

/-- R41, 02_object_dictionary.md. -/
def card1000 : Card := ⟨0x1000, 0x1, 1, [
  ⟨0, 0, (.u 4), .ro, 0, .any, 0⟩]⟩  -- Device type

/-- R41, 02_object_dictionary.md. -/
def card1001 : Card := ⟨0x1001, 0x1, 1, [
  ⟨0, 0, (.u 1), .ro, 0, .any, 0⟩]⟩  -- Device state

/-- R41, 02_object_dictionary.md. -/
def card1002 : Card := ⟨0x1002, 0x1, 1, [
  ⟨0, 0, (.u 1), .ro, 3, .any, 0⟩,  -- Highest subindex
  ⟨1, 1, (.u 1), .cmd, 0, (.oneOf [2, 3, 19]), 0⟩,  -- State request
  ⟨2, 2, (.u 1), .ro, 255, .any, 0⟩,  -- Lock holder
  ⟨3, 3, (.u 2), .rw, 30, (.range 5 600), 0⟩]⟩  -- Configure idle limit

/-- R41, 02_object_dictionary.md. -/
def card1003 : Card := ⟨0x1003, 0x1, 1, [
  ⟨0, 0, (.u 1), .ro, 6, .any, 0⟩,  -- Highest subindex
  ⟨1, 1, (.u 4), .ro, 0, .any, 0⟩,  -- Last refusal code
  ⟨2, 2, (.u 2), .ro, 0, .any, 0⟩,  -- Object index
  ⟨3, 3, (.u 1), .ro, 0, .any, 0⟩,  -- Object subindex
  ⟨4, 4, (.u 4), .ro, 0, .any, 0⟩,  -- Object code
  ⟨5, 5, .time80, .ro, 0, .any, 0⟩,  -- Time
  ⟨6, 6, (.u 4), .w1c, 0, .any, 0⟩]⟩  -- Refusal count

/-- R41, 02_object_dictionary.md. -/
def card1010 : Card := ⟨0x1010, 0x1, 1, [
  ⟨0, 0, (.u 1), .ro, 3, .any, 0⟩,  -- Highest subindex
  ⟨1, 1, (.u 1), .rwc, 0, (.range 0 7), 0⟩,  -- Own device number
  ⟨2, 2, (.u 2), .rw, 50, (.range 5 1000), 0⟩,  -- Remote response limit
  ⟨3, 3, (.u 4), .w1c, 0, .any, 0⟩]⟩  -- Remote failures

/-- R41, 02_object_dictionary.md. -/
def card1018 : Card := ⟨0x1018, 0x1, 1, [
  ⟨0, 0, (.u 1), .ro, 4, .any, 0⟩,  -- Highest subindex
  ⟨1, 1, (.u 4), .ro, 3166, .any, 0⟩,  -- Vendor ID
  ⟨2, 2, (.u 4), .ro, 37920, .any, 0⟩,  -- Product code
  ⟨3, 3, (.u 4), .ro, 0xB00100, .any, 0⟩,  -- Revision number
  ⟨4, 4, (.u 4), .ro, 0, .any, 0⟩]⟩  -- Serial number

/-- R42, 02_object_dictionary.md. -/
def card1100 : Card := ⟨0x1100, 0x1, 1, [
  ⟨0, 0, (.u 2), .ro, 0, .any, 0⟩]⟩  -- First capability record

/-- R42, 02_object_dictionary.md. -/
def card1101 : Card := ⟨0x1101, 0x1, 255, [
  ⟨0, 0, (.u 1), .ro, 4, .any, 0⟩,  -- Highest subindex
  ⟨1, 1, (.u 2), .ro, 0, .any, 0⟩,  -- Capability ID
  ⟨2, 2, (.u 1), .ro, 0, .any, 0⟩,  -- Version
  ⟨3, 3, (.u 2), .ro, 0, .any, 0⟩,  -- Body index
  ⟨4, 4, (.u 2), .ro, 0, .any, 0⟩]⟩  -- Next record

/-- R48, 02_object_dictionary.md. -/
def card1200 : Card := ⟨0x1200, 0x1, 4, [
  ⟨0, 0, (.u 1), .ro, 6, .any, 0⟩,  -- Highest subindex
  ⟨1, 1, .bool, .rwc, 0, .any, 0⟩,  -- Enable
  ⟨2, 2, (.u 1), .rwc, 0, (.range 0 47), 0⟩,  -- CAN engine
  ⟨3, 3, (.u 1), .rwc, 32, (.range 1 127), 0⟩,  -- Node-ID base
  ⟨4, 4, (.u 1), .ro, 0, .any, 0⟩,  -- Effective node-ID
  ⟨5, 5, (.u 2), .rw, 1000, (.range 10 10000), 0⟩,  -- Segment timeout
  ⟨6, 6, (.u 4), .w1c, 0, .any, 0⟩]⟩  -- Replayed requests discarded

/-- R51, 02_object_dictionary.md. -/
def card1210 : Card := ⟨0x1210, 0x1, 1, [
  ⟨0, 0, (.u 1), .ro, 6, .any, 0⟩,  -- Highest subindex
  ⟨1, 1, .bool, .rwc, 1, .any, 0⟩,  -- Enable
  ⟨2, 2, (.u 2), .ro, 50112, .any, 0⟩,  -- UDP port
  ⟨3, 3, (.u 2), .rw, 10, (.range 1 3600), 0⟩,  -- Idle timeout
  ⟨4, 4, (.u 1), .rw, 4, (.range 1 32), 0⟩,  -- OPEN limit
  ⟨5, 5, (.u 1), .ro, 0, .any, 0⟩,  -- Sessions open
  ⟨6, 6, (.u 4), .w1c, 0, .any, 0⟩]⟩  -- Discarded messages

/-- R53, 02_object_dictionary.md. -/
def card1220 : Card := ⟨0x1220, 0x1, 1, [
  ⟨0, 0, (.u 1), .ro, 4, .any, 0⟩,  -- Highest subindex
  ⟨1, 4, (.u 1), .rwc, 0, (.range 0 127), 0⟩]⟩  -- Mailbox 0–3 vector

/-- R55, 02_object_dictionary.md. -/
def card1230 : Card := ⟨0x1230, 0x1, 1, [
  ⟨0, 0, (.u 1), .ro, 3, .any, 0⟩,  -- Highest subindex
  ⟨1, 1, .bool, .rwc, 1, .any, 0⟩,  -- Enable
  ⟨2, 2, (.u 4), .w1c, 0, .any, 0⟩,  -- CRC failures
  ⟨3, 3, .bool, .w1c, 0, .any, 0⟩]⟩  -- Overrun

/-- R63, 03_ethernet_ports_and_phys.md. -/
def card2000 : Card := ⟨0x2000, 0x40, 30, [
  ⟨0, 0, (.u 1), .ro, 11, .any, 0⟩,  -- Highest subindex
  ⟨1, 1, .bool, .rwc, 1, .any, 0⟩,  -- Enable
  ⟨2, 2, (.u 1), .rwc, 0, .special, 0⟩,  -- Interface mode
  ⟨3, 3, (.u 1), .rwc, 0, (.range 0 7), 0⟩,  -- Rate cap
  ⟨4, 4, (.u 1), .rwc, 0, (.range 0 1), 0⟩,  -- FEC
  ⟨5, 5, (.u 2), .rwc, 1522, .special, 0⟩,  -- Maximum frame size
  ⟨6, 6, (.u 1), .rwc, 0, (.range 0 3), 0⟩,  -- Serdes lane
  ⟨7, 7, (.u 1), .rwc, 0, (.mask 0x3), 0⟩,  -- Polarity
  ⟨8, 8, (.u 1), .rwc, 0, (.range 0 31), 0⟩,  -- PHY MDIO address
  ⟨9, 9, (.u 1), .rwc, 1, (.range 1 2), 0⟩,  -- PHY clause
  ⟨10, 10, (.u 1), .rwc, 0, .special, 0⟩,  -- Starved fallback mode
  ⟨11, 11, (.u 2), .rwc, 10, (.range 1 1000), 0⟩]⟩  -- Link poll interval

/-- R63, 03_ethernet_ports_and_phys.md. -/
def card2001 : Card := ⟨0x2001, 0x40, 32, [
  ⟨0, 0, (.u 1), .ro, 7, .any, 0⟩,  -- Highest subindex
  ⟨1, 1, .bool, .ro, 0, .any, 0⟩,  -- Link up
  ⟨2, 2, (.u 1), .ro, 0, .any, 0⟩,  -- Operating mode
  ⟨3, 3, (.u 1), .ro, 0, .any, 0⟩,  -- Operating rate
  ⟨4, 4, (.u 1), .ro, 2, .any, 0⟩,  -- Down reason
  ⟨5, 5, .bool, .ro, 0, .any, 0⟩,  -- Peck-starved
  ⟨6, 6, (.u 4), .w1c, 0, .any, 0⟩,  -- Link changes
  ⟨7, 7, (.u 4), .ro, 0, .any, 0⟩]⟩  -- PHY identifier

/-- R79, 03_ethernet_ports_and_phys.md. -/
def card2002 : Card := ⟨0x2002, 0x40, 16, [
  ⟨0, 0, (.u 1), .ro, 7, .any, 0⟩,  -- Highest subindex
  ⟨1, 1, .bool, .rwc, 1, .any, 0⟩,  -- Use identity record
  ⟨2, 2, .bool, .rwc, 0, .any, 0⟩,  -- Signature required
  ⟨3, 3, .bool, .rwc, 0, .any, 0⟩,  -- Hold on module change
  ⟨4, 4, (.u 1), .ro, 0, .any, 0⟩,  -- Record state
  ⟨5, 5, (.octet 128), .ro, 0, .any, 0⟩,  -- Record
  ⟨6, 6, (.u 1), .ro, 0, .any, 0⟩,  -- Binding result
  ⟨7, 7, (.u 4), .w1c, 0, .any, 0⟩]⟩  -- ID-bus errors

/-- R66, 03_ethernet_ports_and_phys.md. -/
def card2003 : Card := ⟨0x2003, 0x40, 16, [
  ⟨0, 0, (.u 1), .ro, 4, .any, 0⟩,  -- Highest subindex
  ⟨1, 1, (.u 1), .rw, 0, (.range 0 31), 0⟩,  -- MMD
  ⟨2, 2, (.u 2), .rw, 0, .any, 0⟩,  -- Register
  ⟨3, 3, (.u 2), .rw, 0, .any, 0⟩,  -- Data
  ⟨4, 4, (.u 1), .cmd, 0, (.oneOf [1, 2]), 0⟩]⟩  -- Command

/-- R65, 03_ethernet_ports_and_phys.md. -/
def card2007 : Card := ⟨0x2007, 0x40, 16, [
  ⟨0, 0, (.octet 240), .rwc, 0xFFFFFFFFFFFFFFFFFFFFFFFFFFFFFFFFFFFFFFFFFFFFFFFFFFFFFFFFFFFFFFFFFFFFFFFFFFFFFFFFFFFFFFFFFFFFFFFFFFFFFFFFFFFFFFFFFFFFFFFFFFFFFFFFFFFFFFFFFFFFFFFFFFFFFFFFFFFFFFFFFFFFFFFFFFFFFFFFFFFFFFFFFFFFFFFFFFFFFFFFFFFFFFFFFFFFFFFFFFFFFFFFFFFFFFFFFFFFFFFFFFFFFFFFFFFFFFFFFFFFFFFFFFFFFFFFFFFFFFFFFFFFFFFFFFFFFFFFFFFFFFFFFFFFFFFFFFFFFFFFFFFFFFFFFFFFFFFFFFFFFFFFFFFFFFFFFFFFFFFFFFFFFFFFFFFFFFFFFFFFFFFFFFFFFFFFFFFFFFFFFFFFFFFFFFFFFFFFFFFFFFFFFFFFFFFFFFFFFFFFFFFFFFFFFFFFFFFFFFFFFFFFFFFFFFFFFFFFFFFF, .any, 0⟩]⟩  -- PHY initialisation list

/-- R69, 03_ethernet_ports_and_phys.md. -/
def card2404 : Card := ⟨0x2404, 0x40, 6, [
  ⟨0, 0, (.u 1), .ro, 4, .any, 0⟩,  -- Highest subindex
  ⟨1, 1, (.u 1), .rwc, 1, (.range 0 1), 0⟩,  -- Role
  ⟨2, 2, (.u 1), .ro, 0, .any, 0⟩,  -- Signal quality
  ⟨3, 3, .bool, .ro, 0, .any, 0⟩,  -- Polarity corrected
  ⟨4, 4, (.u 4), .w1c, 0, .any, 0⟩]⟩  -- Training failures

/-- R72, 03_ethernet_ports_and_phys.md. -/
def card2406 : Card := ⟨0x2406, 0x40, 14, [
  ⟨0, 0, (.u 1), .ro, 5, .any, 0⟩,  -- Highest subindex
  ⟨1, 1, .bool, .rwc, 0, .any, 0⟩,  -- Sleep enable
  ⟨2, 2, .bool, .rwc, 1, .any, 0⟩,  -- Wake detect in sleep
  ⟨3, 3, .bool, .rwc, 1, .any, 0⟩,  -- Send wake-up on local wake
  ⟨4, 4, (.u 1), .ro, 0, .any, 0⟩,  -- TC10 state
  ⟨5, 5, (.u 4), .w1c, 0, .any, 0⟩]⟩  -- Remote wakes

/-- R71, 03_ethernet_ports_and_phys.md. -/
def card2585 : Card := ⟨0x2585, 0x40, 8, [
  ⟨0, 0, (.u 1), .ro, 8, .any, 0⟩,  -- Highest subindex
  ⟨1, 1, .bool, .rwc, 1, .any, 0⟩,  -- Enable
  ⟨2, 2, (.u 1), .rwc, 0, (.range 0 31), 0⟩,  -- Node ID
  ⟨3, 3, (.u 1), .rwc, 8, (.range 1 32), 0⟩,  -- Node count
  ⟨4, 4, (.u 1), .rwc, 32, (.range 1 255), 0⟩,  -- Transmit opportunity timer
  ⟨5, 5, (.u 1), .rwc, 0, .any, 0⟩,  -- Burst count
  ⟨6, 6, (.u 1), .rwc, 128, .any, 0⟩,  -- Burst timer
  ⟨7, 7, .bool, .ro, 0, .any, 0⟩,  -- PLCA active
  ⟨8, 8, (.u 4), .w1c, 0, .any, 0⟩]⟩  -- Foreign BEACONs

/-- R236, 10_bus_engines.md. -/
def card2800 : Card := ⟨0x2800, 0x20, 48, [
  ⟨0, 0, (.u 1), .ro, 13, .any, 0⟩,  -- Highest subindex
  ⟨1, 1, .bool, .rwc, 1, .any, 0⟩,  -- Enable
  ⟨2, 2, (.u 1), .rwc, 1, (.range 0 2), 0⟩,  -- Mode
  ⟨3, 3, .bool, .rwc, 0, .any, 0⟩,  -- Listen-only
  ⟨4, 4, .bool, .rwc, 1, .any, 0⟩,  -- Automatic retransmission
  ⟨5, 5, .bool, .rwc, 1, .any, 0⟩,  -- Protocol exception handling
  ⟨6, 6, (.u 1), .rwc, 1, (.range 0 2), 0⟩,  -- Bus-off recovery
  ⟨7, 7, (.u 1), .rwc, 5, .any, 0⟩,  -- Quick recoveries
  ⟨8, 8, (.u 2), .rwc, 10, .any, 0⟩,  -- Quick hold-off
  ⟨9, 9, (.u 2), .rwc, 1000, .any, 0⟩,  -- Slow hold-off
  ⟨10, 10, .bool, .rwc, 1, .any, 0⟩,  -- Catch enable
  ⟨11, 11, .bool, .rwc, 0, .any, 0⟩,  -- XL transceiver mode switching
  ⟨12, 12, .bool, .rwc, 1, .any, 0⟩,  -- XL error signalling
  ⟨13, 13, (.u 1), .cmd, 0, (.oneOf [1, 3]), 0⟩]⟩  -- Command

/-- R236, 10_bus_engines.md. -/
def card2801 : Card := ⟨0x2801, 0x20, 48, [
  ⟨0, 0, (.u 1), .ro, 13, .any, 0⟩,  -- Highest subindex
  ⟨1, 1, (.u 1), .rwc, 2, (.range 1 32), 0⟩,  -- Nominal BRP
  ⟨2, 2, (.u 2), .rwc, 127, (.range 2 256), 0⟩,  -- Nominal TSEG1
  ⟨3, 3, (.u 1), .rwc, 32, (.range 1 128), 0⟩,  -- Nominal TSEG2
  ⟨4, 4, (.u 1), .rwc, 32, (.range 1 128), 0⟩,  -- Nominal SJW
  ⟨5, 5, (.u 1), .rwc, 2, (.range 1 8), 0⟩,  -- Data BRP
  ⟨6, 6, (.u 1), .rwc, 29, (.range 1 64), 0⟩,  -- Data TSEG1
  ⟨7, 7, (.u 1), .rwc, 10, (.range 1 32), 0⟩,  -- Data TSEG2
  ⟨8, 8, (.u 1), .rwc, 10, (.range 1 32), 0⟩,  -- Data SJW
  ⟨9, 9, .bool, .rwc, 1, .any, 0⟩,  -- TDC enable
  ⟨10, 10, (.u 2), .rwc, 0, (.range 0 255), 0⟩,  -- TDC offset
  ⟨11, 11, (.u 1), .rwc, 4, (.range 1 63), 0⟩,  -- PWM short phase
  ⟨12, 12, (.u 1), .rwc, 12, (.range 1 63), 0⟩,  -- PWM long phase
  ⟨13, 13, (.u 1), .rwc, 0, (.range 0 63), 0⟩]⟩  -- PWM offset

/-- R236, 10_bus_engines.md. -/
def card2802 : Card := ⟨0x2802, 0x20, 48, [
  ⟨0, 0, (.u 1), .ro, 15, .any, 0⟩,  -- Highest subindex
  ⟨1, 1, (.u 1), .ro, 0, .any, 0⟩,  -- Engine state
  ⟨2, 2, (.u 1), .ro, 0, .any, 0⟩,  -- Transmit error counter
  ⟨3, 3, (.u 1), .ro, 0, .any, 0⟩,  -- Receive error counter
  ⟨4, 4, (.u 1), .ro, 0, .any, 0⟩,  -- Last error
  ⟨5, 5, (.u 1), .ro, 0, .any, 0⟩,  -- Measured TDC delay
  ⟨6, 6, (.u 4), .w1c, 0, .any, 0⟩,  -- Frames received
  ⟨7, 7, (.u 4), .w1c, 0, .any, 0⟩,  -- Frames transmitted
  ⟨8, 8, (.u 4), .w1c, 0, .any, 0⟩,  -- Errors detected
  ⟨9, 9, (.u 4), .w1c, 0, .any, 0⟩,  -- Bus-off events
  ⟨10, 10, (.u 4), .w1c, 0, .any, 0⟩,  -- Arbitration losses
  ⟨11, 11, (.u 4), .w1c, 0, .any, 0⟩,  -- Protocol exceptions
  ⟨12, 12, (.u 4), .w1c, 0, .any, 0⟩,  -- Receive overruns
  ⟨13, 13, .bool, .w1c, 0, .any, 0⟩,  -- Catch overflow
  ⟨14, 14, (.u 1), .ro, 0, .any, 0⟩,  -- Catch frames held
  ⟨15, 15, (.u 4), .w1c, 0, .any, 0⟩]⟩  -- TDC saturations

/-- R236, 10_bus_engines.md. -/
def card2803 : Card := ⟨0x2803, 0x20, 48, [
  ⟨0, 0, (.u 1), .ro, 4, .any, 0⟩,  -- Highest subindex
  ⟨1, 1, (.u 1), .rwc, 0, (.range 0 2), 0⟩,  -- Standby control
  ⟨2, 2, (.u 2), .rwc, 50, (.range 1 1000), 0⟩,  -- Mode-change time
  ⟨3, 3, (.u 1), .ro, 0, .any, 0⟩,  -- Transceiver state
  ⟨4, 4, (.u 4), .w1c, 0, .any, 0⟩]⟩  -- Wake edges seen

/-- R236, 10_bus_engines.md. -/
def card2E00 : Card := ⟨0x2E00, 0x20, 16, [
  ⟨0, 0, (.u 1), .ro, 11, .any, 0⟩,  -- Highest subindex
  ⟨1, 1, .bool, .rwc, 1, .any, 0⟩,  -- Enable
  ⟨2, 2, (.u 1), .rwc, 0, (.range 0 1), 0⟩,  -- Role
  ⟨3, 3, (.u 2), .rwc, 19200, (.range 1000 20000), 0⟩,  -- Bit rate
  ⟨4, 4, (.u 1), .rwc, 13, (.range 13 26), 0⟩,  -- Break length
  ⟨5, 5, (.u 1), .rwc, 1, (.range 1 4), 0⟩,  -- Break delimiter
  ⟨6, 6, .bool, .rwc, 0, .any, 0⟩,  -- Automatic bit rate
  ⟨7, 7, (.u 1), .ro, 40, .any, 0⟩,  -- Response tolerance
  ⟨8, 8, (.u 1), .rwc, 5, (.range 1 50), 0⟩,  -- Time base
  ⟨9, 9, .bool, .rwc, 1, .any, 0⟩,  -- Catch enable
  ⟨10, 10, (.u 2), .rwc, 1000, (.range 250 5000), 0⟩,  -- Wake-up pulse
  ⟨11, 11, (.u 1), .cmd, 0, (.oneOf [1, 2, 3]), 0⟩]⟩  -- Command

/-- R236, 10_bus_engines.md. -/
def card2E01 : Card := ⟨0x2E01, 0x20, 16, [
  ⟨0, 0, (.u 1), .ro, 6, .any, 0⟩,  -- Highest subindex
  ⟨1, 1, (.u 1), .rw, 255, (.rangeOr 0 7 [255]), 0⟩,  -- Requested table
  ⟨2, 2, (.u 1), .rw, 0, (.range 0 63), 0⟩,  -- Start entry
  ⟨3, 3, (.u 1), .ro, 255, .any, 0⟩,  -- Current table
  ⟨4, 4, (.u 1), .ro, 0, .any, 0⟩,  -- Current entry
  ⟨5, 5, (.octet 8), .rwc, 0, .special, 0⟩,  -- Entry counts
  ⟨6, 6, (.octet 2048), .rwc, 0, .special, 0⟩]⟩  -- Entries

/-- R236, 10_bus_engines.md. -/
def card2E02 : Card := ⟨0x2E02, 0x20, 16, [
  ⟨0, 0, (.octet 192), .rwc, 0, .special, 0⟩]⟩  -- Frame table

/-- R236, 10_bus_engines.md. -/
def card2E03 : Card := ⟨0x2E03, 0x20, 16, [
  ⟨0, 0, (.u 1), .ro, 14, .any, 0⟩,  -- Highest subindex
  ⟨1, 1, (.u 1), .ro, 0, .any, 0⟩,  -- Engine state
  ⟨2, 2, (.u 1), .ro, 0, .any, 0⟩,  -- Last error
  ⟨3, 3, (.u 4), .w1c, 0, .any, 0⟩,  -- Headers sent
  ⟨4, 4, (.u 4), .w1c, 0, .any, 0⟩,  -- Responses sent
  ⟨5, 5, (.u 4), .w1c, 0, .any, 0⟩,  -- Responses received
  ⟨6, 6, (.u 4), .w1c, 0, .any, 0⟩,  -- No response
  ⟨7, 7, (.u 4), .w1c, 0, .any, 0⟩,  -- Checksum errors
  ⟨8, 8, (.u 4), .w1c, 0, .any, 0⟩,  -- Bit errors
  ⟨9, 9, (.u 4), .w1c, 0, .any, 0⟩,  -- Framing and sync errors
  ⟨10, 10, (.u 4), .w1c, 0, .any, 0⟩,  -- Collisions
  ⟨11, 11, (.u 4), .w1c, 0, .any, 0⟩,  -- Go-to-sleep received
  ⟨12, 12, .bool, .w1c, 0, .any, 0⟩,  -- Catch overflow
  ⟨13, 13, (.u 1), .ro, 0, .any, 0⟩,  -- Catch frames held
  ⟨14, 14, (.u 2), .ro, 0, .any, 0⟩]⟩  -- Measured bit rate

/-- The cards of this file. -/
def cardsA : List Card :=
  [card1000, card1001, card1002, card1003, card1010, card1018, card1100, card1101, card1200, card1210, card1220, card1230, card2000, card2001, card2002, card2003, card2007, card2404, card2406, card2585, card2800, card2801, card2802, card2803, card2E00, card2E01, card2E02, card2E03]

end Sys2Proof.Machine
end

