-- ==== Sys2Proof/Machine/CardTableB.lean ====
section
/-!
DEFINITION. CardTableB.lean: object cards of 0x3000–0x37FF, row by row as the spec prints them.
-/
namespace Sys2Proof.Machine

/-- R89, 04_frame_pipeline.md. -/
def card3000 : Card := ⟨0x3000, 0x1, 1, [
  ⟨0, 0, (.u 1), .ro, 4, .any, 0⟩,  -- Highest subindex
  ⟨1, 1, .bool, .rwc, 1, .any, 0⟩,  -- Learning
  ⟨2, 2, (.u 4), .rwc, 300, (.rangeOr 10 86400 [0]), 0⟩,  -- Ageing time
  ⟨3, 3, (.u 4), .rwc, 0, .any, 0⟩,  -- Hash seed
  ⟨4, 4, .bool, .rwc, 1, .any, 0⟩]⟩  -- Flood unknown multicast

/-- R89, 04_frame_pipeline.md. -/
def card3001 : Card := ⟨0x3001, 0x1, 1, [
  ⟨0, 0, (.u 1), .ro, 10, .any, 0⟩,  -- Highest subindex
  ⟨1, 1, (.u 2), .ro, 0, .any, 0⟩,  -- Dynamic entries
  ⟨2, 2, (.u 2), .ro, 0, .any, 0⟩,  -- Static entries
  ⟨3, 3, (.u 4), .w1c, 0, .any, 0⟩,  -- Bucket-full refusals
  ⟨4, 4, (.u 4), .w1c, 0, .any, 0⟩,  -- Learn-limit refusals
  ⟨5, 5, (.u 4), .w1c, 0, .any, 0⟩,  -- Station moves
  ⟨6, 6, (.u 4), .w1c, 0, .any, 0⟩,  -- Move refusals
  ⟨7, 7, (.u 4), .w1c, 0, .any, 0⟩,  -- Entries aged out
  ⟨8, 8, (.u 1), .cmd, 0, (.oneOf [1, 2, 3]), 0⟩,  -- Flush
  ⟨9, 9, (.u 1), .rw, 0, (.range 0 32), 0⟩,  -- Flush port
  ⟨10, 10, (.u 2), .rw, 0, (.range 0 4095), 0⟩]⟩  -- Flush FID

/-- R89, 04_frame_pipeline.md. -/
def card3002 : Card := ⟨0x3002, 0x1, 1, [
  ⟨0, 0, (.u 1), .ro, 6, .any, 0⟩,  -- Highest subindex
  ⟨1, 1, (.octet 6), .rw, 0, .any, 0⟩,  -- MAC address
  ⟨2, 2, (.u 2), .rw, 0, (.range 0 4095), 0⟩,  -- FID
  ⟨3, 3, (.u 8), .rw, 0, (.mask 0x1FFFFFFFF), 0⟩,  -- Port mask
  ⟨4, 4, (.u 1), .rw, 0, (.mask 0x3), 0⟩,  -- Flags
  ⟨5, 5, (.u 1), .ro, 0, .any, 0⟩,  -- Age
  ⟨6, 6, (.u 1), .cmd, 0, (.oneOf [1, 2, 3]), 0⟩]⟩  -- Command

/-- R90, 04_frame_pipeline.md. -/
def card3004 : Card := ⟨0x3004, 0x1, 1, [
  ⟨0, 0, (.u 1), .ro, 7, .any, 0⟩,  -- Highest subindex
  ⟨1, 1, (.u 2), .rw, 1, (.range 1 4094), 0⟩,  -- VID
  ⟨2, 2, .bool, .rw, 0, .any, 0⟩,  -- Valid
  ⟨3, 3, (.u 8), .rw, 0, (.mask 0x1FFFFFFFF), 0⟩,  -- Member mask
  ⟨4, 4, (.u 8), .rw, 0, (.mask 0x1FFFFFFFF), 0⟩,  -- Untagged mask
  ⟨5, 5, (.u 2), .rw, 0, (.range 0 4095), 0⟩,  -- FID
  ⟨6, 6, .bool, .rw, 1, .any, 0⟩,  -- Learning
  ⟨7, 7, (.u 1), .cmd, 0, (.oneOf [1, 2]), 0⟩]⟩  -- Command

/-- R98, 04_frame_pipeline.md. -/
def card3040 : Card := ⟨0x3040, 0x1, 1, [
  ⟨0, 0, (.octet 256), .rwc, 0, .special, 0⟩]⟩  -- Mode table

/-- R101, 04_frame_pipeline.md. -/
def card3050 : Card := ⟨0x3050, 0x1, 4, [
  ⟨0, 0, (.u 1), .ro, 7, .any, 0⟩,  -- Highest subindex
  ⟨1, 1, .bool, .rwc, 0, .any, 0⟩,  -- Enable
  ⟨2, 2, (.u 1), .rwc, 30, (.range 0 31), 0⟩,  -- Destination port
  ⟨3, 3, (.u 8), .rwc, 0, (.mask 0x1FFFFFFFF), 0⟩,  -- Ingress sources
  ⟨4, 4, (.u 8), .rwc, 0, (.mask 0x1FFFFFFFF), 0⟩,  -- Egress sources
  ⟨5, 5, (.u 1), .rwc, 0, (.range 0 7), 0⟩,  -- Queue
  ⟨6, 6, (.u 2), .rwc, 0, (.rangeOr 64 9216 [0]), 0⟩,  -- Truncation length
  ⟨7, 7, (.u 4), .w1c, 0, .any, 0⟩]⟩  -- Copies refused

/-- R101, 04_frame_pipeline.md. -/
def card3060 : Card := ⟨0x3060, 0x1, 1, [
  ⟨0, 0, (.u 1), .ro, 10, .any, 0⟩,  -- Highest subindex
  ⟨1, 1, (.u 4), .w1c, 0, .any, 0⟩,  -- Unknown VID
  ⟨2, 2, (.u 4), .w1c, 0, .any, 0⟩,  -- Ingress filter
  ⟨3, 3, (.u 4), .w1c, 0, .any, 0⟩,  -- Frame type refused
  ⟨4, 4, (.u 4), .w1c, 0, .any, 0⟩,  -- No permitted egress
  ⟨5, 5, (.u 4), .w1c, 0, .any, 0⟩,  -- Stomped, received FCS
  ⟨6, 6, (.u 4), .w1c, 0, .any, 0⟩,  -- Stomped, ell CRC
  ⟨7, 7, (.u 4), .w1c, 0, .any, 0⟩,  -- Stomped, drop verdict
  ⟨8, 8, (.u 4), .w1c, 0, .any, 0⟩,  -- Stomped, verdict late
  ⟨9, 9, (.u 4), .w1c, 0, .any, 0⟩,  -- Stomped, rewrite parity
  ⟨10, 10, (.u 4), .w1c, 0, .any, 0⟩]⟩  -- Stomped, ingress truncated

/-- R83, 04_frame_pipeline.md. -/
def card3100 : Card := ⟨0x3100, 0x1, 33, [
  ⟨0, 0, (.u 1), .ro, 11, .any, 0⟩,  -- Highest subindex
  ⟨1, 1, (.u 2), .rwc, 1, (.range 1 4094), 0⟩,  -- PVID
  ⟨2, 2, (.u 1), .rwc, 0, (.range 0 2), 0⟩,  -- Acceptable frame types
  ⟨3, 3, .bool, .rwc, 1, .any, 0⟩,  -- Ingress filtering
  ⟨4, 4, (.u 1), .rwc, 0, (.range 0 2), 0⟩,  -- Outer TPID
  ⟨5, 5, (.u 1), .rwc, 0, (.range 0 7), 0⟩,  -- Default priority
  ⟨6, 6, .bool, .rwc, 1, .any, 0⟩,  -- Learning
  ⟨7, 7, (.u 2), .rwc, 0, (.range 0 32768), 0⟩,  -- Learn limit
  ⟨8, 8, .bool, .rwc, 0, .any, 0⟩,  -- Move lock
  ⟨9, 9, .bool, .rwc, 0, .any, 0⟩,  -- Cut-through enable
  ⟨10, 10, .bool, .rwc, 1, .any, 0⟩,  -- Unknown-unicast flood
  ⟨11, 11, .bool, .rwc, 0, .any, 0⟩]⟩  -- Static source enforcement

/-- R92, 04_frame_pipeline.md. -/
def card3200 : Card := ⟨0x3200, 0x1, 1, [
  ⟨0, 0, (.u 1), .ro, 14, .any, 0⟩,  -- Highest subindex
  ⟨1, 1, (.u 2), .rw, 0, (.range 0 4095), 0⟩,  -- Entry
  ⟨2, 2, (.u 1), .rw, 0, (.range 0 4), 0⟩,  -- Function
  ⟨3, 3, (.u 8), .rw, 0, (.mask 0x1FFFFFFFF), 0⟩,  -- Ingress port mask
  ⟨4, 4, (.octet 6), .rw, 0, .any, 0⟩,  -- MAC address
  ⟨5, 5, (.u 2), .rw, 0, (.range 0 4094), 0⟩,  -- VID
  ⟨6, 6, (.octet 40), .rw, 0, .any, 0⟩,  -- IP match
  ⟨7, 7, (.octet 8), .rw, 0, .any, 0⟩,  -- Active rewrite
  ⟨8, 8, (.u 2), .rw, 0, (.range 0 4095), 0⟩,  -- Stream handle
  ⟨9, 9, (.u 1), .rw, 0, (.mask 0x7), 0⟩,  -- FRER mode
  ⟨10, 10, (.u 1), .rw, 32, (.range 1 64), 0⟩,  -- History length
  ⟨11, 11, (.u 2), .rw, 100, (.range 1 10000), 0⟩,  -- Reset timeout
  ⟨12, 12, (.u 4), .ro, 0, .any, 0⟩,  -- Duplicates discarded
  ⟨13, 13, (.u 4), .ro, 0, .any, 0⟩,  -- Out-of-window accepted
  ⟨14, 14, (.u 1), .cmd, 0, (.oneOf [1, 2, 3]), 0⟩]⟩  -- Command

/-- R140, 06_queues_shapers_policers.md. -/
def card3210 : Card := ⟨0x3210, 0x1, 1, [
  ⟨0, 0, (.u 1), .ro, 14, .any, 0⟩,  -- Highest subindex
  ⟨1, 1, (.u 2), .rw, 0, (.range 0 4095), 0⟩,  -- Filter
  ⟨2, 2, .bool, .rw, 0, .any, 0⟩,  -- Enable
  ⟨3, 3, (.u 1), .rw, 255, (.rangeOr 0 7 [255]), 0⟩,  -- Priority
  ⟨4, 4, (.u 2), .rw, 65535, (.rangeOr 0 255 [65535]), 0⟩,  -- Stream gate
  ⟨5, 5, (.u 2), .rw, 65535, (.rangeOr 0 2047 [65535]), 0⟩,  -- Meter
  ⟨6, 6, (.u 2), .rw, 0, (.rangeOr 64 9216 [0]), 0⟩,  -- Maximum SDU
  ⟨7, 7, (.u 1), .rw, 0, (.mask 0x1), 0⟩,  -- Flags
  ⟨8, 8, .bool, .ro, 0, .any, 0⟩,  -- Blocked
  ⟨9, 9, (.u 4), .ro, 0, .any, 0⟩,  -- Frames matched
  ⟨10, 10, (.u 4), .ro, 0, .any, 0⟩,  -- Frames passed
  ⟨11, 11, (.u 4), .ro, 0, .any, 0⟩,  -- Dropped, gate closed
  ⟨12, 12, (.u 4), .ro, 0, .any, 0⟩,  -- Dropped, oversize or blocked
  ⟨13, 13, (.u 4), .ro, 0, .any, 0⟩,  -- Dropped, red
  ⟨14, 14, (.u 1), .cmd, 0, (.oneOf [1, 2, 3]), 0⟩]⟩  -- Command

/-- R140, 06_queues_shapers_policers.md. -/
def card3220 : Card := ⟨0x3220, 0x1, 1, [
  ⟨0, 0, (.u 1), .ro, 10, .any, 0⟩,  -- Highest subindex
  ⟨1, 1, (.u 1), .rw, 0, .any, 0⟩,  -- Gate
  ⟨2, 2, .bool, .rw, 0, .any, 0⟩,  -- Enable
  ⟨3, 3, .bool, .rw, 0, .any, 0⟩,  -- Close on invalid receive
  ⟨4, 4, (.u 4), .rw, 0x1E848, (.range 125 125000000), 0⟩,  -- Cycle time
  ⟨5, 5, .time80, .rw, 0, .any, 0⟩,  -- Base time
  ⟨6, 6, (.u 1), .rw, 1, (.range 1 64), 0⟩,  -- Entry count
  ⟨7, 7, (.octet 512), .rw, 0, .any, 0⟩,  -- Entries
  ⟨8, 8, .bool, .ro, 0, .any, 0⟩,  -- Latched closed
  ⟨9, 9, .time80, .ro, 0, .any, 0⟩,  -- Operational base time
  ⟨10, 10, (.u 1), .cmd, 0, (.oneOf [1, 2, 3]), 0⟩]⟩  -- Command

/-- R146, 06_queues_shapers_policers.md. -/
def card3230 : Card := ⟨0x3230, 0x1, 1, [
  ⟨0, 0, (.u 1), .ro, 13, .any, 0⟩,  -- Highest subindex
  ⟨1, 1, (.u 2), .rw, 0, (.range 0 2047), 0⟩,  -- Meter
  ⟨2, 2, (.u 4), .rw, 0, (.range 0 50000000), 0⟩,  -- CIR
  ⟨3, 3, (.u 4), .rw, 0, (.range 0 16777215), 0⟩,  -- Committed bucket size Cb
  ⟨4, 4, (.u 4), .rw, 0, (.range 0 50000000), 0⟩,  -- EIR
  ⟨5, 5, (.u 4), .rw, 0, (.range 0 16777215), 0⟩,  -- Excess bucket size Eb
  ⟨6, 6, (.u 1), .rw, 0, (.mask 0x1F), 0⟩,  -- Mode
  ⟨7, 7, (.u 4), .ro, 0, .any, 0⟩,  -- Committed tokens
  ⟨8, 8, (.u 4), .ro, 0, .any, 0⟩,  -- Excess tokens
  ⟨9, 9, .bool, .ro, 0, .any, 0⟩,  -- Red latched
  ⟨10, 10, (.u 4), .ro, 0, .any, 0⟩,  -- Green frames
  ⟨11, 11, (.u 4), .ro, 0, .any, 0⟩,  -- Yellow frames
  ⟨12, 12, (.u 4), .ro, 0, .any, 0⟩,  -- Red frames
  ⟨13, 13, (.u 1), .cmd, 0, (.oneOf [1, 2, 3]), 0⟩]⟩  -- Command

/-- R106, 05_buffer_and_admission.md. -/
def card3400 : Card := ⟨0x3400, 0x1, 1, [
  ⟨0, 0, (.u 1), .ro, 10, .any, 0⟩,  -- Highest subindex
  ⟨1, 1, (.u 4), .ro, 0x20000, .any, 0⟩,  -- Total ells
  ⟨2, 2, (.u 4), .ro, 0, .any, 0⟩,  -- Free ells
  ⟨3, 3, (.u 4), .w1c, 0x20000, .any, 0⟩,  -- Free ells low-water
  ⟨4, 4, (.u 4), .ro, 0, .any, 0⟩,  -- Catch-held ells
  ⟨5, 5, (.u 4), .ro, 0, .any, 0⟩,  -- Retired ells
  ⟨6, 6, (.u 2), .rw, 256, (.range 1 4096), 0⟩,  -- Retire limit
  ⟨7, 7, (.u 4), .w1c, 0, .any, 0⟩,  -- ECC corrected
  ⟨8, 8, (.u 4), .w1c, 0, .any, 0⟩,  -- ECC uncorrectable
  ⟨9, 9, (.u 4), .w1c, 0, .any, 0⟩,  -- Orphans reclaimed
  ⟨10, 10, (.u 4), .ro, 0x40000, .any, 0⟩]⟩  -- Copy entries free

/-- R124, 05_buffer_and_admission.md. -/
def card3408 : Card := ⟨0x3408, 0x1, 8, [
  ⟨0, 0, (.u 1), .ro, 10, .any, 0⟩,  -- Highest subindex
  ⟨1, 1, (.u 4), .rwc, 16384, (.rangeOr 72 131072 [0]), 0⟩,  -- Size S_b
  ⟨2, 2, (.u 4), .rwc, 512, .special, 0⟩,  -- Arrival headroom H_b
  ⟨3, 3, (.u 4), .ro, 0, .any, 0⟩,  -- Reservation total
  ⟨4, 4, (.u 4), .ro, 0, .any, 0⟩,  -- Used
  ⟨5, 5, (.u 4), .ro, 0, .any, 0⟩,  -- Headroom in use
  ⟨6, 6, (.u 4), .ro, 0, .any, 0⟩,  -- Shared free
  ⟨7, 7, (.u 4), .w1c, 0, .any, 0⟩,  -- Used high-water
  ⟨8, 8, (.u 4), .w1c, 0, .any, 0⟩,  -- Admission refusals
  ⟨9, 9, (.u 4), .w1c, 0, .any, 0⟩,  -- Headroom refusals
  ⟨10, 10, (.u 4), .w1c, 0, .any, 0⟩]⟩  -- Physical-shortage refusals

/-- R124, 05_buffer_and_admission.md. -/
def card3440 : Card := ⟨0x3440, 0x1, 33, [
  ⟨0, 0, (.u 1), .ro, 21, .any, 0⟩,  -- Highest subindex
  ⟨1, 8, (.u 4), .rwc, 0, .special, 0⟩,  -- Admission word, queues 0–7
  ⟨9, 9, (.u 4), .rwc, 0xFAC688, (.mask 0xFFFFFF), 0⟩,  -- Bushel map
  ⟨10, 10, (.u 4), .w1c, 0, .any, 0⟩,  -- Deep intake drops
  ⟨11, 11, (.u 4), .w1c, 0, .any, 0⟩,  -- Arrival drops
  ⟨12, 19, (.u 4), .w1c, 0, .any, 0⟩,  -- Admission refusals, queues 0–7
  ⟨20, 20, (.u 4), .w1c, 0, .any, 0⟩,  -- Host-ring drops
  ⟨21, 21, (.u 1), .w1c, 0, .any, 0⟩]⟩  -- Sustained overload

/-- R131, 06_queues_shapers_policers.md. -/
def card3480 : Card := ⟨0x3480, 0x1, 33, [
  ⟨0, 0, (.u 1), .ro, 11, .any, 0⟩,  -- Highest subindex
  ⟨1, 1, (.u 4), .rwc, 0xFAC688, (.mask 0xFFFFFF), 0⟩,  -- Priority map
  ⟨2, 2, (.u 1), .rwc, 3, (.range 1 4), 0⟩,  -- Strict group size k
  ⟨3, 10, (.u 2), .rwc, 1, (.range 1 1023), 0⟩,  -- Weight, queues 0–7
  ⟨11, 11, (.u 1), .ro, 0, .any, 0⟩]⟩  -- Scheduler status

/-- R135, 06_queues_shapers_policers.md. -/
def card34C0 : Card := ⟨0x34C0, 0x1, 30, [
  ⟨0, 0, (.u 1), .ro, 25, .any, 0⟩,  -- Highest subindex
  ⟨1, 1, (.u 1), .rwc, 0, .any, 0⟩,  -- Enable
  ⟨2, 9, (.u 4), .rwc, 0, (.range 0 25000000), 0⟩,  -- Idle slope, queues 0–7
  ⟨10, 17, (.u 4), .rwc, 98304, (.range 0 16777215), 0⟩,  -- Credit ceiling, queues 0–7
  ⟨18, 25, (.i 4), .ro, 0, .any, 0⟩]⟩  -- Credit, queues 0–7

/-- R164, 07_time_gates_and_preemption.md. -/
def card3500 : Card := ⟨0x3500, 0x1, 22, [
  ⟨0, 0, (.u 1), .ro, 18, .any, 0⟩,  -- Highest subindex
  ⟨1, 1, .bool, .rwc, 0, .any, 0⟩,  -- Enable
  ⟨2, 2, (.u 1), .rwc, 255, .any, 0⟩,  -- Initial gate states
  ⟨3, 3, .time80, .rwc, 0, .any, 0⟩,  -- Administrative base time
  ⟨4, 4, (.u 4), .rwc, 0x1E848, (.range 125 125000000), 0⟩,  -- Administrative cycle time
  ⟨5, 5, (.u 4), .rwc, 0, .special, 0⟩,  -- Cycle time extension
  ⟨6, 6, (.u 2), .rwc, 1, (.range 1 1024), 0⟩,  -- Administrative entry count
  ⟨7, 7, (.u 2), .rwc, 0, (.range 0 1250), 0⟩,  -- Hold advance
  ⟨8, 8, (.u 2), .rwc, 0, (.range 0 1250), 0⟩,  -- Release advance
  ⟨9, 9, .bool, .ro, 0, .any, 0⟩,  -- Change pending
  ⟨10, 10, .time80, .ro, 0, .any, 0⟩,  -- Change time
  ⟨11, 11, .time80, .ro, 0, .any, 0⟩,  -- Operational base time
  ⟨12, 12, (.u 4), .ro, 0, .any, 0⟩,  -- Operational cycle time
  ⟨13, 13, (.u 2), .ro, 0, .any, 0⟩,  -- Operational entry count
  ⟨14, 14, (.u 2), .ro, 0, .any, 0⟩,  -- Current entry
  ⟨15, 15, (.u 4), .w1c, 0, .any, 0⟩,  -- Switch-overs
  ⟨16, 16, (.u 4), .w1c, 0, .any, 0⟩,  -- Window-oversize drops
  ⟨17, 17, (.u 4), .w1c, 0, .any, 0⟩,  -- Transmission overruns
  ⟨18, 18, (.u 4), .w1c, 0, .any, 0⟩]⟩  -- Time-step realignments

/-- R164, 07_time_gates_and_preemption.md. -/
def card3540 : Card := ⟨0x3540, 0x1, 1, [
  ⟨0, 0, (.u 1), .ro, 7, .any, 0⟩,  -- Highest subindex
  ⟨1, 1, (.u 1), .rw, 0, (.range 0 21), 0⟩,  -- Port
  ⟨2, 2, (.u 1), .rw, 0, (.range 0 1), 0⟩,  -- List
  ⟨3, 3, (.u 2), .rw, 0, (.range 0 1023), 0⟩,  -- Entry
  ⟨4, 4, (.u 1), .rw, 255, .any, 0⟩,  -- Gate states
  ⟨5, 5, (.u 1), .rw, 0, (.range 0 2), 0⟩,  -- Operation
  ⟨6, 6, (.u 4), .rw, 0x1E848, (.range 1 125000000), 0⟩,  -- Interval
  ⟨7, 7, (.u 1), .cmd, 0, (.oneOf [1, 2]), 0⟩]⟩  -- Command

/-- R164, 07_time_gates_and_preemption.md. -/
def card3580 : Card := ⟨0x3580, 0x1, 16, [
  ⟨0, 0, (.u 1), .ro, 15, .any, 0⟩,  -- Highest subindex
  ⟨1, 1, .bool, .rwc, 0, .any, 0⟩,  -- Enable
  ⟨2, 2, (.u 1), .rwc, 0, .any, 0⟩,  -- Preemptable queues
  ⟨3, 3, (.u 1), .rwc, 0, (.range 0 3), 0⟩,  -- Additional fragment size
  ⟨4, 4, .bool, .rwc, 1, .any, 0⟩,  -- Verify enable
  ⟨5, 5, (.u 1), .rwc, 10, (.range 1 128), 0⟩,  -- Verify time
  ⟨6, 6, (.u 1), .ro, 0, .any, 0⟩,  -- Verify status
  ⟨7, 7, .bool, .ro, 0, .any, 0⟩,  -- Preemption active
  ⟨8, 8, .bool, .ro, 0, .any, 0⟩,  -- Hold in force
  ⟨9, 9, (.u 4), .w1c, 0, .any, 0⟩,  -- Fragments transmitted
  ⟨10, 10, (.u 4), .w1c, 0, .any, 0⟩,  -- Frames preempted
  ⟨11, 11, (.u 4), .w1c, 0, .any, 0⟩,  -- Fragments received
  ⟨12, 12, (.u 4), .w1c, 0, .any, 0⟩,  -- Reassemblies completed
  ⟨13, 13, (.u 4), .w1c, 0, .any, 0⟩,  -- Reassembly errors
  ⟨14, 14, (.u 4), .w1c, 0, .any, 0⟩,  -- SMD errors
  ⟨15, 15, (.u 4), .w1c, 0, .any, 0⟩]⟩  -- Hold requests

/-- The cards of this file. -/
def cardsB : List Card :=
  [card3000, card3001, card3002, card3004, card3040, card3050, card3060, card3100, card3200, card3210, card3220, card3230, card3400, card3408, card3440, card3480, card34C0, card3500, card3540, card3580]

end Sys2Proof.Machine
end

