-- ==== Sys2Proof/Machine/CardTableC.lean ====
section
/-!
DEFINITION. CardTableC.lean: object cards of 0x3800–0x4FFF, row by row as the spec prints them.
-/
namespace Sys2Proof.Machine

/-- R287, 12_network_time.md. -/
def card3800 : Card := ⟨0x3800, 0x1, 1, [
  ⟨0, 0, (.u 1), .ro, 10, .any, 0⟩,  -- Highest subindex
  ⟨1, 1, .time80, .ro, 0, .any, 0⟩,  -- Local time
  ⟨2, 2, (.u 8), .ro, 0, .any, 0⟩,  -- Monotonic grains
  ⟨3, 3, (.u 1), .rwc, 1, (.range 0 2), 0⟩,  -- Steering source
  ⟨4, 4, (.u 1), .rwc, 0, (.range 0 3), 0⟩,  -- Steering instance
  ⟨5, 5, (.i 4), .ro, 0, .any, 0⟩,  -- Rate adjustment A
  ⟨6, 6, (.u 1), .ro, 0, .any, 0⟩,  -- State
  ⟨7, 7, (.i 8), .ro, 0, .any, 0⟩,  -- Offset from master
  ⟨8, 8, (.octet 8), .ro, 0, .any, 0⟩,  -- Grandmaster identity
  ⟨9, 9, (.i 4), .ro, 0, .any, 0⟩,  -- Rate adjustment
  ⟨10, 10, .bool, .rwc, 0, .any, 0⟩]⟩  -- 32.768 kHz discipline

/-- R287, 12_network_time.md. -/
def card3801 : Card := ⟨0x3801, 0x1, 1, [
  ⟨0, 0, (.u 1), .ro, 6, .any, 0⟩,  -- Highest subindex
  ⟨1, 1, .bool, .ro, 0, .any, 0⟩,  -- Holdover
  ⟨2, 2, .time80, .ro, 0, .any, 0⟩,  -- Holdover start
  ⟨3, 3, (.u 8), .ro, 0, .any, 0⟩,  -- Last holdover length
  ⟨4, 4, (.u 4), .rw, 0, (.range 0 86400), 0⟩,  -- Holdover limit
  ⟨5, 5, (.u 4), .w1c, 0, .any, 0⟩,  -- Holdover entries
  ⟨6, 6, (.u 8), .ro, 0, .any, 0⟩]⟩  -- Restoration uncertainty

/-- R287, 12_network_time.md. -/
def card3802 : Card := ⟨0x3802, 0x1, 1, [
  ⟨0, 0, (.u 1), .ro, 7, .any, 0⟩,  -- Highest subindex
  ⟨1, 1, (.u 4), .rw, 10000, (.range 1 1000000), 0⟩,  -- Step threshold
  ⟨2, 2, (.u 2), .rw, 200, (.range 1 400), 0⟩,  -- Slew limit
  ⟨3, 3, (.u 4), .rw, 1000, (.range 10 1000000), 0⟩,  -- Lock threshold
  ⟨4, 4, (.u 4), .ro, 0, .any, 0⟩,  -- Step count
  ⟨5, 5, (.i 8), .ro, 0, .any, 0⟩,  -- Last step
  ⟨6, 6, (.u 1), .seal, 0, (.oneOf [1, 2]), 2⟩,  -- Step command
  ⟨7, 7, (.i 8), .rw, 0, .any, 0⟩]⟩  -- Step value

/-- R287, 12_network_time.md. -/
def card3803 : Card := ⟨0x3803, 0x1, 1, [
  ⟨0, 0, (.u 1), .ro, 2, .any, 0⟩,  -- Highest subindex
  ⟨1, 1, (.u 4), .wo, 0, .any, 0⟩,  -- Latch
  ⟨2, 2, .time80, .ro, 0, .any, 0⟩]⟩  -- Latched time

/-- R287, 12_network_time.md. -/
def card3810 : Card := ⟨0x3810, 0x1, 4, [
  ⟨0, 0, (.u 1), .ro, 13, .any, 0⟩,  -- Highest subindex
  ⟨1, 1, .bool, .rwc, 0, .any, 0⟩,  -- Enable
  ⟨2, 2, (.u 1), .rwc, 0, (.range 0 127), 0⟩,  -- Domain number
  ⟨3, 3, (.u 1), .rwc, 2, (.range 0 2), 0⟩,  -- Role
  ⟨4, 4, (.u 1), .rwc, 0, (.range 0 1), 0⟩,  -- Port roles
  ⟨5, 5, (.octet 2), .rwc, 63734, .any, 0⟩,  -- priority1, priority2
  ⟨6, 6, (.i 4), .rwc, 0xFFFFFFFD, (.srange (-7) 1), 0⟩,  -- Log sync interval
  ⟨7, 7, (.u 1), .rwc, 3, (.range 2 255), 0⟩,  -- syncReceiptTimeout
  ⟨8, 8, .bool, .rwc, 0, .any, 0⟩,  -- Assume grandmaster on loss
  ⟨9, 9, .bool, .ro, 0, .any, 0⟩,  -- Synced
  ⟨10, 10, (.i 8), .ro, 0, .any, 0⟩,  -- Offset to local time
  ⟨11, 11, (.i 4), .ro, 0, .any, 0⟩,  -- Rate ratio to local time
  ⟨12, 12, (.octet 8), .ro, 0, .any, 0⟩,  -- Grandmaster identity
  ⟨13, 13, (.u 4), .w1c, 0, .any, 0⟩]⟩  -- Messages discarded

/-- R287, 12_network_time.md. -/
def card3820 : Card := ⟨0x3820, 0x1, 22, [
  ⟨0, 0, (.u 1), .ro, 10, .any, 0⟩,  -- Highest subindex
  ⟨1, 1, (.u 1), .rwc, 1, (.mask 0xF), 0⟩,  -- Enabled instances
  ⟨2, 2, (.octet 4), .rwc, 0, .special, 0⟩,  -- External port states
  ⟨3, 3, (.i 4), .rwc, 0, (.srange (-3) 3), 0⟩,  -- Log link-delay interval
  ⟨4, 4, (.i 4), .rwc, 0, .any, 0⟩,  -- Delay asymmetry
  ⟨5, 5, (.u 4), .rwc, 800, (.range 1 100000), 0⟩,  -- Link delay threshold
  ⟨6, 6, (.u 2), .rwc, 0, .any, 0⟩,  -- Transmit latency
  ⟨7, 7, (.u 2), .rwc, 0, .any, 0⟩,  -- Receive latency
  ⟨8, 8, (.u 4), .ro, 0, .any, 0⟩,  -- Mean link delay
  ⟨9, 9, (.i 4), .ro, 0, .any, 0⟩,  -- Neighbour rate ratio
  ⟨10, 10, .bool, .ro, 0, .any, 0⟩]⟩  -- asCapable

/-- R287, 12_network_time.md. -/
def card3840 : Card := ⟨0x3840, 0x1, 16, [
  ⟨0, 0, (.u 1), .ro, 12, .any, 0⟩,  -- Highest subindex
  ⟨1, 1, .time80, .rw, 0, .any, 0⟩,  -- Target
  ⟨2, 2, .bool, .ro, 0, .any, 0⟩,  -- Armed
  ⟨3, 3, (.u 8), .rw, 0, (.rangeOr 16 549700000000 [0]), 0⟩,  -- Period P
  ⟨4, 4, (.u 1), .rwc, 1, (.range 1 255), 0⟩,  -- Pulse width
  ⟨5, 5, .bool, .rwc, 0, .any, 0⟩,  -- Inverted
  ⟨6, 6, (.u 1), .rwc, 0, (.range 0 3), 0⟩,  -- Internal target
  ⟨7, 7, (.u 2), .rwc, 0, .any, 0⟩,  -- Target operand
  ⟨8, 8, (.u 1), .rwc, 255, (.rangeOr 0 127 [255]), 0⟩,  -- MSI-X vector
  ⟨9, 9, .bool, .rwc, 0, .any, 0⟩,  -- Output enable
  ⟨10, 10, (.u 1), .cmd, 0, (.oneOf [1, 2]), 0⟩,  -- Command
  ⟨11, 11, (.octet 8), .ro, 0, .any, 0⟩,  -- Firings, skipped
  ⟨12, 12, (.u 1), .w1c, 0, .any, 0⟩]⟩  -- Sticky errors

/-- R287, 12_network_time.md. -/
def card3850 : Card := ⟨0x3850, 0x1, 12, [
  ⟨0, 0, (.u 1), .ro, 9, .any, 0⟩,  -- Highest subindex
  ⟨1, 1, .bool, .rwc, 0, .any, 0⟩,  -- Enable
  ⟨2, 2, (.u 1), .rwc, 1, (.range 1 3), 0⟩,  -- Edges
  ⟨3, 3, (.u 1), .rwc, 0, (.range 0 3), 0⟩,  -- Internal source
  ⟨4, 4, (.u 1), .rwc, 0, (.range 0 15), 0⟩,  -- Comparator
  ⟨5, 5, (.u 1), .rwc, 2, (.range 0 15), 0⟩,  -- Filter
  ⟨6, 6, (.octet 16), .ro, 0, .any, 0⟩,  -- Oldest entry
  ⟨7, 7, .bool, .w1c, 0, .any, 0⟩,  -- Overflow
  ⟨8, 8, (.u 1), .ro, 0, .any, 0⟩,  -- Entries held
  ⟨9, 9, (.u 1), .rwc, 255, (.rangeOr 0 127 [255]), 0⟩]⟩  -- MSI-X vector

/-- R287, 12_network_time.md. -/
def card3860 : Card := ⟨0x3860, 0x1, 1, [
  ⟨0, 0, (.u 1), .ro, 3, .any, 0⟩,  -- Highest subindex
  ⟨1, 1, .bool, .rwc, 0, .any, 0⟩,  -- PPS_OUT enable
  ⟨2, 2, (.u 4), .rwc, 0x186A0, (.range 1 500000), 0⟩,  -- Pulse width
  ⟨3, 3, .bool, .rwc, 0, .any, 0⟩]⟩  -- Pulse in free-run

/-- R265, 11_braider.md. -/
def card3C00 : Card := ⟨0x3C00, 0x1, 1, [
  ⟨0, 0, (.u 1), .ro, 7, .any, 0⟩,  -- Highest subindex
  ⟨1, 1, (.u 8), .ro, 0, .any, 0⟩,  -- Route executions
  ⟨2, 2, (.u 4), .w1c, 0, .any, 0⟩,  -- Fan-out excess
  ⟨3, 3, (.u 2), .w1c, 0, .any, 0⟩,  -- Executor wait high-water
  ⟨4, 4, (.u 4), .w1c, 0, .any, 0⟩,  -- Egress lost
  ⟨5, 5, (.u 4), .w1c, 0, .any, 0⟩,  -- Slot integrity stomps
  ⟨6, 6, (.u 4), .w1c, 0, .any, 0⟩,  -- Unknown stream IDs
  ⟨7, 7, (.u 4), .w1c, 0, .any, 0⟩]⟩  -- Short source

/-- R265, 11_braider.md. -/
def card3C01 : Card := ⟨0x3C01, 0x1, 1, [
  ⟨0, 0, (.u 1), .ro, 2, .any, 0⟩,  -- Highest subindex
  ⟨1, 1, (.octet 6), .rwc, 0, .special, 0⟩,  -- Source MAC
  ⟨2, 2, (.u 1), .ro, 0, .any, 0⟩]⟩  -- Open containers

/-- R265, 11_braider.md. -/
def card3C10 : Card := ⟨0x3C10, 0x1, 1, [
  ⟨0, 0, (.u 1), .ro, 25, .any, 0⟩,  -- Highest subindex
  ⟨1, 1, (.u 2), .rw, 0, (.range 0 12287), 0⟩,  -- Route
  ⟨2, 2, (.u 1), .rw, 0, (.range 0 2), 0⟩,  -- Kind
  ⟨3, 3, (.u 1), .rw, 0, (.range 0 127), 0⟩,  -- Source
  ⟨4, 4, (.u 1), .rw, 255, (.rangeOr 0 31 [255]), 0⟩,  -- Source bus ID
  ⟨5, 5, (.u 4), .rw, 0, (.mask 0x1FFFFFFF), 0⟩,  -- Identifier
  ⟨6, 6, (.u 4), .rw, 0x1FFFFFFF, (.mask 0x1FFFFFFF), 0⟩,  -- Identifier mask
  ⟨7, 7, (.u 1), .rw, 2, (.range 0 2), 0⟩,  -- IDE
  ⟨8, 8, (.u 1), .rw, 0, (.range 0 127), 0⟩,  -- Egress
  ⟨9, 9, (.u 4), .rw, 0, (.mask 0x3FFFFFFF), 0⟩,  -- Egress identifier
  ⟨10, 10, (.u 1), .rw, 0, (.range 0 4), 0⟩,  -- Egress format
  ⟨11, 11, (.u 2), .rw, 8, (.range 0 2048), 0⟩,  -- Egress length
  ⟨12, 12, (.u 1), .rw, 0, (.range 0 1), 0⟩,  -- Semantics
  ⟨13, 13, (.u 1), .rw, 8, (.range 1 64), 0⟩,  -- FIFO depth
  ⟨14, 14, (.u 1), .rw, 0, (.range 0 3), 0⟩,  -- Transmit mode
  ⟨15, 15, (.u 4), .rw, 0x186A0, (.range 100 60000000), 0⟩,  -- Period
  ⟨16, 16, (.u 4), .rw, 1000, (.range 0 1000000), 0⟩,  -- Deadline offset
  ⟨17, 17, (.u 2), .rw, 0, (.range 0 32767), 0⟩,  -- Program start
  ⟨18, 18, (.u 1), .rw, 0, (.range 0 16), 0⟩,  -- Program length
  ⟨19, 19, (.octet 64), .rw, 0, .any, 0⟩,  -- Template
  ⟨20, 20, (.u 2), .rw, 65535, (.rangeOr 0 1023 [65535]), 0⟩,  -- Rate limiter
  ⟨21, 21, (.u 1), .rw, 255, (.rangeOr 0 7 [255]), 0⟩,  -- Window class
  ⟨22, 22, (.u 4), .ro, 0, .any, 0⟩,  -- Executions
  ⟨23, 23, (.u 4), .ro, 0, .any, 0⟩,  -- Overwritten
  ⟨24, 24, (.u 4), .ro, 0, .any, 0⟩,  -- Dropped
  ⟨25, 25, (.u 1), .cmd, 0, (.oneOf [1, 2, 3]), 0⟩]⟩  -- Command

/-- R265, 11_braider.md. -/
def card3C11 : Card := ⟨0x3C11, 0x1, 1, [
  ⟨0, 0, (.u 1), .ro, 3, .any, 0⟩,  -- Highest subindex
  ⟨1, 1, (.u 2), .rw, 0, (.range 0 32767), 0⟩,  -- Word index
  ⟨2, 2, (.u 8), .rw, 0, .any, 0⟩,  -- Word
  ⟨3, 3, (.u 1), .cmd, 0, (.oneOf [1, 2]), 0⟩]⟩  -- Command

/-- R265, 11_braider.md. -/
def card3C20 : Card := ⟨0x3C20, 0x1, 1, [
  ⟨0, 0, (.u 1), .ro, 18, .any, 0⟩,  -- Highest subindex
  ⟨1, 1, (.u 1), .rw, 0, (.range 0 63), 0⟩,  -- Stream
  ⟨2, 2, .bool, .rw, 0, .any, 0⟩,  -- Enable
  ⟨3, 3, (.octet 8), .rw, 0, .any, 0⟩,  -- Stream ID
  ⟨4, 4, (.octet 6), .rw, 0, .any, 0⟩,  -- Destination MAC
  ⟨5, 5, (.u 2), .rw, 1, (.range 1 4094), 0⟩,  -- VID
  ⟨6, 6, (.u 1), .rw, 0, (.range 0 7), 0⟩,  -- PCP
  ⟨7, 7, (.u 1), .rw, 0, (.range 0 1), 0⟩,  -- AVTP format
  ⟨8, 8, (.u 1), .rw, 1, (.range 1 2), 0⟩,  -- Message type
  ⟨9, 9, (.u 2), .rw, 1440, .special, 0⟩,  -- Size limit
  ⟨10, 10, (.octet 48), .rw, 0xFFFFFFFFFFFFFFFFFFFFFFFFFFFFFFFFFFFFFFFFFFFFFFFFFFFFFFFFFFFFFFFFFFFFFFFFFFFFFFFFFFFFFFFFFFFFFFFF, .special, 0⟩,  -- Bus ID map
  ⟨11, 11, (.u 4), .rw, 0, (.range 0 1000000000), 0⟩,  -- Presentation offset
  ⟨12, 12, (.u 4), .ro, 0, .any, 0⟩,  -- Containers sent
  ⟨13, 13, (.u 4), .ro, 0, .any, 0⟩,  -- Closed by size
  ⟨14, 14, (.u 4), .ro, 0, .any, 0⟩,  -- Closed by deadline
  ⟨15, 15, (.u 4), .ro, 0, .any, 0⟩,  -- PDUs packed
  ⟨16, 16, (.u 4), .ro, 0, .any, 0⟩,  -- PDUs not carried
  ⟨17, 17, (.u 1), .ro, 0, .any, 0⟩,  -- Sequence number
  ⟨18, 18, (.u 1), .cmd, 0, (.oneOf [1, 2, 3]), 0⟩]⟩  -- Command

/-- R265, 11_braider.md. -/
def card3C21 : Card := ⟨0x3C21, 0x1, 1, [
  ⟨0, 0, (.u 1), .ro, 11, .any, 0⟩,  -- Highest subindex
  ⟨1, 1, (.u 1), .rw, 0, (.range 0 63), 0⟩,  -- Entry
  ⟨2, 2, .bool, .rw, 0, .any, 0⟩,  -- Enable
  ⟨3, 3, (.octet 8), .rw, 0, .any, 0⟩,  -- Stream ID
  ⟨4, 4, (.u 8), .rw, 0, (.mask 0xFFFFFFFF), 0⟩,  -- Ingress ports
  ⟨5, 5, .bool, .rw, 1, .any, 0⟩,  -- Sequence check
  ⟨6, 6, (.u 4), .ro, 0, .any, 0⟩,  -- Containers received
  ⟨7, 7, (.u 4), .ro, 0, .any, 0⟩,  -- Sequence gaps
  ⟨8, 8, (.u 4), .ro, 0, .any, 0⟩,  -- Malformed
  ⟨9, 9, (.u 4), .ro, 0, .any, 0⟩,  -- PDUs unpacked
  ⟨10, 10, (.u 4), .ro, 0, .any, 0⟩,  -- Messages skipped
  ⟨11, 11, (.u 1), .cmd, 0, (.oneOf [1, 2, 3]), 0⟩]⟩  -- Command

/-- R265, 11_braider.md. -/
def card3C30 : Card := ⟨0x3C30, 0x1, 1, [
  ⟨0, 0, (.u 1), .ro, 7, .any, 0⟩,  -- Highest subindex
  ⟨1, 1, (.u 2), .rw, 0, (.range 0 1023), 0⟩,  -- Limiter
  ⟨2, 2, (.u 4), .rw, 1, (.range 1 100000), 0⟩,  -- Rate
  ⟨3, 3, (.u 2), .rw, 1, (.range 1 1024), 0⟩,  -- Burst
  ⟨4, 4, (.u 2), .ro, 0, .any, 0⟩,  -- Tokens
  ⟨5, 5, (.u 4), .ro, 0, .any, 0⟩,  -- Passed
  ⟨6, 6, (.u 4), .ro, 0, .any, 0⟩,  -- Held
  ⟨7, 7, (.u 1), .cmd, 0, (.oneOf [1, 2, 3]), 0⟩]⟩  -- Command

/-- R265, 11_braider.md. -/
def card3C40 : Card := ⟨0x3C40, 0x1, 48, [
  ⟨0, 0, (.u 1), .ro, 9, .any, 0⟩,  -- Highest subindex
  ⟨1, 1, .bool, .rwc, 0, .any, 0⟩,  -- Enable
  ⟨2, 2, .bool, .rwc, 1, .any, 0⟩,  -- Exclusive
  ⟨3, 3, .time80, .rwc, 0, .any, 0⟩,  -- Base time
  ⟨4, 4, (.u 4), .rwc, 0x1E848, (.range 125 125000000), 0⟩,  -- Cycle time
  ⟨5, 5, (.u 1), .rwc, 1, (.range 1 16), 0⟩,  -- Window count
  ⟨6, 6, (.octet 128), .rwc, 0, .special, 0⟩,  -- Windows
  ⟨7, 7, (.u 4), .w1c, 0, .any, 0⟩,  -- Frames not fitted
  ⟨8, 8, (.u 4), .w1c, 0, .any, 0⟩,  -- Time-step realignments
  ⟨9, 9, .time80, .ro, 0, .any, 0⟩]⟩  -- Operational base time

/-- R265, 11_braider.md. -/
def card3C80 : Card := ⟨0x3C80, 0x1, 8, [
  ⟨0, 0, (.u 1), .ro, 7, .any, 0⟩,  -- Highest subindex
  ⟨1, 1, .bool, .rwc, 0, .any, 0⟩,  -- Beacon alignment
  ⟨2, 2, (.u 4), .rwc, 12500, (.range 125 1250000), 0⟩,  -- Alignment grid
  ⟨3, 3, .bool, .rwc, 0, .any, 0⟩,  -- Takeover enable
  ⟨4, 4, (.u 2), .rwc, 10, (.range 1 100), 0⟩,  -- Takeover time
  ⟨5, 5, .bool, .ro, 0, .any, 0⟩,  -- Takeover active
  ⟨6, 6, (.u 4), .w1c, 0, .any, 0⟩,  -- Takeovers
  ⟨7, 7, (.u 4), .w1c, 0, .any, 0⟩]⟩  -- Grid overruns

/-- R265, 11_braider.md. -/
def card3C90 : Card := ⟨0x3C90, 0x1, 1, [
  ⟨0, 0, (.u 1), .ro, 7, .any, 0⟩,  -- Highest subindex
  ⟨1, 1, (.u 2), .ro, 0, .any, 0⟩,  -- Frames held
  ⟨2, 2, (.u 1), .ro, 0, .any, 0⟩,  -- Replay state
  ⟨3, 3, (.u 4), .w1c, 0, .any, 0⟩,  -- Frames replayed
  ⟨4, 4, (.u 4), .w1c, 0, .any, 0⟩,  -- Discarded by age
  ⟨5, 5, (.u 4), .ro, 0, .any, 0⟩,  -- Replay duration
  ⟨6, 6, (.u 8), .ro, 0, .any, 0⟩,  -- Overflow flags
  ⟨7, 7, (.u 4), .w1c, 0, .any, 0⟩]⟩  -- Live frames appended

/-- R310, 13_wake_sleep_partial.md. -/
def card3F00 : Card := ⟨0x3F00, 0x1, 1, [
  ⟨0, 0, (.u 1), .ro, 8, .any, 0⟩,  -- Highest subindex
  ⟨1, 1, (.u 4), .rwc, 1280, (.mask 0x3FFFFFFF), 0⟩,  -- NM identifier
  ⟨2, 2, (.u 4), .rwc, 0x1FFFFF00, (.mask 0x1FFFFFFF), 0⟩,  -- NM identifier mask
  ⟨3, 3, (.u 1), .rwc, 0, (.range 0 7), 0⟩,  -- Node ID byte
  ⟨4, 4, (.u 1), .rwc, 1, (.range 0 7), 0⟩,  -- Control bit vector byte
  ⟨5, 5, (.u 1), .rwc, 2, (.range 0 7), 0⟩,  -- PN vector byte
  ⟨6, 6, (.u 1), .rwc, 1, .any, 0⟩,  -- Own node ID
  ⟨7, 7, (.u 2), .rwc, 500, (.range 50 5000), 0⟩,  -- Own NM cycle
  ⟨8, 8, (.u 2), .rwc, 0, .any, 0⟩]⟩  -- UDP NM port

/-- R310, 13_wake_sleep_partial.md. -/
def card3F10 : Card := ⟨0x3F10, 0x1, 8, [
  ⟨0, 0, (.u 1), .ro, 17, .any, 0⟩,  -- Highest subindex
  ⟨1, 1, (.u 8), .rwc, 0, .any, 0⟩,  -- Member engines
  ⟨2, 2, (.u 4), .rwc, 0, (.mask 0x3FFFFFF0), 0⟩,  -- Member ports
  ⟨3, 3, (.u 8), .rwc, 0, .any, 0⟩,  -- PN mask
  ⟨4, 4, (.u 2), .rwc, 2000, (.range 100 10000), 0⟩,  -- NM timeout
  ⟨5, 5, (.u 2), .rwc, 1000, (.range 0 10000), 0⟩,  -- Prepare time
  ⟨6, 6, (.u 2), .rwc, 2, (.range 2 1000), 0⟩,  -- Minimum sleep dwell
  ⟨7, 7, (.u 4), .rwc, 1800, (.rangeOr 60 86400 [0]), 0⟩,  -- Maximum awake time
  ⟨8, 8, (.u 1), .rwc, 255, .any, 0⟩,  -- Wake targets
  ⟨9, 9, .bool, .rw, 1, .any, 0⟩,  -- Application keep-awake
  ⟨10, 10, (.u 1), .ro, 2, .any, 0⟩,  -- State
  ⟨11, 11, (.u 4), .ro, 0, .any, 0⟩,  -- Awake time
  ⟨12, 12, (.u 1), .ro, 255, .any, 0⟩,  -- Held bus
  ⟨13, 13, (.u 1), .ro, 0, .any, 0⟩,  -- Withheld node ID
  ⟨14, 14, (.u 4), .w1c, 0, .any, 0⟩,  -- Awake-limit expiries
  ⟨15, 15, (.u 4), .w1c, 0, .any, 0⟩,  -- Sleep commits
  ⟨16, 16, (.u 4), .w1c, 0, .any, 0⟩,  -- Latched wakes
  ⟨17, 17, (.u 4), .w1c, 0, .any, 0⟩]⟩  -- Withheld NM PDUs

/-- R310, 13_wake_sleep_partial.md. -/
def card3F20 : Card := ⟨0x3F20, 0x1, 8, [
  ⟨0, 0, (.u 1), .ro, 2, .any, 0⟩,  -- Highest subindex
  ⟨1, 1, (.octet 64), .ro, 0, .any, 0⟩,  -- Keepers
  ⟨2, 2, (.u 4), .w1c, 0, .any, 0⟩]⟩  -- Keeper overflow

/-- R192, 08_sieve.md. -/
def card4000 : Card := ⟨0x4000, 0x1, 1, [
  ⟨0, 0, (.u 1), .ro, 9, .any, 0⟩,  -- Highest subindex
  ⟨1, 1, .bool, .ro, 0, .any, 0⟩,  -- Armed
  ⟨2, 2, (.u 4), .ro, 0, .any, 0⟩,  -- Epoch
  ⟨3, 3, (.u 2), .ro, 0, .any, 0⟩,  -- Ternary rules enabled
  ⟨4, 4, (.u 2), .ro, 0, .any, 0⟩,  -- CAN-ID rules enabled
  ⟨5, 5, (.u 4), .ro, 0, .any, 0⟩,  -- Flow entries
  ⟨6, 6, (.u 2), .w1c, 0, .any, 0⟩,  -- Express wait high-water
  ⟨7, 7, (.u 4), .w1c, 0, .any, 0⟩,  -- Deep intake drops
  ⟨8, 8, (.u 4), .w1c, 0, .any, 0⟩,  -- Malformed denied
  ⟨9, 9, (.u 4), .rwc, 0, .any, 0⟩]⟩  -- Flow hash seed

/-- R192, 08_sieve.md. -/
def card4001 : Card := ⟨0x4001, 0x1, 1, [
  ⟨0, 0, (.octet 128), .rwc, 0, .special, 0⟩]⟩  -- Zone map

/-- R192, 08_sieve.md. -/
def card4002 : Card := ⟨0x4002, 0x1, 1, [
  ⟨0, 0, (.octet 512), .rwc, 0, .special, 0⟩]⟩  -- Zone-pair policy

/-- R192, 08_sieve.md. -/
def card4003 : Card := ⟨0x4003, 0x1, 1, [
  ⟨0, 0, (.octet 16), .rwc, 0x80808080808080808080808080808080, .special, 0⟩]⟩  -- Deep key depth

/-- R192, 08_sieve.md. -/
def card4010 : Card := ⟨0x4010, 0x1, 1, [
  ⟨0, 0, (.u 1), .ro, 9, .any, 0⟩,  -- Highest subindex
  ⟨1, 1, (.u 2), .rw, 0, (.range 0 16383), 0⟩,  -- Rule
  ⟨2, 2, (.u 1), .rw, 0, (.range 0 3), 0⟩,  -- Class
  ⟨3, 3, (.octet 48), .rw, 0, .any, 0⟩,  -- Value
  ⟨4, 4, (.octet 48), .rw, 0, .any, 0⟩,  -- Mask
  ⟨5, 5, (.u 2), .rw, 0, .any, 0⟩,  -- Ingress zones
  ⟨6, 6, (.u 2), .rw, 0, .any, 0⟩,  -- Egress zones
  ⟨7, 7, (.u 2), .rw, 0, (.range 0 16383), 0⟩,  -- Action
  ⟨8, 8, (.u 8), .ro, 0, .any, 0⟩,  -- Hits
  ⟨9, 9, (.u 1), .cmd, 0, (.oneOf [1, 2, 3]), 0⟩]⟩  -- Command

/-- R192, 08_sieve.md. -/
def card4011 : Card := ⟨0x4011, 0x1, 1, [
  ⟨0, 0, (.u 1), .ro, 9, .any, 0⟩,  -- Highest subindex
  ⟨1, 1, (.u 2), .rw, 0, (.range 0 8191), 0⟩,  -- Rule
  ⟨2, 2, (.u 1), .rw, 0, (.range 0 1), 0⟩,  -- Class
  ⟨3, 3, (.octet 8), .rw, 0, .any, 0⟩,  -- Value
  ⟨4, 4, (.octet 8), .rw, 0, .any, 0⟩,  -- Mask
  ⟨5, 5, (.u 2), .rw, 0, .any, 0⟩,  -- Ingress zones
  ⟨6, 6, (.u 2), .rw, 0, .any, 0⟩,  -- Egress zones
  ⟨7, 7, (.u 2), .rw, 0, (.range 0 16383), 0⟩,  -- Action
  ⟨8, 8, (.u 8), .ro, 0, .any, 0⟩,  -- Hits
  ⟨9, 9, (.u 1), .cmd, 0, (.oneOf [1, 2, 3]), 0⟩]⟩  -- Command

/-- R192, 08_sieve.md. -/
def card4012 : Card := ⟨0x4012, 0x1, 1, [
  ⟨0, 0, (.u 1), .ro, 3, .any, 0⟩,  -- Highest subindex
  ⟨1, 1, (.u 2), .rw, 0, (.range 0 16383), 0⟩,  -- Entry
  ⟨2, 2, (.u 8), .rw, 0, .special, 0⟩,  -- Word
  ⟨3, 3, (.u 1), .cmd, 0, (.oneOf [1, 2]), 0⟩]⟩  -- Command

/-- R192, 08_sieve.md. -/
def card4013 : Card := ⟨0x4013, 0x1, 1, [
  ⟨0, 0, (.u 1), .ro, 3, .any, 0⟩,  -- Highest subindex
  ⟨1, 1, (.octet 40), .rw, 0, .any, 0⟩,  -- Key
  ⟨2, 2, (.u 1), .rw, 1, (.range 1 15), 0⟩,  -- Flow class
  ⟨3, 3, (.u 1), .cmd, 0, (.oneOf [1, 2, 3]), 0⟩]⟩  -- Command

/-- R192, 08_sieve.md. -/
def card4014 : Card := ⟨0x4014, 0x1, 1, [
  ⟨0, 0, (.u 1), .ro, 12, .any, 0⟩,  -- Highest subindex
  ⟨1, 1, (.u 1), .rw, 0, .any, 0⟩,  -- Check
  ⟨2, 2, .bool, .rw, 0, .any, 0⟩,  -- Enable
  ⟨3, 3, (.u 2), .rw, 0, .any, 0⟩,  -- Ingress zones
  ⟨4, 4, (.u 1), .rw, 0, (.range 0 15), 0⟩,  -- Result bit
  ⟨5, 5, (.u 1), .rw, 0, (.range 0 4), 0⟩,  -- Anchor
  ⟨6, 6, (.u 1), .rw, 0, (.range 0 127), 0⟩,  -- Offset
  ⟨7, 7, (.u 1), .rw, 1, (.oneOf [1, 2, 4, 8]), 0⟩,  -- Width
  ⟨8, 8, (.u 8), .rw, 0, .any, 0⟩,  -- Mask
  ⟨9, 9, (.u 8), .rw, 0, .any, 0⟩,  -- Value
  ⟨10, 10, (.u 1), .rw, 0, (.range 0 4), 0⟩,  -- Operation
  ⟨11, 11, (.u 8), .rw, 0, .any, 0⟩,  -- Upper value
  ⟨12, 12, (.u 1), .cmd, 0, (.oneOf [1, 2]), 0⟩]⟩  -- Command

/-- R192, 08_sieve.md. -/
def card4015 : Card := ⟨0x4015, 0x1, 1, [
  ⟨0, 0, (.u 1), .ro, 3, .any, 0⟩,  -- Highest subindex
  ⟨1, 1, (.u 2), .rw, 0, (.range 0 1023), 0⟩,  -- Entry
  ⟨2, 2, (.octet 8), .rw, 0, .special, 0⟩,  -- Word
  ⟨3, 3, (.u 1), .cmd, 0, (.oneOf [1, 2]), 0⟩]⟩  -- Command

/-- R192, 08_sieve.md. -/
def card4020 : Card := ⟨0x4020, 0x1, 1, [
  ⟨0, 0, (.u 1), .ro, 13, .any, 0⟩,  -- Highest subindex
  ⟨1, 1, (.u 2), .rw, 0, (.range 0 1023), 0⟩,  -- Profile
  ⟨2, 2, (.u 2), .rw, 0, .any, 0⟩,  -- Data ID
  ⟨3, 3, (.u 1), .rw, 0, .any, 0⟩,  -- Key slot
  ⟨4, 4, (.u 1), .rw, 32, .special, 0⟩,  -- MAC length m
  ⟨5, 5, (.u 1), .rw, 32, (.range 1 64), 0⟩,  -- Freshness length f
  ⟨6, 6, (.u 1), .rw, 8, (.range 0 64), 0⟩,  -- Truncated freshness t
  ⟨7, 7, (.u 4), .rw, 16, (.range 1 4294967295), 0⟩,  -- Acceptance window
  ⟨8, 8, (.u 8), .ro, 0, .any, 0⟩,  -- Latest freshness V
  ⟨9, 9, (.u 8), .rw, 0, .any, 0⟩,  -- Freshness floor
  ⟨10, 10, (.u 4), .ro, 0, .any, 0⟩,  -- MAC failures
  ⟨11, 11, (.u 4), .ro, 0, .any, 0⟩,  -- Freshness failures
  ⟨12, 12, (.u 4), .ro, 0, .any, 0⟩,  -- Accepted
  ⟨13, 13, (.u 1), .cmd, 0, (.oneOf [1, 2, 3]), 0⟩]⟩  -- Command

/-- R192, 08_sieve.md. -/
def card4021 : Card := ⟨0x4021, 0x1, 1, [
  ⟨0, 0, (.u 1), .ro, 7, .any, 0⟩,  -- Highest subindex
  ⟨1, 1, (.u 2), .rw, 0, (.range 0 1023), 0⟩,  -- Limiter
  ⟨2, 2, (.u 4), .rw, 1, (.range 1 100000), 0⟩,  -- Rate
  ⟨3, 3, (.u 2), .rw, 1, (.range 1 1024), 0⟩,  -- Burst
  ⟨4, 4, (.u 2), .ro, 0, .any, 0⟩,  -- Tokens
  ⟨5, 5, (.u 4), .ro, 0, .any, 0⟩,  -- Passed
  ⟨6, 6, (.u 4), .ro, 0, .any, 0⟩,  -- Denied
  ⟨7, 7, (.u 1), .cmd, 0, (.oneOf [1, 2, 3]), 0⟩]⟩  -- Command

/-- R192, 08_sieve.md. -/
def card4030 : Card := ⟨0x4030, 0x1, 1, [
  ⟨0, 0, (.u 1), .ro, 12, .any, 0⟩,  -- Highest subindex
  ⟨1, 1, (.u 2), .rw, 0, (.range 0 511), 0⟩,  -- Entry
  ⟨2, 2, .bool, .rw, 0, .any, 0⟩,  -- Enable
  ⟨3, 3, (.u 1), .rw, 0, (.range 0 63), 0⟩,  -- Engine
  ⟨4, 4, (.u 4), .rw, 0, (.mask 0x1FFFFFFF), 0⟩,  -- Identifier
  ⟨5, 5, (.u 4), .rw, 0x1FFFFFFF, (.mask 0x1FFFFFFF), 0⟩,  -- Identifier mask
  ⟨6, 6, (.u 1), .rw, 0, (.range 0 2), 0⟩,  -- IDE
  ⟨7, 7, (.u 1), .rw, 0, (.mask 0x7), 0⟩,  -- Reaction
  ⟨8, 8, (.u 2), .rw, 10000, (.range 1 65535), 0⟩,  -- Quarantine time
  ⟨9, 9, (.u 2), .rw, 1, (.range 1 3600), 0⟩,  -- Log interval
  ⟨10, 10, (.u 4), .ro, 0, .any, 0⟩,  -- Spoofs
  ⟨11, 11, .time80, .ro, 0, .any, 0⟩,  -- Last spoof
  ⟨12, 12, (.u 1), .cmd, 0, (.oneOf [1, 2, 3]), 0⟩]⟩  -- Command

/-- R192, 08_sieve.md. -/
def card4040 : Card := ⟨0x4040, 0x1, 1, [
  ⟨0, 0, (.u 1), .ro, 7, .any, 0⟩,  -- Highest subindex
  ⟨1, 1, (.u 1), .rw, 0, (.range 0 15), 0⟩,  -- Ingress zone
  ⟨2, 2, (.u 1), .rw, 0, (.range 0 15), 0⟩,  -- Egress zone
  ⟨3, 3, (.u 8), .ro, 0, .any, 0⟩,  -- Permitted
  ⟨4, 4, (.u 8), .ro, 0, .any, 0⟩,  -- Denied by rule
  ⟨5, 5, (.u 8), .ro, 0, .any, 0⟩,  -- Denied at miss
  ⟨6, 6, (.u 8), .ro, 0, .any, 0⟩,  -- Denied, other
  ⟨7, 7, (.u 1), .cmd, 0, (.oneOf [1, 3]), 0⟩]⟩  -- Command

/-- R207, 09_sieve_redundant_execution.md. -/
def card4050 : Card := ⟨0x4050, 0x1, 1, [
  ⟨0, 0, (.u 1), .ro, 7, .any, 0⟩,  -- Highest subindex
  ⟨1, 1, (.u 1), .ro, 0, .any, 0⟩,  -- Lane 0 state
  ⟨2, 2, (.u 1), .ro, 3, .any, 0⟩,  -- Lane 1 state
  ⟨3, 3, (.u 1), .ro, 0, .any, 0⟩,  -- Rotation, express Ethernet key
  ⟨4, 4, (.u 1), .ro, 0, .any, 0⟩,  -- Rotation, bus key
  ⟨5, 5, (.u 2), .ro, 0, .any, 0⟩,  -- Rotation, deep keys
  ⟨6, 6, (.u 2), .ro, 0, .any, 0⟩,  -- Address transform ξ
  ⟨7, 7, (.u 1), .cmd, 0, (.oneOf [1, 2]), 0⟩]⟩  -- Restore lane

/-- R207, 09_sieve_redundant_execution.md. -/
def card4051 : Card := ⟨0x4051, 0x1, 2, [
  ⟨0, 0, (.u 1), .ro, 12, .any, 0⟩,  -- Highest subindex
  ⟨1, 1, (.u 8), .ro, 0, .any, 0⟩,  -- Pass-pairs compared
  ⟨2, 2, (.u 4), .w1c, 0, .any, 0⟩,  -- Latent divergences
  ⟨3, 3, (.u 4), .w1c, 0, .any, 0⟩,  -- Consequential divergences
  ⟨4, 4, (.u 4), .w1c, 0, .any, 0⟩,  -- Parity events
  ⟨5, 5, (.u 4), .w1c, 0, .any, 0⟩,  -- Retries released
  ⟨6, 6, (.u 4), .w1c, 0, .any, 0⟩,  -- Decisions denied
  ⟨7, 7, (.u 4), .w1c, 0, .any, 0⟩,  -- Self-tests passed
  ⟨8, 8, .time80, .ro, 0, .any, 0⟩,  -- Last divergence time
  ⟨9, 9, (.u 1), .ro, 0, .any, 0⟩,  -- Last divergence kind
  ⟨10, 10, (.octet 8), .ro, 0, .any, 0⟩,  -- Last divergence bits
  ⟨11, 11, (.u 1), .ro, 0, .any, 0⟩,  -- Withdrawal cause
  ⟨12, 12, (.u 1), .ro, 0, .any, 0⟩]⟩  -- Next seeded position

/-- The cards of this file. -/
def cardsC : List Card :=
  [card3800, card3801, card3802, card3803, card3810, card3820, card3840, card3850, card3860, card3C00, card3C01, card3C10, card3C11, card3C20, card3C21, card3C30, card3C40, card3C80, card3C90, card3F00, card3F10, card3F20, card4000, card4001, card4002, card4003, card4010, card4011, card4012, card4013, card4014, card4015, card4020, card4021, card4030, card4040, card4050, card4051]

end Sys2Proof.Machine
end

