-- ==== Sys2Proof/Machine/CardTableD.lean ====
section
/-!
DEFINITION. CardTableD.lean: object cards of 0x5000–0x5FFF, row by row as the spec prints them.
-/
namespace Sys2Proof.Machine

/-- R481, 21_peck_budget.md. -/
def card5000 : Card := ⟨0x5000, 0x1, 1, [
  ⟨0, 0, (.u 1), .ro, 12, .any, 0⟩,  -- Highest subindex
  ⟨1, 1, (.u 2), .rwc, 880, (.range 300 880), 0⟩,  -- Budget
  ⟨2, 2, (.u 2), .ro, 880, .any, 0⟩,  -- Effective budget
  ⟨3, 3, (.u 1), .rwc, 50, (.range 10 200), 0⟩,  -- Ramp cap
  ⟨4, 4, (.u 2), .rwc, 100, (.range 20 880), 0⟩,  -- Serdes step allowance
  ⟨5, 5, (.u 2), .ro, 283, .any, 0⟩,  -- Granted total
  ⟨6, 6, (.u 2), .w1c, 0, .any, 0⟩,  -- Granted high-water
  ⟨7, 7, (.i 2), .ro, 0, .any, 0⟩,  -- Junction temperature
  ⟨8, 8, (.u 1), .ro, 100, .any, 0⟩,  -- Derating factor
  ⟨9, 9, (.u 1), .ro, 0, .any, 0⟩,  -- Requests waiting
  ⟨10, 10, (.u 4), .w1c, 0, .any, 0⟩,  -- Starvation events
  ⟨11, 11, .bool, .ro, 0, .any, 0⟩,  -- Over budget
  ⟨12, 12, (.u 4), .w1c, 0, .any, 0⟩]⟩  -- Longest wait

/-- R481, 21_peck_budget.md. -/
def card5001 : Card := ⟨0x5001, 0x1, 1, [
  ⟨0, 0, (.u 1), .ro, 8, .any, 0⟩,  -- Highest subindex
  ⟨1, 1, (.u 1), .rw, 0, (.range 0 61), 0⟩,  -- Consumer
  ⟨2, 2, (.u 2), .ro, 0, .any, 0⟩,  -- Charge
  ⟨3, 3, (.u 1), .rw, 0, (.range 0 7), 0⟩,  -- Priority
  ⟨4, 4, .bool, .rw, 1, .any, 0⟩,  -- Permitted
  ⟨5, 5, (.u 1), .ro, 0, .any, 0⟩,  -- State
  ⟨6, 6, .time80, .ro, 0, .any, 0⟩,  -- Wait start
  ⟨7, 7, (.u 4), .ro, 0, .any, 0⟩,  -- Starvations
  ⟨8, 8, (.u 1), .cmd, 0, (.oneOf [1, 2, 3]), 0⟩]⟩  -- Command

/-- R470, 20_power_clocks_reset_startup.md. -/
def card5010 : Card := ⟨0x5010, 0x1, 1, [
  ⟨0, 0, (.u 1), .ro, 8, .any, 0⟩,  -- Highest subindex
  ⟨1, 1, (.u 4), .ro, 0, .any, 0⟩,  -- Catch entered
  ⟨2, 2, (.u 2), .rwc, 500, (.range 10 5000), 0⟩,  -- Replay age limit
  ⟨3, 3, (.u 4), .ro, 0, .any, 0⟩,  -- Firmware verified
  ⟨4, 4, (.u 4), .ro, 0, .any, 0⟩,  -- Operate or Configure entered
  ⟨5, 5, (.u 4), .ro, 0, .any, 0⟩,  -- Dictionary available
  ⟨6, 6, (.u 4), .ro, 0, .any, 0⟩,  -- Last serdes step
  ⟨7, 7, (.u 4), .ro, 0xFFFFFFFF, .any, 0⟩,  -- PCIe first L0
  ⟨8, 8, (.u 2), .ro, 0, .any, 0⟩]⟩  -- Catch records at replay

/-- R470, 20_power_clocks_reset_startup.md. -/
def card5020 : Card := ⟨0x5020, 0x1, 1, [
  ⟨0, 0, (.u 1), .ro, 7, .any, 0⟩,  -- Highest subindex
  ⟨1, 1, (.u 2), .rwc, 20, (.range 5 100), 0⟩,  -- Drain limit
  ⟨2, 2, (.u 4), .ro, 0, .any, 0⟩,  -- Domains powered
  ⟨3, 3, (.u 4), .ro, 0, .any, 0⟩,  -- Domains awaiting grant
  ⟨4, 4, (.u 4), .ro, 0, .any, 0⟩,  -- Domains draining
  ⟨5, 5, (.u 4), .w1c, 0, .any, 0⟩,  -- Drain-limit expiries
  ⟨6, 6, (.u 4), .w1c, 0, .any, 0⟩,  -- Frames stomped at drain
  ⟨7, 7, (.u 4), .w1c, 0, .any, 0⟩]⟩  -- Power switch faults

/-- R470, 20_power_clocks_reset_startup.md. -/
def card5030 : Card := ⟨0x5030, 0x1, 1, [
  ⟨0, 0, (.u 1), .ro, 6, .any, 0⟩,  -- Highest subindex
  ⟨1, 1, (.u 2), .ro, 0, .any, 0⟩,  -- PLLs locked
  ⟨2, 2, (.u 1), .ro, 0, .any, 0⟩,  -- XTAL state
  ⟨3, 3, .bool, .ro, 0, .any, 0⟩,  -- 32.768 kHz present
  ⟨4, 4, (.u 4), .ro, 0, .any, 0⟩,  -- ACLK frequency
  ⟨5, 5, (.i 2), .ro, 0, .any, 0⟩,  -- CCLK deviation
  ⟨6, 6, (.u 4), .w1c, 0, .any, 0⟩]⟩  -- Unlock events

/-- R310, 13_wake_sleep_partial.md. -/
def card5040 : Card := ⟨0x5040, 0x1, 1, [
  ⟨0, 0, (.u 1), .ro, 9, .any, 0⟩,  -- Highest subindex
  ⟨1, 1, (.u 1), .rwc, 2, (.range 0 2), 0⟩,  -- Sleep depth
  ⟨2, 2, (.u 2), .rwc, 60, (.range 1 1440), 0⟩,  -- Warm dwell limit
  ⟨3, 3, .bool, .rwc, 1, .any, 0⟩,  -- Device sleep enable
  ⟨4, 4, (.u 4), .rwc, 600, (.rangeOr 10 86400 [0]), 0⟩,  -- Safe sleep timeout
  ⟨5, 5, .bool, .rwc, 1, .any, 0⟩,  -- PE_WAKE_N on wake
  ⟨6, 6, (.u 1), .rwc, 255, .any, 0⟩,  -- INH_OUT2 clusters
  ⟨7, 7, (.u 1), .rwc, 255, .any, 0⟩,  -- INH_OUT3 clusters
  ⟨8, 8, (.u 1), .ro, 0, .any, 0⟩,  -- Handshake state
  ⟨9, 9, (.u 1), .ro, 255, .any, 0⟩]⟩  -- Last sleep depth

/-- R310, 13_wake_sleep_partial.md. -/
def card5041 : Card := ⟨0x5041, 0x1, 1, [
  ⟨0, 0, (.u 1), .ro, 9, .any, 0⟩,  -- Highest subindex
  ⟨1, 1, (.octet 12), .rwc, 0xFFFFFFFFFFFFFFFFFFFFF, (.mask 0xFFFFFFFFFFFFFFFFFFFFF), 0⟩,  -- Source enables
  ⟨2, 2, (.u 1), .rwc, 4, (.range 1 255), 0⟩,  -- CAN filter
  ⟨3, 3, (.u 1), .rwc, 120, (.range 1 255), 0⟩,  -- LIN filter
  ⟨4, 4, (.u 1), .rwc, 200, (.range 1 255), 0⟩,  -- WAKE_IN filter
  ⟨5, 5, (.u 1), .rwc, 0, .any, 0⟩,  -- WAKE_IN mode
  ⟨6, 6, (.octet 4), .rwc, 0xFFFFFFFF, .special, 0⟩,  -- WAKE_IN clusters
  ⟨7, 7, (.u 1), .rwc, 255, .any, 0⟩,  -- Host wake clusters
  ⟨8, 8, (.u 4), .rwc, 0, (.range 0 604800), 0⟩,  -- Wake timer
  ⟨9, 9, (.u 1), .rwc, 255, .any, 0⟩]⟩  -- Wake timer clusters

/-- R310, 13_wake_sleep_partial.md. -/
def card5042 : Card := ⟨0x5042, 0x1, 1, [
  ⟨0, 0, (.u 1), .ro, 6, .any, 0⟩,  -- Highest subindex
  ⟨1, 1, (.u 1), .ro, 255, .any, 0⟩,  -- Last wake source
  ⟨2, 2, .time80, .ro, 0, .any, 0⟩,  -- Last wake time
  ⟨3, 3, (.u 1), .ro, 0, .any, 0⟩,  -- Last wake kind
  ⟨4, 4, (.u 4), .w1c, 0, .any, 0⟩,  -- Wakes
  ⟨5, 5, (.u 4), .w1c, 0, .any, 0⟩,  -- Ignored wakes
  ⟨6, 6, (.u 4), .w1c, 0, .any, 0⟩]⟩  -- Masked wakes

/-- R310, 13_wake_sleep_partial.md. -/
def card5043 : Card := ⟨0x5043, 0x1, 1, [
  ⟨0, 0, (.u 1), .ro, 5, .any, 0⟩,  -- Highest subindex
  ⟨1, 1, (.u 4), .w1c, 0, .any, 0⟩,  -- Fail-safe sleeps
  ⟨2, 2, (.u 1), .ro, 0, .any, 0⟩,  -- Consecutive
  ⟨3, 3, (.u 1), .ro, 0, .any, 0⟩,  -- Last cause
  ⟨4, 4, (.u 4), .ro, 0, .any, 0⟩,  -- Backoff remaining
  ⟨5, 5, .time80, .ro, 0, .any, 0⟩]⟩  -- Last fail-safe time

/-- R470, 20_power_clocks_reset_startup.md. -/
def card5050 : Card := ⟨0x5050, 0x1, 1, [
  ⟨0, 0, (.u 1), .ro, 6, .any, 0⟩,  -- Highest subindex
  ⟨1, 1, (.u 2), .ro, 0, .any, 0⟩,  -- Straps
  ⟨2, 2, (.u 1), .ro, 0, .any, 0⟩,  -- Last reset cause
  ⟨3, 3, (.u 4), .w1c, 0, .any, 0⟩,  -- Resets
  ⟨4, 4, (.u 4), .ro, 0, .any, 0⟩,  -- Reset extension
  ⟨5, 5, (.u 1), .seal, 0, (.oneOf [1]), 2⟩,  -- Software reset
  ⟨6, 6, (.u 1), .ro, 0, .any, 0⟩]⟩  -- VDDIO_GEN level

/-- R329, 14_pairing_and_failover.md. -/
def card5400 : Card := ⟨0x5400, 0x1, 1, [
  ⟨0, 0, (.u 1), .ro, 12, .any, 0⟩,  -- Highest subindex
  ⟨1, 1, (.u 1), .ro, 0, .any, 0⟩,  -- Pair role
  ⟨2, 2, (.u 1), .rwc, 0, (.range 0 2), 0⟩,  -- Pair number
  ⟨3, 3, (.u 8), .rwc, 0, .any, 0⟩,  -- Leased engines
  ⟨4, 4, (.u 8), .rwc, 0, .any, 0⟩,  -- Leased container streams
  ⟨5, 5, (.u 1), .rwc, 0, (.range 0 7), 0⟩,  -- Partner device number
  ⟨6, 6, (.u 1), .rwc, 0, (.rangeOr 0 7 [255]), 0⟩,  -- Referee device number
  ⟨7, 7, (.u 1), .rwc, 255, (.rangeOr 0 47 [255]), 0⟩,  -- Lease CAN engine
  ⟨8, 8, (.u 4), .rwc, 0x20000100, (.mask 0x3FFFFFFF), 0⟩,  -- Lease identifier base
  ⟨9, 9, (.u 1), .rwc, 0, .any, 0⟩,  -- Key slot
  ⟨10, 10, (.u 4), .rwc, 0x186A0, (.range 1 125000), 0⟩,  -- Sync limit
  ⟨11, 11, (.u 2), .rwc, 20, (.range 1 1000), 0⟩,  -- Compare window
  ⟨12, 12, (.u 2), .rwc, 8, (.range 1 1000), 0⟩]⟩  -- Disagreement limit

/-- R329, 14_pairing_and_failover.md. -/
def card5401 : Card := ⟨0x5401, 0x1, 1, [
  ⟨0, 0, (.u 1), .ro, 11, .any, 0⟩,  -- Highest subindex
  ⟨1, 1, (.u 1), .ro, 0, .any, 0⟩,  -- Member state
  ⟨2, 2, .bool, .ro, 0, .any, 0⟩,  -- Lease valid
  ⟨3, 3, .time80, .ro, 0, .any, 0⟩,  -- Lease end
  ⟨4, 4, (.u 4), .ro, 0, .any, 0⟩,  -- Last lease sequence
  ⟨5, 5, .bool, .ro, 0, .any, 0⟩,  -- Synchronised
  ⟨6, 6, .bool, .ro, 0, .any, 0⟩,  -- Referee heard
  ⟨7, 7, (.u 2), .ro, 65535, .any, 0⟩,  -- Partner health age
  ⟨8, 8, (.u 4), .w1c, 0, .any, 0⟩,  -- Leases gained
  ⟨9, 9, (.u 4), .w1c, 0, .any, 0⟩,  -- Leases lost
  ⟨10, 10, (.u 4), .w1c, 0, .any, 0⟩,  -- Messages rejected
  ⟨11, 11, (.u 4), .w1c, 0, .any, 0⟩]⟩  -- Starts held by gate

/-- R329, 14_pairing_and_failover.md. -/
def card5402 : Card := ⟨0x5402, 0x1, 1, [
  ⟨0, 0, (.u 1), .ro, 7, .any, 0⟩,  -- Highest subindex
  ⟨1, 1, (.u 4), .w1c, 0, .any, 0⟩,  -- Frames compared
  ⟨2, 2, (.u 4), .w1c, 0, .any, 0⟩,  -- Matches
  ⟨3, 3, (.u 4), .w1c, 0, .any, 0⟩,  -- Padding-only differences
  ⟨4, 4, (.u 4), .w1c, 0, .any, 0⟩,  -- Mismatches
  ⟨5, 5, (.u 4), .w1c, 0, .any, 0⟩,  -- Omissions
  ⟨6, 6, (.octet 16), .ro, 0, .any, 0⟩,  -- Last mismatch
  ⟨7, 7, (.u 4), .w1c, 0, .any, 0⟩]⟩  -- Containers suppressed

/-- R329, 14_pairing_and_failover.md. -/
def card5440 : Card := ⟨0x5440, 0x1, 3, [
  ⟨0, 0, (.u 1), .ro, 14, .any, 0⟩,  -- Highest subindex
  ⟨1, 1, .bool, .rwc, 0, .any, 0⟩,  -- Enable
  ⟨2, 2, (.u 1), .rwc, 0, (.range 0 7), 0⟩,  -- Member A device
  ⟨3, 3, (.u 1), .rwc, 1, (.range 0 7), 0⟩,  -- Member B device
  ⟨4, 4, (.u 1), .rwc, 255, (.rangeOr 0 47 [255]), 0⟩,  -- Lease CAN engine
  ⟨5, 5, (.u 4), .rwc, 0x20000100, .any, 0⟩,  -- Lease identifier base
  ⟨6, 6, (.u 1), .rwc, 0, .any, 0⟩,  -- Key slot
  ⟨7, 7, (.u 2), .rwc, 1000, (.range 1000 10000), 0⟩,  -- Unsynchronised guard
  ⟨8, 8, (.u 1), .ro, 0, .any, 0⟩,  -- Holder
  ⟨9, 9, .time80, .ro, 0, .any, 0⟩,  -- Lease end
  ⟨10, 10, (.u 1), .ro, 0, .any, 0⟩,  -- Eligibility
  ⟨11, 11, (.u 1), .cmd, 0, (.oneOf [1, 2, 3]), 0⟩,  -- Command
  ⟨12, 12, (.u 4), .w1c, 0, .any, 0⟩,  -- Lease moves
  ⟨13, 13, (.u 4), .w1c, 0, .any, 0⟩,  -- Failures decided
  ⟨14, 14, (.u 1), .ro, 0, .any, 0⟩]⟩  -- Last move cause

/-- R425, 18_fault_collection.md. -/
def card5800 : Card := ⟨0x5800, 0x1, 1, [
  ⟨0, 0, (.u 1), .ro, 13, .any, 0⟩,  -- Highest subindex
  ⟨1, 1, (.u 1), .ro, 255, .any, 0⟩,  -- Highest class set
  ⟨2, 2, (.u 1), .ro, 0, .any, 0⟩,  -- Reaction in progress
  ⟨3, 3, (.u 2), .ro, 0, .any, 0⟩,  -- Pending reactions
  ⟨4, 4, (.u 2), .ro, 65535, .any, 0⟩,  -- First fault source
  ⟨5, 5, .time80, .ro, 0, .any, 0⟩,  -- First fault time
  ⟨6, 6, (.u 1), .ro, 255, .any, 0⟩,  -- First fault class
  ⟨7, 7, (.u 1), .seal, 0, (.oneOf [1]), 1⟩,  -- Clear first faults
  ⟨8, 8, (.u 1), .ro, 3, .any, 0⟩,  -- SAFE_N
  ⟨9, 9, (.u 1), .rwc, 13, (.range 1 255), 0⟩,  -- ERR_IN_N filter
  ⟨10, 10, (.octet 32), .ro, 0, .any, 0⟩,  -- Status bitmap
  ⟨11, 11, (.octet 32), .ro, 0, .any, 0⟩,  -- Enable bitmap
  ⟨12, 12, (.u 4), .w1c, 0, .any, 0⟩,  -- Safe entries
  ⟨13, 13, .bool, .rwc, 1, .any, 0⟩]⟩  -- Notice host event

/-- R425, 18_fault_collection.md. -/
def card5801 : Card := ⟨0x5801, 0x1, 1, [
  ⟨0, 0, (.u 1), .ro, 8, .any, 0⟩,  -- Highest subindex
  ⟨1, 4, (.u 2), .ro, 65535, .any, 0⟩,  -- First source, class 0–3
  ⟨5, 8, .time80, .ro, 0, .any, 0⟩]⟩  -- First time, class 0–3

/-- R425, 18_fault_collection.md. -/
def card5900 : Card := ⟨0x5900, 0x1, 256, [
  ⟨0, 0, (.u 1), .ro, 10, .any, 0⟩,  -- Highest subindex
  ⟨1, 1, .bool, .rwc, 0, .any, 0⟩,  -- Enable
  ⟨2, 2, (.u 1), .rwc, 0, .special, 0⟩,  -- Class
  ⟨3, 3, (.u 1), .ro, 0, .any, 0⟩,  -- Limits
  ⟨4, 4, .bool, .seal, 0, .any, 0⟩,  -- Status
  ⟨5, 5, (.u 4), .w1c, 0, .any, 0⟩,  -- Occurrences
  ⟨6, 6, .bool, .w1c, 0, .any, 0⟩,  -- Overrun
  ⟨7, 7, (.u 1), .seal, 0, (.oneOf [1]), 0⟩,  -- Force
  ⟨8, 8, .time80, .ro, 0, .any, 0⟩,  -- First time
  ⟨9, 9, .time80, .ro, 0, .any, 0⟩,  -- Last time
  ⟨10, 10, (.u 8), .ro, 0, .any, 0⟩]⟩  -- Data

/-- R354, 15_host_and_backbone_bridges.md. -/
def card5C00 : Card := ⟨0x5C00, 0x1, 1, [
  ⟨0, 0, (.u 1), .ro, 8, .any, 0⟩,  -- Highest subindex
  ⟨1, 1, (.u 1), .ro, 0, .any, 0⟩,  -- Link state
  ⟨2, 2, (.u 1), .ro, 0, .any, 0⟩,  -- Link speed
  ⟨3, 3, (.u 1), .ro, 0, .any, 0⟩,  -- Link width
  ⟨4, 4, (.u 4), .w1c, 0, .any, 0⟩,  -- Unsupported requests
  ⟨5, 5, (.u 4), .w1c, 0, .any, 0⟩,  -- Completer aborts
  ⟨6, 6, (.u 4), .w1c, 0, .any, 0⟩,  -- Uncorrectable errors
  ⟨7, 7, (.u 4), .w1c, 0, .any, 0⟩,  -- Correctable errors
  ⟨8, 8, (.u 4), .w1c, 0, .any, 0⟩]⟩  -- Function level resets

/-- R354, 15_host_and_backbone_bridges.md. -/
def card5C01 : Card := ⟨0x5C01, 0x1, 1, [
  ⟨0, 0, (.u 1), .ro, 2, .any, 0⟩,  -- Highest subindex
  ⟨1, 1, .bool, .rwc, 0, .any, 0⟩,  -- Enable
  ⟨2, 2, (.u 4), .rwc, 0, (.oneOf [0, 32768]), 0⟩]⟩  -- Base

/-- R354, 15_host_and_backbone_bridges.md. -/
def card5C10 : Card := ⟨0x5C10, 0x1, 1, [
  ⟨0, 0, (.u 1), .ro, 3, .any, 0⟩,  -- Highest subindex
  ⟨1, 1, (.u 4), .w1c, 0, .any, 0⟩,  -- Cause
  ⟨2, 2, (.u 4), .rw, 31, .any, 0⟩,  -- Enable
  ⟨3, 3, (.u 1), .rwc, 4, (.range 0 127), 0⟩]⟩  -- Vector

/-- R354, 15_host_and_backbone_bridges.md. -/
def card5C20 : Card := ⟨0x5C20, 0x1, 1, [
  ⟨0, 0, (.u 1), .ro, 11, .any, 0⟩,  -- Highest subindex
  ⟨1, 1, .bool, .rwc, 0, .any, 0⟩,  -- Enable
  ⟨2, 2, (.u 4), .rwc, 15, (.mask 0x3FFFFFFF), 0⟩,  -- Ports
  ⟨3, 3, (.u 2), .rwc, 1, (.range 1 4094), 0⟩,  -- VID
  ⟨4, 4, (.u 1), .rwc, 7, (.range 0 7), 0⟩,  -- PCP
  ⟨5, 5, (.u 1), .ro, 0, .any, 0⟩,  -- Reserved
  ⟨6, 6, (.u 1), .rwc, 0, .any, 0⟩,  -- Key slot
  ⟨7, 7, (.u 2), .rwc, 200, (.range 50 5000), 0⟩,  -- Retransmit timeout
  ⟨8, 8, (.u 1), .rwc, 8, (.range 1 32), 0⟩,  -- Retransmit limit
  ⟨9, 9, (.u 2), .rwc, 100, (.range 10 1000), 0⟩,  -- HELLO interval
  ⟨10, 10, (.u 4), .w1c, 0, .any, 0⟩,  -- Authentication failures
  ⟨11, 11, (.u 4), .w1c, 0, .any, 0⟩]⟩  -- Retransmissions

/-- R354, 15_host_and_backbone_bridges.md. -/
def card5C21 : Card := ⟨0x5C21, 0x1, 1, [
  ⟨0, 0, (.u 1), .ro, 8, .any, 0⟩,  -- Highest subindex
  ⟨1, 1, (.u 1), .rw, 0, (.range 0 31), 0⟩,  -- Entry
  ⟨2, 2, .bool, .rw, 0, .any, 0⟩,  -- Enable
  ⟨3, 3, (.u 1), .rw, 1, (.rangeOr 1 4 [7]), 0⟩,  -- Kind
  ⟨4, 4, (.u 2), .rw, 0, .any, 0⟩,  -- Number
  ⟨5, 5, (.u 1), .rw, 0, (.range 0 7), 0⟩,  -- Destination device
  ⟨6, 6, (.u 1), .rw, 0, (.range 0 2), 0⟩,  -- Remote action
  ⟨7, 7, (.u 1), .rw, 0, (.range 0 127), 0⟩,  -- Action operand
  ⟨8, 8, (.u 1), .cmd, 0, (.oneOf [1, 2]), 0⟩]⟩  -- Command

/-- R354, 15_host_and_backbone_bridges.md. -/
def card5C22 : Card := ⟨0x5C22, 0x1, 1, [
  ⟨0, 0, (.u 1), .ro, 3, .any, 0⟩,  -- Highest subindex
  ⟨1, 1, (.u 1), .rw, 0, (.range 0 7), 0⟩,  -- Destination device
  ⟨2, 2, (.octet 8), .rw, 0, .any, 0⟩,  -- Data
  ⟨3, 3, (.u 1), .cmd, 0, (.oneOf [1]), 0⟩]⟩  -- Send

/-- R354, 15_host_and_backbone_bridges.md. -/
def card5C28 : Card := ⟨0x5C28, 0x1, 8, [
  ⟨0, 0, (.u 1), .ro, 8, .any, 0⟩,  -- Highest subindex
  ⟨1, 1, .bool, .ro, 0, .any, 0⟩,  -- Present
  ⟨2, 2, (.octet 6), .ro, 0, .any, 0⟩,  -- MAC
  ⟨3, 3, (.u 1), .ro, 0, .any, 0⟩,  -- Link state
  ⟨4, 4, (.u 1), .ro, 0, .any, 0⟩,  -- Non-posted outstanding
  ⟨5, 5, (.u 2), .w1c, 0, .any, 0⟩,  -- Credit wait high-water
  ⟨6, 6, (.u 2), .ro, 0, .any, 0⟩,  -- Epoch
  ⟨7, 7, .time80, .ro, 0, .any, 0⟩,  -- Last HELLO
  ⟨8, 8, (.u 4), .w1c, 0, .any, 0⟩]⟩  -- Events lost

/-- R354, 15_host_and_backbone_bridges.md. -/
def card5C30 : Card := ⟨0x5C30, 0x1, 1, [
  ⟨0, 0, (.u 1), .ro, 7, .any, 0⟩,  -- Highest subindex
  ⟨1, 1, (.u 1), .rw, 0, (.range 0 1), 0⟩,  -- Bridge
  ⟨2, 2, (.u 1), .rw, 0, (.range 0 15), 0⟩,  -- Window
  ⟨3, 3, .bool, .rw, 0, .any, 0⟩,  -- Side-effect-free
  ⟨4, 4, (.u 4), .rw, 0, .any, 0⟩,  -- Start
  ⟨5, 5, (.u 4), .rw, 0, .any, 0⟩,  -- End
  ⟨6, 6, (.u 2), .rw, 100, (.range 1 10000), 0⟩,  -- Hold time
  ⟨7, 7, (.u 1), .cmd, 0, (.oneOf [1, 2]), 0⟩]⟩  -- Command

/-- R354, 15_host_and_backbone_bridges.md. -/
def card5C40 : Card := ⟨0x5C40, 0x1, 1, [
  ⟨0, 0, (.u 1), .ro, 6, .any, 0⟩,  -- Highest subindex
  ⟨1, 1, (.u 4), .w1c, 0, .any, 0⟩,  -- Prefetches issued
  ⟨2, 2, (.u 4), .w1c, 0, .any, 0⟩,  -- Reads served from prefetch
  ⟨3, 3, .bool, .w1c, 0, .any, 0⟩,  -- Local suppression
  ⟨4, 4, (.u 4), .w1c, 0, .any, 0⟩,  -- Local suppressions
  ⟨5, 5, (.u 4), .w1c, 0, .any, 0⟩,  -- Volatile values lost
  ⟨6, 6, (.octet 4), .ro, 0, .any, 0⟩]⟩  -- Last lost object

/-- R371, 16_dma.md. -/
def card5D00 : Card := ⟨0x5D00, 0x1, 64, [
  ⟨0, 0, (.u 1), .ro, 21, .any, 0⟩,  -- Highest subindex
  ⟨1, 1, (.u 1), .rwc, 0, (.range 0 3), 0⟩,  -- Kind
  ⟨2, 2, (.u 1), .rwc, 1, (.oneOf [1, 2, 4, 8, 16]), 0⟩,  -- Gang size
  ⟨3, 3, (.u 1), .rwc, 0, (.range 0 7), 0⟩,  -- HP queue
  ⟨4, 4, .bool, .rwc, 0, .any, 0⟩,  -- No Snoop
  ⟨5, 5, (.u 1), .rwc, 0, (.range 0 127), 0⟩,  -- Vector
  ⟨6, 6, (.u 8), .rw, 0, .special, 0⟩,  -- Ring base
  ⟨7, 7, (.u 2), .rw, 256, .special, 0⟩,  -- Ring size
  ⟨8, 8, (.u 8), .rw, 0, .special, 0⟩,  -- Pointer write-back address
  ⟨9, 9, (.u 1), .rw, 1, (.range 1 255), 0⟩,  -- Trigger step
  ⟨10, 10, (.u 4), .cmd, 0, (.mask 0xFFFF), 0⟩,  -- Doorbell
  ⟨11, 11, (.u 2), .ro, 0, .any, 0⟩,  -- Consumer index
  ⟨12, 12, (.u 1), .cmd, 0, (.oneOf [1, 2, 3, 4]), 0⟩,  -- Control
  ⟨13, 13, (.u 1), .ro, 1, .any, 0⟩,  -- State
  ⟨14, 14, (.u 1), .ro, 0, .any, 0⟩,  -- Last status
  ⟨15, 15, (.u 4), .ro, 0, .any, 0⟩,  -- Residue
  ⟨16, 16, (.u 1), .w1c, 0, .any, 0⟩,  -- Interrupt cause
  ⟨17, 17, (.octet 8), .ro, 0, .any, 0⟩,  -- Completion pop
  ⟨18, 18, (.u 4), .w1c, 0, .any, 0⟩,  -- Descriptors completed
  ⟨19, 19, (.u 4), .w1c, 0, .any, 0⟩,  -- Ring drops
  ⟨20, 20, (.u 4), .w1c, 0, .any, 0⟩,  -- Not-ready stops
  ⟨21, 21, (.u 8), .w1c, 0, .any, 0⟩]⟩  -- Bytes moved

/-- The cards of this file. -/
def cardsD : List Card :=
  [card5000, card5001, card5010, card5020, card5030, card5040, card5041, card5042, card5043, card5050, card5400, card5401, card5402, card5440, card5800, card5801, card5900, card5C00, card5C01, card5C10, card5C20, card5C21, card5C22, card5C28, card5C30, card5C40, card5D00]

end Sys2Proof.Machine
end

