-- ==== Sys2Proof/Machine/CardTableE.lean ====
section
/-!
DEFINITION. CardTableE.lean: object cards of 0x6000–0x7FFF, row by row as the spec prints them.
-/
namespace Sys2Proof.Machine

/-- R404, 17_crust_security.md. -/
def card6000 : Card := ⟨0x6000, 0x1, 1, [
  ⟨0, 0, (.u 1), .ro, 8, .any, 0⟩,  -- Highest subindex
  ⟨1, 1, (.u 1), .ro, 0, .any, 0⟩,  -- Lifecycle
  ⟨2, 2, .bool, .ro, 0, .any, 0⟩,  -- JTAG locked
  ⟨3, 3, (.u 1), .ro, 0, .any, 0⟩,  -- Boot path
  ⟨4, 4, (.u 1), .seal, 0, (.mask 0xF), 2⟩,  -- Tamper latched
  ⟨5, 5, .bool, .ro, 0, .any, 0⟩,  -- Evaluated configuration
  ⟨6, 6, (.u 8), .ro, 0, .any, 0⟩,  -- Thermometer
  ⟨7, 7, (.u 2), .ro, 0, .any, 0⟩,  -- Security version minor
  ⟨8, 8, (.u 1), .ro, 0, .any, 0⟩]⟩  -- TRNG state

/-- R404, 17_crust_security.md. -/
def card6001 : Card := ⟨0x6001, 0x1, 1, [
  ⟨0, 0, (.u 1), .ro, 3, .any, 0⟩,  -- Highest subindex
  ⟨1, 1, (.u 1), .ro, 1, .any, 0⟩,  -- First unmet condition
  ⟨2, 2, (.u 4), .ro, 0, .any, 0⟩,  -- Unmet conditions
  ⟨3, 3, .time80, .ro, 0, .any, 0⟩]⟩  -- Last change

/-- R404, 17_crust_security.md. -/
def card6010 : Card := ⟨0x6010, 0x1, 1, [
  ⟨0, 0, (.u 1), .ro, 6, .any, 0⟩,  -- Highest subindex
  ⟨1, 1, (.u 1), .rw, 1, (.range 1 4), 0⟩,  -- Requested role
  ⟨2, 2, (.octet 64), .ro, 0, .any, 0⟩,  -- Challenge
  ⟨3, 3, (.octet 97), .wo, 0, .any, 0⟩,  -- Response
  ⟨4, 4, (.u 1), .rw, 0, (.range 0 0), 0⟩,  -- Role held
  ⟨5, 5, (.u 2), .ro, 0, .any, 0⟩,  -- Lockout remaining
  ⟨6, 6, (.u 1), .ro, 0, .any, 0⟩]⟩  -- Consecutive failures

/-- R404, 17_crust_security.md. -/
def card6020 : Card := ⟨0x6020, 0x1, 1, [
  ⟨0, 0, (.u 1), .ro, 9, .any, 0⟩,  -- Highest subindex
  ⟨1, 1, (.u 1), .rw, 0, .any, 0⟩,  -- Slot
  ⟨2, 2, (.u 1), .ro, 0, .any, 0⟩,  -- Type
  ⟨3, 3, (.u 2), .ro, 0, .any, 0⟩,  -- Usage
  ⟨4, 4, (.u 1), .ro, 0, .any, 0⟩,  -- Origin
  ⟨5, 5, .bool, .ro, 0, .any, 0⟩,  -- Persistent
  ⟨6, 6, (.octet 4), .ro, 0, .any, 0⟩,  -- Check value
  ⟨7, 7, (.octet 128), .wo, 0, .any, 0⟩,  -- Input
  ⟨8, 8, (.u 1), .cmd, 0, (.oneOf [1, 2, 3, 4, 7]), 0⟩,  -- Command
  ⟨9, 9, (.octet 97), .ro, 0, .any, 0⟩]⟩  -- Public key

/-- R404, 17_crust_security.md. -/
def card6030 : Card := ⟨0x6030, 0x1, 1, [
  ⟨0, 0, (.u 1), .ro, 6, .any, 0⟩,  -- Highest subindex
  ⟨1, 1, (.u 1), .rw, 0, (.range 0 223), 0⟩,  -- KEK slot
  ⟨2, 2, (.u 1), .rw, 0, (.range 0 223), 0⟩,  -- ICK slot
  ⟨3, 3, (.u 1), .rw, 0, (.range 0 223), 0⟩,  -- CAK slot
  ⟨4, 4, (.octet 1500), .wo, 0, .any, 0⟩,  -- MKPDU
  ⟨5, 5, (.octet 16), .ro, 0, .any, 0⟩,  -- ICV
  ⟨6, 6, (.u 1), .cmd, 0, (.oneOf [1, 2]), 0⟩]⟩  -- Command

/-- R404, 17_crust_security.md. -/
def card6040 : Card := ⟨0x6040, 0x1, 1, [
  ⟨0, 0, (.u 1), .ro, 12, .any, 0⟩,  -- Highest subindex
  ⟨1, 1, (.u 8), .ro, 0, .any, 0⟩,  -- Head counter
  ⟨2, 2, (.u 8), .ro, 0, .any, 0⟩,  -- Oldest held
  ⟨3, 3, (.u 8), .rw, 0, .any, 0⟩,  -- Record select
  ⟨4, 4, (.octet 128), .seal, 0, .any, 1⟩,  -- Record
  ⟨5, 5, (.u 8), .seal, 0, .special, 2⟩,  -- Acknowledged through
  ⟨6, 6, (.u 4), .ro, 0, .any, 0⟩,  -- Overwritten unacknowledged
  ⟨7, 7, (.u 4), .ro, 0, .any, 0⟩,  -- Queue drops
  ⟨8, 8, (.u 8), .rw, 0, .any, 0⟩,  -- Export first
  ⟨9, 9, (.u 8), .rw, 0, .any, 0⟩,  -- Export last
  ⟨10, 10, (.octet 144), .seal, 0, .any, 1⟩,  -- Export result
  ⟨11, 11, (.u 1), .seal, 0, (.range 1 1), 1⟩,  -- Command
  ⟨12, 12, (.octet 32), .ro, 0, .any, 0⟩]⟩  -- Chain head

/-- R404, 17_crust_security.md. -/
def card6050 : Card := ⟨0x6050, 0x1, 16, [
  ⟨0, 0, (.u 1), .ro, 4, .any, 0⟩,  -- Highest subindex
  ⟨1, 1, .bool, .ro, 0, .any, 0⟩,  -- Bound
  ⟨2, 2, (.octet 32), .ro, 0, .any, 0⟩,  -- Bound digest
  ⟨3, 3, .time80, .ro, 0, .any, 0⟩,  -- Bound time
  ⟨4, 4, (.u 1), .seal, 0, (.oneOf [1, 2]), 2⟩]⟩  -- Command

/-- R404, 17_crust_security.md. -/
def card6060 : Card := ⟨0x6060, 0x1, 1, [
  ⟨0, 0, (.u 1), .ro, 5, .any, 0⟩,  -- Highest subindex
  ⟨1, 3, (.u 1), .seal, 1, (.range 0 2), 3⟩,  -- Voltage, clock, temperature response
  ⟨4, 4, (.u 4), .ro, 0, .any, 0⟩,  -- Events
  ⟨5, 5, .time80, .ro, 0, .any, 0⟩]⟩  -- Last event

/-- R404, 17_crust_security.md. -/
def card6100 : Card := ⟨0x6100, 0x1, 16, [
  ⟨0, 0, (.u 1), .ro, 16, .any, 0⟩,  -- Highest subindex
  ⟨1, 1, .bool, .rwc, 0, .any, 0⟩,  -- Enable
  ⟨2, 2, (.u 1), .rwc, 0, (.range 0 3), 0⟩,  -- Cipher suite
  ⟨3, 3, .bool, .rwc, 0, .any, 0⟩,  -- Integrity only
  ⟨4, 4, (.u 1), .rwc, 0, (.range 0 2), 0⟩,  -- Validate frames
  ⟨5, 5, .bool, .rwc, 1, .any, 0⟩,  -- Replay protect
  ⟨6, 6, (.u 4), .rwc, 0, .any, 0⟩,  -- Replay window
  ⟨7, 7, (.octet 8), .rwc, 0, .any, 0⟩,  -- Transmit SCI
  ⟨8, 8, (.u 1), .rwc, 1, (.mask 0x7), 0⟩,  -- SecTAG options
  ⟨9, 9, (.u 1), .rw, 0, (.range 0 3), 0⟩,  -- Transmit AN
  ⟨10, 10, (.u 8), .ro, 0, .any, 0⟩,  -- Frames protected
  ⟨11, 11, (.u 8), .ro, 0, .any, 0⟩,  -- Frames validated
  ⟨12, 12, (.u 4), .w1c, 0, .any, 0⟩,  -- ICV failures
  ⟨13, 13, (.u 4), .w1c, 0, .any, 0⟩,  -- Replay drops
  ⟨14, 14, (.u 4), .w1c, 0, .any, 0⟩,  -- Unprotected drops
  ⟨15, 15, (.u 4), .w1c, 0, .any, 0⟩,  -- Withheld drops
  ⟨16, 16, (.u 1), .ro, 0, .any, 0⟩]⟩  -- Secure state

/-- R404, 17_crust_security.md. -/
def card6180 : Card := ⟨0x6180, 0x1, 1, [
  ⟨0, 0, (.u 1), .ro, 12, .any, 0⟩,  -- Highest subindex
  ⟨1, 1, (.u 1), .rw, 0, (.range 0 15), 0⟩,  -- Port
  ⟨2, 2, (.u 1), .rw, 0, (.range 0 1), 0⟩,  -- Direction
  ⟨3, 3, (.u 1), .rw, 0, (.range 0 30), 0⟩,  -- Receive SC
  ⟨4, 4, (.octet 8), .rw, 0, .any, 0⟩,  -- SCI
  ⟨5, 5, (.u 1), .rw, 0, (.range 0 3), 0⟩,  -- AN
  ⟨6, 6, (.u 1), .rw, 0, (.range 0 223), 0⟩,  -- Key slot
  ⟨7, 7, (.u 8), .rw, 1, .special, 0⟩,  -- Next PN
  ⟨8, 8, (.u 4), .rw, 0, .any, 0⟩,  -- SSCI
  ⟨9, 9, (.octet 12), .rw, 0, .any, 0⟩,  -- Salt
  ⟨10, 10, .bool, .rw, 0, .any, 0⟩,  -- Enable
  ⟨11, 11, (.u 8), .ro, 0, .any, 0⟩,  -- Lowest acceptable PN
  ⟨12, 12, (.u 1), .cmd, 0, (.oneOf [1, 2]), 0⟩]⟩  -- Command

/-- R446, 19_update.md. -/
def card6800 : Card := ⟨0x6800, 0x1, 1, [
  ⟨0, 0, (.u 1), .ro, 10, .any, 0⟩,  -- Highest subindex
  ⟨1, 1, (.u 1), .rw, 1, (.range 1 2), 0⟩,  -- Target kind
  ⟨2, 2, (.u 1), .rw, 0, (.range 0 1), 0⟩,  -- Form
  ⟨3, 3, (.u 4), .rw, 0, (.range 1 4194304), 0⟩,  -- Package length
  ⟨4, 4, (.u 4), .ro, 0, .any, 0⟩,  -- Write offset
  ⟨5, 5, (.octet 4096), .wo, 0, .any, 0⟩,  -- Data
  ⟨6, 6, (.u 1), .seal, 0, (.oneOf [1, 2, 3]), 1⟩,  -- Command
  ⟨7, 7, (.u 1), .ro, 0, .any, 0⟩,  -- Stage state
  ⟨8, 8, (.u 2), .ro, 0, .any, 0⟩,  -- Last result
  ⟨9, 9, (.octet 32), .ro, 0, .any, 0⟩,  -- Installed identity
  ⟨10, 10, (.u 4), .ro, 0, .any, 0⟩]⟩  -- Installed version

/-- R446, 19_update.md. -/
def card6801 : Card := ⟨0x6801, 0x1, 2, [
  ⟨0, 0, (.u 1), .ro, 9, .any, 0⟩,  -- Highest subindex
  ⟨1, 1, (.u 1), .ro, 0, .any, 0⟩,  -- Active slot
  ⟨2, 2, (.u 1), .ro, 0, .any, 0⟩,  -- Slot A state
  ⟨3, 3, (.u 1), .ro, 0, .any, 0⟩,  -- Slot B state
  ⟨4, 4, (.octet 32), .ro, 0, .any, 0⟩,  -- Slot A identity
  ⟨5, 5, (.octet 32), .ro, 0, .any, 0⟩,  -- Slot B identity
  ⟨6, 6, (.u 4), .ro, 0, .any, 0⟩,  -- Slot A version
  ⟨7, 7, (.u 4), .ro, 0, .any, 0⟩,  -- Slot B version
  ⟨8, 8, (.u 4), .ro, 0, .any, 0⟩,  -- Header sequence
  ⟨9, 9, (.u 2), .ro, 0, .any, 0⟩]⟩  -- Configuration floor

/-- R446, 19_update.md. -/
def card6808 : Card := ⟨0x6808, 0x1, 1, [
  ⟨0, 0, (.u 1), .ro, 8, .any, 0⟩,  -- Highest subindex
  ⟨1, 1, .time80, .rw, 0, .any, 0⟩,  -- Target
  ⟨2, 2, (.u 1), .rw, 3, (.mask 0x3), 0⟩,  -- Kinds
  ⟨3, 3, (.u 1), .rw, 0, (.range 0 1), 0⟩,  -- Holdover policy
  ⟨4, 4, (.u 4), .rw, 0, .any, 0⟩,  -- Group tag
  ⟨5, 5, (.u 1), .seal, 0, (.oneOf [1, 2, 3]), 1⟩,  -- Command
  ⟨6, 6, (.u 1), .ro, 0, .any, 0⟩,  -- State
  ⟨7, 7, (.u 1), .ro, 0, .any, 0⟩,  -- Cause
  ⟨8, 8, (.u 4), .w1c, 0, .any, 0⟩]⟩  -- Activations

/-- R446, 19_update.md. -/
def card6810 : Card := ⟨0x6810, 0x1, 1, [
  ⟨0, 0, (.u 1), .ro, 7, .any, 0⟩,  -- Highest subindex
  ⟨1, 1, (.u 2), .rwc, 60, (.range 10 3600), 0⟩,  -- Proofing window
  ⟨2, 2, .bool, .ro, 0, .any, 0⟩,  -- Firmware confirmed
  ⟨3, 3, .bool, .rwc, 0, .any, 0⟩,  -- Host confirmation required
  ⟨4, 4, (.u 1), .seal, 0, (.oneOf [1, 2]), 1⟩,  -- Host verdict
  ⟨5, 5, (.u 4), .ro, 0, .any, 0⟩,  -- Remaining
  ⟨6, 6, (.u 4), .w1c, 0, .any, 0⟩,  -- Reverts
  ⟨7, 7, .time80, .ro, 0, .any, 0⟩]⟩  -- Last revert

/-- R68, 03_ethernet_ports_and_phys.md. -/
def card7000 : Card := ⟨0x7000, 0x10, 33, [
  ⟨0, 0, (.u 1), .ro, 10, .any, 0⟩,  -- Highest subindex
  ⟨1, 1, (.u 8), .w1c, 0, .any, 0⟩,  -- Frames received
  ⟨2, 2, (.u 8), .w1c, 0, .any, 0⟩,  -- Octets received
  ⟨3, 3, (.u 4), .w1c, 0, .any, 0⟩,  -- FCS errors
  ⟨4, 4, (.u 4), .w1c, 0, .any, 0⟩,  -- Runts
  ⟨5, 5, (.u 4), .w1c, 0, .any, 0⟩,  -- Oversize
  ⟨6, 6, (.u 4), .w1c, 0, .any, 0⟩,  -- PCS or symbol errors
  ⟨7, 7, (.u 8), .w1c, 0, .any, 0⟩,  -- Frames transmitted
  ⟨8, 8, (.u 8), .w1c, 0, .any, 0⟩,  -- Octets transmitted
  ⟨9, 9, (.u 4), .w1c, 0, .any, 0⟩,  -- Frames stomped
  ⟨10, 10, (.u 4), .w1c, 0, .any, 0⟩]⟩  -- Dropped, port down

/-- R147, 06_queues_shapers_policers.md. -/
def card7400 : Card := ⟨0x7400, 0x1, 33, [
  ⟨0, 0, (.u 1), .ro, 16, .any, 0⟩,  -- Highest subindex
  ⟨1, 8, (.u 4), .w1c, 0, .any, 0⟩,  -- Occupancy high-water, queues 0–7
  ⟨9, 16, (.u 4), .w1c, 0, .any, 0⟩]⟩  -- Residence high-water, queues 0–7

/-- The cards of this file. -/
def cardsE : List Card :=
  [card6000, card6001, card6010, card6020, card6030, card6040, card6050, card6060, card6100, card6180, card6800, card6801, card6808, card6810, card7000, card7400]

end Sys2Proof.Machine
end

