-- ==== Sys2Proof/Machine/State.lean ====
section
/-!
DEFINITION. State.lean: the state of the block, as plain data. What an object of the dictionary holds stands in the
object stores `regs` and the banks; the other fields hold the state that no object names.
-/
namespace Sys2Proof.Machine

/-- The device states of R35, with their codes in the order of the table. -/
inductive DevState where
  | boot | catch_ | configure | operate | headless | safe | terminal | sleepPrep
deriving DecidableEq, Repr

/-- One bank of the committed or staged configuration (R17, R38, R191): RWC objects and table entries by key, the
static FDB entries (R86) and the flow entries (R174). -/
structure Bank where
  /-- RWC objects, key index·256 + sub; table fields, key (entry + 1)·2^24 + index·256 + sub (R38). -/
  objs : Tab Nat
  /-- Static FDB entries: key MAC·4096 + FID, value port mask, bit 40 set in the overflow table, bit 41
  always set (R84, R86). -/
  fdb : Tab Nat
  /-- Flow entries: key is the 40-byte key of 0x4013:01, value the flow class (R174). -/
  flows : Tab Nat
deriving DecidableEq, Repr

/-- A unit that a Degrade reaction withdraws (R11, R408). -/
inductive UnitId where
  | port (n : Nat) | cluster (n : Nat) | can (n : Nat) | lin (n : Nat) | canCluster (n : Nat) | linCluster
  | lane (n : Nat) | core | pcie | domain (n : Nat) | trng | authUnit | keySlot (n : Nat)
deriving DecidableEq, Repr

/-- What leaves the block, or is handed over inside it to a unit whose inside the spec does not describe: the model's
own record, newest first (assumption log 6). -/
inductive Out where
  /-- The answer to a session: status word and data (R34). -/
  | answer (ses : Session) (status : Nat) (data : Bytes)
  /-- A CAN frame sent in answer by SDO server n: its identifier and 8 bytes (R48). -/
  | sdo (server : Nat) (ident : Nat) (data : Bytes)
  /-- A PXP datagram (R49). -/
  | pxp (dest : PxpSource) (data : Bytes)
  /-- Bytes clocked out of the SPI slave (R54). -/
  | spi (data : Bytes)
  /-- A frame that a switch port sent to its end, with a correct or an inverted FCS (R98). -/
  | eth (port : Nat) (data : Bytes) (stomped : Bool)
  /-- An mPacket of verification (R160). -/
  | mPacket (port : Nat) (respond : Bool)
  /-- A CAN frame or LIN header and response sent (R219, R229). -/
  | can (engine : Nat) (frame : BusFrame)
  | linHeader (bus : Nat) (ident : Nat)
  | linResponse (bus : Nat) (data : Bytes)
  | linWake (bus : Nat)
  | canError (engine : Nat)
  /-- An MSI-X message (R336). -/
  | msix (vector : Nat)
  /-- A write to host memory: address and bytes (R361, R362, R364). -/
  | hostWrite (addr : Nat) (data : Bytes)
  /-- A read of host memory that a descriptor asks for (R363, R364). -/
  | hostRead (addr : Nat) (length : Nat)
  /-- A PCIe completion: whether it succeeds, whether it is a retry status, and data (R332, R334, R348). -/
  | completion (ok : Bool) (retry : Bool) (data : Bytes)
  /-- A frame of the backbone transport, a HELLO or an EVENT to a peer (R341–R349). -/
  | transport (peer : Nat) (data : Bytes)
  | hello (data : Bytes)
  | event (peer : Nat) (data : Bytes)
  /-- A pairing message (R317): on CAN engine `engine` with its identifier, or at 64 on the backbone. -/
  | pairing (engine ident : Nat) (data : Bytes)
  /-- A gPTP message sent: kind and port (R271, R273). -/
  | ptp (kind : Nat) (port : Nat) (time : Nat)
  /-- What the TAP shifts out (R492). -/
  | tdo (value : Nat)
  /-- An MDIO frame (R66), a TC10 request or wake-up (R72), and a BEACON (R260). -/
  | mdio (bus : Nat) (write : Bool) (addr mmd reg data : Nat)
  | tc10 (port : Nat) (wake : Bool)
  | beacon (port : Nat)
  /-- A pulse or level of a ball named by its number in the ball list of the model (R282, R286, R290, R417). -/
  | ball (name : String) (level : Nat)
  /-- A frame that its source hands to the host, the management core, the time unit or the bridge (R81). -/
  | toCore (data : Bytes)
  | toTime (data : Bytes)
  | toBridge (data : Bytes)
deriving DecidableEq, Repr

/-! ### Dictionary access (R38–R57) -/

/-- An open SDO transfer (R48): download or upload, segmented or block, and how far it has come. -/
structure SdoTransfer where
  upload : Bool
  block : Bool
  index : Nat
  sub : Nat
  buf : Bytes
  size : Nat
  toggle : Bool
  blkSize : Nat
  seqNo : Nat
  crc : Bool
  ending : Bool
  since : Nat
deriving DecidableEq, Repr

/-- A PXP session (R50, R51): phase (1 challenged, 2 accepted), client, requested role, nonces, key value, last
sequence accepted, cached response and time of the last accepted message. -/
structure PxpSession where
  phase : Nat
  id : Nat
  source : PxpSource
  role : Nat
  clientNonce : Bytes
  deviceNonce : Bytes
  key : Nat
  lastIn : Nat
  cached : Bytes
  since : Nat
deriving DecidableEq, Repr

/-- A BAR2 mailbox (R52): status, data, the two Done bits, and whether a request is being executed. -/
structure Mailbox where
  status : Nat
  data : Bytes
  done : Bool
  overrun : Bool
  busy : Bool
deriving DecidableEq, Repr

/-- A request that waits for its answer: from a remote device (R57), or device 8 for the end of a validation (R40). `path`: it came by its
path's own row, and `head` is what the answer there is made from. -/
structure RemoteReq where
  ses : Session
  device : Nat
  write : Bool
  index : Nat
  sub : Nat
  off : Nat
  len : Nat
  tag : Nat
  since : Nat
  path : Bool
  head : Bytes
deriving DecidableEq, Repr

/-- State of the dictionary service. -/
structure AccessSt where
  /-- Holder of the Configure lock (R38) and the monotonic time of its last access (R39). -/
  holder : Option Session
  holderSince : Nat
  /-- A commit is being validated (R40). -/
  validating : Bool
  /-- The dictionary has become available since the start (R47). -/
  available : Bool
  /-- A session that lost the lock to a scheduled activation: its next access is refused (R40). -/
  evicted : Option Session
  /-- The management core runs (R23, R37). -/
  coreUp : Bool
  /-- Monotonic time at which Headless was entered (R25). -/
  headlessSince : Nat
  /-- Open transfer of each SDO server (R48). -/
  sdo : Tab (Option SdoTransfer)
  /-- PXP sessions by number (R50, R51). -/
  pxp : Tab (Option PxpSession)
  /-- Accepted OPENs: source address and time, for the per-source rate (R50). -/
  opens : List (Nat × Nat)
  /-- BAR2 mailboxes (R52). -/
  mbox : Tab Mailbox
  /-- The SPI result that waits to be fetched: status and data (R54); MS_INT_N is low while one waits. -/
  spi : Option (Nat × Bytes)
  /-- Requests that wait for a late answer (R40, R57). -/
  remote : List RemoteReq
deriving DecidableEq, Repr

/-! ### Ethernet ports (R58–R79) -/

/-- Hidden state of a switch port. `phase`: 0 not started, 1 waiting for the PHY identifier, 2 writing the
initialisation list, 3 serdes enabled and polling. -/
structure PortSt where
  /-- Phase of the bring-up (R65). -/
  phase : Nat
  /-- Initialisation entry that is written next (R65). -/
  entry : Nat
  /-- The external PHY's polled link-status bit and the PCS lock (R62). -/
  phyLink : Bool
  pcsLock : Bool
  /-- The link record in use at the last bring-up, for comparison after a loss (R79). -/
  inUse : Nat
  /-- Record of the port is to be read again (R79). -/
  reread : Bool
  /-- The fallback mode of B+0x00:0A is in use (R63). -/
  fallback : Bool
  /-- Monotonic time from which the port waits (identifier retry, entry delay, TC10, starvation). -/
  since : Nat
  /-- Loss in Headless without a re-read (R79). -/
  lostHeadless : Bool
  /-- The link is to drop at the next frame boundary (R61). -/
  retrain : Bool
  /-- ID-bus slots whose record names the port, a bit each (R74), and wall time of the TC10 sleep request (R72). -/
  slot : Nat
  tcAt : Nat
  /-- Wall time of the last frame received (R306). -/
  lastAt : Nat
deriving DecidableEq, Repr

/-- One MDIO controller (R66): the frame in progress, and the pass-through commands that wait. A frame is (port, kind),
kind 0 poll, 1 pass-through read, 2 pass-through write, 3 identifier, 4 initialisation entry. -/
structure MdioSt where
  /-- Frame in progress (R66). -/
  busy : Option (Nat × Nat)
  /-- Pass-through commands that wait (R66). -/
  waiting : List (Nat × Nat)
deriving DecidableEq, Repr

/-! ### Frames, buffer and queues (R80–R147) -/

/-- A dynamic FDB entry: its port and its age (R84, R87, R88). -/
structure DynEntry where
  /-- Port of the entry (R85). -/
  port : Nat
  /-- Ageing scans without a refresh (R88). -/
  age : Nat
  /-- Running number of the learning, so that a flush spares later entries (R89). -/
  born : Nat
deriving DecidableEq, Repr

/-- The decision of one egress zone (R167): verdict 0 deny, 1 permit, 2 go deep; the deciding rule's table (0 miss,
1 CAN-ID, 2 ternary) and number; whether the deep stage decided it. -/
structure ZoneDec where
  /-- Egress zone (R166). -/
  zone : Nat
  /-- Verdict of the zone (R167). -/
  verdict : Nat
  /-- Table of the deciding rule (R167). -/
  table : Nat
  /-- Number of the deciding rule (R167). -/
  rule : Nat
  /-- The deep stage decided it (R177). -/
  deep : Bool
deriving DecidableEq, Repr

/-- A decision in flight (R165–R200), of the frame or PDU `id`. -/
structure Decision where
  /-- Frame or record decided on (R165). -/
  id : Nat
  /-- It is a bus record (R166). -/
  bus : Bool
  /-- Lane that runs it; 2 where no lane works. -/
  lane : Nat
  /-- Source port or bus of the key (R165). -/
  source : Nat
  /-- Ingress zone (R165). -/
  zone : Nat
  /-- Zones of the candidates (R166). -/
  zones : List Nat
  /-- Configuration epoch whose tables it uses (R17). -/
  epoch : Nat
  /-- Express decision per zone (R167). -/
  express : List ZoneDec
  /-- Decision per zone as it stands (R167, R177). -/
  final : List ZoneDec
  /-- Pass-pairs still to be compared (0 express, 1 D1, 2 D2, 3 D3), and whether the first of them is a retry (R200). -/
  pairs : List Nat
  retry : Bool
  /-- A zone goes deep (R167). -/
  deep : Bool
  /-- 0 runs; 1 denied by the redundant execution, or no lane works (R198, R201); 2 dropped at deep intake (R121);
  3 spoofed or in quarantine (R172, R186); 4 decided by the fixed set before the first commit (R187). -/
  outcome : Nat
  /-- The frame is malformed for the Sieve (R80). -/
  malformed : Bool
  /-- Payload check results and flow class of D1 (R195 word 2). -/
  checks : Nat
  flow : Nat
  /-- The digest disagreed with the list in the counter unit: no hits are counted (R198). -/
  noHits : Bool
  /-- Spoofed frame of a guard entry that asks for a trap copy to MP (R186). -/
  trapMP : Bool
deriving DecidableEq, Repr

/-- What the stream stages answer (R136): whether the frame passes, its colour, the DEI mark (2 none), the IPV (8 none), and
whether a copy already on its way is to be stomped for its length (R138). -/
structure Policed where
  ok : Bool
  colour : Nat
  mark : Nat
  ipv : Nat
  oversize : Bool
deriving DecidableEq, Repr

/-- A frame in the buffer. -/
structure Frame where
  /-- Running number of the frame (R102). -/
  id : Nat
  /-- Bytes from the destination MAC to the last byte before the FCS, as received (R99), SecTAG removed (R80). -/
  data : Bytes
  /-- Ingress port (R81). -/
  port : Nat
  /-- What the end of reception showed: 0 good, 1 bad FCS, 2 runt, 3 oversize, 4 link lost, 5 dropped at arrival; and the fc
  of the reference scale at which it showed (R67, R100, R108). -/
  err : Nat
  errAt : Nat
  /-- Length as received with FCS (R138, R141). -/
  length : Nat
  /-- Received through a MACsec secure channel, or with a preemptable start: stored (R18, R162). -/
  stored : Bool
  /-- Configuration epoch of its arrival (R17). -/
  epoch : Nat
  /-- VLAN (R82). -/
  vid : Nat
  /-- Filtering database of the VLAN (R84). -/
  fid : Nat
  /-- Priority (R83). -/
  prio : Nat
  /-- Drop-eligible mark (R83). -/
  dei : Bool
  /-- TPID of its tag (R82). -/
  tpid : Nat
  /-- It arrived with a VLAN tag (R82). -/
  tagged : Bool
  /-- Colour (R83, R142). -/
  colour : Nat
  /-- Bushel that its ells are charged to (R107). -/
  bushel : Nat
  /-- Ells of the frame in chain order, and whether they are charged to the bushel's headroom or its used count. -/
  ells : List Nat
  used : Bool
  /-- Candidate egress ports (R85), destinations of mirror sessions among them (R101), and destination inside the device:
  0 a port, 1 MP, 2 the time unit, 3 the backbone bridge (R81). -/
  cand : List Nat
  mirrors : List Nat
  sink : Nat
  /-- Stream handle, stream entry, and whether the handle came from an IP entry (R91). -/
  stream : Option Nat
  entry : Option Nat
  streamDeep : Bool
  /-- Sequence number of its R-TAG (R92). -/
  rtag : Option Nat
  /-- Sequence number that generation has drawn for the frame (R92), and local ns of its arrival. -/
  seqGen : Option Nat
  stamp : Nat
  /-- Declared length and the byte that ends the length field (R97). -/
  declared : Nat
  lenField : Nat
  /-- fc of the deep sample and of the verdict's release on the scale of R3 (R94, R189). -/
  sample : Nat
  rel : Nat
  /-- Ports to which a copy was enqueued before the verdict (R518). -/
  early : List Nat
  /-- Result of the Sieve meter and the stream stages, once they have been met. -/
  staged : Option Policed
  /-- Its verdict has been released (R179). -/
  released : Bool
deriving DecidableEq, Repr

/-- One egress copy in a queue (R106, R114). -/
structure Copy where
  /-- Frame copied (R106). -/
  frame : Nat
  /-- Egress port. -/
  port : Nat
  /-- Queue (R125). -/
  queue : Nat
  /-- Ells that it charges (R114). -/
  charge : Nat
  /-- Mirror session, for a mirror copy (R101). -/
  mirror : Option Nat
  /-- The copy begins before its frame's end (R18). -/
  cut : Bool
  /-- Counter of 0x3060 at which a stomp is counted, 0 where none is owed (R98, R100). -/
  stomp : Nat
  /-- The copy carries rewrite values, with their parity (R99). -/
  rewrite : Bool
  /-- Monotonic grain of its enqueue, and monotonic ns at which its frame's last byte is held (R130, R153). -/
  since : Nat
  endAt : Nat
  /-- Bytes of the copy as it leaves, without FCS. -/
  data : Bytes
deriving DecidableEq, Repr

/-- The shared buffer (R102–R109). Ells never yet used have numbers from `fresh` up; returned ells stand in `freed`. -/
structure BufferSt where
  /-- First ell never yet used (R102). -/
  fresh : Nat
  /-- Ells returned to the free list (R102; assumption log 21). -/
  freed : List Nat
  /-- Ells taken out of use (R104). -/
  retired : List Nat
  /-- Ells with one corrected error since Boot (R104). -/
  corrected : List Nat
  /-- Ells that are retired when they are freed (R104). -/
  doomed : List Nat
  /-- Ells lost by a chain error, until a scan (R105). -/
  orphans : List Nat
  /-- Frames held (R102). -/
  frames : List Frame
  /-- Running number of the next frame. -/
  nextFrame : Nat
  /-- Copies in all queues, oldest first. -/
  copies : List Copy
  /-- Ells held by the catch buffer (R109). -/
  catchElls : List Nat
  /-- Per port·8 + queue: a refusal in the present 1 ms tick, and the run of dropping ticks (R119). -/
  refusedNow : List Nat
  /-- Local millisecond of the last overload tick, and wall time of the last orphan scan (R105, R119). -/
  tick : Nat
  scanAt : Nat
  /-- Run of ticks with a refusal, per port·8 + queue (R119). -/
  dropRuns : Tab Nat
deriving DecidableEq, Repr

/-- Egress side of a port: frame in transmission, preempted frame, fair-queuing tags (R129) and credits in units of
10⁻⁶ bit (R133). -/
structure EgressSt where
  /-- Frame in transmission, wall time of the start of its fragment, and its bytes sent in earlier fragments. -/
  cur : Option Copy
  txAt : Nat
  sent : Nat
  /-- Preempted frame and its bytes sent (R161, R162). -/
  preempted : Option Copy
  preSent : Nat
  /-- A transmission overrun of this frame has been counted (R154). -/
  overrun : Bool
  /-- Virtual time, finish and start tags, 40 bits; start tag plus one of queues that hold a head frame. -/
  v : Nat
  fin : Tab Nat
  start : Tab Nat
  /-- Credit-based shaper credit per queue (R133). -/
  credit : Tab Int
  /-- Weighted queue whose tags stand on a provisional length, and the start tag that they were computed from (R130). -/
  fix : Option (Nat × Nat)
  /-- Verify requests sent (R160). -/
  verifyTries : Nat
  /-- Wall time of the last verify request (R160). -/
  verifyAt : Nat
deriving DecidableEq, Repr

/-- A gate list that runs (R139, R148–R158), times in ns: entries (interval, gate states, operation), of a stream gate
(interval, 1 if open, 8 or the IPV). -/
structure GateList where
  /-- Base time (R148). -/
  base : Nat
  /-- Cycle time (R148). -/
  cycle : Nat
  /-- Cycle time extension (R156). -/
  ext : Nat
  /-- Entries (R148). -/
  entries : List (Nat × Nat × Nat)
deriving DecidableEq, Repr

/-- Lists of a port or of a stream gate: the operational one, the pending one and its change time. -/
structure GateSt where
  /-- Operational list (R148). -/
  oper : Option GateList
  /-- Pending list (R150). -/
  admin : Option GateList
  /-- Time of its switch-over (R150). -/
  changeAt : Nat
deriving DecidableEq, Repr

/-- Token buckets of a meter (R141) in 1/65,536 byte, and of a limiter (R184, R250) in 1/10⁹ frame. -/
structure MeterSt where
  /-- Committed tokens (R141). -/
  tc : Nat
  /-- Excess tokens (R141). -/
  te : Nat
  /-- Monotonic grain of the last refill (R141). -/
  last : Nat
  /-- What the last refill left below one unit (R141), numerators over 8·10⁶. -/
  remC : Nat
  remE : Nat
deriving DecidableEq, Repr

structure LimiterSt where
  /-- Tokens (R184). -/
  tokens : Nat
  /-- Monotonic time of the last refill (R184). -/
  last : Nat
deriving DecidableEq, Repr

/-- Sequence recovery and generation of a stream (R92). -/
structure FrerSt where
  /-- Highest accepted sequence number, and the history bits below it; none after a reset. -/
  recent : Option Nat
  history : Nat
  /-- Monotonic grain of the last accepted sequence number (R92). -/
  last : Nat
  /-- Next sequence number that generation draws (R92). -/
  genSeq : Nat
deriving DecidableEq, Repr

/-! ### Sieve lanes (R193–R207) -/

structure LaneSt where
  /-- Grain counts of the latent divergences in the running 100 ms (R199). -/
  latent : List Nat
  /-- A self-test runs or is still to run before the lane takes work (R202, R203). -/
  testing : Bool
deriving DecidableEq, Repr

structure SieveSt where
  /-- End of quarantine per engine, in monotonic grains; 0 none (R186). -/
  quarantine : Tab Nat
  /-- Guard entry: start of the running log interval and spoofs suppressed in it (R186). -/
  guardLog : Tab (Nat × Nat)
  /-- The copy that refreshes the staged bank runs, and the staged writes that wait for it (R191): store key and value, and of a
  flow entry 2^336 + its key and its class, 0 for a deletion. -/
  refreshing : Bool
  waitingWrites : List (Nat × Nat)
  /-- Flash copies of freshness: per profile, V, data ID and key slot (R182). -/
  flashFreshness : Tab (Nat × Nat × Nat)
deriving DecidableEq, Repr

/-! ### Fault collector (R405–R423) -/

structure FaultSt where
  /-- Reaction in progress (0 none, 1 Degrade, 2 Safe-State, 3 Terminal) and its source (R408). -/
  reaction : Nat
  source : Nat
  /-- Sources whose reaction waits, ascending (R413). -/
  pending : List Nat
  /-- Level sources in condition, ascending (R406). -/
  condition : List Nat
  /-- Units withdrawn, with the source that withdrew each (R410). -/
  withdrawn : List (UnitId × Nat)
  /-- Terminal is latched in PD_AON (R423). -/
  terminal : Bool
  /-- Outputs are forced to their safe state (R415). -/
  forced : Bool
  /-- SAFE_N is held low because the device has not reached Operate or Configure since PORST_N (R417). -/
  starting : Bool
  /-- Firings that a loss of link or a withdrawal brings with it, taken up at the end of the command. -/
  due : List (Nat × Nat)
  /-- The SAFE_N ball follows its driver, and ERR_IN_N is low, as read back. -/
  ballLow : Bool
  errInLow : Bool
deriving DecidableEq, Repr

/-! ### Crust (R372–R404) -/

/-- A sealed record (R391): counter, time, event code, flags, role, low bits of the step count, data, chain link and
MAC. -/
structure SealedRec where
  counter : Nat
  time : Nat
  code : Nat
  flags : Nat
  role : Nat
  steps : Nat
  data : List Nat
  link : Nat
  mac : Nat
deriving DecidableEq, Repr

/-- A key slot (R377–R380): type, usage mask, origin, persistence, and the key value, which no path returns (R372). -/
structure KeySlot where
  type : Nat
  usage : Nat
  origin : Nat
  persistent : Bool
  value : Nat
deriving DecidableEq, Repr

/-- A MACsec secure association (R384, R385), as 0x6180 shows it. -/
structure SecAssoc where
  sci : Nat
  slot : Nat
  nextPn : Nat
  ssci : Nat
  salt : Nat
  enabled : Bool
  lowest : Nat
deriving DecidableEq, Repr

/-- A challenge of a session (R388): its 64 bytes, its role, and the wall time of its reading. -/
structure Challenge where
  bytes : Bytes
  role : Nat
  since : Nat
deriving DecidableEq, Repr

structure CrustSt where
  /-- Key slots (R377). -/
  slots : Tab KeySlot
  /-- The wrapped copies of persistent slots in flash (R380). -/
  stored : Tab KeySlot
  /-- A tamper response 2 keeps persistent slots from being restored until a power cycle (R399). -/
  noRestore : Bool
  /-- Role rank held and requested per session, keyed by the session code of 0x1002:02 (R45, R388). -/
  roles : Tab Nat
  requested : Tab Nat
  /-- Outstanding challenge of a session (R388). -/
  challenges : Tab (Option Challenge)
  /-- Per role rank: consecutive failures, length of the last lockout in s, and its end in wall time (R390). -/
  failures : Tab Nat
  lockLen : Tab Nat
  lockEnd : Tab Nat
  /-- Revocation bits of the root key hashes in OTP (R373). -/
  revoked : Nat
  /-- AON counter and chain head, queue of unwritten records, flash ring (R391–R395). -/
  counter : Nat
  head : Nat
  queue : List SealedRec
  flash : List SealedRec
  /-- Records lost for want of queue space (R393). -/
  droppedRecords : Nat
  /-- Records overwritten in the flash ring (R395). -/
  overwritten : Nat
  /-- The AON counter has run on since the last record (R394). -/
  aonContinuous : Bool
  /-- Export in progress: first and last record (R396). -/
  exporting : Option (Nat × Nat)
  /-- Secure associations, key ((port·2 + direction)·32 + channel)·4 + AN (R384). -/
  sas : Tab SecAssoc
  /-- Bound module digests, plus one (R398). -/
  bound : Tab Nat
  /-- The authentication unit works (R383). -/
  authWorking : Bool
  /-- Sealed digests of the images are held and valid (R376). -/
  sealedDigest : Bool
  /-- Running images carry the evaluated-release flag (R402 condition 3). -/
  evalFirmware : Bool
  evalConfig : Bool
  /-- A VDD_AON voltage event latched in sleep (R400). -/
  aonTamper : Bool
deriving DecidableEq, Repr

/-! ### Network time (R266–R287): what no object names -/

/-- A captured edge (R284): local time in ns, edge (1 rising, 2 falling), low byte of the step count. -/
structure Capture where
  time : Nat
  edge : Nat
  step : Nat
deriving DecidableEq, Repr

/-- Hidden state of a gPTP instance (R271–R276): wall time of its last Sync. -/
structure PtpInst where
  lastSync : Nat
  /-- The instance has assumed the grandmaster role after a timeout (0x3810 + d:08). -/
  assumed : Bool
deriving DecidableEq, Repr

/-- Link-delay measurement of a port (R273): completed exchanges in a row, wall time of the last request, and whether it is
still unanswered. -/
structure PtpPort where
  completed : Nat
  lastSent : Nat
  open_ : Bool
deriving DecidableEq, Repr

structure TimeSt where
  /-- Local time and monotonic count, both in units of 2⁻³² ns (R266). -/
  loc : Nat
  mono : Nat
  /-- The time that passes, in ns, from which every duration of the model is taken; it never stops or steps. -/
  wall : Nat
  /-- TCLK runs (R266, R267). -/
  tclk : Bool
  /-- Shadow in PD_AON: local time, monotonic count, A, and the wall time from which ACLK periods count (R267, R268). -/
  shadow : Option (Nat × Nat × Nat × Nat)
  /-- The shadow was taken at a sleep entry (R267), else at the assertion of a reset (R268). -/
  slept : Bool
  /-- Last rate-ratio estimate, as a rate adjustment without offset correction (R276). -/
  ratio : Int
  /-- Consecutive Syncs or edges within the lock threshold (R275). -/
  inLock : Nat
  /-- The steering source has reached state 2 since the start (R286). -/
  acquired : Bool
  /-- Wall time of the last PPS_IN edge, and of the start of holdover (R276). -/
  ppsIn : Nat
  holdAt : Nat
  /-- gPTP instances (R271). -/
  inst : Tab PtpInst
  /-- Link-delay measurement per port (R273). -/
  port : Tab PtpPort
  /-- Wall time of the last Sync sent, per instance · 32 + port. -/
  sent : Tab Nat
  /-- Armed targets in ns per comparator (R279), and the committed targets and periods in PD_AON (R268, R283). -/
  target : Tab Nat
  kept : Tab (Nat × Nat)
  /-- Capture FIFOs (R284). -/
  caps : Tab (List Capture)
  /-- Wall time until which a TTRIG ball or PPS_OUT is pulsed (R282, R286). -/
  ttrig : Tab Nat
  ppsOut : Nat
  /-- The TTRIG and PPS_OUT drivers are enabled (R490). -/
  drivers : Bool
deriving DecidableEq, Repr

/-! ### Power, clocks, reset (R447–R470) and the peck arbiter (R471–R481) -/

structure PowerSt where
  /-- Wall time of the reference of the last start or wake (0x5010). -/
  started : Nat
  /-- Cause code of the reset that is asserted, 0 none (R461). -/
  reset : Nat
  /-- The internal reset is extended until XTAL is stable, from this wall time (R452). -/
  extending : Option Nat
  /-- Power state: 0 awake, 1 warm sleep, 2 cold sleep (R290–R293). -/
  sleep : Nat
  /-- This start is a warm wake, or a start on sealed digests (R469). -/
  warm : Bool
  digest : Bool
  /-- The first configuration of this start is loaded (R36, R478). -/
  loaded : Bool
  /-- Serdes steps done, wall time of the last, ports carried to the next step, requests issued in it (R466, R480). -/
  step : Nat
  stepAt : Nat
  carried : List Nat
  issued : List Nat
  /-- Rails out of their range (R449), and VDD_AON and VDDIO_BUS within theirs. -/
  rails : List Nat
  aonUp : Bool
  busUp : Bool
  /-- Retention memory has lost its contents (R450). -/
  retentionLost : Bool
  /-- Serdes calibration is stored (R457). -/
  calibrated : Bool
  /-- Domain: wall time of the drain's start (R459), and of the opening of its switch (R460). -/
  drainAt : Tab Nat
  offAt : Tab Nat
  /-- Domains whose switch failed (R460). -/
  broken : List Nat
  /-- Recovery loader mode (R446, R469). -/
  recovery : Bool
deriving DecidableEq, Repr

structure PeckSt where
  /-- Wall time at which a waiting consumer requested its charge. -/
  since : Tab Nat
  /-- Waiting consumers that a lower-ranked request has been granted ahead of (R475). -/
  passed : List Nat
  /-- Grants of the last 20 µs, wall time and charge, newest first; end of the exclusive time of a large grant (R474). -/
  grants : List (Nat × Nat)
  exclusive : Nat
  /-- Copy in PD_AON of the committed budget and consumer settings (R478). -/
  copy : Option (Nat × Tab Nat)
deriving DecidableEq, Repr

/-! ### Bridges (R330–R354) -/

/-- A message of the backbone transport (R342): its sequence number once it is sent, class, type, role, volatile bit, tag, the object it
names, its status word and its data. -/
structure TMsg where
  seq : Nat
  cls : Nat
  type : Nat
  role : Nat
  vol : Bool
  tag : Nat
  index : Nat
  sub : Nat
  off : Nat
  len : Nat
  status : Nat
  data : Bytes
deriving DecidableEq, Repr

/-- The link to a peer (R343–R346). -/
structure PeerSt where
  /-- Wall time of its last HELLO. -/
  helloAt : Nat
  /-- Next sequence number to send, and next expected. -/
  nextSeq : Nat
  expect : Nat
  /-- Frames sent and not acknowledged, messages that wait for credit, and tags of outstanding non-posted requests. -/
  unacked : List TMsg
  waiting : List TMsg
  tags : List Nat
  /-- Credit limits heard from the peer and messages sent, posted and non-posted, modulo 256. -/
  limP : Nat
  limN : Nat
  sentP : Nat
  sentN : Nat
  /-- Messages accepted from it, posted and non-posted, modulo 256. -/
  gotP : Nat
  gotN : Nat
  /-- Retransmissions without progress, wall time of the last progress, and since when an acknowledgement is owed. -/
  retries : Nat
  progressAt : Nat
  ackOwed : Option Nat
deriving DecidableEq, Repr

/-- A value that a prefetch has fetched or is fetching (R350): window, device, object, the value once it has come, whether it is volatile,
whether it has served a read, and when it was fetched. -/
structure Prefetched where
  window : Nat
  device : Nat
  index : Nat
  sub : Nat
  tag : Nat
  value : Option Bytes
  vol : Bool
  served : Bool
  /-- A write has discarded it while it was in flight (R353). -/
  stale : Bool
  since : Nat
deriving DecidableEq, Repr

structure BridgeSt where
  /-- MSI-X vectors that are masked (R336). -/
  msixMask : List Nat
  /-- MSI-X vectors that are pending (R336). -/
  msixPend : List Nat
  /-- Epoch of the device's links and wall time of its last HELLO (R344), and the next tag. -/
  epoch : Nat
  helloAt : Nat
  nextTag : Nat
  /-- Links to the peers (R343). -/
  peers : Tab PeerSt
  /-- Upper half of the TIME80 register last read in its low half (R333). -/
  shadow : Nat
  /-- PE_PERST_N is asserted; wall time of its release; the device has been in Operate or Configure since the start, or 1.0 s has passed
  (R332). -/
  perst : Bool
  perstAt : Nat
  answers : Bool
  /-- Prefetched values (R350). -/
  prefetched : List Prefetched
  /-- Aperture reads of the host that wait for their answer: tag, length and wall time (R348). -/
  reads : List (Nat × Nat × Nat)
  /-- Entries of the event export table whose source has fired, each with the data of the EVENT that is to be sent (R349). -/
  leaving : List (Nat × Bytes)
deriving DecidableEq, Repr

/-! ### DMA (R355–R371) -/

/-- A descriptor that has ended and waits for its write-back (R361): ring index, its bytes, bytes moved, status, end of frame. -/
structure DmaEnd where
  idx : Nat
  desc : Bytes
  moved : Nat
  status : Nat
  eof : Bool
deriving DecidableEq, Repr

/-- Hidden state of a channel or gang. -/
structure DmaSt where
  /-- Expected phase at the consumer index (R360), fetched descriptors with their ring indexes, descriptors that wait for
  their write-back. -/
  phase : Bool
  /-- Fetched descriptors with their ring indexes (R358). -/
  fetched : List (Nat × Bytes)
  /-- Descriptors that wait for their write-back (R361). -/
  ended : List DmaEnd
  /-- Reads of a descriptor that is not ready, and wall time of the last. -/
  rereads : Nat
  readAt : Nat
  /-- Completion FIFO, oldest record first (R361). -/
  fifo : List Bytes
  /-- Bytes of the frame at port 30 that the ring of a solo receive channel already holds, its header among them (R362). -/
  taken : Nat
deriving DecidableEq, Repr

/-! ### Bus plane (R208–R265): what no object names -/

/-- A bus record (R237): header fields and data, its ells, the routes that match it, and, once its verdict is released, the
egress zones that it permits. -/
structure BusRec where
  /-- Running number. -/
  id : Nat
  /-- Receive stamp (R215, R237). -/
  stamp : Nat
  /-- Frame as received (R237). -/
  frame : BusFrame
  /-- Engine that received it (R237). -/
  source : Nat
  /-- Bus code (R237). -/
  busId : Nat
  /-- Ingress port of an unpacked record (R258). -/
  ethPort : Nat
  /-- Ells that hold it (R237). -/
  ells : List Nat
  /-- Configuration epoch (R17). -/
  epoch : Nat
  /-- Routes that match it (R239). -/
  routes : List Nat
  /-- SDO server that the frame is a request to (R166). -/
  server : Option Nat
  /-- Egress zones that its verdict permits (R240). -/
  permitted : List Nat
  /-- Its verdict has been released (R240). -/
  released : Bool
deriving DecidableEq, Repr

/-- A transmit slot (R218, R219): the route whose frame it holds, its age, and, while locked, its shadow. `kept`: a commit has
emptied the route's mailbox under it (R248). -/
structure Slot where
  route : Nat
  frame : BusFrame
  born : Nat
  locked : Bool
  shadow : Option BusFrame
  kept : Bool
deriving DecidableEq, Repr

/-- Hidden state of a CAN engine. -/
structure CanSt where
  /-- Transmit slots (R218). -/
  slots : List Slot
  /-- Bus-off recovery (R222): 0 none, 1 hold-off, 2 counting, 3 waiting for the command; the hold-off's start, and bus-offs since the
  last successful transmission. -/
  recov : Nat
  offAt : Nat
  offs : Nat
  /-- Mode in use, whether new settings wait for the next bus idle, and whether they change it or the timing (R214). -/
  mode : Nat
  takeover : Bool
  retime : Bool
  /-- Wall times at which frames of the staging buffer came in (R216). -/
  recent : List Nat
  /-- The bus is held dominant (R223); a transmission is locked since this local time. -/
  held : Bool
  sof : Nat
  /-- Start of the running transceiver mode change (R234). -/
  modeAt : Nat
  /-- Wall time of the last frame on the bus (R306), and the age of the frame last counted as held by the gate (R313). -/
  lastAt : Nat
  gated : Nat
deriving DecidableEq, Repr

/-- Hidden state of a LIN engine. -/
structure LinSt where
  /-- Requested table (255 stop) and start entry that wait for the end of the slot (R230). -/
  req : Option (Nat × Nat)
  /-- Interrupted table and its next entry (R231). -/
  resume : Option (Nat × Nat)
  /-- Local ns at which the slot in progress ends, and before which the schedule does not resume (R229, R233). -/
  slotEnd : Nat
  notBefore : Nat
  /-- Frame in progress: identifier, its slot type (5 as a responder), stamp of its break, whether this engine publishes. -/
  ident : Option (Nat × Nat)
  stamp : Nat
  own : Bool
  /-- Identifiers whose data the Braider has updated since it was last sent (R231). -/
  updated : List Nat
  /-- Go-to-sleep waits for the next slot (R233), and the end of the wake-up pulse in wall time. -/
  toSleep : Bool
  pulseEnd : Nat
  /-- Transceiver: 0 asleep, 1 entering normal mode since modeAt, 2 integrating, 3 in operation. -/
  mode : Nat
  modeAt : Nat
  /-- The bus is held dominant (R223). -/
  held : Bool
  /-- Wall time of the last header or response on the bus (R306). -/
  lastAt : Nat
  /-- Collision table to be run next (R231); wall time of the last header heard as a responder (R295); go-to-sleep was reported. -/
  collide : Option Nat
  headerAt : Option Nat
  sleepSeen : Bool
deriving DecidableEq, Repr

/-- Mailbox or FIFO of a route (R245–R250), oldest frame first, each with its ells. -/
structure RouteSt where
  /-- Mailbox or FIFO (R245, R246). -/
  box : List (BusFrame × List Nat)
  /-- Ells owned by a latest-value route (R245). -/
  own : List Nat
  /-- The head is in the pending set, with its age. -/
  joined : Bool
  born : Nat
  bornAt : Nat
  /-- The value of the mailbox has been sent (R245). -/
  sent : Bool
  /-- A value has been held since the last commit or wake, the data last sent, and the wall time of the last start of
  frame (R249). -/
  ever : Bool
  lastData : Option Bytes
  lastSof : Option Nat
  /-- Counter that its program inserts (R241). -/
  counter : Nat
  /-- Number of the last period boundary served (R249). -/
  perAt : Nat
  /-- Counted as held by its limiter (R250), and as not fitting its window (R253). -/
  held : Bool
  missed : Bool
  /-- A period of a periodic route has come, and its frame has not joined the pending set yet (R249). -/
  owed : Bool
deriving DecidableEq, Repr

/-- Open container of a stream (R256): its ACF messages and the deadlines of their PDUs in monotonic ns. -/
structure StreamSt where
  /-- Messages of the open container (R256). -/
  msgs : List (Bytes × Nat)
deriving DecidableEq, Repr

/-- A container that waits to be unpacked (R258): its bytes, ingress port and ingress stamp. -/
structure Unpack where
  data : Bytes
  port : Nat
  stamp : Nat
deriving DecidableEq, Repr

structure BraidSt where
  /-- Records from their submission to the execution of their routes, oldest first. -/
  recs : List BusRec
  /-- Mailbox of each route, of the own SDO servers from 12,288 and of network management from 16,384 (R245). -/
  routes : Tab RouteSt
  /-- Open containers (R256). -/
  streams : Tab StreamSt
  /-- Last sequence_num per receive entry, plus one (R258). -/
  seqs : Tab Nat
  /-- Containers that wait to be unpacked (R258). -/
  unpack : List Unpack
  /-- Catch buffer, and the replay queue in the order of R263, with the wall time of its start. -/
  caught : List BusRec
  replay : List BusRec
  replayAt : Nat
  /-- CAN engines (R208). -/
  can : Tab CanSt
  /-- LIN engines (R208). -/
  lin : Tab LinSt
  /-- Transmit windows: running and pending list (R252). -/
  windows : Tab GateSt
  /-- Wall time of the last BEACON of an SP port, and the last grid point served (R260, R261). -/
  beaconAt : Tab Nat
  gridAt : Tab Nat
  /-- Copy in PD_AON of the committed mode, timing and catch enable of the engines; none when invalid (R225). -/
  kept : Option (Tab Nat)
  /-- Running number that gives slots their age. -/
  order : Nat
deriving DecidableEq, Repr

/-! ### Wake and sleep (R288–R310) -/

/-- Hidden state of a partial-network cluster. -/
structure ClusterSt where
  /-- Monotonic ns of the last counted PDU, and of the last one counted through its PN vector (R295–R297). -/
  lastPdu : Option Nat
  lastPn : Option Nat
  /-- Monotonic ns of the last own NM PDU (R296), and of the entry into prepare (R297). -/
  ownAt : Nat
  prepAt : Nat
  /-- Wall time of the standby point (R299). -/
  standbyAt : Nat
  /-- Awake timer in ns (R305). -/
  awake : Nat
  /-- A wake is latched or waits for the dwell (R299). -/
  latched : Bool
  /-- Withheld keepers (bus code, node) and held buses (R306). -/
  withheld : List (Nat × Nat)
  held : List Nat
  /-- Keepers (R305): bus code, node and monotonic ns of the last PDU, oldest first. -/
  keepers : List (Nat × Nat × Nat)
  /-- The awake limit has been reached: the device gives its own keep-awake up (R306). -/
  expired : Bool
deriving DecidableEq, Repr

structure WakeSt where
  /-- Partial-network clusters (R294). -/
  clusters : Tab ClusterSt
  /-- Start of the wake-domain watchdog, its kind standing at 0x5040:08 (R308). -/
  watchdog : Nat
  /-- Firmware has reported sleep-ready (R301); the device's sleep commit has taken place. -/
  ready : Bool
  committed : Bool
  /-- Wall time of sleep entry (R299, R293), and of the entry into Safe or Terminal (R310). -/
  sleptAt : Nat
  safeAt : Nat
  /-- Device wakes latched until the dwell has passed (R299), and sources latched under a backoff (R309). -/
  latched : List Nat
  masked : List Nat
  /-- End of the backoff in wall time, 0 none. -/
  backoff : Nat
  /-- A fail-safe sleep is still to be recorded by the Crust at the next wake (R308). -/
  unrecorded : Bool
  /-- Wake timer has fired since sleep entry (R289). -/
  timerDone : Bool
  /-- Source whose wake the device serves at its coming start (R303, R304). -/
  called : Option Nat
deriving DecidableEq, Repr

/-! ### Update (R426–R446) -/

/-- What no object of 0x6800–0x6810 names. Slots are numbered 0 firmware A, 1 firmware B, 2 configuration A, 3 configuration B. -/
structure UpdateSt where
  /-- The package staging area, up to the write offset (R432). -/
  package : Bytes
  /-- Slots that the recovery loader has erased, with what it has written since (R446). -/
  recov : Tab (Option Bytes)
  /-- Slots whose image carries the evaluated-release flag (R428). -/
  evaluated : Tab Nat
  /-- Release of the image of each slot (R428). -/
  release : Tab Nat
  /-- Kinds of the armed activation, 0 none, its target in ns, and whether it is without the state check (R438). -/
  armed : Nat
  target : Nat
  armedNow : Bool
  /-- Kinds whose proofing flag is set in the flash header (R427, R440). -/
  flag : Nat
  /-- Kinds in their proofing window, 0 none; wall time of its opening, and from which firmware has served the dictionary (R442). -/
  proof : Nat
  openedAt : Nat
  servedSince : Nat
  /-- Host software has confirmed; local time was in state 3 before; what worked before: lanes, ports, engines. -/
  hostOk : Bool
  wasSync : Bool
  lanes : List Nat
  ports : List Nat
  engines : List Nat
  /-- A revert of the configuration waits for its switch, from this wall time (R443). -/
  revertAt : Option Nat
  /-- A thermometer burn has failed and is tried again at the next start (R445). -/
  burnDue : Bool
  /-- Records for the sealed log that wait until it is available (R375, R446): event code and data. -/
  owed : List (Nat × List Nat)
deriving DecidableEq, Repr

/-! ### Pairing (R311–R329) -/

/-- A member's side of the lease. -/
structure PairSt where
  /-- Lease end in local ns, and the monotonic bound m + 4 ms (R319); whether the end counts, that is the member was
  synchronised. -/
  endAt : Nat
  monoEnd : Nat
  useEnd : Bool
  /-- Wall time of the last accepted GRANT, of the last referee message and of the partner's last health report. -/
  grantAt : Nat
  heardAt : Nat
  partnerAt : Nat
  /-- Last sequence accepted per sender: 0 referee, 1 partner, 2 + 2k and 3 + 2k members A and B of pair k; and every message
  accepted, as sender · 2^32 + sequence (R317). -/
  seqs : Tab Nat
  seen : List Nat
  /-- Own epoch and count (R317). -/
  epoch : Nat
  count : Nat
  /-- A yield waits for the engines to fall idle (R319). -/
  yielding : Bool
  /-- Wall time of the last own health report (R318). -/
  healthAt : Nat
  /-- Mismatches and omissions since the last report, and their monotonic times of the last second (R315). -/
  mism : Nat
  omis : Nat
  recent : List Nat
  /-- Frozen bytes 6 and 7 of the report in Headless (R318). -/
  frozen : Nat
deriving DecidableEq, Repr

/-- What the referee knows of a member from its health reports. -/
structure MemberSt where
  /-- Wall time of its last health report (R318). -/
  at_ : Option Nat
  /-- Device state that it reports (R318). -/
  state : Nat
  /-- It is eligible (R320). -/
  eligible : Bool
  /-- It is synchronised (R318). -/
  sync : Bool
  /-- It holds the lease (R318). -/
  holds : Bool
  /-- Engines of the pair that it can serve (R318). -/
  able : Nat
  /-- Health that ranks it (R320). -/
  better : Nat
deriving DecidableEq, Repr

/-- The referee's side of pair k. -/
structure RefSt where
  /-- The two members (R318). -/
  members : Tab MemberSt
  /-- Latest lease end sent in local ns, monotonic time of the sending, and whether the ACK of that GRANT is awaited. -/
  endAt : Nat
  sentAt : Nat
  awaiting : Bool
  /-- Renewals are withheld (R321). -/
  withheld : Bool
  /-- The lease has ended by a yield or an acknowledged RELEASE (R320). -/
  ended : Bool
  /-- A RELEASE has been sent and its ACK is awaited; the member to be granted next (R321, R324). -/
  releasing : Bool
  next : Nat
  /-- Both members claimed a lease: no grant until both have ended (R328). -/
  clash : Bool
  /-- Command 0x02 is in force (R324). -/
  stopped : Bool
  /-- The first grant after the start has been made; wall time of the first report of a member that reports alone (R325). -/
  started : Bool
  firstAt : Nat
  /-- Why renewals are withheld or a RELEASE was sent: the cause of the next move (0x5440 + k:0E). -/
  why : Nat
deriving DecidableEq, Repr

/-! ### Values of unlisted table entries -/

def portSt0 : PortSt := ⟨0, 0, false, false, 0, false, false, 0, false, false, 0, 0, 0⟩
def mdioSt0 : MdioSt := ⟨none, []⟩
def egressSt0 : EgressSt := ⟨none, 0, 0, none, 0, false, 0, [], [], [], none, 0, 0⟩
def gateSt0 : GateSt := ⟨none, none, 0⟩
def peerSt0 : PeerSt := ⟨0, 1, 1, [], [], [], 32, 16, 0, 0, 0, 0, 0, 0, none⟩
def dmaSt0 : DmaSt := ⟨true, [], [], 0, 0, [], 0⟩
def frerSt0 : FrerSt := ⟨none, 0, 0, 0⟩
def laneSt0 : LaneSt := ⟨[], false⟩
def mailbox0 : Mailbox := ⟨0, [], false, false, false⟩
def keySlot0 : KeySlot := ⟨0, 0, 0, false, 0⟩
def secAssoc0 : SecAssoc := ⟨0, 0, 1, 0, 0, false, 1⟩
def ptpInst0 : PtpInst := ⟨0, false⟩
def ptpPort0 : PtpPort := ⟨0, 0, false⟩
def canSt0 : CanSt := ⟨[], 0, 0, 0, 1, false, false, [], false, 0, 0, 0, 0⟩
def linSt0 : LinSt := ⟨none, none, 0, 0, none, 0, false, [], false, 0, 0, 0, false, 0, none, none, false⟩
def routeSt0 : RouteSt := ⟨[], [], false, 0, 0, false, false, none, none, 0, 0, false, false, false⟩
def streamSt0 : StreamSt := ⟨[]⟩

def clusterSt0 : ClusterSt := ⟨none, none, 0, 0, 0, 0, false, [], [], [], false⟩
def memberSt0 : MemberSt := ⟨none, 0, false, false, false, 0, 0⟩
def refSt0 : RefSt := ⟨[], 0, 0, false, false, false, false, 0, false, false, false, 0, 0⟩


/-- Why a step stops with a fault. No command of this block does: every access it makes is answered (assumption log 4). -/
inductive Fault where
  /-- Never raised: the type is closed and no meaning answers it. Safe. -/
  | unused
deriving DecidableEq, Repr

/-- Why a command has no meaning. -/
inductive Refusal where
  /-- The command of this mnemonic is not modelled yet; raised by Dispatch alone. Safe. -/
  | notModelled (mnemonic : String)
deriving DecidableEq, Repr

/-- The state of the block. -/
structure State where
  /-- Device state (R35). -/
  dev : DevState
  /-- Objects that are not configuration, and live fields of table entries, with their read-back values (R28). -/
  regs : Tab Nat
  /-- Committed configuration (R38). -/
  cfg : Bank
  /-- Bank of the epoch before, for what was decided before a switch (R17). -/
  old : Bank
  /-- Staged configuration (R38). -/
  staged : Bank
  /-- Number of the configuration epoch in force (R17). -/
  epoch : Nat
  /-- Counter that numbers free values; the model's own (assumption log 10). -/
  fresh : Nat
  /-- What has left the block, newest first; the model's own (assumption log 6). -/
  out : List Out
  /-- Dictionary access (R38–R57). -/
  access : AccessSt
  /-- Switch ports 0–29 (R58–R79). -/
  ports : Tab PortSt
  /-- MDIO controllers (R66). -/
  mdio : Tab MdioSt
  /-- ID-bus slots read in the present scan, and records whose signature is still to be checked (R74, R77). -/
  idScan : List Nat
  idWait : Tab Nat
  /-- Dynamic FDB entries (R84). -/
  dyn : Tab DynEntry
  /-- Flush in progress: kind, value, learnings before it (R89). -/
  flush : Option (Nat × Nat × Nat)
  /-- Running number of learnings (R85, R89). -/
  learned : Nat
  /-- Wall time of the last ageing scan (R88). -/
  agedAt : Nat
  /-- Decisions in flight, oldest first (R188). -/
  decs : List Decision
  /-- Shared buffer (R102). -/
  buf : BufferSt
  /-- Egress side of each port (R127–R164). -/
  egress : Tab EgressSt
  /-- Gate lists per port (R148). -/
  gates : Tab GateSt
  /-- Stream gates (R139). -/
  streamGates : Tab GateSt
  /-- Meters in use (R141). -/
  meters : Tab MeterSt
  /-- Sequence recovery and generation (R92). -/
  frer : Tab FrerSt
  /-- The Sieve (R165–R192). -/
  sieve : SieveSt
  /-- Sieve lanes (R193–R207). -/
  lanes : Tab LaneSt
  /-- D3 limiters, and from 1,024 those of the Braider (R184, R250). -/
  limiters : Tab LimiterSt
  /-- Fault collector (R405–R425). -/
  faults : FaultSt
  /-- Crust (R372–R404). -/
  crust : CrustSt
  /-- Network time (R266–R287). -/
  time : TimeSt
  /-- Power, clocks and reset (R447–R470). -/
  power : PowerSt
  /-- Peck arbiter (R471–R481). -/
  pecks : PeckSt
  /-- Bridges (R330–R354). -/
  bridge : BridgeSt
  /-- DMA channels and gangs (R355–R371). -/
  dma : Tab DmaSt
  /-- Bus plane (R208–R265). -/
  braid : BraidSt
  /-- Wake and sleep (R288–R310). -/
  wake : WakeSt
  /-- Update (R426–R446). -/
  update : UpdateSt
  /-- Member of a pair (R311–R329). -/
  pair : PairSt
  /-- Referee of up to three pairs (R320). -/
  referee : Tab RefSt
  /-- Commands that wait, first in first out; the model's own (assumption log 2). -/
  pending : List Instr
deriving DecidableEq, Repr

/-! ### Reset (assumption log 7): the instant after PORST_N is released -/

def bank0 : Bank := ⟨[], [], []⟩

def access0 : AccessSt :=
  { holder := none, holderSince := 0, validating := false, available := false, evicted := none, coreUp := false, headlessSince := 0
    sdo := [], pxp := [], opens := [], mbox := [], spi := none, remote := [] }

def buf0 : BufferSt :=
  { fresh := 0, freed := [], retired := [], corrected := [], doomed := [], orphans := [], frames := [], nextFrame := 0
    copies := [], catchElls := [], refusedNow := [], tick := 0, scanAt := 0, dropRuns := [] }

def sieve0 : SieveSt := ⟨[], [], false, [], []⟩

def faults0 : FaultSt :=
  { reaction := 0, source := 0, pending := [], condition := [], withdrawn := [], terminal := false, forced := false
    starting := true, due := [], ballLow := true, errInLow := false }

def crust0 : CrustSt :=
  { slots := [], stored := [], noRestore := false, roles := [], requested := [], challenges := [], failures := []
    lockLen := [], lockEnd := [], revoked := 0, counter := 0, head := 0, queue := [], flash := []
    droppedRecords := 0, overwritten := 0, aonContinuous := false, exporting := none, sas := [], bound := []
    authWorking := true, sealedDigest := false, evalFirmware := false, evalConfig := false, aonTamper := false }

def time0 : TimeSt :=
  { loc := 0, mono := 0, wall := 0, tclk := false, shadow := none, slept := false, ratio := 0, inLock := 0
    acquired := false, ppsIn := 0, holdAt := 0, inst := [], port := [], sent := [], target := [], kept := [], caps := [], ttrig := []
    ppsOut := 0, drivers := false }

def bridge0 : BridgeSt :=
  { msixMask := List.range 128, msixPend := [], epoch := 0, helloAt := 0, nextTag := 0, peers := [], shadow := 0, perst := true, perstAt := 0
    answers := false, prefetched := [], reads := [], leaving := [] }

def power0 : PowerSt :=
  { started := 0, reset := 0, extending := none, sleep := 0, warm := false, digest := false, loaded := false, step := 0
    stepAt := 0, carried := [], issued := [], rails := [], aonUp := true, busUp := true, retentionLost := false
    calibrated := false, drainAt := [], offAt := [], broken := [], recovery := false }

def update0 : UpdateSt :=
  { package := [], recov := [], evaluated := [], release := [], armed := 0, target := 0, armedNow := false, flag := 0, proof := 0, openedAt := 0
    servedSince := 0, hostOk := false, wasSync := false, lanes := [], ports := [], engines := [], revertAt := none, burnDue := false
    owed := [] }

def wake0 : WakeSt :=
  { clusters := [], watchdog := 0, ready := false, committed := false, sleptAt := 0, safeAt := 0, latched := [], masked := []
    backoff := 0, unrecorded := false, timerDone := false, called := none }

def pair0 : PairSt :=
  { endAt := 0, monoEnd := 0, useEnd := false, grantAt := 0, heardAt := 0, partnerAt := 0, seqs := [], seen := [], epoch := 0, count := 0
    yielding := false, healthAt := 0, mism := 0, omis := 0, recent := [], frozen := 0 }

def braid0 : BraidSt :=
  { recs := [], routes := [], streams := [], seqs := [], unpack := [], caught := [], replay := [], replayAt := 0, can := []
    lin := [], windows := [], beaconAt := [], gridAt := [], kept := none, order := 0 }

/-- The machine right after reset: Boot, every object at its default, every store empty (R32, R461; assumption log
7, 8). -/
def State.reset : State :=
  { dev := .boot, regs := [], cfg := bank0, old := bank0, staged := bank0, epoch := 0, fresh := 0, out := []
    access := access0, ports := [], mdio := [], idScan := [], idWait := [], dyn := [], flush := none, learned := 0, agedAt := 0, decs := [], buf := buf0, egress := []
    gates := [], streamGates := [], meters := [], frer := [], sieve := sieve0, lanes := [(0, ⟨[], true⟩)], limiters := []
    faults := faults0, crust := crust0, time := time0, power := power0, pecks := ⟨[], [], [], 0, none⟩, bridge := bridge0, dma := [], braid := braid0, wake := wake0, update := update0, pair := pair0, referee := [], pending := [] }

end Sys2Proof.Machine
end

