-- ==== Sys2Proof/Machine/Ops.lean ====
section
/-!
DEFINITION. Ops.lean: the operations that every family of commands shares: sparse tables, bit and byte fields, checksums,
time, the object stores and counters, and what leaves the block.
-/
namespace Sys2Proof.Machine

/-- What a command answers. -/
abbrev Res := Host.Outcome State Fault Refusal

/-! ### Sparse tables -/

/-- Value at key k, or the default of the table. -/
def tget {α : Type} (d : α) : Tab α → Nat → α
  | [], _ => d
  | (j, v) :: t, k => if j = k then v else tget d t k

/-- Table without key k. -/
def tdel {α : Type} : Tab α → Nat → Tab α
  | [], _ => []
  | (j, v) :: t, k => if j = k then tdel t k else (j, v) :: tdel t k

/-- Table with key k holding v, listed. -/
def tput {α : Type} : Tab α → Nat → α → Tab α
  | [], k, v => [(k, v)]
  | (j, w) :: t, k, v =>
    if j = k then (k, v) :: t else if k < j then (k, v) :: (j, w) :: t else (j, w) :: tput t k v

/-- Table with key k holding v; the default value is not listed. -/
def tset {α : Type} [DecidableEq α] (d : α) (t : Tab α) (k : Nat) (v : α) : Tab α :=
  if v = d then tdel t k else tput t k v

/-- Every listed value of a table changed. -/
def tmap {α : Type} [DecidableEq α] (d : α) (f : α → α) (t : Tab α) : Tab α := t.foldl (fun a e => tset d a e.1 (f e.2)) []

/-- Keys strictly above b and rising, and no entry equal to its default. -/
def tabWfFrom {α : Type} [DecidableEq α] (d : Nat → α) : Nat → Tab α → Bool
  | _, [] => true
  | b, (k, v) :: t => b ≤ k && v ≠ d k && tabWfFrom d (k + 1) t

/-- The canonical form of a sparse table whose unlisted key k reads as d k. -/
def tabWf {α : Type} [DecidableEq α] (d : Nat → α) (t : Tab α) : Bool := tabWfFrom d 0 t

/-- Insertion into and removal from an ascending set of numbers. -/
def setIns (k : Nat) : List Nat → List Nat
  | [] => [k]
  | j :: t => if j = k then j :: t else if k < j then k :: j :: t else j :: setIns k t

def setDel (k : Nat) (l : List Nat) : List Nat := l.filter (· ≠ k)

/-! ### Bits and bytes -/

/-- Bits [lo + len − 1 : lo] of a number. -/
def field (v lo len : Nat) : Nat := v / 2 ^ lo % 2 ^ len

/-- Number with bits [lo + len − 1 : lo] replaced by x. -/
def setField (v lo len x : Nat) : Nat := v - field v lo len * 2 ^ lo + x % 2 ^ len * 2 ^ lo

/-- Bit i of a number. -/
def bit (v i : Nat) : Bool := v / 2 ^ i % 2 == 1

def b2n (b : Bool) : Nat := if b then 1 else 0

/-- The state after a list of items has been taken up one by one. -/
def each {α : Type} (l : List α) (f : α → State → State) (s : State) : State := l.foldl (fun s a => f a s) s

/-- A change that is made only under a condition. -/
def when (b : Bool) (f : State → State) (s : State) : State := if b then f s else s

/-- Number of a byte string, least significant byte first (R4). -/
def leNat : Bytes → Nat
  | [] => 0
  | b :: t => b.toNat + 256 * leNat t

/-- Number of a byte string in network order (R4). -/
def beNat (l : Bytes) : Nat := l.foldl (fun a b => a * 256 + b.toNat) 0

/-- n bytes of a number, least significant first. -/
def leBytes : Nat → Nat → Bytes
  | 0, _ => []
  | n + 1, v => BitVec.ofNat 8 v :: leBytes n (v / 256)

/-- n bytes of a number in network order. -/
def beBytes (n v : Nat) : Bytes := (leBytes n v).reverse

/-- n bytes from offset o; bytes past the end are left out. -/
def slice (o n : Nat) (l : Bytes) : Bytes := (l.drop o).take n

/-- Byte i of a string, 0 past its end. -/
def byteAt (l : Bytes) (i : Nat) : Nat := ((l.drop i).head?.getD 0).toNat

/-- Byte i of a number. -/
def nbyte (v i : Nat) : Nat := v / 256 ^ i % 256

/-- Two's complement: value of an n-bit number, and n-bit number of a value. -/
def toInt (n v : Nat) : Int := if v < 2 ^ (n - 1) then v else (v : Int) - 2 ^ n

def ofInt (n : Nat) (v : Int) : Nat := (v % (2 ^ n : Nat)).toNat

def ceilDiv (a b : Nat) : Nat := (a + b - 1) / b

/-- Rounding up to a multiple of 8 (R97). -/
def ceil8 (a : Nat) : Nat := ceilDiv a 8 * 8

/-- The set bits of a number below n, ascending. -/
def bitsOf (n v : Nat) : List Nat := (List.range n).filter (bit v)

/-- One step of a reflected CRC over a bit string held in a number: `poly` is the reversed polynomial. -/
def crcRefl (poly : Nat) : Nat → Nat → Nat
  | 0, c => c
  | n + 1, c => crcRefl poly n (if c % 2 == 1 then Nat.xor (c / 2) poly else c / 2)

/-- CRC-32C of R84 and R174 with the given initial value: reflected polynomial 0x1EDC6F41, final XOR of ones. -/
def crc32c (init : Nat) (l : Bytes) : Nat :=
  Nat.xor (l.foldl (fun c b => crcRefl 0x82F63B78 8 (Nat.xor c b.toNat)) init) 0xFFFFFFFF

/-- One bit of a CRC-16 with polynomial 0x1021. -/
def crc16bits : Nat → Nat → Nat
  | 0, c => c
  | n + 1, c => crc16bits n (if c ≥ 0x8000 then Nat.xor (c * 2 % 0x10000) 0x1021 else c * 2)

/-- CRC-16 of R54 and R73 with the given initial value: polynomial 0x1021, no final XOR. -/
def crc16 (init : Nat) (l : Bytes) : Nat :=
  l.foldl (fun c b => crc16bits 8 (Nat.xor c (b.toNat * 256))) init

/-! ### Time (R266, R28) -/

/-- Local time in ns. -/
def nowNs (s : State) : Nat := s.time.loc / 2 ^ 32

/-- Monotonic count in ns, and in grains of 8 ns. -/
def monoNs (s : State) : Nat := s.time.mono / 2 ^ 32

def monoGrains (s : State) : Nat := monoNs s / 8

/-- Time passed, in ns; every duration of the model is taken from it (assumption log 5). -/
def wall (s : State) : Nat := s.time.wall

/-- A span in ns has passed since a stamp. -/
def due (since span : Nat) (s : State) : Bool := since + span ≤ wall s

/-- Milliseconds and microseconds in ns. -/
def ms (n : Nat) : Nat := n * 1000000

def us (n : Nat) : Nat := n * 1000

/-- A TIME80 value from ns: bytes 0–5 seconds, bytes 6–9 nanoseconds (R28). -/
def time80 (ns : Nat) : Nat := ns / 1000000000 % 2 ^ 48 + ns % 1000000000 * 2 ^ 48

/-- ns of a TIME80 value. -/
def ofTime80 (v : Nat) : Nat := v % 2 ^ 48 * 1000000000 + v / 2 ^ 48

/-- The window of comparators, base times and command steps, in ns (R139, R149, R277, R279). -/
def timeWindow : Nat := 549700000000

/-- A base time lies more than the window ahead of local time (R139, R149). -/
def farAhead (v : Nat) (s : State) : Bool := decide (nowNs s + timeWindow < ofTime80 v)

/-! ### Object stores -/

/-- All object cards. -/
def cards : List Card := cardsA ++ cardsB ++ cardsC ++ cardsD ++ cardsE

/-- The card of an index, and the row of a subindex (R27). -/
def cardOf (i : Nat) : Option Card := cards.find? (cardHas i)

def subOf (i j : Nat) : Option Sub := (cardOf i).bind (cardSub j)

/-- Default of one source record (R425 and the tables it names): class, lowest class, cannot be disabled, security,
level; none for a reserved source (R424). -/
def sourceRow (n : Nat) : Option (Nat × Nat × Bool × Bool × Bool) :=
  if n ≤ 0x02 || n == 0x04 || n == 0x07 then some (0, 0, false, false, false)
  else if n == 0x03 || n == 0x08 then some (2, 2, true, false, false)
  else if n == 0x05 then some (1, 1, false, false, false)
  else if n == 0x06 then some (2, 2, false, false, false)
  else if n == 0x09 || n == 0x0A || n == 0x0B then some (2, 2, false, false, false)
  else if n == 0x20 || n == 0x21 || n == 0x24 || n == 0x25 then some (0, 0, false, false, false)
  else if n == 0x22 || n == 0x23 then some (1, 1, false, false, false)
  else if 0x26 ≤ n && n ≤ 0x28 then some (2, 2, true, false, false)
  else if 0x40 ≤ n && n ≤ 0x44 || n == 0x47 then some (2, 2, true, false, true)
  else if n == 0x45 || n == 0x46 then some (1, 1, false, false, true)
  else if n == 0x48 || n == 0x49 then some (2, 2, false, false, true)
  else if n == 0x4A then some (0, 0, false, false, true)
  else if n == 0x4B || n == 0x4D then some (0, 0, false, false, false)
  else if n == 0x4C then some (2, 2, true, false, false)
  else if n == 0x4E then some (1, 1, false, false, false)
  else if 0x60 ≤ n && n ≤ 0x62 || n == 0x65 then some (0, 0, false, false, false)
  else if n == 0x63 || n == 0x64 then some (1, 1, false, false, false)
  else if 0x80 ≤ n && n ≤ 0x83 || n == 0x87 then some (0, 0, false, false, false)
  else if n == 0x84 || n == 0x85 then some (1, 1, false, false, false)
  else if n == 0x86 then some (0, 0, false, true, false)
  else if n == 0x88 then some (2, 2, false, false, false)
  else if n == 0xA0 || n == 0xA1 || n == 0xA7 || n == 0xB1 then some (0, 0, false, false, false)
  else if n == 0xA2 then some (2, 2, true, false, false)
  else if n == 0xA3 || n == 0xA5 || n == 0xA6 then some (1, 1, false, false, false)
  else if n == 0xA4 then some (2, 2, false, false, false)
  else if 0xA8 ≤ n && n ≤ 0xAB || n == 0xB2 then some (0, 0, false, true, false)
  else if 0xAC ≤ n && n ≤ 0xAE then some (2, 2, false, true, false)
  else if n == 0xAF then some (3, 3, false, true, false)
  else if n == 0xB0 then some (2, 2, false, true, false)
  else if n == 0xC2 then some (2, 2, true, false, false)
  else if 0xC0 ≤ n && n ≤ 0xC6 then some (0, 0, false, false, false)
  else if n == 0xCE then some (2, 2, true, false, false)
  else if 0xC8 ≤ n && n ≤ 0xCF then some (0, 0, false, false, false)
  else if n == 0xE0 then some (2, 0, false, false, true)
  else if n == 0xE1 then some (2, 0, false, false, false)
  else if n == 0xE2 then some (1, 1, false, false, false)
  else if n == 0xE3 then some (2, 2, true, false, false)
  else if 0xE8 ≤ n && n ≤ 0xEF then some (0, 0, false, false, false)
  else if 0xF0 ≤ n && n ≤ 0xF3 then some (0, 0, false, false, false)
  else none

/-- The class of a source is fixed: :02 holds its default class and no other (R425, and the tables it names). -/
def sourceFixed (n : Nat) : Bool :=
  [0x03, 0x06, 0x08, 0x26, 0x27, 0x28, 0x40, 0x41, 0x42, 0x43, 0x44, 0x47, 0x4C, 0xA2, 0xA4, 0xAC, 0xAD, 0xAE, 0xAF,
   0xB0, 0xC2, 0xCE, 0xE3].contains n

end Sys2Proof.Machine
end

