-- ==== Sys2Proof/Machine/Objects.lean ====
section
/-!
DEFINITION. Objects.lean: the defaults of objects, the object stores, the range checks of a write, counters, and what
leaves the block.
-/
namespace Sys2Proof.Machine

/-! ### Defaults (R32) -/

/-- Charge of a consumer before a rate is known, and its default priority (R472). -/
def peckCharge (n : Nat) : Nat :=
  if n == 0 then 283 else if n == 1 then 15 else if n == 2 then 95 else if n == 3 then 25 else if n == 4 then 6
  else if n ≤ 8 then 39 else if n ≤ 11 then 2 else if n ≤ 23 then 5 else if n == 24 then 25 else if n ≤ 30 then 6
  else if n ≤ 38 then 1 else if n ≤ 42 then 15 else if n ≤ 54 then 2 else if n ≤ 60 then 3 else 6

def peckPriority (n : Nat) : Nat :=
  if n ≤ 1 then 0 else if n == 2 then 2 else if n == 3 then 6 else if n == 4 then 5 else if n ≤ 23 then 3
  else if n ≤ 38 then 4 else if n ≤ 54 then 5 else 1

/-- Body index of capability record c (R43; assumption log 9). -/
def capBody (c : Nat) : Nat :=
  match c with
  | 1 => 0x2800 | 2 => 0x6100 | 3 => 0x3580 | 4 => 0x3200 | 5 => 0x5400 | 6 => 0x5440 | 7 => 0x4014 | 8 => 0x4020
  | 9 => 0x4030 | 10 => 0x6808 | 11 => 0x5040 | _ => 0x6000

/-- Defaults that a card states per index, and the values of objects for which the spec states none (assumption
log 8, 9). -/
def dfltSpecial (i j : Nat) : Option Nat :=
  if i == 0x1100 then some 0x1101
  else if 0x1101 ≤ i && i ≤ 0x110C then
    let c := i - 0x1100
    match j with
    | 1 => some c | 2 => some 1 | 3 => some (capBody c) | 4 => some (if c == 12 then 0 else i + 1) | _ => none
  else if i == 0x1200 && j == 1 then some 1
  else if 0x1201 ≤ i && i ≤ 0x1203 && j == 2 then some (i - 0x1200)
  else if i == 0x1220 && 1 ≤ j && j ≤ 4 then some (j - 1)
  else if 0x2000 ≤ i && i < 0x2780 && (i - 0x2000) % 0x40 == 0 then
    let p := (i - 0x2000) / 0x40
    if j == 2 then some (if p < 16 then 0 else if p < 22 then 6 else 7)
    else if j == 6 then some (p % 4) else if j == 8 then some (p % 8) else none
  else if 0x3100 ≤ i && i ≤ 0x310F && j == 9 then some 1
  else if 0x3440 ≤ i && i ≤ 0x3460 && 1 ≤ j && j ≤ 8 then some (0x05400040 + 0x00080000 * (j - 1))
  else if i == 0x3810 && j == 1 then some 1
  else if 0x3811 ≤ i && i ≤ 0x3813 && j == 2 then some (i - 0x3810)
  else if i == 0x5020 && j == 2 then some 0x30000
  else if i == 0x3F10 && j == 1 then some (2 ^ 64 - 1)
  else if i == 0x3F10 && j == 2 then some 0x3FFFFFF0
  else if i == 0x4050 && 3 ≤ j && j ≤ 6 then some 1
  else if 0x5900 ≤ i && i ≤ 0x59FF then
    let n := i - 0x5900
    match sourceRow n, j with
    | some _, 1 => some 1
    | none, 1 => some 0
    | some (c, _), 2 => some c
    | some (_, l, d, s, v), 3 => some (l + 4 * b2n d + 8 * b2n s + 16 * b2n v)
    | none, 3 => some 32
    | _, _ => none
  else if 0x5D00 ≤ i && i < 0x5D40 && j == 5 then some (16 + (i - 0x5D00) % 112)
  else if 0x6100 ≤ i && i < 0x6110 && j == 7 then some ((i - 0x6100 + 1) * 2 ^ 56)
  else none

/-- Default of object i:j, a number of its bytes, least significant first. -/
def dflt (i j : Nat) : Nat :=
  match dfltSpecial i j with
  | some v => v
  | none =>
    match subOf i j with
    | some r => r.dflt
    | none => 0

/-- Default of field j of entry e of table i: the card's, but for VLAN 1 (R90) and the peck consumers (R472). -/
def dfltE (e i j : Nat) : Nat :=
  if i == 0x3004 && e == 1 then
    match j with | 2 => 1 | 3 => 2 ^ 33 - 1 | 4 => 2 ^ 33 - 1 | 5 => 1 | 6 => 1 | _ => 0
  else if i == 0x5001 && j == 2 then peckCharge e
  else if i == 0x5001 && j == 3 then peckPriority e
  else dflt i j

/-- Store keys. -/
def okey (i j : Nat) : Nat := i * 256 + j

def ekey (e i j : Nat) : Nat := (e + 1) * 2 ^ 24 + i * 256 + j

/-- What an unlisted store key reads as. -/
def keyDflt (k : Nat) : Nat :=
  if k < 2 ^ 24 then dflt (k / 256) (k % 256) else dfltE (k / 2 ^ 24 - 1) (k % 2 ^ 24 / 256) (k % 256)

/-- Store read and write. -/
def sget (t : Tab Nat) (k : Nat) : Nat := tget (keyDflt k) t k

def sset (t : Tab Nat) (k v : Nat) : Tab Nat := tset (keyDflt k) t k v

/-! ### Objects of the state -/

/-- An object that is not part of the configuration (RO, RW, W1C, CMD and SEAL objects): present value and update. -/
def reg (i j : Nat) (s : State) : Nat := sget s.regs (okey i j)

def setReg (i j v : Nat) (s : State) : State := { s with regs := sset s.regs (okey i j) v }

/-- A live field of a table entry, held beside the objects. -/
def regE (e i j : Nat) (s : State) : Nat := sget s.regs (ekey e i j)

def setRegE (e i j v : Nat) (s : State) : State := { s with regs := sset s.regs (ekey e i j) v }

/-- A committed RWC object, and a committed field of a table entry. -/
def cfg (i j : Nat) (s : State) : Nat := sget s.cfg.objs (okey i j)

def cfgE (e i j : Nat) (s : State) : Nat := sget s.cfg.objs (ekey e i j)

/-- The same of a given bank. -/
def bkO (b : Bank) (i j : Nat) : Nat := sget b.objs (okey i j)

def bkE (b : Bank) (e i j : Nat) : Nat := sget b.objs (ekey e i j)

/-- The bank of an epoch: the committed bank, or the old one for what was sampled before the last switch (R17). -/
def bankOf (ep : Nat) (s : State) : Bank := if ep = s.epoch then s.cfg else s.old

/-- Staging of an RWC object and of a field of a table entry (R38). -/
def stage (i j v : Nat) (s : State) : State :=
  { s with staged := { s.staged with objs := sset s.staged.objs (okey i j) v } }

def stageE (e i j v : Nat) (s : State) : State :=
  { s with staged := { s.staged with objs := sset s.staged.objs (ekey e i j) v } }

/-- The entries of table i that a bank lists, ascending. -/
def entriesOf (b : Bank) (i : Nat) : List Nat :=
  b.objs.foldl (fun l kv => if kv.1 ≥ 2 ^ 24 && kv.1 % 2 ^ 24 / 256 == i then setIns (kv.1 / 2 ^ 24 - 1) l else l) []

/-- A saturating count of events in an object of w bytes (R68 and the counter rules of the cards). -/
def countBy (w i j n : Nat) (s : State) : State := setReg i j (min (2 ^ (8 * w) - 1) (reg i j s + n)) s

def count (i j : Nat) (s : State) : State := countBy 4 i j 1 s

/-- A saturating 32-bit count in a live field of a table entry. -/
def countE (e i j : Nat) (s : State) : State := setRegE e i j (min 0xFFFFFFFF (regE e i j s + 1)) s

def countE8 (e i j : Nat) (s : State) : State := setRegE e i j (min (2 ^ 64 - 1) (regE e i j s + 1)) s

/-- A high-water mark. -/
def raise (i j v : Nat) (s : State) : State := if v > reg i j s then setReg i j v s else s

/-- What leaves the block (assumption log 6). -/
def emit (o : Out) (s : State) : State := { s with out := o :: s.out }

/-- The next free value (assumption log 10), and the state after it is used. -/
def freeNow (s : State) : Nat := Config.freeValue s.fresh

def useFree (s : State) : State := { s with fresh := s.fresh + 1 }

/-- The code of a session in 0x1002:02 (R41): path in the high nibble, channel, session or mailbox in the low. -/
def sesCode : Session → Nat
  | .sdo n => n.val
  | .pxp n => 0x10 + n.val
  | .mailbox n => 0x20 + n.val
  | .spi => 0x30
  | .bar0 => 0x40

/-- Rank of the role that a session holds (R45, R387). -/
def roleOf (ses : Session) (s : State) : Nat := tget 0 s.crust.roles (sesCode ses)

/-- MSI-X (R336): a masked vector sets its pending bit, an unmasked one is sent. -/
def msix (v : Nat) (s : State) : State :=
  if s.bridge.msixMask.contains v then
    { s with bridge := { s.bridge with msixPend := setIns v s.bridge.msixPend } }
  else emit (.msix v) s

/-- A host event cause (R336): each newly set enabled bit sends the vector of 0x5C10:03 once. -/
def hostEvent (b : Nat) (s : State) : State :=
  if bit (reg 0x5C10 1 s) b then s
  else
    let t := setReg 0x5C10 1 (reg 0x5C10 1 s + 2 ^ b) s
    if bit (reg 0x5C10 2 s) b then msix (cfg 0x5C10 3 s) t else t

/-- A source that the event export table may name fires (R349): each of its enabled entries has an EVENT to send. -/
def announce (kind number : Nat) (data : Bytes) (s : State) : State :=
  let l := (List.range 32).filter fun e => cfgE e 0x5C21 2 s == 1 && cfgE e 0x5C21 3 s == kind && cfgE e 0x5C21 4 s == number
  { s with bridge := { s.bridge with leaving := s.bridge.leaving ++ l.map fun e => (e, data) } }

/-! ### Range checks (R5, R29, R32) -/

/-- All bytes of a number meet a condition. -/
def allBytes (n v : Nat) (f : Nat → Nat → Bool) : Bool := (List.range n).all fun k => f k (nbyte v k)

def rangeCode (lo hi v : Nat) : Nat :=
  if v > hi then 0x06090031 else if v < lo then 0x06090032 else 0

def notOk (b : Bool) : Nat := if b then 0 else 0x06090030

/-- Interface modes of R59 by port. -/
def modeListed (p m : Nat) : Bool :=
  if p < 4 then 1 ≤ m && m ≤ 4 else if p < 16 then m == 4 || m == 5 else if p < 22 then m == 6 else m == 7

/-- Ranges that a card states in words: they depend on the index or on another staged object. -/
def chkSpecial (i j v : Nat) (s : State) : Nat :=
  if 0x2000 ≤ i && i < 0x2800 then
    let p := (i - 0x2000) / 0x40
    if j == 2 then notOk (modeListed p v || (v == 0 && p < 16))
    else if j == 5 then rangeCode 64 (if p < 16 then 9216 else 2048) v
    else if j == 0x0A then notOk (v == 0 || (p < 4 && modeListed p v)) else 0
  else if 0x2E00 ≤ i && i < 0x3000 then
    if i % 0x20 == 1 && j == 5 then (if allBytes 8 v fun _ b => b ≤ 64 then 0 else 0x06090031)
    else if i % 0x20 == 1 then notOk (allBytes 512 v fun k _ => nbyte v (4 * k) % 64 < 62)
    else if i % 0x20 == 2 then
      notOk (nbyte v 186 == 0 && nbyte v 189 == 0 && allBytes 64 v fun k _ =>
        nbyte v (3 * k) ≤ 2 && nbyte v (3 * k + 2) ≤ 1 &&
          (nbyte v (3 * k) == 0 || (1 ≤ nbyte v (3 * k + 1) && nbyte v (3 * k + 1) ≤ 8)))
    else 0
  else if i == 0x3040 then notOk (allBytes 256 v fun _ b => b ≤ 2)
  else if 0x3408 ≤ i && i < 0x3410 then
    if v < 72 then 0x06090032
    else if v > 65536 || (bkO s.staged i 1 ≠ 0 && v > bkO s.staged i 1) then 0x06090031 else 0
  else if 0x3440 ≤ i && i ≤ 0x3460 then
    if field v 28 4 ≠ 0 || field v 17 2 ≠ 0 || field v 24 4 > 9 then 0x06090030
    else if field v 0 17 > 16384 then 0x06090031 else 0
  else if 0x3500 ≤ i && i < 0x3516 then (if v > bkO s.staged i 4 then 0x06090031 else 0)
  else if 0x3820 ≤ i && i < 0x3836 then notOk (allBytes 4 v fun _ b => b ≤ 3)
  else if i == 0x3C01 then notOk (v % 2 == 0)
  else if i == 0x3C20 && j == 9 then
    let c := rangeCode 96 2044 v
    if c ≠ 0 then c else notOk (v % 4 == 0)
  else if i == 0x3C20 then notOk (allBytes 48 v fun _ b => b ≤ 31 || b == 255)
  else if 0x3C40 ≤ i && i < 0x3C70 then notOk (allBytes 16 v fun k _ => nbyte v (8 * k + 7) < 8)
  else if i == 0x4001 then notOk (allBytes 128 v fun k b => b < 16 && (k < 33 || k > 63 || b == 0))
  else if i == 0x4002 then notOk (allBytes 512 v fun k b => if k % 2 == 0 then b ≤ 2 else b ≤ 1)
  else if i == 0x4003 then
    if !(allBytes 16 v fun _ b => b ≤ 128) then 0x06090031
    else if !(allBytes 16 v fun _ b => 18 ≤ b) then 0x06090032 else 0
  else if i == 0x4012 then notOk (field v 0 9 == 0)
  else if i == 0x4015 then notOk (field v 13 3 == 0 && field v 22 2 == 0 && field v 31 33 == 0)
  else if i == 0x4020 then
    let c := rangeCode 24 64 v
    if c ≠ 0 then c else notOk (v % 8 == 0)
  else if 0x5900 ≤ i && i < 0x5A00 then (if v > 3 then 0x06090031 else 0)
  else if 0x5D00 ≤ i && i < 0x5D40 then
    if j == 6 then notOk (v % 64 == 0)
    else if j == 7 then
      let c := rangeCode 8 4096 v
      if c ≠ 0 then c else notOk ([8, 16, 32, 64, 128, 256, 512, 1024, 2048, 4096].contains v)
    else notOk (v % 8 == 0)
  else if i == 0x6040 then (if v < reg 0x6040 5 s then 0x06090032 else 0)
  else if i == 0x6180 then (if v < 1 then 0x06090032 else 0)
  else 0

/-- Refusals that a rule states beside the card's range. -/
def chkRule (i j v : Nat) (s : State) : Nat :=
  if 0x5900 ≤ i && i < 0x5A00 && (sourceRow (i - 0x5900)).isNone then 0x06090030
  else if 0x5900 ≤ i && i < 0x5A00 && j == 1 && v == 0 && bit (dflt i 3) 2 then 0x06090030
  else if 0x3100 ≤ i && i < 0x3121 && j == 9 && v == 1 && i > 0x310F then 0x06090030
  else if i == 0x5001 && j == 3 && reg 0x5001 1 s == 0 then 0x06090030
  else if i == 0x3004 && j == 1 && (v == 0 || v == 4095) then 0x06090030
  else if i == 0x3000 && j == 2 && 1 ≤ v && v ≤ 9 then 0x06090030
  else if ((0x3500 ≤ i && i < 0x3516 && j == 3) || (i == 0x3220 && j == 5)) && v / 2 ^ 48 ≤ 999999999 && farAhead v s then 0x080000A2
  else 0

/-- The abort code of writing v to object i:j, 0 if the value is taken (R5, R29, R32). -/
def checkValue (i j v : Nat) (r : Sub) (s : State) : Nat :=
  let c := chkRule i j v s
  if c ≠ 0 then c
  else if r.ty = .bool && v > 1 then 0x06090030
  else if r.ty = .time80 && v / 2 ^ 48 > 999999999 then 0x06090030
  else
    match r.chk with
    | .any => 0
    | .range lo hi => rangeCode lo hi v
    | .srange lo hi =>
      let x := toInt (8 * r.ty.size) v
      if x > hi then 0x06090031 else if x < lo then 0x06090032 else 0
    | .oneOf l =>
      if l.contains v then 0
      else if v > l.foldl max 0 then 0x06090031 else if v < l.foldl min v then 0x06090032 else 0x06090030
    | .rangeOr lo hi l =>
      if lo ≤ v && v ≤ hi || l.contains v then 0
      else if v > max hi (l.foldl max 0) then 0x06090031
      else if l.all (fun x => v < x) && v < lo then 0x06090032 else 0x06090030
    | .mask m => notOk (Nat.land v m == v)
    | .special => chkSpecial i j v s

end Sys2Proof.Machine
end

