-- ==== Sys2Proof/Machine/Operands.lean ====
section
/-!
DEFINITION. Operands.lean: what the block reads out of the operands of a command: the parse of an Ethernet frame (R80),
the keys of the Sieve (R168–R171), and the lengths and rates that later rules compute with.
-/
namespace Sys2Proof.Machine

/-- A parsed Ethernet frame (R80). Offsets are byte offsets from the destination MAC; 0 where a header is missing. -/
structure Parsed where
  da : Nat
  sa : Nat
  tagged : Bool
  tpid : Nat
  pcp : Nat
  dei : Bool
  vid : Nat
  inner : Bool
  /-- The two bytes in the EtherType position of the identifying header (R168), and the EtherType after all tags. -/
  identType : Nat
  etherType : Nat
  rtag : Option Nat
  l3 : Nat
  ipver : Nat
  sip : Nat
  dip : Nat
  proto : Nat
  dscp : Nat
  nonFirst : Bool
  l4 : Nat
  sport : Nat
  dport : Nat
  tcp : Nat
  pay : Nat
  malExpress : Bool
  malDeep : Bool
  absent : Bool
  /-- L2 header plus declared IP length plus FCS (R97); none without an IP header. -/
  declared : Option Nat
  /-- Frame offset one past the declared length field. -/
  lenField : Nat
deriving DecidableEq, Repr

/-- A frame with no header beyond the MAC addresses. -/
def Parsed.none : Parsed :=
  ⟨0, 0, false, 0, 0, false, 0, false, 0, 0, Option.none, 0, 0, 0, 0, 0, 0, false, 0, 0, 0, 0, 0, false, false, false,
    Option.none, 0⟩

/-- Bytes [o, o + n) as a number in network order, and whether they lie within the limit. -/
def rd (l : Bytes) (o n : Nat) : Nat := beNat (slice o n l)

/-- The value of a field if it lies within `lim` bytes, else 0 (R172). -/
def rdLim (l : Bytes) (lim o n : Nat) : Nat := if o + n ≤ lim then rd l o n else 0

/-- The outer tag is recognised by the TPID setting of the port (R80, 0x3100 + p:04). -/
def tpidKnown (setting t : Nat) : Bool :=
  if setting == 0 then t == 0x8100 else if setting == 1 then t == 0x88A8 else t == 0x8100 || t == 0x88A8

/-- Transport header at o of protocol p (R80). -/
def parseL4 (l : Bytes) (lim o p : Nat) (q : Parsed) : Parsed :=
  let q := { q with proto := p }
  if q.nonFirst || (p ≠ 6 && p ≠ 17) then q
  else
    let need := if p == 6 then 14 else 4
    let q := { q with
      l4 := o, sport := rdLim l lim o 2, dport := rdLim l lim (o + 2) 2,
      tcp := if p == 6 then rdLim l lim (o + 13) 1 % 64 else 0,
      absent := q.absent || decide (o + need > lim) }
    if p == 17 then { q with pay := o + 8 }
    else if o + 13 ≤ lim then { q with pay := o + rd l (o + 12) 1 / 16 * 4 } else q

/-- IPv6 extension headers, at most two (R80). `held`: the end of the frame is held when the key is complete. -/
def parseExt (l : Bytes) (lim : Nat) (held : Bool) : Nat → Nat → Nat → Parsed → Parsed
  | 0, o, p, q => parseL4 l lim o p q
  | n + 1, o, p, q =>
    if p == 0 || p == 43 || p == 60 || p == 44 then
      if o + 8 > lim then { q with proto := p, absent := true }
      else
        let len := if p == 44 then 8 else (rd l (o + 1) 1 + 1) * 8
        let q := if p == 44 then { q with nonFirst := decide (rd l (o + 2) 2 / 8 ≠ 0) } else q
        let q := if held && decide (o + len > l.length) then { q with malDeep := true } else q
        parseExt l lim held n (o + len) (rd l o 1) q
    else parseL4 l lim o p q

/-- IPv4 at o (R80). -/
def parseIp4 (l : Bytes) (lim : Nat) (held : Bool) (o : Nat) (q : Parsed) : Parsed :=
  let q := { q with l3 := o, ipver := 1 }
  if o + 1 > lim then { q with absent := true }
  else
    let ihl := rd l o 1 % 16
    let q := { q with dscp := rdLim l lim (o + 1) 1 / 4, absent := q.absent || decide (o + 20 > lim) }
    let q := if ihl < 5 then { q with malDeep := true } else q
    let q := if o + 4 ≤ lim then
        let tot := rd l (o + 2) 2
        let q := { q with declared := some (o + tot + 4), lenField := o + 4 }
        if tot < ihl * 4 then { q with malDeep := true } else q
      else q
    let q := if held && decide (o + ihl * 4 > l.length) then { q with malDeep := true } else q
    let q := { q with
      nonFirst := decide (rdLim l lim (o + 6) 2 % 8192 ≠ 0)
      sip := if o + 16 ≤ lim then 0xFFFF00000000 + rd l (o + 12) 4 else 0
      dip := if o + 20 ≤ lim then 0xFFFF00000000 + rd l (o + 16) 4 else 0 }
    if o + 10 ≤ lim then parseL4 l lim (o + ihl * 4) (rd l (o + 9) 1) q else q

/-- IPv6 at o (R80). -/
def parseIp6 (l : Bytes) (lim : Nat) (held : Bool) (o : Nat) (q : Parsed) : Parsed :=
  let q := { q with
    l3 := o, ipver := 2
    dscp := rdLim l lim o 2 / 64 % 64
    sip := rdLim l lim (o + 8) 16
    dip := rdLim l lim (o + 24) 16
    absent := q.absent || decide (o + 40 > lim)
    declared := if o + 6 ≤ lim then some (o + rd l (o + 4) 2 + 44) else Option.none
    lenField := o + 6 }
  if o + 7 ≤ lim then parseExt l lim held 2 (o + 40) (rd l (o + 6) 1) q else q

/-- The parse of a frame that arrives on a port with the given TPID setting, up to `depth` bytes (R80, R170). -/
def parse (tpidSetting depth : Nat) (l : Bytes) : Parsed :=
  let lim := min (min 128 depth) l.length
  let held := decide (l.length ≤ depth)
  let q := { Parsed.none with da := rdLim l lim 0 6, sa := rdLim l lim 6 6 }
  let t0 := rd l 12 2
  let q := if tpidKnown tpidSetting t0 then
      { q with tagged := true, tpid := t0, pcp := rd l 14 1 / 32, dei := rd l 14 1 / 16 % 2 == 1,
               vid := rd l 14 2 % 4096 }
    else q
  let o := if q.tagged then 16 else 12
  let q := { q with identType := rd l o 2 }
  let (q, o) := if q.tagged && rd l o 2 == 0x8100 then ({ q with inner := true }, o + 4) else (q, o)
  let (q, o) := if rd l o 2 == 0xF1C1 then ({ q with rtag := some (rd l (o + 4) 2) }, o + 6) else (q, o)
  let q := { q with etherType := rdLim l lim o 2, absent := decide (o + 2 > lim) }
  let mal1 := !q.tagged && q.identType == 0x0800 &&
    (rd l 14 1 % 16 < 5 || rd l 16 2 < rd l 14 1 % 16 * 4)
  let q := { q with malExpress := mal1 }
  if q.etherType == 0x0800 then parseIp4 l lim held (o + 2) q
  else if q.etherType == 0x86DD then parseIp6 l lim held (o + 2) q
  else q

/-! ### Keys (R168–R171): the number of a key has bit n of the layout at bit n -/

/-- Express key of an Ethernet frame (R168). -/
def keyExpressEth (src zone vid prio : Nat) (dei : Bool) (stream : Option Nat) (known : Bool) (q : Parsed) : Nat :=
  src * 2 ^ 153 + zone * 2 ^ 149 + q.da * 2 ^ 101 + q.sa * 2 ^ 53 + vid * 2 ^ 41 + prio * 2 ^ 38 + b2n dei * 2 ^ 37 +
  q.identType * 2 ^ 21 + b2n q.tagged * 2 ^ 20 + b2n q.inner * 2 ^ 19 + b2n stream.isSome * 2 ^ 18 +
  stream.getD 0 * 2 ^ 6 + b2n known * 2 ^ 5 + b2n q.malExpress * 2 ^ 4

/-- Deep key of an Ethernet frame (R170). -/
def keyDeepEth (src zone vid : Nat) (stream : Option Nat) (checks flow : Nat) (absent : Bool) (q : Parsed) : Nat :=
  src * 2 ^ 377 + zone * 2 ^ 373 + b2n stream.isSome * 2 ^ 372 + stream.getD 0 * 2 ^ 360 + vid * 2 ^ 348 +
  q.ipver * 2 ^ 346 + q.sip * 2 ^ 218 + q.dip * 2 ^ 90 + q.proto * 2 ^ 82 + q.dscp * 2 ^ 76 + b2n q.nonFirst * 2 ^ 75 +
  q.sport * 2 ^ 59 + q.dport * 2 ^ 43 + q.tcp * 2 ^ 37 + checks * 2 ^ 21 + flow * 2 ^ 17 + b2n absent * 2 ^ 16 +
  b2n q.malDeep * 2 ^ 15

/-- Format code of a bus frame (R169). -/
def fmtCode : BusFmt → Nat
  | .classical => 0
  | .fd => 1
  | .fdBrs => 1
  | .xl => 2
  | .lin => 3

/-- Identifier field of a bus key (R169): base identifiers at its top 11 bits, LIN identifiers at its top 6. -/
def identField (f : BusFrame) : Nat :=
  if f.fmt = .lin then f.ident.val % 64 * 2 ^ 23
  else if f.ext then f.ident.val else f.ident.val % 2048 * 2 ^ 18

/-- Express key of a bus frame (R169). -/
def keyExpressBus (src zone : Nat) (fromContainer malformed : Bool) (f : BusFrame) : Nat :=
  src * 2 ^ 57 + zone * 2 ^ 53 + identField f * 2 ^ 24 + b2n f.ext * 2 ^ 23 + fmtCode f.fmt * 2 ^ 21 +
  b2n f.remote * 2 ^ 20 + f.sdt.toNat * 2 ^ 12 + f.vcid.toNat * 2 ^ 4 + b2n fromContainer * 8 + b2n malformed * 4

/-- Payload bytes 0–31 of a bus frame, byte 0 on top; bytes past the data are zero (R171). -/
def payload32 (f : BusFrame) : Nat := beNat (f.data.take 32) * 256 ^ (32 - min 32 f.data.length)

/-- Deep key of a bus frame (R171). -/
def keyDeepBus (src zone : Nat) (checks : Nat) (fromContainer absent malformed : Bool) (f : BusFrame) : Nat :=
  src * 2 ^ 377 + zone * 2 ^ 373 + identField f * 2 ^ 344 + b2n f.ext * 2 ^ 343 + fmtCode f.fmt * 2 ^ 341 +
  f.data.length * 2 ^ 329 + f.af.val * 2 ^ 297 + f.sdt.toNat * 2 ^ 289 + f.vcid.toNat * 2 ^ 281 + checks * 2 ^ 265 +
  b2n fromContainer * 2 ^ 264 + payload32 f * 2 ^ 8 + b2n absent * 2 ^ 7 + b2n malformed * 2 ^ 6

/-! ### Rates -/

/-- Mbit/s of a rate code of B+0x00:03. -/
def rateMbps (c : Nat) : Nat :=
  match c with
  | 1 => 10 | 2 => 100 | 3 => 1000 | 4 => 2500 | 5 => 5000 | 6 => 10000 | 7 => 25000 | _ => 0

/-- Highest rate in Mbit/s of an interface mode (R59). -/
def modeRate (m : Nat) : Nat :=
  match m with
  | 1 => 25000 | 2 => 10000 | 3 => 10000 | 4 => 2500 | 5 => 1000 | 6 => 100 | 7 => 10 | _ => 0

/-- The verdict-safe start S (R97) for ingress and egress rates in Mbit/s: ri = rate/6400 bytes per fc. -/
def safeStart (ri re : Nat) : Nat :=
  if ri = 0 ∨ re = 0 then 0
  else ceil8 (ceilDiv (64 * ri * re + 18 * 6400 * re + 4 * 6400 * ri) (6400 * (ri + re)))

/-- fc at which the ingress holds byte n (R97), never negative. -/
def holdFc (n ri : Nat) : Nat := if ri = 0 then 0 else ceilDiv ((n - 18) * 6400) ri

/-- The early-start length (R97): ceil8(4 + (72 − start)·re). -/
def earlyLen (start re : Nat) : Nat := ceil8 (4 + ceilDiv ((72 - start) * re) 6400)

end Sys2Proof.Machine
end

