-- ==== Sys2Proof/Machine/Flags.lean ====
section
/-!
DEFINITION. Flags.lean: the decision of the Sieve as a function of its key and of the tables of one epoch (R165–R178),
and the words that its pass-pairs compare (R195, R197).
-/
namespace Sys2Proof.Machine

/-- Zone of a source (R165). -/
def zoneOf (b : Bank) (src : Nat) : Nat := nbyte (bkO b 0x4001 0) src % 16

/-- Deep key depth of a zone (R170). -/
def depthOf (b : Bank) (z : Nat) : Nat := nbyte (bkO b 0x4003 0) z

/-- Miss actions of a zone pair (R167): express 0 deny, 1 permit, 2 go deep; deep 0 deny, 1 permit. -/
def missExpress (b : Bank) (i e : Nat) : Nat := nbyte (bkO b 0x4002 0) (2 * (16 * i + e))

def missDeep (b : Bank) (i e : Nat) : Nat := nbyte (bkO b 0x4002 0) (2 * (16 * i + e) + 1)

/-- Value and mask match (R173). -/
def keyMatches (key value mask : Nat) : Bool := Nat.land (Nat.xor key value) mask == 0

/-- A rule of table t matches key in the zone pair (R167, R172): class, zones, value and mask; a malformed key needs
the malformed bit in the mask with value 1. -/
def ruleMatches (b : Bank) (t r cls key : Nat) (malBit : Nat) (mal : Bool) (i e : Nat) : Bool :=
  bkE b r t 2 == cls && bit (bkE b r t 5) i && bit (bkE b r t 6) e &&
    keyMatches key (bkE b r t 3) (bkE b r t 4) &&
    (!mal || (bit (bkE b r t 4) malBit && bit (bkE b r t 3) malBit))

/-- The lowest-numbered matching rule (R167). -/
def firstRule (b : Bank) (t cls key malBit : Nat) (mal : Bool) (i e : Nat) : Option Nat :=
  (entriesOf b t).find? fun r => ruleMatches b t r cls key malBit mal i e

/-- Action word of a rule (R178). -/
def actionIndex (b : Bank) (t r : Nat) : Nat := bkE b r t 7

def actionWord (b : Bank) (a : Nat) : Nat := bkE b a 0x4012 2

def wordVerdict (w : Nat) : Nat := field w 62 2

/-- Table number of a rule table as ZoneDec names it. -/
def tableCode (t : Nat) : Nat := if t == 0x4011 then 1 else 2

/-- Decision of one zone by one table, else by the miss action `miss` (R167). -/
def decideZone (b : Bank) (t cls key malBit : Nat) (mal : Bool) (i e miss : Nat) (deep : Bool) : ZoneDec :=
  match firstRule b t cls key malBit mal i e with
  | some r => ⟨e, wordVerdict (actionWord b (actionIndex b t r)), tableCode t, r, deep⟩
  | none => ⟨e, miss, 0, 0, deep⟩

/-- Zones without repeats, ascending. -/
def zonesOf (b : Bank) (srcs : List Nat) : List Nat := srcs.foldl (fun l p => setIns (zoneOf b p) l) []

/-- The table of a zone decision. -/
def decTable (d : ZoneDec) : Nat := if d.table == 1 then 0x4011 else 0x4010

/-- The acting rule (R167): of the deciding rules that permit, every CAN-ID rule before every ternary rule, and the
lower number within a table. -/
def better (x y : ZoneDec) : Bool := x.table < y.table || (x.table == y.table && x.rule < y.rule)

def actingRule (l : List ZoneDec) : Option ZoneDec :=
  l.foldl (fun a d =>
    if d.verdict == 1 && d.table ≠ 0 then
      match a with
      | none => some d
      | some x => if better d x then some d else a
    else a) none

/-- Action word that applies to a decision; 0 where no rule permits (R167, R195). -/
def actingWord (b : Bank) (l : List ZoneDec) : Nat :=
  match actingRule l with
  | some d => actionWord b (actionIndex b (decTable d) d.rule)
  | none => 0

/-! ### Payload checks and flows (R174, R175) -/

/-- Anchor of a check in an Ethernet frame, or in a bus frame; none where the frame has no such anchor. -/
def anchorEth (q : Parsed) (a : Nat) : Option Nat :=
  match a with
  | 0 => some 0
  | 1 => if q.l3 = 0 then none else some q.l3
  | 2 => if q.l4 = 0 then none else some q.l4
  | 3 => if q.pay = 0 then none else some q.pay
  | _ => none

def anchorBus (a : Nat) : Option Nat := if a == 4 then some 0 else none

/-- Comparison of a check (R175). -/
def compareOp (op x v u : Nat) : Bool :=
  match op with
  | 0 => x == v
  | 1 => x ≠ v
  | 2 => decide (x < v)
  | 3 => decide (v ≤ x)
  | _ => decide (v ≤ x ∧ x ≤ u)

/-- Result of check c over a byte string with a limit: (true, absent) (R175). -/
def checkOne (b : Bank) (c : Nat) (anchor : Option Nat) (l : Bytes) (lim : Nat) : Bool × Bool :=
  match anchor with
  | none => (false, true)
  | some a =>
    let o := a + bkE b c 0x4014 6
    let w := bkE b c 0x4014 7
    if o + w ≤ lim then
      (compareOp (bkE b c 0x4014 0x0A) (Nat.land (rd l o w) (bkE b c 0x4014 8)) (bkE b c 0x4014 9)
        (bkE b c 0x4014 0x0B), false)
    else (false, true)

/-- Enabled checks of a zone (R175). -/
def checksOf (b : Bank) (z : Nat) : List Nat :=
  (entriesOf b 0x4014).filter fun c => bkE b c 0x4014 2 == 1 && bit (bkE b c 0x4014 3) z

/-- Check results of a frame (bit per result) and the absent bit (R175). -/
def runChecks (b : Bank) (z : Nat) (anchor : Nat → Option Nat) (l : Bytes) (lim : Nat) : Nat × Bool :=
  (checksOf b z).foldl (fun acc c =>
    let r := checkOne b c (anchor (bkE b c 0x4014 5)) l lim
    let k := bkE b c 0x4014 4
    (if r.1 && !bit acc.1 k then acc.1 + 2 ^ k else acc.1, acc.2 || r.2)) (0, false)

/-- Flow key of a frame (R174, 0x4013:01) as the number of its 40 bytes. -/
def flowKey (z : Nat) (q : Parsed) : Nat :=
  leNat ([BitVec.ofNat 8 z, BitVec.ofNat 8 q.ipver, BitVec.ofNat 8 q.proto, 0] ++ beBytes 16 q.sip ++ beBytes 16 q.dip ++
    beBytes 2 q.sport ++ beBytes 2 q.dport)

/-- Bucket of a flow key (R174). -/
def flowBucket (b : Bank) (k : Nat) : Nat :=
  crc32c (Nat.xor 0xFFFFFFFF (bkO b 0x4000 9)) (leBytes 40 k) % 16384

/-- Flow class of a key, 0 on a miss (R174). -/
def flowClass (b : Bank) (k : Nat) : Nat := tget 0 b.flows k

/-- A zone has an enabled payload check or a flow entry (R177). -/
def zoneHasD1 (b : Bank) (z : Nat) : Bool :=
  !(checksOf b z).isEmpty || b.flows.any fun kv => kv.1 % 16 == z

/-! ### The decision (R176, R177) -/

/-- Inputs of a decision. -/
structure DecIn where
  source : Nat
  zone : Nat
  zones : List Nat
  bus : Bool
  keyExpress : Nat
  malExpress : Bool
  malDeep : Bool
  /-- Deep key given check results, flow class and absent bit. -/
  absent : Bool
  checks : Nat
  checksAbsent : Bool
  flow : Nat
  spoofed : Bool
  /-- The stream handle comes from an IP stream entry (R91, R176). -/
  streamDeep : Bool

/-- Express decision of the zones (R167, R176). -/
def expressDecs (b : Bank) (x : DecIn) : List ZoneDec :=
  x.zones.map fun e =>
    if x.bus then decideZone b 0x4011 1 x.keyExpress 2 x.malExpress x.zone e (missExpress b x.zone e) false
    else decideZone b 0x4010 1 x.keyExpress 4 x.malExpress x.zone e (missExpress b x.zone e) false

/-- Final decision of the zones: those that go deep are decided by class-2 or class-3 rules on the deep key (R177). -/
def finalDecs (b : Bank) (x : DecIn) (keyDeep : Nat) (l : List ZoneDec) : List ZoneDec :=
  l.map fun d =>
    if d.verdict == 2 then
      decideZone b 0x4010 (if x.bus then 3 else 2) keyDeep (if x.bus then 6 else 15) x.malDeep x.zone d.zone
        (missDeep b x.zone d.zone) true
    else d

/-- An action carries a profile or a limiter (R178). -/
def needsD3 (w : Nat) : Bool := bit w 30 || bit w 19

/-- The pass-pairs of a decision after its express pair (R177). -/
def deepPairs (b : Bank) (x : DecIn) (ex fin : List ZoneDec) : List Nat :=
  let goes := ex.any fun d => d.verdict == 2
  (if goes && zoneHasD1 b x.zone then [1] else []) ++ (if goes then [2] else []) ++
    (if needsD3 (actingWord b fin) then [3] else [])

/-- The lane that takes a decision (R188): the one whose express queue is shorter, else source mod 2; 2 where none works, or none has passed its
self-test (R203). -/
def chooseLane (s : State) (src : Nat) : Nat :=
  let ok (n : Nat) : Bool := reg 0x4050 (n + 1) s == 0 && !(tget laneSt0 s.lanes n).testing
  let len (n : Nat) : Nat := (s.decs.filter fun d => d.lane == n && d.pairs.head? == some 0).length
  if ok 0 && ok 1 then (if len 0 < len 1 then 0 else if len 1 < len 0 then 1 else src % 2)
  else if ok 0 then 0 else if ok 1 then 1 else 2

/-! ### Output words (R195) and consequence of a divergent bit (R197) -/

/-- Zone decisions that a pass-pair outputs: the express pair its own, the later pairs the final ones. -/
def pairDecs (d : Decision) (pair : Nat) : List ZoneDec := if pair == 0 then d.express else d.final

/-- Word 0, verdict word. -/
def word0 (b : Bank) (d : Decision) (pair : Nat) : Nat :=
  let l := pairDecs d pair
  l.foldl (fun w z => w + z.verdict * 2 ^ (2 * z.zone + 32)) 0 +
    l.foldl (fun w z => w + (if z.table == 0 then 2 ^ (z.zone + 16) else 0)) 0 + pair * 2 ^ 14 +
    (match actingRule l with
      | some z => actionIndex b (decTable z) z.rule
      | none => 0)

/-- Word 1, action word. -/
def word1 (b : Bank) (d : Decision) (pair : Nat) : Nat := actingWord b (pairDecs d pair)

/-- Digest of the deciding rules (R195): n + 1 at bit 2e of a 40-bit word, wrapping. -/
def digest (l : List ZoneDec) : Nat :=
  l.foldl (fun w z =>
    let x := if z.table == 0 then 0 else (z.rule + 1) % 16384
    let y := x * 2 ^ (2 * z.zone)
    Nat.xor w (y % 2 ^ 40 + y / 2 ^ 40)) 0

/-- Word 2, side word; the limiter, freshness and MAC bits of D3 are given. -/
def word2 (d : Decision) (pair side : Nat) : Nat :=
  digest (pairDecs d pair) + (if pair == 3 then side * 2 ^ 40 else 0) +
    (if pair == 1 then d.checks * 2 ^ 48 + d.flow * 2 ^ 44 + b2n (d.flow ≠ 0) * 2 ^ 43 else 0)

/-- Some zone is permitted in a verdict word, over the candidate zones. -/
def permits (w0 : Nat) (zones : List Nat) : Bool := zones.any fun e => field w0 (2 * e + 32) 2 == 1

/-- Bits of word k that are consequential under outputs (w0, w1) of one pass (R197). -/
def conseqBit (zones : List Nat) (pair w0 w1 k i : Nat) : Bool :=
  match k with
  | 0 =>
    if i ≥ 32 then zones.contains ((i - 32) / 2)
    else if i ≥ 16 then zones.contains (i - 16)
    else if i ≥ 14 then true
    else permits w0 zones
  | 1 =>
    if i ≤ 8 then false
    else if i ≥ 62 || i == 61 || i == 55 || i == 43 || i == 30 || i == 19 then permits w0 zones
    else if 58 ≤ i then bit w1 61
    else if 56 ≤ i then field w1 56 2 ≠ 0
    else if 44 ≤ i then bit w1 55
    else if 33 ≤ i then bit w1 43
    else if 31 ≤ i then field w1 31 2 ≠ 0
    else if 20 ≤ i then bit w1 30
    else bit w1 19
  | _ => if i ≥ 43 then pair == 1 else if i ≥ 40 then pair == 3 else true

/-- A divergence x of word k is consequential under the output of either pass (R197). -/
def consequential (zones : List Nat) (pair w0 w1 x0 x1 k x : Nat) : Bool :=
  (bitsOf 64 x).any fun i =>
    conseqBit zones pair w0 w1 k i || conseqBit zones pair (Nat.xor w0 x0) (Nat.xor w1 x1) k i

end Sys2Proof.Machine
end

