-- ==== Sys2Proof/Machine/Links.lean ====
section
/-!
DEFINITION. Links.lean: the state of a port's link and what its loss and return do to the units behind it (R61, R62, R131,
R134, R135, R160, R273, R276).
-/
namespace Sys2Proof.Machine

/-- Indexes of port p's block (R58): configuration, status, identity, and its counters (R68). -/
def pB (p : Nat) : Nat := 0x2000 + 0x40 * p

def pS (p : Nat) : Nat := 0x2001 + 0x40 * p

def pI (p : Nat) : Nat := 0x2002 + 0x40 * p

def pC (p : Nat) : Nat := 0x7000 + 0x10 * p

/-- A firing that follows from a change, taken up at the end of the command. -/
def owe (n d : Nat) (s : State) : State := { s with faults := { s.faults with due := s.faults.due ++ [(n, d)] } }

/-- Domain d is powered (R457). -/
def powered (d : Nat) (s : State) : Bool := bit (reg 0x5020 2 s) d

/-- Power domain of a switch port (R9, R10). -/
def portDomain (p : Nat) : Nat := if p < 16 then p / 4 else if p < 30 then 4 else if p == 30 then 12 else 16

/-- A switch port is up: ports 30 to 32 while their domain is powered, port 30 also only while the PCIe link is not lost
(R10, R62, R368). -/
def portUp (p : Nat) (s : State) : Bool :=
  if p < 30 then reg (pS p) 1 s == 1
  else if p == 30 then powered 12 s && (reg 0x5C00 1 s == 2 || reg 0x5C00 1 s == 3)
  else true

/-- The endpoint serves BAR0: the PCIe link is up (R331, R333). -/
def bar0Up (s : State) : Bool := reg 0x5C00 1 s == 2 || reg 0x5C00 1 s == 3

/-- The endpoint trains its link (R467): it is powered and in work, and PE_PERST_N is high. -/
def linkTrains (s : State) : State :=
  if s.bridge.perst || !powered 12 s || s.faults.withdrawn.any (fun w => w.1 = .pcie) then s else setReg 0x5C00 1 1 s

/-- Operating rate of a port in Mbit/s (R14): 50 Gb/s on HP, 25 Gb/s on MP (taken as BP; assumption log 12) and BP. -/
def portRate (p : Nat) (s : State) : Nat :=
  if p < 30 then rateMbps (reg (pS p) 3 s) else if p == 30 then 50000 else 25000

/-- Rate codes that a mode offers (R59), highest first. -/
def modeRates (m : Nat) : List Nat :=
  match m with
  | 1 => [7] | 2 => [6] | 3 => [6, 5, 4] | 4 => [4] | 5 => [3, 2, 1] | 6 => [2] | 7 => [1] | _ => []

/-- Maximum frame size of an ingress port (R67). -/
def maxFrame (b : Bank) (p : Nat) : Nat := if p < 30 then bkO b (pB p) 5 else 9216

/-! ### Holdover (R276) -/

/-- The steering source enters holdover with a given start time in ns: A is frozen at the last rate-ratio estimate, the flag
is set, source 0xC0 fires. Only state 3 has a transition into holdover (R275). -/
def enterHoldover (start : Nat) (s : State) : State :=
  if reg 0x3800 6 s ≠ 3 then s
  else
    let s := setReg 0x3800 5 (ofInt 32 s.time.ratio) (setReg 0x3800 6 4 s)
    let s := count 0x3801 5 (setReg 0x3801 2 (time80 start) (setReg 0x3801 1 1 s))
    owe 0xC0 0 { s with time := { s.time with holdAt := wall s, inLock := 0 } }

/-- Port state of port p for instance d: the external one (0x3820 + p:02), or what the best master clock algorithm of IEEE 802.1AS gives,
which is left open (R271; assumption log 10). -/
def ptpRole (b : Bank) (p d : Nat) : Nat :=
  if bkO b (0x3810 + d) 4 == 1 then Config.freeFun 1 [d, p] % 4 else nbyte (bkO b (0x3820 + p) 2) d

/-- Port p is the slave port of the steering instance. -/
def steersFrom (p : Nat) (s : State) : Bool :=
  p < 22 && cfg 0x3800 3 s == 1 && ptpRole s.cfg p (cfg 0x3800 4 s) == 2 &&
    bit (cfg (0x3820 + p) 1 s) (cfg 0x3800 4 s)

/-- Port p stops being asCapable: source 0xC5 fires, and holdover is entered if the port steers local time (R273, R276). -/
def loseCapable (p : Nat) (s : State) : State :=
  if p < 22 && reg (0x3820 + p) 0x0A s == 1 then
    let s := owe 0xC5 p (setReg (0x3820 + p) 0x0A 0 s)
    if steersFrom p s then enterHoldover (nowNs s) s else s
  else s

/-! ### Loss and return of a link -/

def egr (p : Nat) (s : State) : EgressSt := tget egressSt0 s.egress p

def setEgr (p : Nat) (e : EgressSt) (s : State) : State := { s with egress := tset egressSt0 s.egress p e }

def prt (p : Nat) (s : State) : PortSt := tget portSt0 s.ports p

def setPrt (p : Nat) (x : PortSt) (s : State) : State := { s with ports := tset portSt0 s.ports p x }

def ptpPort (p : Nat) (s : State) : PtpPort := tget ptpPort0 s.time.port p

def setPtpPort (p : Nat) (x : PtpPort) (s : State) : State :=
  { s with time := { s.time with port := tset ptpPort0 s.time.port p x } }

/-- The frame in transmission on port p is cut off and counted as stomped, a preempted one with it (R62). -/
def cutFrame (p : Nat) (s : State) : State :=
  let e := egr p s
  let cut (c : Option Copy) (s : State) : State :=
    match c with
    | none => s
    | some c => emit (.eth p c.data true) (count (pC p) 9 s)
  let s := cut e.preempted (cut e.cur s)
  setEgr p { e with cur := none, preempted := none } s

/-- Port p goes down with a reason (R62): its frame is cut off, its credits are held at 0 (R134), preemption ends, its
link-delay measurement is void (R273), and a loss in Headless is remembered (R79). -/
def portDown (p reason : Nat) (s : State) : State :=
  if p ≥ 30 then s
  else
    let was := reg (pS p) 1 s == 1
    let s := setReg (pS p) 4 reason (setReg (pS p) 3 0 (setReg (pS p) 2 0 (setReg (pS p) 1 0 s)))
    if !was then s
    else
      let s := cutFrame p (count (pS p) 6 s)
      let s := setEgr p { egr p s with credit := [] } s
      let s := when (decide (p < 16)) (setReg (0x3580 + p) 7 0) s
      let s := when (decide (16 ≤ p ∧ p < 22)) (setReg (pB p + 4) 2 0) s
      let s := when (decide (22 ≤ p ∧ p < 30)) (setReg (pB p + 5) 7 0) s
      let st := prt p s
      let s := setPrt p { st with
        since := wall s, lostHeadless := st.lostHeadless || decide (s.dev = .headless)
        reread := st.reread || decide (s.dev = .operate ∧ p < 16) } s
      let s := setPtpPort p { ptpPort p s with completed := 0, open_ := false } s
      let s := loseCapable p s
      if steersFrom p s then enterHoldover (nowNs s) s else s

/-- Highest rate in Mbit/s of the mode in use on port p (R111, R135): of its operating mode, else of its configured mode, or
of its record where the mode is taken from there; the largest rate of the port's kind while no mode is known. -/
def topRate (b : Bank) (p : Nat) (s : State) : Nat :=
  if p ≥ 30 then portRate p s
  else
    let m := bkO b (pB p) 2
    if m ≠ 0 then modeRate m
    else if reg (pI p) 4 s == 2 || reg (pI p) 4 s == 3 then modeRate (nbyte (reg (pI p) 5 s) 6)
    else if p < 4 then 25000 else 2500

/-- Rate at which gate-derived reservations are computed at run time (R111). -/
def runRate (p : Nat) (s : State) : Nat := if portUp p s then portRate p s else topRate s.cfg p s

/-- Sum of a port's enabled idle slopes in kbit/s (R135). -/
def slopeSum (b : Bank) (p : Nat) : Nat :=
  (List.range 8).foldl (fun a q => a + (if bit (bkO b (0x34C0 + p) 1) q then bkO b (0x34C0 + p) (2 + q) else 0)) 0

/-- Idle slopes are scaled when their sum exceeds the operating rate (R135). -/
def scaleSlopes (p : Nat) (s : State) : State :=
  if p < 30 then setReg (0x3480 + p) 0x0B (b2n (decide (slopeSum s.cfg p > 1000 * portRate p s))) s else s

/-- Verification starts (R160): attempts are counted afresh, and the status reads verifying, initial where no attempt is
sent yet, or disabled. -/
def startVerify (p : Nat) (s : State) : State :=
  if p ≥ 16 then s
  else
    let on := cfg (0x3580 + p) 1 s == 1
    let ver := cfg (0x3580 + p) 4 s == 1
    let s := setReg (0x3580 + p) 6 (if on && ver then 1 else 0) s
    let s := setReg (0x3580 + p) 7 (b2n (on && !ver)) s
    setEgr p { egr p s with verifyTries := 0, verifyAt := wall s } s

/-- Port p comes up in a mode at a rate code (R61, R62): tags and credits start from 0 (R131, R134), slopes are scaled
(R135), verification starts (R160). -/
def linkUpAt (p mode rate : Nat) (s : State) : State :=
  let s := setReg (pS p) 5 0 (setReg (pS p) 4 0 (setReg (pS p) 3 rate (setReg (pS p) 2 mode (setReg (pS p) 1 1 s))))
  let s := count (pS p) 6 s
  let s := if 16 ≤ p && p < 30 then setReg (pB p + 6) 4 0 s else s
  let s := setEgr p { egr p s with v := 0, fin := [], start := [], credit := [], fix := none } s
  startVerify p (scaleSlopes p s)

end Sys2Proof.Machine
end

