-- ==== Sys2Proof/Machine/Sources.lean ====
section
/-!
DEFINITION. Sources.lean: fault sources and their settings (R405, R407), and key slots as the engines use them (R377).
-/
namespace Sys2Proof.Machine

/-- Lifecycle of R373: 0 Blank, 1 Provisioned, 2 Field, 3 Retired. -/
def lifecycle (s : State) : Nat := reg 0x6000 1 s

/-- A key slot: the derived and generated ones of R377 exist by the lifecycle, and a Retired device holds none. -/
def keySlot (n : Nat) (s : State) : KeySlot :=
  let derived (use : Nat) : KeySlot :=
    if lifecycle s == 3 then keySlot0
    else ⟨2, use, 0, true, Config.kdf Config.deviceKey (leBytes 1 n ++ leBytes 1 (lifecycle s))⟩
  if n == 0xE0 then ⟨2, 0, 0, true, Config.deviceKey⟩
  else if n == 0xE1 then derived 0x80
  else if n == 0xE2 then derived 0x100
  else if n == 0xE3 then derived 0
  else if n == 0xE4 then (if lifecycle s == 1 || lifecycle s == 2 then ⟨5, 0x200, 4, true, Config.attestKey⟩ else keySlot0)
  else tget keySlot0 s.crust.slots n

/-- Key slot value as the engines use it (R377, R378). -/
def slotValue (n : Nat) (s : State) : Nat := (keySlot n s).value

/-- Serial number of OTP (R373). -/
def serialNo : Nat := Config.serial % 2 ^ 32

/-! ### Sources -/

/-- Enable and class of a source (R405, R407); the class of 0xAC–0xAE follows the tamper response (R399). -/
def srcEnabled (n : Nat) (s : State) : Bool := (sourceRow n).isSome && cfg (0x5900 + n) 1 s == 1

def srcClass (n : Nat) (s : State) : Nat :=
  if 0xAC ≤ n && n ≤ 0xAE then
    match reg 0x6060 (n - 0xAC + 1) s with
    | 0 => 0
    | 1 => 2
    | _ => 3
  else cfg (0x5900 + n) 2 s

def srcLevel (n : Nat) : Bool := bit (dflt (0x5900 + n) 3) 4

def srcSecurity (n : Nat) : Bool := bit (dflt (0x5900 + n) 3) 3

def srcSet (n : Nat) (s : State) : Bool := reg (0x5900 + n) 4 s == 1

/-- Highest class among the set sources, 0 where none is set (R317). -/
def highestClass (s : State) : Nat :=
  (List.range 256).foldl (fun m n => if (sourceRow n).isSome && srcSet n s then max m (srcClass n s) else m) 0

end Sys2Proof.Machine
end

