-- ==== Sys2Proof/Machine/Transport.lean ====
section
/-!
DEFINITION. Transport.lean: the sending side of the backbone register transport (R341–R346).
-/
namespace Sys2Proof.Machine

/-- Own device number (0x1010:01). -/
def ownDev (s : State) : Nat := cfg 0x1010 1 s

/-- Record of peer d. -/
def pP (d : Nat) : Nat := 0x5C28 + d

def peer (d : Nat) (s : State) : PeerSt := tget peerSt0 s.bridge.peers d

def setPeer (d : Nat) (x : PeerSt) (s : State) : State :=
  { s with bridge := { s.bridge with peers := tset peerSt0 s.bridge.peers d x } }

/-- The link to peer d is up (R343). -/
def peerUp (d : Nat) (s : State) : Bool := cfg 0x5C20 1 s == 1 && reg (pP d) 3 s == 1

/-- The leading n bytes of an AES-128-CMAC under a slot (R317, R342). -/
def macBytes (slot n : Nat) (l : Bytes) (s : State) : Bytes := (beBytes 16 (Config.cmac (slotValue slot s) l)).take n

/-- Transport header and data of a message to destination d (R342). -/
def msgBody (d : Nat) (m : TMsg) (again : Bool) (s : State) : Bytes :=
  let p := peer d s
  leBytes 1 1 ++ leBytes 1 m.type ++ leBytes 1 (ownDev s + 8 * (d % 8) + 64 * m.cls) ++
    leBytes 1 (m.role + 8 * b2n m.vol + 16 * b2n again) ++ leBytes 2 s.bridge.epoch ++ leBytes 2 m.seq ++
    leBytes 2 ((p.expect + 65535) % 65536) ++ leBytes 1 (p.gotP + 32) ++ leBytes 1 (p.gotN + 16) ++ leBytes 2 m.tag ++ leBytes 2 m.index ++
    leBytes 1 m.sub ++ leBytes 1 0 ++ leBytes 2 m.off ++ leBytes 2 m.len ++ leBytes 2 0 ++ leBytes 4 m.status ++ m.data

/-- A transport frame from its destination MAC to the last byte before the FCS (R341). -/
def msgFrame (mac : Bytes) (body : Bytes) (s : State) : Bytes :=
  mac ++ leBytes 6 (cfg 0x3C01 1 s) ++ beBytes 2 0x8100 ++ beBytes 2 (cfg 0x5C20 4 s * 2 ^ 13 + cfg 0x5C20 3 s) ++
    beBytes 2 0x88B5 ++ body ++ macBytes (cfg 0x5C20 6 s) 8 body s

/-- A frame goes to port 31 toward peer d; it carries the acknowledgement that is owed (R343). With the outputs safe nothing is sent (R416). -/
def txMsg (d : Nat) (m : TMsg) (again : Bool) (s : State) : State :=
  if s.faults.forced || s.dev = .safe || s.dev = .terminal then s else
  let f := msgFrame (leBytes 6 (reg (pP d) 2 s)) (msgBody d m again s) s
  emit (.transport d f) (setPeer d { peer d s with ackOwed := none } s)

/-- A message with no fields beyond its class, type, status and data. -/
def tMsg (cls type status : Nat) (data : Bytes) : TMsg := ⟨0, cls, type, 0, false, 0, 0, 0, 0, data.length, status, data⟩

/-- Message m may pass an earlier message e that waits (R346). -/
def mayPass (m e : TMsg) : Bool := (m.cls == 0 && e.type == 0x10) || (m.cls == 2 && (e.type == 0x10 || e.type == 0x11))

/-- Peer d has credit for a message of class c (R345). -/
def hasCredit (c : Nat) (p : PeerSt) : Bool :=
  if c == 0 then (p.limP + 256 - p.sentP) % 256 ≠ 0 && (p.limP + 256 - p.sentP) % 256 ≤ 128
  else if c == 1 then (p.limN + 256 - p.sentN) % 256 ≠ 0 && (p.limN + 256 - p.sentN) % 256 ≤ 128 && p.tags.length < 16
  else true

/-- A message leaves: it takes its sequence number and its credit, and stays until it is acknowledged. -/
def sendFirst (d : Nat) (m : TMsg) (s : State) : State :=
  let p := peer d s
  let m := { m with seq := p.nextSeq }
  let p := { p with
    nextSeq := (p.nextSeq + 1) % 65536, unacked := p.unacked ++ [m]
    progressAt := if p.unacked.isEmpty then wall s else p.progressAt
    sentP := if m.cls == 0 then (p.sentP + 1) % 256 else p.sentP
    sentN := if m.cls == 1 then (p.sentN + 1) % 256 else p.sentN
    tags := if m.cls == 1 then p.tags ++ [m.tag] else p.tags }
  let s := setReg (pP d) 4 p.tags.length (setPeer d p s)
  txMsg d m false s

/-- Waiting messages leave in their order, as credit and the order rules allow (R345, R346). `kept`: those already found to wait. -/
def pumpFrom (d : Nat) : List TMsg → List TMsg → State → State
  | [], kept, s => setPeer d { peer d s with waiting := kept } s
  | m :: t, kept, s =>
    if hasCredit m.cls (peer d s) && kept.all (mayPass m) then pumpFrom d t kept (sendFirst d m s)
    else pumpFrom d t (kept ++ [m]) s

def pump (d : Nat) (s : State) : State :=
  let s := pumpFrom d (peer d s).waiting [] s
  raise (pP d) 5 (peer d s).waiting.length s

/-- A message is sent to peer d, or waits for credit; without a link it is not sent, and an EVENT is counted as lost (R349). -/
def sendMsg (d : Nat) (m : TMsg) (s : State) : State :=
  if peerUp d s then pump d (setPeer d { peer d s with waiting := (peer d s).waiting ++ [m] } s)
  else if m.type == 0x20 then count (pP d) 8 s else s

/-- An EVENT: kind in the low half of its status word, number in the high half (R342, R349). -/
def sendEvent (d kind number : Nat) (data : Bytes) (s : State) : State := sendMsg d (tMsg 0 0x20 (kind + 65536 * number) data) s

end Sys2Proof.Machine
end

