-- ==== Sys2Proof/Machine/Lease.lean ====
section
/-!
DEFINITION. Lease.lean: pairing messages as they are built and sent (R317), and the end of a member's lease (R319).
-/
namespace Sys2Proof.Machine

/-- Code of a device state (R35). -/
def devCode : DevState → Nat
  | .boot => 0
  | .catch_ => 1
  | .configure => 2
  | .operate => 3
  | .headless => 4
  | .safe => 5
  | .terminal => 6
  | .sleepPrep => 7

/-- The device is a pair member (R311). -/
def member (s : State) : Bool := reg 0x5400 1 s == 1 || reg 0x5400 1 s == 2

def leased (e : Nat) (s : State) : Bool := member s && bit (cfg 0x5400 3 s) e

/-- The device is synchronised for pairing (R322). -/
def pairSync (limit : Nat) (s : State) : Bool := reg 0x3800 6 s == 3 && decide ((toInt 64 (reg 0x3800 7 s)).natAbs ≤ limit)

/-- The sender's next sequence word: epoch above, count below; the epoch steps when the count wraps (R317). -/
def nextPairSeq (s : State) : State :=
  let c := s.pair.count + 1
  { s with pair := { s.pair with
      count := c % 65536, epoch := if c == 65536 then (s.pair.epoch + 1) % 65536 else s.pair.epoch } }

def pairSeq (s : State) : Nat := s.pair.epoch * 65536 + s.pair.count

/-- A pairing message goes to each path that is configured: as an EVENT to each named device, or to the host referee through port 30
at 0xFF, and on the lease CAN engine while it works (R317). -/
def sendPairing (kind pairNo : Nat) (dest : List Nat) (engine ident : Nat) (body : Bytes) (s : State) : State :=
  let s := each dest (fun d s => if d < 8 then sendEvent d kind pairNo body s else emit (.pairing 64 0 body) s) s
  let st := reg (0x2802 + 0x20 * engine) 1 s
  if engine < 48 && (st == 3 || st == 4) then emit (.pairing engine (ident % 2 ^ 30) body) s else s

/-- An ACK of the member (R317, R319). -/
def sendAck (yield_ : Bool) (s : State) : State :=
  let s := nextPairSeq s
  let m := leBytes 1 (2 + 16 * cfg 0x5400 2 s + 64 * b2n yield_) ++
    leBytes 1 (ownDev s + 8 * b2n (pairSync (cfg 0x5400 0x0A s) s) + 16 * reg 0x5401 2 s) ++ leBytes 4 (pairSeq s) ++ leBytes 6 0
  sendPairing 5 (cfg 0x5400 2 s) [cfg 0x5400 6 s] (cfg 0x5400 7 s) (cfg 0x5400 8 s + reg 0x5400 1 s)
    (m ++ macBytes (cfg 0x5400 9 s) 4 m s) s

/-- The member is eligible: a state that may hold a lease, and no shadow disagreement (R315, R319). -/
def mayHold (s : State) : Bool :=
  (s.dev = .operate || s.dev = .configure || s.dev = .headless) && !srcSet 0xC9 s

/-- Member state without a lease (0x5401:01). -/
def restState (s : State) : Nat := if mayHold s then 1 else 4

/-- The lease ends: the leased engines are in shadow, where their error counters stay at 0 (R313, R314). -/
def endLease (s : State) : State :=
  if reg 0x5401 2 s == 0 then s
  else
    let s := setReg 0x5401 1 (restState s) (count 0x5401 9 (setReg 0x5401 2 0 s))
    let s := { s with pair := { s.pair with yielding := false } }
    each (List.range 48) (fun n s =>
      if leased n s then setReg (0x2802 + 0x20 * n) 2 0 (setReg (0x2802 + 0x20 * n) 3 0 s) else s) s

/-- A member ends its lease at once and says so (R319). -/
def yieldLease (s : State) : State :=
  if reg 0x5401 2 s == 1 then sendAck true (endLease s)
  else if member s then setReg 0x5401 1 (restState s) s else s

/-- Bytes 6 and 7 of the health report are frozen at their values on entry to Headless (R318). -/
def freezeHealth (s : State) : State :=
  { s with pair := { s.pair with frozen := devCode s.dev + 256 * highestClass s } }

end Sys2Proof.Machine
end

