-- ==== Sys2Proof/Machine/DmaCore.lean ====
section
/-!
DEFINITION. DmaCore.lean: rings, doorbells, records and the stopping of DMA channels (R355–R357, R361, R365–R368).
-/
namespace Sys2Proof.Machine

/-- Record of channel n. -/
def dP (n : Nat) : Nat := 0x5D00 + n

def dma (n : Nat) (s : State) : DmaSt := tget dmaSt0 s.dma n

def setDma (n : Nat) (x : DmaSt) (s : State) : State := { s with dma := tset dmaSt0 s.dma n x }

def gangSize (n : Nat) (s : State) : Nat := max 1 (cfg (dP n) 2 s)

/-- The leader of channel n's gang, itself for a solo channel (R12, R356), and the members behind a leader. -/
def leader (n : Nat) (s : State) : Nat := n / gangSize n s * gangSize n s

def gangMembers (n : Nat) (s : State) : List Nat := List.range' (leader n s) (gangSize n s)

def dmaKind (n : Nat) (s : State) : Nat := cfg (dP n) 1 s

def chState (n : Nat) (s : State) : Nat := reg (dP n) 0x0D s

def setChState (n v : Nat) (s : State) : State := setReg (dP n) 0x0D v s

def ringSize (n : Nat) (s : State) : Nat := max 1 (reg (dP n) 7 s)

/-- Descriptors posted and not consumed. -/
def posted (n : Nat) (s : State) : Nat := (reg (dP n) 0x0A s + ringSize n s - reg (dP n) 0x0B s) % ringSize n s

/-- A bit of the interrupt cause is set. -/
def cause (n b : Nat) (s : State) : State := setReg (dP n) 0x10 (setField (reg (dP n) 0x10 s) b 1 1) s

/-- The channel's vector is raised. -/
def dmaVector (n : Nat) (s : State) : State := msix (cfg (dP n) 5 s) s

/-- The producer index is set; the event export table may name the doorbell (R349). -/
def setProducer (n v : Nat) (s : State) : State := announce 4 n (leBytes 4 v) (setReg (dP n) 0x0A v s)

/-- A doorbell write (R356, R357). -/
def doorbell (n v : Nat) (s : State) : State :=
  if leader n s ≠ n || v ≥ ringSize n s then cause n 3 s else setProducer n v s

/-- A triggered doorbell (R365). -/
def dmaTrigger (n : Nat) (s : State) : State :=
  if leader n s ≠ n || posted n s + reg (dP n) 9 s ≥ ringSize n s then cause n 3 s
  else setProducer n ((reg (dP n) 0x0A s + reg (dP n) 9 s) % ringSize n s) s

/-- A completion record: ring index, status, flags, bytes moved (R361). -/
def dmaRecord (n idx status flags moved : Nat) (s : State) : State :=
  let x := dma n s
  if x.fifo.length ≥ 16 then cause n 4 s
  else setDma n { x with fifo := x.fifo ++ [leBytes 2 idx ++ leBytes 1 status ++ leBytes 1 flags ++ leBytes 4 moved] } s

/-- The consumer index is written back where an address is given (R357). -/
def ringPointer (n : Nat) (s : State) : State :=
  if reg (dP n) 8 s == 0 then s else emit (.hostWrite (reg (dP n) 8 s) (leBytes 4 (reg (dP n) 0x0B s))) s

/-- Every member of the gang reads a state. -/
def setGang (n v : Nat) (s : State) : State := each (gangMembers n s) (fun m s => setChState m v s) s

/-- The channel stops with a last status: state 1, a record, its vector; `host`: writes still reach the host (R361, R366, R368). -/
def dmaStop (n status : Nat) (host : Bool) (s : State) : State :=
  let s := cause n 1 (setReg (dP n) 0x0E status (setGang n 1 s))
  let s := dmaRecord n (reg (dP n) 0x0B s) status 0 0 s
  if host then dmaVector n (ringPointer n s) else s

/-- The write-back of a descriptor that has ended, its status shown as the last one; with its completion record and vector where it is
flagged (R361). -/
def writeBack (n : Nat) (e : DmaEnd) (s : State) : State :=
  let addr := reg (dP n) 6 s + 32 * e.idx + 24
  let phase := byteAt e.desc 20 % 2
  let flags := phase + 2 * b2n e.eof
  let s := emit (.hostWrite addr (leBytes 4 e.moved ++ leBytes 1 e.status ++ leBytes 1 flags ++ leBytes 2 0)) s
  let s := countBy 8 (dP n) 0x15 e.moved (count (dP n) 0x12 (setReg (dP n) 0x0E e.status s))
  if bit (byteAt e.desc 20) 1 then dmaVector n (ringPointer n (cause n 0 (dmaRecord n e.idx e.status flags e.moved s))) else s

/-- The consumer index passes k descriptors; the expected phase turns over with the ring (R357, R360). -/
def consume (n k : Nat) (s : State) : State :=
  let i := reg (dP n) 0x0B s + k
  let x := dma n s
  let s := if i ≥ ringSize n s then setDma n { x with phase := !x.phase } s else s
  setReg (dP n) 0x0B (i % ringSize n s) s

/-- The rest of a frame that the ring holds in part is dropped. -/
def dropTaken (n : Nat) (s : State) : State :=
  if (dma n s).taken == 0 then s
  else setEgr 30 { egr 30 s with cur := none, sent := 0, overrun := false } (setDma n { dma n s with taken := 0 } s)

/-- The same where the channel stops: the drop is counted (R366). -/
def dropRest (n : Nat) (s : State) : State := if (dma n s).taken == 0 then s else count (dP n) 0x13 (dropTaken n s)

/-- A gang or solo channel is disabled (R367): everything in flight is lost; its consumer index, residue and counts are left open. -/
def dmaDisable (n : Nat) (s : State) : State :=
  let l := leader n s
  let s := dropTaken l (setGang n 5 s)
  let s := setDma l { dma l s with fetched := [], ended := [], rereads := 0 } s
  let put (j w : Nat) (s : State) : State := useFree (setReg (dP l) j (freeNow s % w) s)
  let s := put 0x15 (2 ^ 64) (put 0x12 (2 ^ 32) (put 0x0F (2 ^ 32) (put 0x0B (ringSize l s) s)))
  dmaVector l (cause l 1 s)

/-- The first descriptor that has ended is passed and written back (R357, R361). -/
def writeBackNext (n : Nat) (e : DmaEnd) (s : State) : State :=
  let x := dma n s
  writeBack n e (consume n 1 (setDma n { x with ended := x.ended.tail } s))

/-- A solo channel stops at its burst boundary with a status; what has ended is written back, and the descriptor in work with its residue
(R366, R368). `host`: the host can be reached. -/
def dmaHalt (n status : Nat) (host : Bool) (s : State) : State :=
  let s := dropRest n s
  let s := if host then each (dma n s).ended (writeBackNext n) s else s
  let x := dma n s
  let s := setDma n { x with fetched := [], ended := [], rereads := 0 } s
  let cur := if host then x.fetched.head? else (x.ended.map fun e => (e.idx, e.desc)).head?.or x.fetched.head?
  match cur with
  | some (i, d) =>
    let s := setReg (dP n) 0x0F (leNat (slice 16 3 d)) (consume n 1 s)
    dmaStop n status host (if host then writeBack n ⟨i, d, 0, status, false⟩ s else s)
  | none => dmaStop n status host (setReg (dP n) 0x0F 0 s)

/-- Channels that run or abort are stopped by the loss of PD_PCIE (R368): solo channels at a burst boundary, gangs disabled; after it a solo
channel reads state 1 where the domain survives, else 5. -/
def dmaLoss (orderly survives : Bool) (s : State) : State :=
  each (List.range 64) (fun n s =>
    if leader n s ≠ n || (chState n s ≠ 2 && chState n s ≠ 3) then s
    else if gangSize n s > 1 then dmaDisable n s
    else
      let s := dmaHalt n 3 orderly s
      if survives then s else setChState n 5 s) s

/-- The link of the endpoint goes (R62, R368): the frame on port 30 is cut off, its credits are held at 0, channels stop, and reads of the
host that wait have no one left to answer. -/
def linkGoes (orderly survives : Bool) (s : State) : State :=
  let s := cutFrame 30 s
  let s := setEgr 30 { egr 30 s with credit := [] } s
  let s := { s with bridge := { s.bridge with reads := [] } }
  setReg 0x5C00 3 0 (setReg 0x5C00 2 0 (setReg 0x5C00 1 0 (dmaLoss orderly survives s)))

/-- An abrupt loss of the link (R368). -/
def linkLost (s : State) : State := linkGoes false (powered 12 s) s

/-- Channels at the entry of Safe or Terminal (R369). -/
def dmaSafe (s : State) : State :=
  each (List.range 64) (fun n s =>
    if leader n s ≠ n || (chState n s ≠ 2 && chState n s ≠ 3) then s
    else if gangSize n s > 1 then dmaDisable n s else dmaHalt n 2 true s) s

end Sys2Proof.Machine
end

