-- ==== Sys2Proof/Machine/SafeState.lean ====
section
/-!
DEFINITION. SafeState.lean: device-state changes (R35–R37), the restart of the management core (R23), and what forcing the
outputs to their safe state does to each unit (R415, R416).
-/
namespace Sys2Proof.Machine

/-- The Configure lock is released and the staged copy discarded (R39). -/
def dropLock (s : State) : State :=
  { s with
    staged := s.cfg
    sieve := { s.sieve with waitingWrites := [] }
    access := { s.access with holder := none, validating := false } }

/-- The refusal record of 0x1003 (R39). -/
def recordRefusal (code idx sub obj : Nat) (s : State) : State :=
  count 0x1003 6 (setReg 0x1003 5 (time80 (nowNs s)) (setReg 0x1003 4 obj (setReg 0x1003 3 sub (setReg 0x1003 2 idx
    (setReg 0x1003 1 code s)))))

/-- Roles of SDO, mailbox and SPI sessions are lost; in Terminal every role is (R45, R423). -/
def dropRoles (all : Bool) (s : State) : State :=
  { s with crust := { s.crust with
      roles := if all then [] else s.crust.roles.filter fun kv => kv.1 / 16 == 1 } }

/-- A device state in which a credential is kept (R45). -/
def keepsRoles (d : DevState) : Bool := d = .operate || d = .configure || d = .safe

/-- Change of the device state (R35, R36): the host event, the credentials, the lock, SAFE_N at the first Operate
or Configure after PORST_N (R417), and the start of the safe sleep timeout (R310). -/
def setDev (d : DevState) (s : State) : State :=
  if s.dev = d then s
  else
    let s := if s.dev = .configure then dropLock s else s
    let s := if d = .safe || d = .terminal then { s with wake := { s.wake with safeAt := wall s } } else s
    let s := { s with dev := d }
    let s := if d = .headless then freezeHealth s else s
    let s := if keepsRoles d then s else dropRoles (d = .terminal) s
    let s := if d = .operate || d = .configure then
        { s with faults := { s.faults with starting := false }, bridge := { s.bridge with answers := true } }
      else s
    hostEvent 0 s

/-- SAFE_N is driven low (R417). -/
def safeNLow (s : State) : Bool :=
  s.faults.starting || s.faults.forced || s.dev = .safe || s.dev = .terminal

/-- Restart of the management core (R23, R36, R37, R409): into Headless from Operate, Configure and Sleep-prep; in Safe
and Terminal the state stays. A restart already in progress is not started again. -/
def restartCore (s : State) : State :=
  if s.access.coreUp then
    let s := if s.access.holder.isSome then
        recordRefusal 0x05040000 0 0 0 (dropLock s)
      else s
    let s := { s with access := { s.access with coreUp := false, headlessSince := wall s } }
    if s.dev = .operate || s.dev = .configure || s.dev = .sleepPrep then setDev .headless s else s
  else s

/-- Ports 0–29: the frame in transmission ends with the stomp (R416). -/
def safePorts (s : State) : State :=
  (List.range 30).foldl (fun s p =>
    let e := tget egressSt0 s.egress p
    match e.cur with
    | none => s
    | some c =>
      let s := count (0x7000 + 0x10 * p) 9 s
      let s := emit (.eth p c.data true) s
      { s with egress := tset egressSt0 s.egress p { e with cur := none, preempted := none } }) s

/-- The Braider discards its pending sets, mailboxes, FIFOs and open containers; nothing stays in the engines' slots (R236, R265). -/
def discardBraid (s : State) : State :=
  let l := s.braid.routes.flatMap fun e => e.2.box.flatMap (·.2)
  let bad := l.filter fun e => s.buf.doomed.contains e
  { s with
    buf := { s.buf with freed := s.buf.freed ++ (l.filter fun e => !bad.contains e), orphans := s.buf.orphans ++ bad }
    braid := { s.braid with
      routes := tmap routeSt0 (fun x => { x with box := [], joined := false, held := false, missed := false, sent := false, owed := false }) s.braid.routes
      streams := []
      can := tmap canSt0 (fun x => { x with slots := [] }) s.braid.can
      lin := tmap linSt0 (fun x => { x with ident := none, own := false }) s.braid.lin } }

/-- The idle level of TTRIG k (R282): low until its output is enabled, and in Safe and Terminal; high when it is inverted. -/
def ttrigIdle (k : Nat) (s : State) : Nat :=
  if s.time.drivers && cfg (0x3840 + k) 9 s == 1 && cfg (0x3840 + k) 5 s == 1 && !s.faults.forced then 1 else 0

/-- A time output goes to a level. -/
def driveTtrig (k level : Nat) (s : State) : State := emit (.ball ("TTRIG" ++ toString k) level) s

/-- TTRIG and PPS_OUT go low (R283, R286, R416). -/
def timeLow (s : State) : State :=
  let s := each (List.range 8) (fun k s =>
    if tget 0 s.time.ttrig k ≠ 0 || ttrigIdle k { s with faults := { s.faults with forced := false } } == 1 then driveTtrig k 0 s else s) s
  let s := if s.time.ppsOut ≠ 0 then emit (.ball "PPS_OUT" 0) s else s
  { s with time := { s.time with ttrig := [], ppsOut := 0 } }

/-- All outputs to their safe state (R415, R416); drains stop (R460). -/
def safeOutputs (s : State) : State :=
  timeLow (dmaSafe (discardBraid (safePorts { setReg 0x5020 4 0 s with power := { s.power with drainAt := [] } })))

end Sys2Proof.Machine
end

