-- ==== Sys2Proof/Machine/Collector.lean ====
section
/-!
DEFINITION. Collector.lean: sealed records (R391–R395), the evaluated configuration (R402, R403), and the fault collector:
firings, classes, reactions, pending and first faults (R405–R423).
-/
namespace Sys2Proof.Machine

/-! ### Sealed records -/

/-- The first 112 bytes of a record, and its 128 bytes (R391). -/
def recBody (r : SealedRec) : Bytes :=
  leBytes 8 r.counter ++ leBytes 10 r.time ++ leBytes 2 r.code ++ leBytes 1 r.flags ++ leBytes 1 r.role ++
    leBytes 2 r.steps ++ (r.data.flatMap (leBytes 8)).take 56 ++
    List.replicate (56 - min 56 (8 * r.data.length)) 0 ++ leBytes 32 r.link

def recBytes (r : SealedRec) : Bytes := recBody r ++ leBytes 16 r.mac

/-- Records take their counters, links and MACs one after another, from the last counter and chain head (R391, R392); with the head
after them. -/
def chainRecords (key : Nat) : List SealedRec → Nat → Nat → List SealedRec × Nat
  | [], _, head => ([], head)
  | x :: t, c, head =>
    let body := { x with counter := c + 1, link := head }
    let r := { body with mac := Config.cmac key (recBody body) }
    let rest := chainRecords key t (c + 1) (Config.sha256 (recBytes r))
    (r :: rest.1, rest.2)

/-- One record is put into the queue with its counter and chain link; records of one cycle stand in ascending event code (R392, R393). -/
def recordOne (code role : Nat) (data : List Nat) (s : State) : State :=
  let x : SealedRec :=
    { counter := 0, time := time80 (nowNs s), code := code
      flags := reg 0x6000 5 s % 2 + 2 * b2n (reg 0x3800 6 s == 3) + 4 * b2n s.crust.aonContinuous
      role := role, steps := reg 0x3802 4 s % 65536, data := data, link := 0, mac := 0 }
  let q := s.crust.queue
  let later := (q.reverse.takeWhile fun r => r.time == x.time && r.code > code).reverse
  let head := match later.head? with
    | some r => r.link
    | none => s.crust.head
  let c := chainRecords (slotValue 0xE2 s) (x :: later) (s.crust.counter - later.length) head
  { s with crust := { s.crust with counter := s.crust.counter + 1, head := c.2, queue := q.take (q.length - later.length) ++ c.1 } }

/-- Creation of a record (R393): a full queue of 32 drops it and counts it; the next record created states the count of
those dropped. A Retired device writes none (R373). -/
def sealRecord (code role : Nat) (data : List Nat) (s : State) : State :=
  if reg 0x6000 1 s == 3 then s
  else if s.crust.queue.length ≥ 32 then
    count 0x6040 7 { s with crust := { s.crust with droppedRecords := s.crust.droppedRecords + 1 } }
  else if s.crust.droppedRecords = 0 then recordOne code role data s
  else
    let t := recordOne 2 0 [s.crust.droppedRecords] s
    let t := { t with crust := { t.crust with droppedRecords := 0 } }
    if t.crust.queue.length ≥ 32 then
      count 0x6040 7 { t with crust := { t.crust with droppedRecords := 1 } }
    else recordOne code role data t

/-- The unit that a Degrade reaction of source n with data d withdraws (R11, R408, R409): none where no unit can be
withdrawn, so that the reaction is carried out as Safe-State. -/
def srcUnit (n d : Nat) : Option UnitId :=
  let u := d % 256
  if n == 0x05 || n == 0xE2 then some .core
  else if n == 0x22 || n == 0x23 then some (.lane (n - 0x22))
  else if n == 0x20 || n == 0x24 then some (.lane 0)
  else if n == 0x21 || n == 0x25 then some (.lane 1)
  else if n == 0x45 then some .pcie
  else if n == 0x46 || n == 0x64 then some (.cluster u)
  else if n == 0x4E then some (.domain u)
  else if 0x60 ≤ n && n ≤ 0x63 then some (.port u)
  else if 0x80 ≤ n && n ≤ 0x84 || n == 0x86 || n == 0x87 then some (if u < 48 then .can u else .lin (u - 48))
  else if n == 0x85 then some (if u < 6 then .canCluster u else .linCluster)
  else if n == 0xA3 then some .trng
  else if n == 0xA5 then some .authUnit
  else if n == 0xA6 then some (.keySlot u)
  else if n == 0xB1 then some (.port u)
  else if n == 0xF0 then some .pcie
  else none

/-- Both lanes would be out (R16): the other lane does not work. -/
def lastLane (n : Nat) (s : State) : Bool := reg 0x4050 (2 - n) s ≠ 0

/-- Ports of a port cluster (R9): 0 BB, 1–3 ZA–ZC, 4 PHY. -/
def clusterPorts (c : Nat) : List Nat :=
  if c < 4 then List.range' (4 * c) 4 else if c == 4 then List.range' 16 14 else []

/-- The units that one withdrawal takes out of work. -/
def withdrawUnit (u : UnitId) (s : State) : State :=
  match u with
  | .port p => portDown p 0x0B s
  | .cluster c => (clusterPorts c).foldl (fun s p => portDown p 0x0B s) s
  | .can n => setReg (0x2802 + 0x20 * n) 1 8 s
  | .lin n => setReg (0x2E03 + 0x20 * n) 1 6 s
  | .canCluster c => (List.range' (8 * c) 8).foldl (fun s n => setReg (0x2802 + 0x20 * n) 1 8 s) s
  | .linCluster => (List.range 16).foldl (fun s n => setReg (0x2E03 + 0x20 * n) 1 6 s) s
  | .lane n => if reg 0x4050 (n + 1) s == 0 then setReg 0x4050 (n + 1) 1 s else s
  | .core => restartCore s
  | .pcie => linkLost s
  | .domain _ => s
  | .trng => setReg 0x6000 8 2 s
  | .authUnit => { s with crust := { s.crust with authWorking := false } }
  | .keySlot n => { s with crust := { s.crust with slots := tdel s.crust.slots n } }

/-- A Degrade withdraws its unit; the core's restart is over by itself and is not listed (R409, R410). -/
def withdraw (u : UnitId) (src : Nat) (s : State) : State :=
  let s := withdrawUnit u s
  if u = .core then s
  else if s.faults.withdrawn.contains (u, src) then s
  else { s with faults := { s.faults with withdrawn := s.faults.withdrawn ++ [(u, src)] } }

/-- The forcing of a Safe-State or Terminal reaction (R415, R416): SAFE_N and the outputs, the count of safe entries, the
host event. Terminal is latched at once (R423). -/
def forceSafe (cls : Nat) (s : State) : State :=
  let s := count 0x5800 0x0C s
  let s := { s with faults := { s.faults with forced := true, terminal := s.faults.terminal || cls == 3 } }
  hostEvent 1 (safeOutputs s)

/-- Start of the reaction of source n with class cls (R408, R409, R412); a Notice is complete at once. -/
def startReaction (n cls : Nat) (s : State) : State :=
  let d := reg (0x5900 + n) 0x0A s
  let eff := if cls == 1 then
      match srcUnit n d with
      | none => 2
      | some (.lane l) => if lastLane l s && !s.faults.forced then 2 else 1
      | some _ => 1
    else cls
  if eff == 0 then (if cfg 0x5800 0x0D s == 1 then hostEvent 0 s else s)
  else
    let s := match srcUnit n d with
      | some u => if cls == 1 then withdraw u n s else s
      | none => s
    let s := { s with faults := { s.faults with reaction := eff, source := n } }
    if eff ≥ 2 then forceSafe eff s else s

/-- First-fault captures (R414); among sources that fire in one cycle the highest class counts, and in a class the lowest number. -/
def captureFirst (n cls : Nat) (s : State) : State :=
  let t := time80 (nowNs s)
  let a := reg 0x5800 4 s
  let b := reg 0x5801 (cls + 1) s
  let graver := reg 0x5800 5 s == t && (cls > reg 0x5800 6 s || (cls == reg 0x5800 6 s && n < a))
  let s := if a == 0xFFFF || graver then setReg 0x5800 6 cls (setReg 0x5800 5 t (setReg 0x5800 4 n s)) else s
  if b == 0xFFFF || (reg 0x5801 (cls + 5) s == t && n < b) then setReg 0x5801 (cls + 5) t (setReg 0x5801 (cls + 1) n s) else s

/-- A firing is recorded (R405, R411). -/
def recordFiring (n d : Nat) (s : State) : State :=
  let i := 0x5900 + n
  let t := time80 (nowNs s)
  let s := count i 5 s
  let s := if reg i 4 s == 1 then s else setReg i 8 t s
  setReg i 0x0A d (setReg i 9 t (setReg i 4 1 s))

/-- A firing of an enabled source with its class (R408, R411–R413): its own reaction running is only an overrun; a higher
class pre-empts; equal or lower waits. A forced firing (bit 63 of its data) begins no condition (R419). -/
def fireRaw (n d : Nat) (s : State) : State :=
  if !srcEnabled n s then s
  else if srcLevel n && s.faults.condition.contains n then s
  else
    let cls := srcClass n s
    let s := captureFirst n cls (recordFiring n d s)
    let s := announce 1 n (leBytes 1 cls ++ leBytes 10 (time80 (nowNs s))) s
    let s := if srcLevel n && d < 2 ^ 63 then
        { s with faults := { s.faults with condition := setIns n s.faults.condition } } else s
    if s.faults.reaction ≠ 0 && s.faults.source == n then setReg (0x5900 + n) 6 1 s
    else if (n == 0x05 || n == 0xE2) && !s.access.coreUp then s
    else if s.faults.reaction == 0 || cls > s.faults.reaction then startReaction n cls s
    else { s with faults := { s.faults with pending := setIns n s.faults.pending } }

/-! ### The evaluated configuration -/

/-- Every listed entry of a table meets a condition. -/
def allEntries (s : State) (i : Nat) (f : Nat → Bool) : Bool := (entriesOf s.cfg i).all f

/-- An action that a rule uses names profile r. -/
def profileEnabled (s : State) (r : Nat) : Bool :=
  (entriesOf s.cfg 0x4011).any (fun k =>
    let w := actionWord s.cfg (cfgE k 0x4011 7 s)
    cfgE k 0x4011 2 s == 1 && bit w 30 && field w 20 10 == r) ||
  (entriesOf s.cfg 0x4010).any (fun k =>
    let w := actionWord s.cfg (cfgE k 0x4010 7 s)
    cfgE k 0x4010 2 s ≠ 0 && bit w 30 && field w 20 10 == r)

/-- Default class of sources 0xA0–0xB2 (R402 condition 10). -/
def crustSources : List Nat := List.range' 0xA0 19

/-- Unmet conditions of R402, bit n − 1 for condition n. -/
def unmet (s : State) : Nat :=
  let c (n : Nat) (ok : Bool) : Nat := if ok then 0 else 2 ^ (n - 1)
  c 1 (reg 0x6000 1 s == 2) + c 2 (reg 0x6000 2 s == 1) + c 3 (s.crust.evalFirmware && s.crust.evalConfig) +
  c 4 (cfg 0x5C01 1 s == 0) +
  c 5 ((List.range 16).all fun p => cfg (0x6100 + p) 1 s == 0 || (cfg (0x6100 + p) 4 s == 0 && cfg (0x6100 + p) 5 s == 1)) +
  c 6 ((List.range 1024).all fun r => !(profileEnabled s r) || cfgE r 0x4020 4 s ≥ 32) +
  c 7 (s.crust.slots.all fun kv => kv.2.origin ≠ 5 || kv.2.type == 0) +
  c 8 ((List.range' 1 3).all fun j => reg 0x6060 j s ≥ 1) +
  c 9 (reg 0x4000 1 s == 1) +
  c 10 (crustSources.all fun n => cfg (0x5900 + n) 1 s == 1 &&
    (if 0xAC ≤ n && n ≤ 0xAE then srcClass n s ≥ 2 else srcClass n s ≥ dflt (0x5900 + n) 2)) +
  c 11 (reg 0x6000 8 s == 1) + c 12 (!srcSet 0xA7 s)

/-- First unmet condition, 0 none. -/
def firstUnmet (m : Nat) : Nat :=
  match (List.range' 1 12).find? fun n => bit m (n - 1) with
  | some n => n
  | none => 0

/-- 0x6000:05 follows R402; every change is recorded, and leaving fires source 0xAB (R403). -/
def refreshEval (s : State) : State :=
  let m := unmet s
  let now := if m == 0 then 1 else 0
  let was := reg 0x6000 5 s
  let s := setReg 0x6001 1 (firstUnmet m) (setReg 0x6001 2 m s)
  if now == was then s
  else
    let s := setReg 0x6001 3 (time80 (nowNs s)) (setReg 0x6000 5 now s)
    let s := sealRecord 0x000D 0 [m] s
    if now == 0 then fireRaw 0xAB 0 s else s

/-- The firings that follow from what a command has done are taken up (R408). -/
def settle : Nat → State → State
  | 0, s => s
  | k + 1, s =>
    if s.faults.due.isEmpty then s
    else
      let l := s.faults.due
      settle k (each l (fun x => fireRaw x.1 x.2) { s with faults := { s.faults with due := [] } })

/-- A firing of source n with data d (R408), what follows from it, and the evaluated configuration after it (R402
conditions 11, 12). -/
def fire (n d : Nat) (s : State) : State :=
  let s := settle 4 (fireRaw n d s)
  if n == 0xA7 || n == 0xA3 || n == 0xA4 then refreshEval s else s

/-! ### End of a reaction -/

/-- The pending source that runs next (R413): highest class, then lowest number. -/
def nextPending (s : State) : Option Nat :=
  s.faults.pending.foldl (fun a n =>
    match a with
    | none => some n
    | some m => if srcClass n s > srcClass m s then some n else some m) none

/-- Pending reactions run until one takes time (R413). -/
def runPending : Nat → State → State
  | 0, s => s
  | k + 1, s =>
    if s.faults.reaction ≠ 0 then s
    else
      match nextPending s with
      | none => s
      | some n =>
        runPending k (startReaction n (srcClass n s)
          { s with faults := { s.faults with pending := setDel n s.faults.pending } })

/-- The reaction in progress completes (R408, R415): the device reads Safe or Terminal and yields its lease (R319), but for one
that serves the recovery loader, which stays in Boot (R375); pending reactions run. -/
def reactionDone (s : State) : State :=
  let r := s.faults.reaction
  let s := if r == 2 then (if s.dev = .terminal || s.power.recovery then s else yieldLease (setDev .safe s))
    else if r == 3 then yieldLease (setDev .terminal s) else s
  let s := { s with faults := { s.faults with reaction := 0, source := 0, forced := s.faults.forced } }
  runPending (s.faults.pending.length + 1) s

end Sys2Proof.Machine
end

