-- ==== Sys2Proof/Machine/Service.lean ====
section
/-!
DEFINITION. Service.lean: how a session's command is served: reach of the dictionary service (R35, R37, R47), the Configure
lock (R38–R40), and the answer (R34).
-/
namespace Sys2Proof.Machine

/-- A command's effect: the new state and the status word of its answer (R34). -/
abbrev Svc := State → State × Nat

/-- The effect is done and the answer is 0. -/
def done (s : State) : State × Nat := (s, 0)

/-- The command is refused with a code and changes nothing (R32). -/
def deny (c : Nat) (s : State) : State × Nat := (s, c)

/-- A refusal unless a condition holds. -/
def need (b : Bool) (c : Nat) (f : Svc) : Svc := fun s => if b then f s else (s, c)

/-- The session's path is in use: an SDO server or the SPI slave is enabled (R48, R55), a PXP session has been accepted (R50). -/
def sessionLive (ses : Session) (s : State) : Bool :=
  match ses with
  | .sdo n => cfg (0x1200 + n.val) 1 s == 1
  | .pxp n => ((tget none s.access.pxp n.val).map (·.phase)).getD 0 == 2
  | .mailbox _ => true
  | .spi => cfg 0x1230 1 s == 1
  | .bar0 => false

/-- The dictionary service answers: the management core runs, the device is not in Headless, and the dictionary has become
available (R23, R35, R37, R47). -/
def reachable (s : State) : Bool := s.access.coreUp && s.access.available && s.dev ≠ .headless

/-- An access of the lock holder restarts its idle time (R39). -/
def touch (ses : Session) (s : State) : State :=
  if s.access.holder = some ses then { s with access := { s.access with holderSince := wall s } } else s

/-- The first access of a session that lost the lock to an activation is refused (R40). -/
def evict (ses : Session) (f : Svc) : Svc := fun s =>
  if s.access.evicted = some ses then ({ s with access := { s.access with evicted := none } }, 0x08000022) else f s

/-- Service of a request: nothing happens in Boot and Catch, or on a path that is not in use (R47); the access-channel
hardware refuses while the service cannot be reached. -/
def serveWith (ses : Session) (f : Svc) (s : State) : State × Nat :=
  if reachable s then evict ses f (touch ses s) else (s, 0x08000022)

/-- A session's command: its effect, then the answer to the session. -/
def serve (ses : Session) (f : Svc) (s : State) : State :=
  if s.dev = .boot || s.dev = .catch_ || !sessionLive ses s then s
  else
    let r := serveWith ses f s
    emit (.answer ses r.2 []) r.1

/-- A command that returns data: its effect gives the state, the status word and the data of the answer. -/
abbrev SvcD := State → State × Nat × Bytes

/-- A session's request that returns data; none comes with a refusal (R34). -/
def serveData (ses : Session) (f : SvcD) (s : State) : State :=
  if s.dev = .boot || s.dev = .catch_ || !sessionLive ses s then s
  else if reachable s && s.access.evicted ≠ some ses then
    let r := f (touch ses s)
    emit (.answer ses r.2.1 (if r.2.1 == 0 then r.2.2 else [])) r.1
  else
    let r := serveWith ses done s
    emit (.answer ses r.2 []) r.1

/-- An access to a hot register acts in every state but Boot and Catch; in Terminal a write other than to a W1C object is discarded and
counted (R56). -/
def serveHot (w1c : Bool) (f : Svc) (s : State) : State :=
  if s.dev = .boot || s.dev = .catch_ || !bar0Up s then s
  else if s.dev = .terminal && !w1c then count 0x5C00 4 s
  else (f s).1

/-- A command whose object has a hot register: from a session, or through BAR0. -/
def serveBoth (ses : Session) (f : Svc) (s : State) : State :=
  match ses with
  | .bar0 => serveHot false f s
  | _ => serve ses f s

/-- A CMD object is written outside Terminal (R35). -/
def notTerminal (f : Svc) : Svc := fun s => if s.dev = .terminal then (s, 0x08000022) else f s

/-- A write to the staged configuration: in Configure, by the lock holder, not during validation (R30, R38, R40). -/
def stageCode (ses : Session) (s : State) : Nat :=
  if s.dev ≠ .configure then 0x08000022
  else if s.access.holder ≠ some ses then 0x08000021
  else if s.access.validating then 0x08000022 else 0

def staging (ses : Session) (f : Svc) : Svc := fun s =>
  let c := stageCode ses s
  if c = 0 then f s else (s, c)

/-- A SEAL object or command that needs a role of rank r or higher (R30, R387). -/
def needRole (ses : Session) (r : Nat) (f : Svc) : Svc := fun s =>
  if roleOf ses s ≥ r then f s else (s, 0x080000A1)

end Sys2Proof.Machine
end

