-- ==== Sys2Proof/Machine/Ports.lean ====
section
/-!
DEFINITION. Ports.lean: switch ports 0–29: identity records (R73–R79), bring-up and link changes (R59–R66), the MDIO
pass-through (R66), and foreign BEACONs (R71).
-/
namespace Sys2Proof.Machine

/-! ### Pecks of ports (R63, R472) -/

/-- Consumer number of switch port p. -/
def portConsumer (p : Nat) : Nat :=
  if p < 4 then 5 + p else if p < 16 then 8 + p else if p < 22 then 9 + p else 9 + p

/-- The peck state of a consumer (0x5001:05), and whether its charge is granted. -/
def peckState (n : Nat) (s : State) : Nat := if n == 0 then 2 else regE n 0x5001 5 s

def granted (n : Nat) (s : State) : Bool := peckState n s == 2

/-! ### The Port Identity Record -/

/-- Byte k of a record held as a number. -/
def recByte (r k : Nat) : Nat := nbyte r k

/-- Bytes 0–61 of a record, compared with a binding (R78, R398). -/
def recDigest (r : Nat) : Nat := Config.sha256 (leBytes 62 r)

/-- The module type fits the port (R73). -/
def moduleFits (p t : Nat) : Bool := t == 5 || (if p < 4 then t == 1 || t == 2 else t == 3 || t == 4)

/-- The conditions of R75 that need no signature check, for port p. -/
def recordFits (p r : Nat) : Bool :=
  recByte r 0 == 0x51 && recByte r 1 == 0x5A && recByte r 2 == 1 &&
    crc16 0xFFFF (leBytes 62 r) == recByte r 62 + 256 * recByte r 63 &&
    moduleFits p (recByte r 3) && modeListed p (recByte r 6) && (modeRates (recByte r 6)).contains (recByte r 5) &&
    recByte r 4 < 4 && recByte r 7 < 16 && recByte r 8 < 32 && recByte r 9 == p &&
    (List.range' 47 15).all fun k => recByte r k == 0

/-- The signature over bytes 0–63 under the module-signing key (R73, R75). -/
def recordSigned (r : Nat) (s : State) : Bool :=
  Config.ecdsaVerify (slotValue 0xE5 s) (Config.sha256 (leBytes 64 r)) (beNat (leBytes 64 (r / 256 ^ 64)))

/-- The binding of port p is compared with what was read (R78): 0 not bound, 1 match, 2 changed, 3 absent while bound; a
difference writes record 0x0003 and fires source 0xAA, as the module-changed source of the Crust. -/
def compareBinding (p : Nat) (r : Option Nat) (s : State) : State :=
  match tget 0 s.crust.bound p with
  | 0 => setReg (pI p) 6 0 s
  | d + 1 =>
    let now := match r with
      | some v => recDigest v
      | none => 0
    let res := if r.isSome then (if now = d then 1 else 2) else 3
    let s := setReg (pI p) 6 res s
    if res == 1 then s
    else fire 0xAA p (sealRecord 0x0003 0 [p, res, d / 2 ^ 192, d / 2 ^ 128 % 2 ^ 64, now / 2 ^ 192, now / 2 ^ 128 % 2 ^ 64] s)

/-- A record that differs from the one in use takes the port down, to be brought up on the new one (R79). -/
def retakeRecord (p r : Nat) (s : State) : State :=
  let x := prt p s
  let s := setPrt p { x with reread := false, lostHeadless := false } s
  if x.phase ≠ 0 && x.inUse ≠ r then setPrt p { prt p s with phase := 0 } (portDown p 2 s) else s

/-- Slot `slot` holds, or no longer holds, a record that names port p (R74). -/
def markSlot (p slot : Nat) (on : Bool) (s : State) : State :=
  setPrt p { prt p s with slot := setField (prt p s).slot slot 1 (b2n on) } s

/-- Ports that lost their link in Headless have their records read again when Operate returns (R79). -/
def rereadLost (s : State) : State :=
  each (List.range 16) (fun p s =>
    if (prt p s).lostHeadless then setPrt p { prt p s with reread := true, lostHeadless := false } s else s) s

/-- The validity of the record read from a slot for port p is settled (R75): state 2 or 3 for a valid one, 4 for an
invalid one, 5 where another slot's valid record names the same port (R74). -/
def settleRecord (slot p r st : Nat) (s : State) : State :=
  let old := reg (pI p) 4 s
  let dup := (st == 2 || st == 3) && (old == 2 || old == 3 || old == 5) && setField (prt p s).slot slot 1 0 ≠ 0
  let s := setReg (pI p) 5 r (setReg (pI p) 4 (if dup then 5 else st) s)
  let s := markSlot p slot true s
  let s := if dup then setPrt p { prt p s with phase := 0 } (portDown p 5 s) else s
  let s := if st == 4 then setPrt p { prt p s with phase := 0 } (portDown p 4 s) else s
  compareBinding p (some r) (retakeRecord p r s)

/-- No record was found for port p (R74, R76). -/
def recordAbsent (p : Nat) (s : State) : State :=
  let s := setReg (pI p) 4 1 s
  compareBinding p none (retakeRecord p 0 (setPrt p { prt p s with slot := 0 } s))

/-- A slot no longer holds a record for port p: one that another slot names keeps what it has. -/
def dropSlot (slot p : Nat) (s : State) : State :=
  if slot < 8 || setField (prt p s).slot slot 1 0 == 0 then recordAbsent p s else markSlot p slot false s

/-- Port that the record of a slot is for (R74): IDB0 slots 0–7 are ports 0–7, IDB1 slots 8–23 name a port by bank select. -/
def slotPort (slot r : Nat) : Option Nat :=
  if slot < 8 then some slot
  else if 8 ≤ recByte r 9 && recByte r 9 ≤ 15 then some (recByte r 9) else none

/-- The port that held a record of this slot. -/
def slotHolder (slot : Nat) (s : State) : Option Nat :=
  if slot < 8 then some slot
  else (List.range' 8 8).find? fun p => bit (prt p s).slot slot

/-- A slot has been read; when all 16 slots of IDB1 have been, the ports that no record names have none (R74). -/
def slotRead (slot : Nat) (s : State) : State :=
  if slot < 8 then s
  else
    let l := setIns slot s.idScan
    if l.length < 16 then { s with idScan := l }
    else
      let s := { s with idScan := [] }
      each (List.range' 8 8) (fun p s =>
        if reg (pI p) 4 s == 0 || (prt p s).reread then recordAbsent p s else s) s

/-- Nothing usable stands at a slot. -/
def slotEmpty (slot : Nat) (s : State) : State :=
  let s := match slotHolder slot s with
    | some p => dropSlot slot p s
    | none => s
  slotRead slot s

/-- The record read from a slot (R73–R75): a signed one waits for the Crust, an unsigned one is settled at once. -/
def slotRecord (slot r : Nat) (s : State) : State :=
  let s :=
    match slotHolder slot s with
    | some q => if slot < 8 || slotPort slot r == some q then s else dropSlot slot q s
    | none => s
  let s :=
    match slotPort slot r with
    | none => s
    | some p =>
      if recByte r 0 ≠ 0x51 || recByte r 1 ≠ 0x5A then (if slot < 8 then settleRecord slot p r 4 s else s)
      else if !recordFits p r then settleRecord slot p r 4 s
      else if recByte r 42 == 1 then
        { setReg (pI p) 5 r s with idWait := tset 0 s.idWait slot (r + 1) }
      else if cfg (pI p) 2 s == 1 then settleRecord slot p r 4 s
      else settleRecord slot p r 2 s
  slotRead slot s

/-- ID_RECORD_READ (R73–R78): the read of one slot ends, with the 128 bytes of a record or without an answer. -/
def execIdRecordRead (slot : Fin 24) (answered : Bool) (record : List Byte) (s : State) : Res :=
  .next (if answered && record.length == 128 then slotRecord slot.val (leNat record) s else slotEmpty slot.val s)

/-- ID_BUS_STRETCH_TIMEOUT (R74): the read ends, the error is counted, source 0x65 fires, the record counts as absent. -/
def execIdBusStretchTimeout (slot : Fin 24) (s : State) : Res :=
  .next (
    let p := (slotHolder slot.val s).getD 8
    let s := if slot.val < 8 || (slotHolder slot.val s).isSome then count (pI p) 7 s else s
    slotEmpty slot.val (fire 0x65 p s))

/-- RECORD_SIGNATURE_CHECK (R75, R77): the Crust ends the check of a waiting record. -/
def execRecordSignatureCheck (slot : Fin 24) (s : State) : Res :=
  .next (
    match tget 0 s.idWait slot.val with
    | 0 => s
    | r + 1 =>
      let s := { s with idWait := tdel s.idWait slot.val }
      match slotPort slot.val r with
      | none => s
      | some p => settleRecord slot.val p r (if recordSigned r s then 3 else 4) s)

/-! ### Settings of a port (R76) -/

/-- Settings in use: mode, lane, MDIO address, highest rate code of the record (0 none), expected PHY identifier, and whether
a PHY is present. -/
structure PortCfg where
  mode : Nat
  lane : Nat
  mdio : Nat
  top : Nat
  expected : Nat
  phy : Bool
deriving DecidableEq, Repr

/-- Settings from B+0x00, or from the record (R76). -/
def cfgSettings (p : Nat) (s : State) : PortCfg :=
  ⟨cfg (pB p) 2 s, cfg (pB p) 6 s, cfg (pB p) 8 s, 0, 0, true⟩

def recSettings (p : Nat) (s : State) : PortCfg :=
  let r := reg (pI p) 5 s
  ⟨recByte r 6, recByte r 7 % 4, recByte r 8 % 32, recByte r 5,
    recByte r 43 + 256 * (recByte r 44 + 256 * (recByte r 45 + 256 * recByte r 46)), recByte r 3 ≠ 5⟩

/-- A unit of port p is withdrawn (R11). -/
def portWithdrawn (p : Nat) (s : State) : Bool :=
  s.faults.withdrawn.any fun w =>
    match w.1 with
    | .port q => q == p
    | .cluster c => (clusterPorts c).contains p
    | _ => false

/-- The partial-network cluster of port p sleeps or is committed (R294, R297). -/
def portAsleep (p : Nat) (s : State) : Bool :=
  (List.range 8).any fun c => bit (cfg (0x3F10 + c) 2 s) p && (reg (0x3F10 + c) 0x0A s == 0 || reg (0x3F10 + c) 0x0A s == 4)

/-- Settings of port p, or the reason that keeps it down (R59, R76, R78; 0 none): disabled, withdrawn, asleep, unpowered, a record that is
invalid, in conflict, missing under ID_REQ, or not yet read, a changed module that is held, or no mode. -/
def portSettings (p : Nat) (s : State) : Nat × PortCfg :=
  let c := cfgSettings p s
  if cfg (pB p) 1 s == 0 then (0x01, c)
  else if portWithdrawn p s then (0x0B, c)
  else if p ≥ 16 && reg (pB p + 6) 4 s == 2 then (0x0C, c)
  else if portAsleep p s || !powered (portDomain p) s || bit (reg 0x5020 4 s) (portDomain p) then (0x0E, c)
  else if p ≥ 16 then (0, { c with phy := false })
  else
    let st := reg (pI p) 4 s
    let use := cfg (pI p) 1 s == 1
    let idReq := bit (reg 0x5050 1 s) 8
    if st == 4 then (0x04, c)
    else if st == 5 then (0x05, c)
    else if cfg (pI p) 3 s == 1 && reg (pI p) 6 s ≥ 2 then (0x0D, c)
    else if use && (st == 2 || st == 3) then
      let r := recSettings p s
      (0, if (prt p s).fallback then { r with mode := cfg (pB p) 0x0A s } else r)
    else if use && st == 0 then (0x02, c)
    else if idReq && !(st == 2 || st == 3) then (0x03, c)
    else if (prt p s).fallback then (0, { c with mode := cfg (pB p) 0x0A s })
    else if c.mode == 0 then (0x02, c) else (0, c)

/-- MDIO bus of a port (R64) and serdes cluster (R9). -/
def mdioBus (p : Nat) : Nat := p / 8

/-- Another port with usable settings claims the same MDIO address on its bus, or the same serdes lane of its cluster
(R64, R74). -/
def mdioClash (p : Nat) (s : State) : List Nat :=
  (List.range 16).filter fun q =>
    q ≠ p && mdioBus q == mdioBus p && (portSettings q s).1 == 0 && (portSettings q s).2.phy &&
      (portSettings p s).2.phy && (portSettings q s).2.mdio == (portSettings p s).2.mdio

def laneClash (p : Nat) (s : State) : List Nat :=
  (List.range 16).filter fun q =>
    q ≠ p && q / 4 == p / 4 && (portSettings q s).1 == 0 && (portSettings q s).2.lane == (portSettings p s).2.lane

/-- A rate code is above the cap of B+0x00:03 or of the record (R59, R76). -/
def overCap (p rate : Nat) (c : PortCfg) (s : State) : Bool :=
  (cfg (pB p) 3 s ≠ 0 && rate > cfg (pB p) 3 s) || (c.top ≠ 0 && rate > c.top)

/-- A mode whose rate is fixed (R59). -/
def fixedRate (m : Nat) : Bool := (modeRates m).length == 1

/-! ### Bring-up (R65) -/

/-- Byte k of entry e of the initialisation list (R65). -/
def initByte (p e k : Nat) (s : State) : Nat := nbyte (cfg (pB p + 7) 0 s) (6 * e + k)

/-- The next list entry is written, or the serdes lane is enabled after the last (R65). -/
def initNext (p : Nat) (c : PortCfg) (s : State) : State :=
  let e := (prt p s).entry
  if e < 40 && initByte p e 0 s ≠ 0xFF then
    let s := emit (.mdio (mdioBus p) true c.mdio (initByte p e 0 s) (initByte p e 1 s + 256 * initByte p e 2 s)
      (initByte p e 3 s + 256 * initByte p e 4 s)) s
    setPrt p { prt p s with phase := 2, entry := e + 1, since := wall s } s
  else setPrt p { prt p s with phase := 3, since := wall s } (setReg (pS p) 4 8 s)

/-- The steps of R65 with the PHY identifier that was read. -/
def bringUpPhy (p phyId : Nat) (c : PortCfg) (s : State) : State :=
  let s := setReg (pS p) 7 phyId s
  if phyId == 0xFFFFFFFF then setPrt p { prt p s with phase := 1, since := wall s } (setReg (pS p) 4 7 s)
  else if c.expected ≠ 0 && c.expected ≠ phyId then setPrt p { prt p s with phase := 0 } (setReg (pS p) 4 0x0F s)
  else initNext p c (setPrt p { prt p s with entry := 0 } s)

/-- Bring-up of a port on its settings (R59, R64, R65, R74, R76): what keeps it down is its down reason. -/
def bringUp (p phyId : Nat) (s : State) : State :=
  let x := portSettings p s
  let above := fixedRate x.2.mode && overCap p ((modeRates x.2.mode).headD 0) x.2 s
  let s := setPrt p { prt p s with
    inUse := (if x.1 == 0 && (reg (pI p) 4 s == 2 || reg (pI p) 4 s == 3) && p < 16 then reg (pI p) 5 s else 0)
    phase := 0 } s
  if x.1 ≠ 0 then portDown p x.1 s
  else if p ≥ 16 then
    (if above then portDown p 9 s else setPrt p { prt p s with phase := 3, since := wall s } (setReg (pS p) 4 8 s))
  else if !(mdioClash p s).isEmpty then
    each (p :: mdioClash p s) (fun q s => setPrt q { prt q s with phase := 0 } (portDown q 6 s)) s
  else if !(laneClash p s).isEmpty then
    each (p :: laneClash p s) (fun q s => setPrt q { prt q s with phase := 0 } (portDown q 5 s)) s
  else if above then portDown p 9 s
  else if x.2.phy then bringUpPhy p phyId x.2 s
  else setPrt p { prt p s with phase := 3, since := wall s } (setReg (pS p) 4 8 s)

/-- PORT_BRING_UP (R63, R65, R76): only after the port's peck grant, and while its link is down. -/
def execPortBringUp (port : Fin 30) (phyId : Fin 4294967296) (s : State) : Res :=
  .next (
    if granted (portConsumer port.val) s && !portUp port.val s then settle 4 (bringUp port.val phyId.val s) else s)

/-- PHY_IDENTIFIER_RETRY (R65): a port held down with reason 0x07 reads the identifier again, one second after the last
read. -/
def execPhyIdentifierRetry (port : Fin 30) (phyId : Fin 4294967296) (s : State) : Res :=
  .next (
    if (prt port.val s).phase == 1 && due (prt port.val s).since (ms 1000) s then
      settle 4 (bringUp port.val phyId.val s)
    else s)

/-- INIT_ENTRY_DELAY_END (R65): the delay of the entry written last is over. -/
def execInitEntryDelayEnd (port : Fin 30) (s : State) : Res :=
  .next (
    let p := port.val
    let x := prt p s
    if x.phase == 2 && due x.since (ms (initByte p (x.entry - 1) 5 s)) s then initNext p (portSettings p s).2 s else s)

/-! ### Link changes -/

/-- LINK_POLL (R62, R79): the PHY's link-status bit; a clear bit takes the link down. -/
def execLinkPoll (port : Fin 16) (linkBit : Bool) (s : State) : Res :=
  .next (
    let p := port.val
    if (prt p s).phase == 3 then
      let s := setPrt p { prt p s with phyLink := linkBit } s
      if linkBit then s else settle 4 (portDown p 8 s)
    else s)

/-- PCS_LOSS (R62, R100): the PCS loses block lock or sync, which takes the link down and counts a PCS error. -/
def execPcsLoss (port : Fin 33) (s : State) : Res :=
  .next (
    let p := port.val
    if p < 30 && portUp p s then
      settle 4 (portDown p 8 (setPrt p { prt p s with pcsLock := false } (count (pC p) 6 s)))
    else s)

/-- LINK_UP (R59, R62, R69, R79): the PCS and the PHY report link at a rate; a rate that the mode does not offer, or that is
above a cap, leaves the port down with reason 0x09. A port whose record is to be read again waits for it. -/
def execLinkUp (port : Fin 33) (rate : Fin 8) (s : State) : Res :=
  .next (
    let p := port.val
    let x := portSettings p s
    if p < 30 && (prt p s).phase == 3 && !portUp p s && x.1 == 0 && !(prt p s).reread &&
        granted (portConsumer p) s then
      let r := if fixedRate x.2.mode then (modeRates x.2.mode).headD 0 else rate.val
      if (modeRates x.2.mode).contains r && !overCap p r x.2 s then
        linkUpAt p x.2.mode r (setPrt p { prt p s with phyLink := true, pcsLock := true } s)
      else setReg (pS p) 4 9 s
    else s)

/-- IN_BAND_RATE_CHANGE (R59, R61): a new rate word drops the link and brings it up at the new rate, or leaves it down with
reason 0x09. The charge of the new rate is requested under R472 by PECK_RETURN and PECK_REQUEST. -/
def execInBandRateChange (port : Fin 16) (rate : Fin 8) (s : State) : Res :=
  .next (
    let p := port.val
    let x := portSettings p s
    if portUp p s && !fixedRate x.2.mode && rate.val ≠ reg (pS p) 3 s then
      let s := portDown p 8 s
      let s := setPrt p { prt p s with reread := false } s
      settle 4 (if (modeRates x.2.mode).contains rate.val && !overCap p rate.val x.2 s then linkUpAt p x.2.mode rate.val s
        else setReg (pS p) 4 9 s)
    else s)

/-! ### MDIO pass-through (R66) -/

def mdioSt (b : Nat) (s : State) : MdioSt := tget mdioSt0 s.mdio b

def setMdio (b : Nat) (x : MdioSt) (s : State) : State := { s with mdio := tset mdioSt0 s.mdio b x }

/-- The frame of a pass-through command goes out: kind 1 read, 2 write. -/
def mdioStart (p kind : Nat) (s : State) : State :=
  let b := mdioBus p
  let s := emit (.mdio b (kind == 2) (portSettings p s).2.mdio (reg (pB p + 3) 1 s) (reg (pB p + 3) 2 s)
    (reg (pB p + 3) 3 s)) s
  setMdio b { mdioSt b s with busy := some (p, kind) } s

/-- A pass-through command: at once, or after the frame in progress. -/
def mdioCommand (p kind : Nat) : Svc := notTerminal fun s =>
  if reg (pB p + 3) 4 s == 1 then (s, 0x08000022)
  else
    let s := setReg (pB p + 3) 4 1 s
    let x := mdioSt (mdioBus p) s
    done (if x.busy.isSome then setMdio (mdioBus p) { x with waiting := x.waiting ++ [(p, kind)] } s
      else mdioStart p kind s)

/-- MDIO_READ (R66). -/
def execMdioRead (ses : Session) (port : Fin 16) (s : State) : Res := .next (serve ses (mdioCommand port.val 1) s)

/-- MDIO_WRITE (R66). -/
def execMdioWrite (ses : Session) (port : Fin 16) (s : State) : Res := .next (serve ses (mdioCommand port.val 2) s)

/-- A read of the PHY identifier registers (B+0x01:07). -/
def readsIdentifier (p : Nat) (s : State) : Bool :=
  reg (pB p + 3) 1 s ≤ 1 && (reg (pB p + 3) 2 s == 2 || reg (pB p + 3) 2 s == 3)

/-- MDIO_FRAME_COMPLETE (R66): the frame in progress ends with a result; the command reads done, or no response where a read
of the identifier gives ones; the next waiting command is served. -/
def execMdioFrameComplete (bus : Fin 2) (result : Fin 65536) (s : State) : Res :=
  .next (
    let b := bus.val
    match (mdioSt b s).busy with
    | none => s
    | some (p, kind) =>
      let none_ := kind == 1 && result.val == 0xFFFF && readsIdentifier p s
      let s := if kind == 1 then setReg (pB p + 3) 3 result.val s else s
      let s := setReg (pB p + 3) 4 (if none_ then 3 else 2) s
      match (mdioSt b s).waiting with
      | [] => setMdio b { mdioSt b s with busy := none } s
      | (q, k) :: rest => mdioStart q k (setMdio b { mdioSt b s with waiting := rest } s))

/-! ### PLCA and configured changes -/

/-- Port p is the coordinator of its segment (R70, R261). -/
def coordinator (p : Nat) (s : State) : Bool :=
  22 ≤ p && p < 30 && cfg (pB p + 5) 1 s == 1 && (cfg (pB p + 5) 2 s == 0 || reg (0x3C80 + (p - 22)) 5 s == 1)

/-- A BEACON is sent or received on SP port p: its PLCA is active, and the takeover time starts afresh (R70, R261). -/
def noteBeacon (p : Nat) (s : State) : State :=
  let s := setReg (pB p + 5) 7 1 s
  { s with braid := { s.braid with beaconAt := tset 0 s.braid.beaconAt (p - 22) (wall s) } }

/-- FOREIGN_BEACON (R71): a coordinator counts it, and source 0x61 fires; the port stays coordinator. To a port that is not
coordinator the BEACON is that of its cycle (R70, R261). -/
def execForeignBeacon (port : Fin 33) (s : State) : Res :=
  .next (
    let p := port.val
    if !portUp p s || p < 22 || p ≥ 30 then s
    else if coordinator p s then fire 0x61 p (count (pB p + 5) 8 s)
    else if cfg (pB p + 5) 1 s == 1 then noteBeacon p s else s)

/-- A configured change of port p (R61): its link drops at the next frame boundary, and the port is to be brought up again. -/
def dropAtBoundary (p : Nat) (s : State) : State :=
  if portUp p s && (egr p s).cur.isSome then setPrt p { prt p s with retrain := true } s
  else
    let r := if portAsleep p s || !powered (portDomain p) s || bit (reg 0x5020 4 s) (portDomain p) then 0x0E else 2
    setPrt p { prt p s with phase := 0, retrain := false, reread := false, fallback := false } (portDown p r s)

/-- A commit changes a setting of port p that retrains it (R61). -/
def retrainChanged (old new : Bank) (p : Nat) : Bool :=
  [2, 3, 4, 6, 7].any fun j => bkO old (pB p) j ≠ bkO new (pB p) j

/-- Port effects of a commit: configured changes (R61), and a cleared or set enable (B+0x00:01). -/
def portsCommit (old new : Bank) (s : State) : State :=
  each (List.range 30) (fun p s =>
    if retrainChanged old new p then dropAtBoundary p s
    else if bkO old (pB p) 1 ≠ bkO new (pB p) 1 then
      (if bkO new (pB p) 1 == 0 then setPrt p { prt p s with phase := 0 } (portDown p 1 s) else setReg (pS p) 4 2 s)
    else s) s

/-- Commit checks on ports: FEC outside mode 0x01 (R60), PLCA node ID (R70). -/
def portsCheck (b : Bank) : Option (Nat × Nat × Nat) :=
  match (List.range 30).find? fun p => p < 16 && bkO b (pB p) 4 ≠ 0 && bkO b (pB p) 2 ≠ 1 &&
      !(bkO b (pB p) 2 == 0 && p < 4) with
  | some p => some (pB p, 4, 0x06090030)
  | none =>
    match (List.range' 22 8).find? fun p => bkO b (pB p + 5) 2 ≥ bkO b (pB p + 5) 3 with
    | some p => some (pB p + 5, 2, 0x06090031)
    | none => none

end Sys2Proof.Machine
end

