-- ==== Sys2Proof/Machine/Macsec.lean ====
section
/-!
DEFINITION. Macsec.lean: what the MACsec engine of ports 0–15 does to a frame that arrives or leaves (R384–R386).
-/
namespace Sys2Proof.Machine

/-- Exactly n bytes of a string, padded with zeros (R67, R99). -/
def fit (n : Nat) (l : Bytes) : Bytes := (l ++ List.replicate n 0).take n

/-- Index of a port's MACsec record. -/
def pM (p : Nat) : Nat := 0x6100 + p

def macsecOn (p : Nat) (s : State) : Bool := p < 16 && cfg (pM p) 1 s == 1

/-- An XPN cipher suite is set. -/
def isXpn (p : Nat) (s : State) : Bool := cfg (pM p) 2 s ≥ 2

/-- The largest packet number of the suite. -/
def pnMax (p : Nat) (s : State) : Nat := if isXpn p s then 2 ^ 64 - 1 else 2 ^ 32 - 1

/-- Key of a secure association: port, direction (0 transmit, 1 receive), secure channel, AN. -/
def saKey (p dir ch an : Nat) : Nat := ((p * 2 + dir) * 32 + ch) * 4 + an

def sa (k : Nat) (s : State) : SecAssoc := tget secAssoc0 s.crust.sas k

def setSa (k : Nat) (x : SecAssoc) (s : State) : State :=
  { s with crust := { s.crust with sas := tset secAssoc0 s.crust.sas k x } }

/-- Key of the transmit SA of port p. -/
def txSa (p : Nat) (s : State) : Nat := saKey p 0 0 (reg (pM p) 9 s % 4)

/-- MACsec of port p is withheld for want of its charge (R385). -/
def macsecHeld (p : Nat) (s : State) : Bool := !(granted 4 s && granted (39 + p) s && powered 14 s)

/-- The transmit SA can protect the next frame (R385). -/
def txUsable (p : Nat) (s : State) : Bool := (sa (txSa p s) s).enabled && (sa (txSa p s) s).nextPn ≤ pnMax p s

/-- Secure state 0x6100 + p:10. -/
def secureState (p : Nat) (s : State) : Nat :=
  if !macsecOn p s then 0 else if macsecHeld p s then 2 else if !txUsable p s then 3 else 1

/-- Nonce of a frame: SCI and PN, or the salted SSCI and PN of an XPN suite. -/
def secNonce (xpn : Bool) (x : SecAssoc) (sci pn : Nat) : Nat :=
  if xpn then Nat.xor (x.ssci * 2 ^ 64 + pn) x.salt else sci * 2 ^ 32 + pn % 2 ^ 32

/-- Packet number of a received frame: an XPN frame carries its low 32 bits. -/
def fullPn (xpn : Bool) (lowest pn : Nat) : Nat :=
  if !xpn then pn
  else
    let hi := lowest / 2 ^ 32
    (if lowest % 2 ^ 32 ≥ 2 ^ 31 && pn < 2 ^ 31 then hi + 1 else hi) * 2 ^ 32 + pn

/-- The receive SA that a SecTAG names: its SCI, or the one that ES implies, or the only receive channel (R384). -/
def rxSa (p : Nat) (d : Bytes) (s : State) : Option Nat :=
  let tci := byteAt d 14
  let sci := if bit tci 5 then rd d 20 8 else rd d 6 6 * 65536 + 1
  (List.range 31).findSome? fun ch =>
    let k := saKey p 1 ch (tci % 4)
    let x := sa k s
    if x = secAssoc0 then none
    else if x.sci = sci || (!bit tci 5 && !bit tci 6) then some k else none

/-- What becomes of a received frame. -/
inductive SecRx where
  | pass (data : Bytes) (secure : Bool)
  | drop
deriving DecidableEq, Repr

/-- A received frame whose PN is accepted raises the lowest acceptable PN by the replay window (R385). -/
def acceptPn (p k pn : Nat) (s : State) : State :=
  let x := sa k s
  let next := max x.nextPn (pn + 1)
  let w := cfg (pM p) 6 s
  setSa k { x with nextPn := next, lowest := max x.lowest (if next > w then next - w else 1) } s

/-- A frame with a SecTAG (R384, R385); one that is not encrypted carries its bytes in clear. -/
def openFrame (p : Nat) (d : Bytes) (s : State) : SecRx × State :=
  match rxSa p d s with
  | none => (.drop, s)
  | some k =>
    let x := sa k s
    let tci := byteAt d 14
    let off := if bit tci 5 then 28 else 20
    let xpn := isXpn p s
    let pn := fullPn xpn x.lowest (rd d 16 4)
    if !x.enabled then (.drop, s)
    else if cfg (pM p) 5 s == 1 && pn < x.lowest then (.drop, count (pM p) 0x0D s)
    else
      let plain := slice 0 12 d ++ slice off (d.length - off - 16) d
      match Config.gcmOpen (slotValue x.slot s) (secNonce xpn x x.sci pn) d with
      | some r =>
        (.pass (if bit tci 3 then slice 0 12 d ++ fit (d.length - off - 16) r else plain) true, countBy 8 (pM p) 0x0B 1 (acceptPn p k pn s))
      | none =>
        let s := if cfg (pM p) 4 s == 2 then s else count (pM p) 0x0C s
        if cfg (pM p) 4 s == 0 || bit tci 2 then (.drop, s) else (.pass plain true, acceptPn p k pn s)

/-- Reception on a port (R80, R384): an unprotected frame is dropped in Strict, but for EtherType 0x888E. -/
def secReceive (p : Nat) (d : Bytes) (s : State) : SecRx × State :=
  if !macsecOn p s then (.pass d false, s)
  else if rd d 12 2 == 0x88E5 && d.length ≥ 36 then
    if macsecHeld p s then (.drop, s) else openFrame p d s
  else if cfg (pM p) 4 s == 0 && rd d 12 2 ≠ 0x888E then (.drop, count (pM p) 0x0E s)
  else (.pass d false, s)

/-- Length that protection adds (R386). -/
def secAdd (p : Nat) (s : State) : Nat := if !macsecOn p s then 0 else if bit (cfg (pM p) 8 s) 0 then 32 else 24

/-- Transmission on a port (R385, R386): the frame as it leaves, or none where it is dropped and counted at :0F. Nothing
leaves unprotected while MACsec is enabled; integrity alone keeps the bytes and adds the ICV (R384). -/
def secTransmit (p : Nat) (d : Bytes) (s : State) : Option Bytes × State :=
  if !macsecOn p s then (some d, s)
  else if macsecHeld p s || !txUsable p s || d.length + secAdd p s + 4 > cfg (pB p) 5 s then
    (none, count (pM p) 0x0F s)
  else
    let k := txSa p s
    let x := sa k s
    let o := cfg (pM p) 8 s
    let sci := beNat (leBytes 8 (cfg (pM p) 7 s))
    let n := d.length - 12
    let tci := (if bit o 1 then 0x40 else 0) + (if bit o 0 || bit o 2 then 0x20 else 0) +
      (if cfg (pM p) 3 s == 1 then 0 else 0x0C) + reg (pM p) 9 s % 4
    let tag := beBytes 2 0x88E5 ++ [BitVec.ofNat 8 tci, BitVec.ofNat 8 (if n < 48 then n else 0)] ++
      beBytes 4 (x.nextPn % 2 ^ 32) ++ (if bit o 0 then beBytes 8 sci else [])
    let clear := cfg (pM p) 3 s == 1
    let sealed := fit (n + 16) (Config.gcmSeal (slotValue x.slot s) (secNonce (isXpn p s) x sci x.nextPn)
      (slice 0 12 d ++ tag ++ d.drop 12))
    let body := if clear then d.drop 12 ++ sealed.drop n else sealed
    let s := setSa k { x with nextPn := x.nextPn + 1 } (countBy 8 (pM p) 0x0A 1 s)
    let s := if x.nextPn + 1 == (if isXpn p s then 2 ^ 62 else 0xC0000000) then hostEvent 4 s else s
    (some (slice 0 12 d ++ tag ++ body), s)

end Sys2Proof.Machine
end

