-- ==== Sys2Proof/Machine/Fdb.lean ====
section
/-!
DEFINITION. Fdb.lean: the forwarding database (R84–R89).
-/
namespace Sys2Proof.Machine

/-- Key of an entry: MAC as a number in wire order, and FID. -/
def fdbKey (mac fid : Nat) : Nat := mac * 4096 + fid

/-- Bucket of a key under a hash seed (R84). -/
def fdbBucket (seed k : Nat) : Nat :=
  crc32c (Nat.xor 0xFFFFFFFF seed)
    (beBytes 6 (k / 4096) ++ [BitVec.ofNat 8 k, BitVec.ofNat 8 (k % 4096 / 256)]) % 8192

def dynEntry0 : DynEntry := ⟨0, 0, 0⟩

/-- The dynamic entry of a key. -/
def dynGet (k : Nat) (s : State) : Option DynEntry := (s.dyn.find? fun e => e.1 == k).map (·.2)

def dynPut (k : Nat) (e : DynEntry) (s : State) : State := { s with dyn := tput s.dyn k e }

/-- The static entry of a key in a bank: its port mask, and whether it stands in the overflow table. -/
def staticGet (b : Bank) (k : Nat) : Option (Nat × Bool) :=
  let v := tget 0 b.fdb k
  if v = 0 then none else some (v % 2 ^ 33, bit v 40)

/-- Port mask that a lookup finds (R84, R86): the static entry of the epoch's bank, else the live dynamic entry. -/
def fdbLookup (b : Bank) (k : Nat) (s : State) : Option Nat :=
  match staticGet b k with
  | some (m, _) => some m
  | none => (dynGet k s).map fun e => 2 ^ e.port

/-- Static entries of a bank that stand in a bucket of the hashed table. -/
def staticWays (b : Bank) (seed bk : Nat) : Nat :=
  (b.fdb.filter fun e => !bit e.2 40 && fdbBucket seed e.1 == bk).length

/-- Ways of a bucket that are occupied. -/
def waysUsed (bk : Nat) (s : State) : Nat :=
  let seed := cfg 0x3000 3 s
  staticWays s.cfg seed bk + (s.dyn.filter fun e => fdbBucket seed e.1 == bk).length

/-- Dynamic entries that point to port p, counted against its learn limit (R87). -/
def learnedOn (p : Nat) (s : State) : Nat := (s.dyn.filter fun e => e.2.port == p).length

/-- Port p is below its learn limit. -/
def belowLimit (p : Nat) (s : State) : Bool :=
  cfg (0x3100 + p) 7 s == 0 || decide (learnedOn p s < cfg (0x3100 + p) 7 s)

/-- A new entry is written with the next running number. -/
def dynNew (k p : Nat) (s : State) : State :=
  dynPut k ⟨p, 0, s.learned⟩ { s with learned := s.learned + 1 }

/-- Learning of a source MAC on port p (R87): the table of cases. -/
def learnSource (p mac fid : Nat) (s : State) : State :=
  let k := fdbKey mac fid
  match staticGet s.cfg k with
  | some (m, _) => if bit m p || cfg (0x3100 + p) 0x0B s == 1 then s else count 0x3001 6 s
  | none =>
    match dynGet k s with
    | none =>
      if !belowLimit p s then count 0x3001 4 s
      else if waysUsed (fdbBucket (cfg 0x3000 3 s) k) s ≥ 4 then count 0x3001 3 s
      else dynNew k p s
    | some e =>
      if e.port = p then dynPut k { e with age := 0 } s
      else if cfg (0x3100 + p) 8 s == 1 then count 0x3001 6 s
      else if !belowLimit p s then count 0x3001 4 s
      else count 0x3001 5 (dynNew k p s)

/-- Learning is enabled for a frame of a VLAN on port p and its source is unicast (R87). -/
def learns (p vid mac : Nat) (s : State) : Bool :=
  !bit mac 40 && cfg 0x3000 1 s == 1 && cfg (0x3100 + p) 6 s == 1 && cfgE vid 0x3004 6 s == 1

/-- A frame is dropped by static source enforcement (R87). -/
def staticBlocked (b : Bank) (p mac fid : Nat) : Bool :=
  match staticGet b (fdbKey mac fid) with
  | some (m, _) => !bit m p && bkO b (0x3100 + p) 0x0B == 1
  | none => false

/-! ### Ageing and flush -/

/-- FDB_AGEING_SCAN (R88): once every T/4 every age is increased, and an entry whose age reaches 5 is removed. -/
def execFdbAgeingScan (s : State) : Res :=
  .next (
    let t := cfg 0x3000 2 s
    if t == 0 || !due s.agedAt (ms (250 * t)) s then s
    else
      let old := s.dyn.map fun e => (e.1, { e.2 with age := e.2.age + 1 })
      let keep := old.filter fun e => e.2.age < 5
      countBy 4 0x3001 7 (old.length - keep.length) { s with dyn := keep, agedAt := wall s })

/-- A flush begins (R89): selector, its argument, and the running number below which entries existed. -/
def flushBegin (sel arg : Nat) : Svc := notTerminal fun s =>
  if s.flush.isSome then (s, 0x08000022) else done { s with flush := some (sel, arg, s.learned) }

/-- FDB_FLUSH_ALL (R89). -/
def execFdbFlushAll (ses : Session) (s : State) : Res := .next (serve ses (flushBegin 1 0) s)

/-- FDB_FLUSH_BY_PORT (R89): entries of the port at 0x3001:09. -/
def execFdbFlushByPort (ses : Session) (s : State) : Res :=
  .next (serve ses (fun s => flushBegin 2 (reg 0x3001 9 s) s) s)

/-- FDB_FLUSH_BY_FID (R89): entries of the FID at 0x3001:0A. -/
def execFdbFlushByFid (ses : Session) (s : State) : Res :=
  .next (serve ses (fun s => flushBegin 3 (reg 0x3001 0x0A s) s) s)

/-- An entry matches the selector of a flush and existed when it was accepted (R89). -/
def flushHits (sel arg lim : Nat) (e : Nat × DynEntry) : Bool :=
  decide (e.2.born < lim) &&
    (if sel == 2 then e.2.port == arg else if sel == 3 then e.1 % 4096 == arg else true)

/-- FDB_FLUSH_COMPLETE (R89): every matching entry that existed when the command was accepted is removed. -/
def execFdbFlushComplete (s : State) : Res :=
  .next (
    match s.flush with
    | none => s
    | some (sel, arg, lim) => { s with dyn := s.dyn.filter fun e => !flushHits sel arg lim e, flush := none })

/-! ### Entry access 0x3002 -/

/-- Key that 0x3002:01 and :02 select; the MAC stands in wire order. -/
def fdbSelected (s : State) : Nat := fdbKey (beNat (leBytes 6 (reg 0x3002 1 s))) (reg 0x3002 2 s)

/-- Look-up in the live table (0x3002:06 = 0x01). -/
def fdbLookUp : Svc := notTerminal fun s =>
  let k := fdbSelected s
  let put (m fl age : Nat) (s : State) : State :=
    setReg 0x3002 6 2 (setReg 0x3002 5 age (setReg 0x3002 4 fl (setReg 0x3002 3 m s)))
  match staticGet s.cfg k with
  | some (m, ov) => done (put m (1 + 2 * b2n ov) 0 s)
  | none =>
    match dynGet k s with
    | some e => done (put (2 ^ e.port) 0 e.age s)
    | none => done (setReg 0x3002 6 3 s)

/-- Static entries in the overflow table of a bank. -/
def overflowUsed (b : Bank) : Nat := (b.fdb.filter fun e => bit e.2 40).length

/-- The bank with a static entry written to a free way of its bucket or to the overflow table; none without room (R86). -/
def staticPut (b : Bank) (k mask : Nat) : Option Bank :=
  let rest := { b with fdb := tdel b.fdb k }
  let v := mask % 2 ^ 33 + 2 ^ 41
  if staticWays rest (bkO b 0x3000 3) (fdbBucket (bkO b 0x3000 3) k) < 4 then
    some { b with fdb := tput b.fdb k v }
  else if overflowUsed rest < 512 then some { b with fdb := tput b.fdb k (v + 2 ^ 40) }
  else none

/-- Write of a static entry to the staged table (0x3002:06 = 0x02). -/
def fdbWriteStatic (ses : Session) : Svc := notTerminal (staging ses fun s =>
  match staticPut s.staged (fdbSelected s) (reg 0x3002 3 s) with
  | some b => done (setReg 0x3002 6 2 { s with staged := b })
  | none => done (setReg 0x3002 6 4 s))

/-- Deletion of a static entry from the staged table (0x3002:06 = 0x03). -/
def fdbDeleteStatic (ses : Session) : Svc := notTerminal (staging ses fun s =>
  let k := fdbSelected s
  if (staticGet s.staged k).isSome then
    done (setReg 0x3002 6 2 { s with staged := { s.staged with fdb := tdel s.staged.fdb k } })
  else done (setReg 0x3002 6 3 s))

/-- FDB_LOOK_UP (R84, R86). -/
def execFdbLookUp (ses : Session) (s : State) : Res := .next (serve ses fdbLookUp s)

/-- FDB_WRITE_STATIC (R86). -/
def execFdbWriteStatic (ses : Session) (s : State) : Res := .next (serve ses (fdbWriteStatic ses) s)

/-- FDB_DELETE_STATIC (R86). -/
def execFdbDeleteStatic (ses : Session) (s : State) : Res := .next (serve ses (fdbDeleteStatic ses) s)

/-! ### Commit (R86) -/

/-- Every static entry of a bank placed afresh under the bank's seed. -/
def fdbPlaced (b : Bank) : Option Bank :=
  b.fdb.foldl (fun r e => r.bind fun c => staticPut c e.1 e.2) (some { b with fdb := [] })

/-- Check and placement of the staged static table under the staged seed. -/
def fdbCheck (old new : Bank) : Option (Nat × Nat × Nat) :=
  if bkO old 0x3000 3 = bkO new 0x3000 3 then none
  else if (fdbPlaced new).isNone then some (0x3000, 3, 0x06090031) else none

/-- The bank that a commit takes over: static entries placed under its own seed. -/
def fdbTaken (old new : Bank) : Bank :=
  if bkO old 0x3000 3 = bkO new 0x3000 3 then new else (fdbPlaced new).getD new

/-- Dynamic entries of a bucket, oldest first, that a full bucket of static entries pushes out. -/
def evictBucket (bk : Nat) (s : State) : State :=
  let seed := cfg 0x3000 3 s
  let l := s.dyn.filter fun e => fdbBucket seed e.1 == bk
  let extra := waysUsed bk s - 4
  let ages := l.foldl (fun a e => setIns e.2.born a) []
  let gone := ages.take extra
  { s with dyn := s.dyn.filter fun e => !(fdbBucket seed e.1 == bk && gone.contains e.2.born) }

/-- Effect of a switch on the dynamic entries: a new seed discards them; a static entry replaces the dynamic one of its key
and evicts the oldest of a full bucket (R86). -/
def fdbCommit (old new : Bank) (s : State) : State :=
  if bkO old 0x3000 3 ≠ bkO new 0x3000 3 then { s with dyn := [] }
  else
    let added := new.fdb.filter fun e => tget 0 old.fdb e.1 ≠ e.2
    let s := { s with dyn := s.dyn.filter fun e => !(added.any fun a => a.1 == e.1) }
    each added (fun e s => evictBucket (fdbBucket (bkO new 0x3000 3) e.1) s) s

end Sys2Proof.Machine
end

