-- ==== Sys2Proof/Machine/Gates.lean ====
section
/-!
DEFINITION. Gates.lean: gate control lists, their switch-over and time steps (R148–R158), stream gate lists (R139), hold
requests (R164) and verification of preemption (R160).
-/
namespace Sys2Proof.Machine

def gateOf (p : Nat) (s : State) : GateSt := tget gateSt0 s.gates p

def setGate (p : Nat) (g : GateSt) (s : State) : State := { s with gates := tset gateSt0 s.gates p g }

/-- Gate control is enabled on port p. -/
def gated (p : Nat) (s : State) : Bool := p < 22 && cfg (0x3500 + p) 1 s == 1

/-- The administrative list of port p in a bank (R148), in ns. -/
def adminList (b : Bank) (p : Nat) : GateList :=
  { base := ofTime80 (bkO b (0x3500 + p) 3), cycle := 8 * bkO b (0x3500 + p) 4, ext := 8 * bkO b (0x3500 + p) 5
    entries := (List.range (bkO b (0x3500 + p) 6)).map fun e =>
      (8 * bkE b (p * 1024 + e) 0x3540 6, bkE b (p * 1024 + e) 0x3540 4, bkE b (p * 1024 + e) 0x3540 5) }

/-- Position in the cycle of a list at local time t, by the modulo rule of R152. -/
def listPos (l : GateList) (t : Nat) : Nat :=
  if l.cycle = 0 then 0 else (((t : Int) - l.base) % (l.cycle : Int)).toNat

/-- Entry number that holds position `pos`, its fields, and the ns left in it. -/
def entryFrom : Nat → Nat → List (Nat × Nat × Nat) → Nat × (Nat × Nat × Nat) × Nat
  | n, _, [] => (n, (0, 255, 0), 0)
  | n, pos, e :: t => if pos < e.1 || t.isEmpty then (n, e, e.1 - pos) else entryFrom (n + 1) (pos - e.1) t

def entryAt (l : GateList) (t : Nat) : Nat × (Nat × Nat × Nat) × Nat := entryFrom 0 (listPos l t) l.entries

/-- The last cycle before a change at T is extended by the entry in force (R156): t lies in it. -/
def extended (l : GateList) (T t : Nat) : Bool :=
  let x := listPos l T
  0 < x && x ≤ l.ext && T - x ≤ t && t < T

/-- States in force at t under an operational list and a pending one, and the instant to which they last; none while nothing
more changes. `init` holds before the first list. -/
def statesAt (g : GateSt) (init t : Nat) : Nat × Option Nat :=
  match g.admin with
  | some a =>
    if g.changeAt ≤ t then
      let e := entryAt a t
      (e.2.1.2.1, some (t + e.2.2))
    else
      match g.oper with
      | none => (init, some g.changeAt)
      | some l =>
        if extended l g.changeAt t then
          ((l.entries.getLastD (0, 255, 0)).2.1, some g.changeAt)
        else
          let e := entryAt l t
          let x := listPos l g.changeAt
          let stop := if 0 < x && x ≤ l.ext then g.changeAt - x else g.changeAt
          (e.2.1.2.1, some (min (t + e.2.2) (if t < stop then stop else g.changeAt)))
  | none =>
    match g.oper with
    | none => (init, none)
    | some l =>
      let e := entryAt l t
      (e.2.1.2.1, some (t + e.2.2))

/-- Gate states of port p at local time t (R150–R152). -/
def gateStates (p t : Nat) (s : State) : Nat × Option Nat :=
  if gated p s then statesAt (gateOf p s) (cfg (0x3500 + p) 2 s) t else (255, none)

def gateOpen (p q : Nat) (s : State) : Bool := bit (gateStates p (nowNs s) s).1 q

/-- Next instant at or after t at which the gate of queue q is closed, within `fuel` entries. -/
def nextClosed (g : GateSt) (init q : Nat) : Nat → Nat → Option Nat
  | 0, _ => none
  | n + 1, t =>
    let x := statesAt g init t
    if !bit x.1 q then some t
    else
      match x.2 with
      | none => none
      | some e => nextClosed g init q n e

/-- Queue q's gate is open in every entry of a list. -/
def alwaysOpen (l : Option GateList) (q : Nat) : Bool :=
  match l with
  | none => true
  | some l => l.entries.all fun e => bit e.2.1 q

/-- t_close of R153, unbounded where the gate never closes. -/
def tClose (p q t : Nat) (s : State) : Option Nat :=
  if !gated p s then none
  else
    let g := gateOf p s
    let n := 4 + ((g.oper.map (·.entries.length)).getD 0) + ((g.admin.map (·.entries.length)).getD 0)
    let init := cfg (0x3500 + p) 2 s
    if alwaysOpen g.oper q && (g.oper.isSome || bit init q) then
      (if g.admin.isSome then nextClosed g init q n (max t g.changeAt) else none)
    else nextClosed g init q n t

/-- Longest open window of queue q in the operational list, in ns (R154): a run of open entries, also round the end; none where
the queue has no open window or its gate never closes. -/
def longestWindow (p q : Nat) (s : State) : Option Nat :=
  if !gated p s then none
  else
    match (gateOf p s).oper with
    | none => none
    | some l =>
      if alwaysOpen (some l) q then none
      else
        let r := (l.entries ++ l.entries).foldl (fun (a : Nat × Nat) e =>
          if bit e.2.1 q then (a.1 + e.1, max a.2 (a.1 + e.1)) else (0, a.2)) (0, 0)
        if r.2 = 0 then none else some r.2

/-! ### Gate-derived reservations (R111–R113) -/

/-- G of a list for queue q at a rate in Mbit/s, in ells. -/
def listG (l : Option GateList) (q rate : Nat) : Nat :=
  match l with
  | none => 0
  | some l => ceilDiv ((l.entries.foldl (fun a e => if bit e.2.1 q then a + e.1 else a) 0) * rate) 1024000

/-- Home bushel, Rmin, yellow shift and α code of an admission word (R110). -/
def homeOf (w : Nat) : Nat := field w 19 3

def rminOf (w : Nat) : Nat := field w 0 17

/-- Admission word of queue q of port p. -/
def admWord (b : Bank) (p q : Nat) : Nat := bkO b (0x3440 + p) (q + 1)

/-- Effective reservation of a queue (R111, R112). -/
def resOf (p q : Nat) (s : State) : Nat :=
  let r := rminOf (admWord s.cfg p q)
  if gated p s then
    let g := gateOf p s
    max r (max (listG g.oper q (runRate p s)) (listG g.admin q (runRate p s)))
  else r

/-! ### Switch-over (R155–R158) -/

/-- Change time of a new list at local time c (R155). -/
def changeTime (l : GateList) (c : Nat) : Nat :=
  if l.base ≥ c + 10000 then l.base
  else if l.cycle = 0 then l.base
  else l.base + ceilDiv (c + 10000 - l.base) l.cycle * l.cycle

/-- The pending list of port p becomes operational (R156). -/
def switchOver (p : Nat) (s : State) : State :=
  let g := gateOf p s
  match g.admin with
  | none => s
  | some a =>
    let s := setGate p { oper := some a, admin := none, changeAt := g.changeAt } s
    let s := setReg (0x3500 + p) 0x0D a.entries.length (setReg (0x3500 + p) 0x0C (a.cycle / 8)
      (setReg (0x3500 + p) 0x0B (time80 a.base) (setReg (0x3500 + p) 9 0 s)))
    let s := setReg (0x3500 + p) 0x0E (entryAt a (nowNs s)).1 (count (0x3500 + p) 0x0F s)
    if p < 16 && !(a.entries.any fun e => e.2.2 == 1) then setReg (0x3580 + p) 8 0 s else s

/-- Gate lists run in every state but these (R152). -/
def listsRun (s : State) : Bool := s.dev ≠ .boot && s.dev ≠ .catch_ && s.dev ≠ .terminal && s.power.sleep == 0

/-- A commit changes an administrative object of port p (R155). -/
def adminChanged (old new : Bank) (p : Nat) : Bool :=
  ([1, 3, 4, 5, 6, 7, 8].any fun j => bkO old (0x3500 + p) j ≠ bkO new (0x3500 + p) j) ||
    (adminList old p).entries ≠ (adminList new p).entries

/-- Effect of a commit on port p's lists (R155, R157, R164). -/
def gateCommit (old new : Bank) (p : Nat) (s : State) : State :=
  if !adminChanged old new p then s
  else if bkO new (0x3500 + p) 1 == 0 then
    let s := setReg (0x3500 + p) 9 0 (setGate p gateSt0 s)
    if p < 16 then setReg (0x3580 + p) 8 0 s else s
  else
    let a := adminList new p
    let c := changeTime a (nowNs s)
    let s := setGate p { gateOf p s with admin := some a, changeAt := c } s
    setReg (0x3500 + p) 0x0A (time80 c) (setReg (0x3500 + p) 9 1 s)

/-- A commit changes what verification depends on (R160). -/
def preemptCommit (old new : Bank) (p : Nat) (s : State) : State :=
  if bkO old (0x3580 + p) 1 ≠ bkO new (0x3580 + p) 1 || bkO old (0x3580 + p) 4 ≠ bkO new (0x3580 + p) 4 then
    (if portUp p s then startVerify p s else setReg (0x3580 + p) 6 0 s)
  else s

def gatesCommit (old new : Bank) (s : State) : State :=
  each (List.range 16) (preemptCommit old new) (each (List.range 22) (gateCommit old new) s)

/-- Checks of R149 on the enabled ports, first offending object. -/
def gateCheckPort (b : Bank) (s : State) (p : Nat) : Option (Nat × Nat × Nat) :=
  if bkO b (0x3500 + p) 1 == 0 then none
  else
    let l := adminList b p
    if l.entries.any (fun e => e.1 == 0) then some (0x3540, 6, 0x06090032)
    else if l.entries.foldl (fun a e => a + e.1) 0 ≠ l.cycle then some (0x3500 + p, 4, 0x06090030)
    else if l.ext > l.cycle then some (0x3500 + p, 5, 0x06090031)
    else if l.entries.any (fun e => e.2.2 ≠ 0) && (p ≥ 16 || bkO b (0x3580 + p) 1 == 0) then
      some (0x3540, 5, 0x06090030)
    else if farAhead (bkO b (0x3500 + p) 3) s then some (0x3500 + p, 3, 0x080000A2)
    else none

def gatesCheck (b : Bank) (s : State) : Option (Nat × Nat × Nat) := (List.range 22).findSome? (gateCheckPort b s)

/-- Local time has been stepped (R158): each list is realigned, and a pending change that now lies in the past takes place. -/
def gatesStep (s : State) : State :=
  each (List.range 22) (fun p s =>
    let g := gateOf p s
    if !gated p s || (g.oper.isNone && g.admin.isNone) then s
    else
      let s := count (0x3500 + p) 0x12 s
      let s := if g.admin.isSome && g.changeAt ≤ nowNs s then switchOver p s else s
      match (gateOf p s).oper with
      | none => s
      | some l => setReg (0x3500 + p) 0x0E (entryAt l (nowNs s)).1 s) s

/-- GATE_LIST_SWITCH_OVER (R156): at the change time of a pending list. -/
def execGateListSwitchOver (port : Fin 22) (s : State) : Res :=
  .next (
    let g := gateOf port.val s
    if listsRun s && gated port.val s && g.admin.isSome && g.changeAt ≤ nowNs s then switchOver port.val s else s)

/-! ### Stream gates (R139) -/

def sgateOf (g : Nat) (s : State) : GateSt := tget gateSt0 s.streamGates g

def setSgate (g : Nat) (x : GateSt) (s : State) : State := { s with streamGates := tset gateSt0 s.streamGates g x }

/-- List of stream gate g in a bank: byte 4 [0] open, [1] IPV valid; byte 5 [2:0] IPV. -/
def streamList (b : Bank) (g : Nat) : GateList :=
  let v := bkE b g 0x3220 7
  { base := ofTime80 (bkE b g 0x3220 5), cycle := 8 * bkE b g 0x3220 4, ext := 0
    entries := (List.range (bkE b g 0x3220 6)).map fun e =>
      (8 * (v / 256 ^ (8 * e) % 2 ^ 32), nbyte v (8 * e + 4) % 2,
        if bit (nbyte v (8 * e + 4)) 1 then nbyte v (8 * e + 5) % 8 else 8) }

/-- State of stream gate g in the present cycle: whether it is open, and the IPV (8 none). A disabled gate is always open; so
is one whose first list has not begun (assumption log 20). -/
def streamGateNow (g : Nat) (s : State) : Bool × Nat :=
  if cfgE g 0x3220 2 s == 0 then (true, 8)
  else if regE g 0x3220 8 s == 1 then (false, 8)
  else
    let x := sgateOf g s
    let l := match x.admin with
      | some a => if x.changeAt ≤ nowNs s then some a else x.oper
      | none => x.oper
    match l with
    | none => (true, 8)
    | some l =>
      let e := (entryAt l (nowNs s)).2.1
      (e.2.1 == 1, e.2.2)

/-- The pending list of gate g takes over. -/
def streamSwitch (g : Nat) (s : State) : State :=
  let x := sgateOf g s
  match x.admin with
  | none => s
  | some a => setRegE g 0x3220 9 (time80 a.base) (setSgate g { oper := some a, admin := none, changeAt := x.changeAt } s)

/-- Fields of a stream gate's list. -/
def streamChanged (old new : Bank) (g : Nat) : Bool :=
  [2, 4, 5, 6, 7].any fun j => bkE old g 0x3220 j ≠ bkE new g 0x3220 j

/-- Effect of a commit on stream gates (R139). -/
def streamGatesCommit (old new : Bank) (s : State) : State :=
  let l := (entriesOf old 0x3220).foldl (fun a g => setIns g a) (entriesOf new 0x3220)
  each l (fun g s =>
    if !streamChanged old new g then s
    else if bkE new g 0x3220 2 == 0 then setSgate g gateSt0 s
    else
      let a := streamList new g
      setSgate g { sgateOf g s with admin := some a, changeAt := changeTime a (nowNs s) } s) s

/-- Intervals that do not add up to the cycle time, or a base time too far ahead, refuse a commit (R139). -/
def streamGatesCheck (b : Bank) (s : State) : Option (Nat × Nat × Nat) :=
  (entriesOf b 0x3220).findSome? fun g =>
    let l := streamList b g
    if l.entries.foldl (fun a e => a + e.1) 0 ≠ l.cycle then some (0x3220, 4, 0x06090030)
    else if farAhead (bkE b g 0x3220 5) s then some (0x3220, 5, 0x080000A2) else none

/-- STREAM_GATE_ENTRY_CHANGE (R139): a pending list whose time has come takes over; the state of the gate is otherwise read from
its list at each frame. -/
def execStreamGateEntryChange (gate : Fin 256) (s : State) : Res :=
  .next (
    let x := sgateOf gate.val s
    if x.admin.isSome && x.changeAt ≤ nowNs s && cfgE gate.val 0x3220 2 s == 1 then streamSwitch gate.val s else s)

/-! ### Gate list entry access 0x3540 -/

/-- Read of the selected entry (0x3540:07 = 0x01). -/
def gateEntryRead : Svc := notTerminal fun s =>
  let p := reg 0x3540 1 s
  let e := reg 0x3540 3 s
  let put (x : Nat × Nat × Nat) (s : State) : State :=
    setReg 0x3540 7 2 (setReg 0x3540 6 (x.1 / 8) (setReg 0x3540 5 x.2.2 (setReg 0x3540 4 x.2.1 s)))
  if reg 0x3540 2 s == 1 then
    match (gateOf p s).oper with
    | none => done (put (0, 0, 0) s)
    | some l => done (put ((l.entries.drop e).headD (0, 0, 0)) s)
  else
    let b := if s.dev = .configure then s.staged else s.cfg
    let k := p * 1024 + e
    done (put (8 * bkE b k 0x3540 6, bkE b k 0x3540 4, bkE b k 0x3540 5) s)

/-- Staged write of the selected entry (0x3540:07 = 0x02). -/
def gateEntryWrite (ses : Session) : Svc := notTerminal (staging ses fun s =>
  if reg 0x3540 2 s == 1 then (s, 0x06090030)
  else
    let k := reg 0x3540 1 s * 1024 + reg 0x3540 3 s
    done (setReg 0x3540 7 2 (stageE k 0x3540 6 (reg 0x3540 6 s) (stageE k 0x3540 5 (reg 0x3540 5 s)
      (stageE k 0x3540 4 (reg 0x3540 4 s) s)))))

/-- GATE_ENTRY_READ (R148). -/
def execGateEntryRead (ses : Session) (s : State) : Res := .next (serve ses gateEntryRead s)

/-- GATE_ENTRY_WRITE_STAGED (R148, R149). -/
def execGateEntryWriteStaged (ses : Session) (s : State) : Res := .next (serve ses (gateEntryWrite ses) s)

/-! ### Preemption: hold and verification -/

/-- Preemption is active on port p (R159). -/
def preemptActive (p : Nat) (s : State) : Bool :=
  p < 16 && portUp p s && cfg (0x3580 + p) 1 s == 1 && (cfg (0x3580 + p) 4 s == 0 || reg (0x3580 + p) 6 s == 3)

/-- Hold keeps preemptable traffic back; it has no effect while preemption is not active (R164). -/
def holdInForce (p : Nat) (s : State) : Bool := preemptActive p s && reg (0x3580 + p) 8 s == 1

/-- The present time is within the advance of an entry with operation `op`, or in that entry (R164). -/
def holdEntry (p op adv : Nat) (s : State) : Bool :=
  match (gateOf p s).oper with
  | none => false
  | some l => (entryAt l (nowNs s)).2.1.2.2 == op || (entryAt l (nowNs s + 8 * adv)).2.1.2.2 == op

/-- A hold begins. -/
def holdOn (p : Nat) (s : State) : State := count (0x3580 + p) 0x0F (setReg (0x3580 + p) 8 1 s)

/-- HOLD_RELEASE (R164): a Set-And-Release-MAC entry, less the release advance. -/
def execHoldRelease (port : Fin 16) (s : State) : Res :=
  .next (
    if listsRun s && gated port.val s && holdEntry port.val 2 (cfg (0x3500 + port.val) 8 s) s then
      setReg (0x3580 + port.val) 8 0 s
    else s)

/-- VERIFY_MPACKET_SEND (R160): one attempt every verify time; the time of the third without a response ends in failed. -/
def execVerifyMpacketSend (port : Fin 16) (s : State) : Res :=
  .next (
    let p := port.val
    let e := egr p s
    if !portUp p s || cfg (0x3580 + p) 1 s == 0 || cfg (0x3580 + p) 4 s == 0 || reg (0x3580 + p) 6 s == 0 ||
        reg (0x3580 + p) 6 s > 2 then s
    else if e.verifyTries ≠ 0 && !due e.verifyAt (ms (cfg (0x3580 + p) 5 s)) s then s
    else if e.verifyTries ≥ 3 then setReg (0x3580 + p) 6 4 s
    else
      emit (.mPacket p false) (setReg (0x3580 + p) 6 2
        (setEgr p { e with verifyTries := e.verifyTries + 1, verifyAt := wall s } s)))

/-- VERIFY_MPACKET_RECEIVE (R160): answered while preemption is enabled, else an SMD error. -/
def execVerifyMpacketReceive (port : Fin 16) (s : State) : Res :=
  .next (
    let p := port.val
    if !portUp p s then s
    else if cfg (0x3580 + p) 1 s == 1 then emit (.mPacket p true) s else count (0x3580 + p) 0x0E s)

/-- RESPOND_MPACKET_RECEIVE (R160): verification succeeds. -/
def execRespondMpacketReceive (port : Fin 16) (s : State) : Res :=
  .next (
    let p := port.val
    if !portUp p s then s
    else if cfg (0x3580 + p) 1 s == 0 then count (0x3580 + p) 0x0E s
    else if reg (0x3580 + p) 6 s == 1 || reg (0x3580 + p) 6 s == 2 then
      setReg (0x3580 + p) 7 1 (setReg (0x3580 + p) 6 3 s)
    else s)

end Sys2Proof.Machine
end

