-- ==== Sys2Proof/Machine/Admission.lean ====
section
/-!
DEFINITION. Admission.lean: ells, bushels, reservations and the admission of a copy (R102–R119).
-/
namespace Sys2Proof.Machine

/-- Total ells (R102), and the pool of copy entries (R106). -/
def totalElls : Nat := 131072

def copyPool : Nat := 262144

/-- Free ells (0x3400:02). -/
def freeElls (s : State) : Nat := totalElls - s.buf.fresh + s.buf.freed.length

/-- Lowest free count since the last clear. -/
def noteFree (s : State) : State := if freeElls s < reg 0x3400 3 s then setReg 0x3400 3 (freeElls s) s else s

/-- n ells are taken from the free list: returned ones first, then those never used (assumption log 21). -/
def takeElls (n : Nat) (s : State) : List Nat × State :=
  let old := s.buf.freed.take n
  let k := n - old.length
  (old ++ List.range' s.buf.fresh k,
    noteFree { s with buf := { s.buf with freed := s.buf.freed.drop n, fresh := s.buf.fresh + k } })

/-- An ell is retired (R104); at the limit source 0x02 fires. -/
def retireEll (e : Nat) (s : State) : State :=
  let s := { s with buf := { s.buf with retired := setIns e s.buf.retired } }
  let s := setReg 0x3400 5 s.buf.retired.length s
  if s.buf.retired.length == reg 0x3400 6 s then fire 0x02 0 s else s

/-- Ells return to the free list, but for those that are retired when they are freed (R104). -/
def returnElls (l : List Nat) (s : State) : State :=
  let bad := l.filter fun e => s.buf.doomed.contains e && !s.buf.retired.contains e
  let keep := l.filter fun e => !s.buf.doomed.contains e && !s.buf.retired.contains e
  each bad retireEll { s with buf := { s.buf with freed := s.buf.freed ++ keep } }

/-- Frame of a number. -/
def frameOf (f : Nat) (s : State) : Option Frame := s.buf.frames.find? fun x => x.id == f

/-- A frame's record is replaced. -/
def setFrame (x : Frame) (s : State) : State :=
  { s with buf := { s.buf with frames := s.buf.frames.map fun y => if y.id == x.id then x else y } }

/-- A frame leaves the buffer: its ells return (R106, R117). -/
def dropFrame (f : Nat) (s : State) : State :=
  match frameOf f s with
  | none => s
  | some x => returnElls x.ells { s with buf := { s.buf with frames := s.buf.frames.filter fun y => y.id ≠ f } }

/-! ### Occupancy (R107, R114) -/

/-- Bushel of a priority on an ingress port (R107). -/
def bushelOf (b : Bank) (p prio : Nat) : Nat := field (bkO b (0x3440 + p) 9) (3 * prio) 3

/-- Ells of the Braider's mailboxes and FIFOs, and of its records in flight: they belong to the bushel of port 32, priority 0
(R123; assumption log 22). -/
def boxElls (s : State) : Nat :=
  s.braid.routes.foldl (fun a r => a + r.2.own.length + (r.2.box.foldl (fun n x => n + x.2.length) 0)) 0

def recElls (s : State) : Nat := s.braid.recs.foldl (fun a r => a + r.ells.length) 0

/-- Used_b and headroom in use of bushel b. -/
def bushelUsed (b : Nat) (s : State) : Nat :=
  s.buf.frames.foldl (fun a f => if f.bushel == b && f.used then a + f.ells.length else a) 0 +
    (if bushelOf s.cfg 32 0 == b then boxElls s else 0)

def headroomUsed (b : Nat) (s : State) : Nat :=
  s.buf.frames.foldl (fun a f => if f.bushel == b && !f.used then a + f.ells.length else a) 0 +
    (if bushelOf s.cfg 32 0 == b then recElls s else 0)

/-- Copies of a queue: those that wait, and the one in transmission or preempted. -/
def copiesIn (p q : Nat) (s : State) : List Copy :=
  let e := egr p s
  (e.cur.toList ++ e.preempted.toList ++ s.buf.copies).filter fun c => c.port == p && c.queue == q

/-- O(q), and the part Oh(q) that belongs to frames of bushel b. -/
def occupancy (p q : Nat) (s : State) : Nat := (copiesIn p q s).foldl (fun a c => a + c.charge) 0

def occupancyHome (p q b : Nat) (s : State) : Nat :=
  (copiesIn p q s).foldl (fun a c =>
    if ((frameOf c.frame s).map (·.bushel)).getD 8 == b then a + c.charge else a) 0

/-- All queues, as (port, queue). -/
def allQueues : List (Nat × Nat) := (List.range 33).flatMap fun p => (List.range 8).map fun q => (p, q)

/-- Sum of Res(q) of the queues homed in b (0x3408 + b:03). -/
def resTotal (b : Nat) (s : State) : Nat :=
  allQueues.foldl (fun a x => if homeOf (admWord s.cfg x.1 x.2) == b then a + resOf x.1 x.2 s else a) 0

/-- out(b) of R114. -/
def resOut (b : Nat) (s : State) : Nat :=
  allQueues.foldl (fun a x =>
    if homeOf (admWord s.cfg x.1 x.2) == b then a + (resOf x.1 x.2 s - occupancyHome x.1 x.2 b s) else a) 0

/-- free_shared(b) of R114. -/
def freeShared (b : Nat) (s : State) : Nat :=
  min (cfg (0x3408 + b) 1 s - cfg (0x3408 + b) 2 s - bushelUsed b s - resOut b s) (freeElls s)

/-- The test of R114 for a copy of n ells and a colour (1 yellow) of a frame of bushel b. -/
def admits (p q b n colour : Nat) (s : State) : Bool :=
  let w := admWord s.cfg p q
  let res := resOf p q s
  let oh := occupancyHome p q (homeOf w) s
  if b == homeOf w && oh + n ≤ res then true
  else
    let f := freeShared b s
    let sharedQ := occupancy p q s - min oh res
    let scale := 64 * (if colour == 1 then 2 ^ field w 22 2 else 1)
    decide (n ≤ f) && decide ((sharedQ + n) * scale ≤ 2 ^ field w 24 4 * f)

/-- A refused copy is counted (R106, R114, R101) and marks the tick (R119). -/
def refuseCopy (p q b : Nat) (mirror : Option Nat) (s : State) : State :=
  let s := count (0x3440 + p) (0x0C + q) (count (0x3408 + b) 8 s)
  let s := match mirror with
    | some m => count (0x3050 + m) 7 s
    | none => s
  { s with buf := { s.buf with refusedNow := setIns (p * 8 + q) s.buf.refusedNow } }

/-- The frame's ells move from headroom to the used count at its first admitted copy (R107, R116). -/
def chargeUsed (f : Frame) (s : State) : State :=
  let s := setFrame { f with used := true } s
  raise (0x3408 + f.bushel) 7 (bushelUsed f.bushel s) s

/-- Signed difference of two 40-bit tags (R129). -/
def tagDiff (a b : Nat) : Int := toInt 40 ((a + 2 ^ 40 - b % 2 ^ 40) % 2 ^ 40)

def tagMax (a b : Nat) : Nat := if tagDiff a b ≥ 0 then a else b

/-- Size of the strict group of a port, and whether queue q is in the weighted group (R128). -/
def strictK (p : Nat) (s : State) : Nat := cfg (0x3480 + p) 2 s

def weighted (p q : Nat) (s : State) : Bool := q + strictK p s < 8

/-- A weighted queue that becomes non-empty gets its start tag (R129). -/
def tagNonEmpty (p q : Nat) (s : State) : State :=
  if weighted p q s && !(s.buf.copies.any fun c => c.port == p && c.queue == q) then
    let e := egr p s
    setEgr p { e with start := tset 0 e.start q (tagMax e.v (tget 0 e.fin q) + 1) } s
  else s

/-- Admission of one copy with its provisional charge n (R114, R115); an admitted copy stands in its queue with the frame's actual
charge, since its frame's end is known to this model. -/
def admitCopy (c : Copy) (n colour : Nat) (s : State) : Bool × State :=
  match frameOf c.frame s with
  | none => (false, s)
  | some f =>
    if s.buf.copies.length ≥ copyPool || !admits c.port c.queue f.bushel n colour s then
      (false, refuseCopy c.port c.queue f.bushel c.mirror s)
    else
      let s := if f.used then s else chargeUsed f s
      let s := tagNonEmpty c.port c.queue s
      let s := { s with buf := { s.buf with copies := s.buf.copies ++ [{ c with charge := f.ells.length }] } }
      (true, raise (0x7400 + c.port) (1 + c.queue) (occupancy c.port c.queue s) s)

/-- A frame without copies that has been released leaves the buffer (R106, R116). -/
def reap (f : Nat) (s : State) : State :=
  match frameOf f s with
  | none => s
  | some x =>
    let held := s.buf.copies.any (fun c => c.frame == f) ||
      (List.range 33).any fun p =>
        ((egr p s).cur.map (·.frame)) == some f || ((egr p s).preempted.map (·.frame)) == some f
    if x.released && !held then dropFrame f s else s

/-- All copies of a queue are dropped. -/
def flushPort (p : Nat) (s : State) : State :=
  let l := s.buf.copies.filter fun c => c.port == p
  let s := { s with buf := { s.buf with copies := s.buf.copies.filter fun c => c.port ≠ p } }
  each l (fun c s => reap c.frame s) s

/-! ### Bushel map and commit checks -/

/-- G of a queue at the highest rate of the port's configured mode, for both lists (R113). -/
def checkRes (b : Bank) (p q : Nat) (s : State) : Nat :=
  let r := rminOf (admWord b p q)
  if p < 22 && bkO b (0x3500 + p) 1 == 1 then
    let rate := topRate b p s
    let g := gateOf p s
    max r (max (listG g.oper q rate) (listG (some (adminList b p)) q rate))
  else r

/-- Checks on bushels: the sum of sizes (R107), no reservation in a bushel of size 0, and R113. -/
def bushelCheck (b : Bank) (s : State) : Option (Nat × Nat × Nat) :=
  if (List.range 8).foldl (fun a k => a + bkO b (0x3408 + k) 1) 0 > totalElls then some (0x3408, 1, 0x06090031)
  else
    (List.range 8).findSome? fun k =>
      let sum := allQueues.foldl (fun a x =>
        if homeOf (admWord b x.1 x.2) == k then a + checkRes b x.1 x.2 s else a) 0
      let size := bkO b (0x3408 + k) 1
      if size == 0 then (if sum ≠ 0 then some (0x3408 + k, 1, 0x06090030) else none)
      else if bkO b (0x3408 + k) 2 > size then some (0x3408 + k, 2, 0x06090031)
      else if bkO b (0x3408 + k) 2 + sum > size then some (0x3408 + k, 1, 0x06090030) else none

/-! ### Scans -/

/-- ORPHAN_SCAN (R105): once per second; orphans return to the free list. -/
def execOrphanScan (s : State) : Res :=
  .next (
    if !due s.buf.scanAt (ms 1000) s then s
    else
      let l := s.buf.orphans
      returnElls l (countBy 4 0x3400 9 l.length { s with buf := { s.buf with orphans := [], scanAt := wall s } }))

/-- The end of a tick for one queue (R119): the 100th consecutive dropping tick sets its sticky bit and fires source 0x60. -/
def overloadQueue (k : Nat) (s : State) : State :=
  let run := if s.buf.refusedNow.contains k then tget 0 s.buf.dropRuns k + 1 else 0
  let s := { s with buf := { s.buf with dropRuns := tset 0 s.buf.dropRuns k run } }
  let p := k / 8
  if run == 100 then
    let v := reg (0x3440 + p) 0x15 s
    fire 0x60 p (setReg (0x3440 + p) 0x15 (if bit v (k % 8) then v else v + 2 ^ (k % 8)) s)
  else s

/-- OVERLOAD_TICK (R119): a 1 ms tick of local time ends. -/
def execOverloadTick (s : State) : Res :=
  .next (
    let now := nowNs s / 1000000
    if now ≤ s.buf.tick then s
    else
      let l := s.buf.dropRuns.foldl (fun a k => setIns k.1 a) s.buf.refusedNow
      let s := each l overloadQueue s
      { s with buf := { s.buf with refusedNow := [], tick := now } })

end Sys2Proof.Machine
end

