-- ==== Sys2Proof/Machine/Streams.lean ====
section
/-!
DEFINITION. Streams.lean: stream identification and sequence recovery (R91, R92), stream filters and gates (R136–R139), and
two-rate meters (R141–R146).
-/
namespace Sys2Proof.Machine

/-! ### Identification -/

/-- IP stream entry e matches (R91, function 4). -/
def ipMatches (b : Bank) (e vid : Nat) (q : Parsed) : Bool :=
  let m := leBytes 40 (bkE b e 0x3200 6)
  let mac := beNat (leBytes 6 (bkE b e 0x3200 4))
  let v := bkE b e 0x3200 5
  q.ipver ≠ 0 && (mac == 0 || mac == q.da) && (v == 0 || v == vid) &&
    (bit (byteAt m 38) 0 || rd m 0 16 == q.sip) && (bit (byteAt m 38) 1 || rd m 16 16 == q.dip) &&
    (byteAt m 32 == 0xFF || byteAt m 32 == q.dscp) && (byteAt m 33 == 0xFF || byteAt m 33 == q.proto) &&
    (rd m 34 2 == 0 || rd m 34 2 == q.sport) && (rd m 36 2 == 0 || rd m 36 2 == q.dport)

/-- Header-stage entry e matches (R91, functions 1–3). -/
def headerMatches (b : Bank) (e vid : Nat) (q : Parsed) : Bool :=
  let f := bkE b e 0x3200 2
  let mac := beNat (leBytes 6 (bkE b e 0x3200 4))
  1 ≤ f && f ≤ 3 && mac == (if f == 2 then q.sa else q.da) && bkE b e 0x3200 5 == vid

/-- The stream entry of a frame and whether it was found at the deep stage (R91). -/
def identify (b : Bank) (p vid : Nat) (q : Parsed) : Option (Nat × Bool) :=
  let l := (entriesOf b 0x3200).filter fun e => bit (bkE b e 0x3200 3) p
  match l.find? fun e => headerMatches b e vid q with
  | some e => some (e, false)
  | none => (l.find? fun e => bkE b e 0x3200 2 == 4 && ipMatches b e vid q).map fun e => (e, true)

/-! ### Sequence recovery (R92) -/

def frerOf (e : Nat) (s : State) : FrerSt := tget frerSt0 s.frer e

def setFrer (e : Nat) (x : FrerSt) (s : State) : State := { s with frer := tset frerSt0 s.frer e x }

/-- Vector recovery of a sequence number by entry e with a history of n: whether it is accepted. -/
def recoverSeq (b : Bank) (e seq : Nat) (s : State) : Bool × State :=
  let x := frerOf e s
  let n := bkE b e 0x3200 0x0A
  let fresh (s : State) : State := setFrer e { x with recent := some seq, history := 1, last := wall s } s
  match x.recent with
  | none => (true, fresh s)
  | some r =>
    let d := toInt 16 ((seq + 65536 - r % 65536) % 65536)
    if d ≥ n || d ≤ -(n : Int) then (true, fresh (countE e 0x3200 0x0D s))
    else if d ≤ 0 then
      let k := (-d).toNat
      if bit x.history k then (false, countE e 0x3200 0x0C s)
      else (true, setFrer e { x with history := x.history + 2 ^ k, last := wall s } s)
    else
      (true, setFrer e { x with
        recent := some seq, history := (x.history * 2 ^ d.toNat + 1) % 2 ^ n, last := wall s } s)

/-- FRER_RESET_TIMEOUT (R92): without an accepted frame for its reset timeout a stream's history empties. -/
def execFrerResetTimeout (stream : Fin 4096) (s : State) : Res :=
  .next (
    let x := frerOf stream.val s
    if x.recent.isSome && due x.last (ms (cfgE stream.val 0x3200 0x0B s)) s then
      setFrer stream.val { x with recent := none, history := 0 } s
    else s)

/-- A commit that changes an entry's function, match fields or FRER mode empties its history (R92). -/
def frerCommit (old new : Bank) (s : State) : State :=
  { s with frer := s.frer.filter fun x =>
      !([2, 3, 4, 5, 6, 9].any fun j => bkE old x.1 0x3200 j ≠ bkE new x.1 0x3200 j) }

/-! ### Meters (R141–R146): colours 0 green, 1 yellow, 2 red -/

/-- Token state of meter m; a meter not yet used since its reset has full buckets (R146). -/
def meterOf (b : Bank) (m : Nat) (s : State) : MeterSt :=
  match s.meters.find? fun e => e.1 == m with
  | some e => e.2
  | none => ⟨bkE b m 0x3230 3 * 65536, bkE b m 0x3230 5 * 65536, monoGrains s, 0, 0⟩

/-- A meter's state is stored, with the tokens that its record shows (0x3230:07, :08). -/
def setMeter (m : Nat) (x : MeterSt) (s : State) : State :=
  setRegE m 0x3230 7 (x.tc / 65536) (setRegE m 0x3230 8 (x.te / 65536) { s with meters := tput s.meters m x })

/-- Refill for the time since the meter's last frame (R141, R143). -/
def refill (b : Bank) (m : Nat) (x : MeterSt) (now : Nat) : MeterSt :=
  let g := now - x.last
  let nc := x.remC + bkE b m 0x3230 2 * 65536 * g
  let ne := x.remE + bkE b m 0x3230 4 * 65536 * g
  let cb := bkE b m 0x3230 3 * 65536
  let eb := bkE b m 0x3230 5 * 65536
  let tc := x.tc + nc / 1000000
  let spill := if bit (bkE b m 0x3230 6) 1 then tc - cb else 0
  { tc := min tc cb, te := min (x.te + ne / 1000000 + spill) eb, last := max now x.last
    remC := nc % 1000000, remE := ne % 1000000 }

/-- Colour of a frame of n bytes with input colour c, and the bucket it draws from (0 none, 1 committed, 2 excess) (R142). -/
def meterColour (aware : Bool) (c n : Nat) (x : MeterSt) : Nat × Nat :=
  let k := n * 65536
  if aware && c == 2 then (2, 0)
  else if aware && c == 1 then (if k ≤ x.te then (1, 2) else (2, 0))
  else if k ≤ x.tc then (0, 1) else if k ≤ x.te then (1, 2) else (2, 0)

/-- Meter m meets a frame (R142, R144, R145): its colour, drop-yellow applied as red. `n` is the length at which it is
metered and `back` what is returned at the frame's end. The buckets are those of the configuration in force, also for a frame of the epoch
before (R146). -/
def runMeter (b : Bank) (m n back c : Nat) (s : State) : Nat × State :=
  let mode := bkE b m 0x3230 6
  let x := refill s.cfg m (meterOf s.cfg m s) (monoGrains s)
  let r := if regE m 0x3230 9 s == 1 then (2, 0) else meterColour (bit mode 0) c n x
  let cb := cfgE m 0x3230 3 s * 65536
  let eb := cfgE m 0x3230 5 s * 65536
  let x := if r.2 == 1 then { x with tc := min cb (x.tc - n * 65536 + back * 65536) }
    else if r.2 == 2 then { x with te := min eb (x.te - n * 65536 + back * 65536) } else x
  let s := countE m 0x3230 (0x0A + r.1) (setMeter m x s)
  let s := if r.1 == 2 && bit mode 3 then setRegE m 0x3230 9 1 s else s
  (if r.1 == 1 && bit mode 2 then 2 else r.1, s)

/-- Meters whose parameters a commit changes are full and unlatched (R146). -/
def metersReset (which : Nat → Bool) (s : State) : State :=
  let l := s.meters.filter fun e => which e.1
  let s := each l (fun e s => setRegE e.1 0x3230 9 0 s) s
  { s with meters := s.meters.filter fun e => !which e.1 }

def metersCommit (old new : Bank) (s : State) : State :=
  metersReset (fun m => [2, 3, 4, 5, 6].any fun j => bkE old m 0x3230 j ≠ bkE new m 0x3230 j) s

/-! ### Filters (R136–R138) -/

/-- Filter h applies to a frame of this priority (R137). -/
def filterApplies (b : Bank) (h prio : Nat) : Bool :=
  bkE b h 0x3210 2 == 1 && (bkE b h 0x3210 3 == 0xFF || bkE b h 0x3210 3 == prio)

/-- The first oversize frame of a filter with flag 0 blocks it (R138). -/
def oversizeAt (b : Bank) (h : Nat) (s : State) : State :=
  let s := countE h 0x3210 0x0C s
  if bit (bkE b h 0x3210 7) 0 then setRegE h 0x3210 8 1 s else s

/-- Stage 4 of R136. -/
def filterMeter (b : Bank) (h n back colour ipv : Nat) (over_ : Bool) (s : State) : Policed × State :=
  let m := bkE b h 0x3210 5
  if m == 0xFFFF then (⟨true, colour, 2, ipv, over_⟩, countE h 0x3210 0x0A s)
  else
    let r := runMeter b m n back colour s
    if r.1 == 2 then (⟨false, 2, 2, ipv, over_⟩, countE h 0x3210 0x0D r.2)
    else
      (⟨true, r.1, if bit (bkE b m 0x3230 6) 4 then r.1 else 2, ipv, over_⟩, countE h 0x3210 0x0A r.2)

/-- The stages of R136 for a frame of length L with handle h: `cut` where its end is not known yet, in which case the maximum
size of the port stands for its length (R145). -/
def police (b : Bank) (h prio L M colour : Nat) (cut : Bool) (s : State) : Policed × State :=
  if !filterApplies b h prio then (⟨true, colour, 2, 8, false⟩, s)
  else
    let s := countE h 0x3210 9 s
    let sdu := bkE b h 0x3210 6
    let big := sdu ≠ 0 && decide (L > sdu)
    if regE h 0x3210 8 s == 1 then (⟨false, colour, 2, 8, false⟩, countE h 0x3210 0x0C s)
    else if big && !cut then (⟨false, colour, 2, 8, false⟩, oversizeAt b h s)
    else
      let g := bkE b h 0x3210 4
      let st := if g == 0xFFFF then (true, 8) else streamGateNow g s
      if !st.1 then
        let s := countE h 0x3210 0x0B s
        (⟨false, colour, 2, 8, false⟩, if bkE b g 0x3220 3 == 1 then setRegE g 0x3220 8 1 s else s)
      else
        let s := if big then oversizeAt b h s else s
        filterMeter b h (if cut then M else L) (if cut then M - L else 0) colour st.2 big s

/-! ### Commands -/

/-- STREAM_GATE_CLEAR_LATCH (R139): 0x3220:0A = 0x03. -/
def streamGateClear : Svc := notTerminal fun s => done (setReg 0x3220 0x0A 2 (setRegE (reg 0x3220 1 s) 0x3220 8 0 s))

def execStreamGateClearLatch (ses : Session) (s : State) : Res := .next (serve ses streamGateClear s)

/-- FILTER_CLEAR_BLOCKED (R138): 0x3210:0E = 0x03 clears :08 to :0D. -/
def filterClear : Svc := notTerminal fun s =>
  let h := reg 0x3210 1 s
  done (setReg 0x3210 0x0E 2 (each [8, 9, 0x0A, 0x0B, 0x0C, 0x0D] (fun j s => setRegE h 0x3210 j 0 s) s))

def execFilterClearBlocked (ses : Session) (s : State) : Res := .next (serve ses filterClear s)

/-- METER_CLEAR_LATCH (R144): 0x3230:0D = 0x03 clears :09 to :0C. -/
def meterClear : Svc := notTerminal fun s =>
  let m := reg 0x3230 1 s
  done (setReg 0x3230 0x0D 2 (each [9, 0x0A, 0x0B, 0x0C] (fun j s => setRegE m 0x3230 j 0 s) s))

def execMeterClearLatch (ses : Session) (s : State) : Res := .next (serve ses meterClear s)

/-- A meter referenced by an enabled filter and by an action refuses a commit (R140). -/
def meterShareCheck (b : Bank) : Option (Nat × Nat × Nat) :=
  let used := (entriesOf b 0x4012).filterMap fun a =>
    let w := bkE b a 0x4012 2
    if bit w 55 then some (field w 44 11) else none
  match (entriesOf b 0x3210).find? fun h =>
      bkE b h 0x3210 2 == 1 && bkE b h 0x3210 5 ≠ 0xFFFF && used.contains (bkE b h 0x3210 5) with
  | some _ => some (0x3210, 5, 0x06090030)
  | none => none

end Sys2Proof.Machine
end

