-- ==== Sys2Proof/Machine/Intake.lean ====
section
/-!
DEFINITION. Intake.lean: what a decision samples when the Sieve takes it in, and the counters of its outcome (R120, R121,
R165–R178, R187, R188, R192).
-/
namespace Sys2Proof.Machine

/-- Zone-pair counters (R192): heading 0 permitted, 1 denied by a rule, 2 denied at a miss, 3 denied otherwise. -/
def countPair (i e k : Nat) (s : State) : State := countE8 (i * 16 + e) 0x4040 (3 + k) s

/-- The Sieve has been armed by a first configuration (R187). -/
def armed (s : State) : Bool := reg 0x4000 1 s == 1

/-- Identifier that the fixed set lets in: 0x600 plus the effective node-ID of SDO server 0 (R48, R187). -/
def sdoNode (n : Nat) (s : State) : Nat :=
  if n == 0 then cfg 0x1200 3 s + field (reg 0x5050 1 s) 4 4 else cfg (0x1200 + n) 3 s

/-- Decisions that wait for a deep pass-pair on a lane. -/
def deepWaiting (lane : Nat) (s : State) : Nat :=
  (s.decs.filter fun d => d.lane == lane && d.deep && !d.pairs.isEmpty).length

/-- A decision is taken in by a lane (R188), or dropped at deep intake (R121); before the first commit the fixed set decides
(R187). `fixed` says that the frame is in it, `bad` that it is spoofed or its engine in quarantine. -/
def submit (id : Nat) (x : DecIn) (keyDeep : Nat) (fixed bad trap : Bool) (s : State) : State :=
  let b := s.cfg
  let ex := if armed s then expressDecs b x else x.zones.map fun e => ⟨e, b2n fixed, 0, 0, false⟩
  let fin := if armed s then finalDecs b x keyDeep ex else ex
  let deep := armed s && ((ex.any fun d => d.verdict == 2) || needsD3 (actingWord b ex) || x.streamDeep)
  let lane := chooseLane s x.source
  let full := deep && !bad && lane ≠ 2 && deepWaiting lane s ≥ 8
  let pairs := if lane == 2 || bad then [] else if full then [0]
    else 0 :: (if armed s then deepPairs b x ex fin else [])
  let d : Decision :=
    { id := id, bus := x.bus, lane := lane, source := x.source, zone := x.zone, zones := x.zones, epoch := s.epoch
      express := ex, final := fin, pairs := pairs, retry := false, deep := deep
      outcome := if bad then 3 else if lane == 2 then 1 else if full then 2 else if armed s then 0 else 4
      malformed := x.malExpress || (deep && x.malDeep), checks := x.checks, flow := x.flow, noHits := false
      trapMP := trap }
  let s := { s with decs := s.decs ++ [d] }
  if full then count 0x4000 7 (count (0x3440 + (if x.bus then 32 else x.source)) 0x0A s) else s

/-- Decision of a frame or PDU. -/
def decOf (id : Nat) (s : State) : Option Decision := s.decs.find? fun d => d.id == id

def setDec (d : Decision) (s : State) : State :=
  { s with decs := s.decs.map fun x => if x.id == d.id then d else x }

def dropDec (id : Nat) (s : State) : State := { s with decs := s.decs.filter fun d => d.id ≠ id }

/-- A rule reads the same in the bank of the decision and in the committed one, so that its hits still count (R191). -/
def ruleSame (old new : Bank) (t r : Nat) : Bool := [2, 3, 4, 5, 6, 7].all fun j => bkE old r t j == bkE new r t j

/-- Hits of the deciding rules, once each (R167, R191, R194). -/
def countHits (d : Decision) (s : State) : State :=
  let l := d.final.foldl (fun a z => if z.table == 0 then a else setIns (z.table * 65536 + z.rule) a) []
  let l := d.express.foldl (fun a z => if z.table == 0 then a else setIns (z.table * 65536 + z.rule) a) l
  each l (fun k s =>
    let t := if k / 65536 == 1 then 0x4011 else 0x4010
    let r := k % 65536
    if d.epoch = s.epoch || ruleSame s.old s.cfg t r then countE8 r t 8 s else s) s

end Sys2Proof.Machine
end

