-- ==== Sys2Proof/Machine/Enqueue.lean ====
section
/-!
DEFINITION. Enqueue.lean: the enqueue cycle of a frame's copies: bytes that leave (R90–R92, R180), start of a cut-through
copy (R93–R97, R518), queue (R125), action order (R179), mirroring (R101).
-/
namespace Sys2Proof.Machine

/-! ### Bytes of a copy -/

/-- One's complement sum of two 16-bit numbers. -/
def add16 (a b : Nat) : Nat := (a + b) % 65536 + (a + b) / 65536

/-- Bytes o … with n bytes of v in network order written over them. -/
def patch (l : Bytes) (o n v : Nat) : Bytes := l.take o ++ beBytes n v ++ l.drop (o + n)

/-- DSCP rewrite (R180): an IPv4 header's checksum is updated incrementally. -/
def setDscp (l : Bytes) (q : Parsed) (d : Nat) : Bytes :=
  if q.ipver == 1 then
    let m := rd l q.l3 2
    let m' := m / 256 * 256 + d * 4 + m % 4
    let hc := rd l (q.l3 + 10) 2
    let c := 65535 - add16 (add16 (65535 - hc) (65535 - m)) m'
    patch (patch l q.l3 2 m') (q.l3 + 10) 2 c
  else if q.ipver == 2 then
    let m := rd l q.l3 2
    patch l q.l3 2 (m / 4096 * 4096 + d * 64 + m % 64)
  else l

/-- Rewrite record of an action word (R178, R180), 0 where there is none. -/
def rewriteOf (b : Bank) (w : Nat) : Nat := if bit w 43 then bkE b (field w 33 10) 0x4015 2 else 0

/-- The bytes of a frame without its outer tag, and without its R-TAG where the stream entry removes it (R92). -/
def bareBytes (b : Bank) (f : Frame) (q : Parsed) : Bytes :=
  let d := f.data.take 12 ++ f.data.drop (if f.tagged then 16 else 12)
  let o := if q.inner then 16 else 12
  match f.entry with
  | some e => if bit (bkE b e 0x3200 9) 2 && q.rtag.isSome then d.take o ++ d.drop (o + 6) else d
  | none => d

/-- Outer TPID written by egress port e (R90). -/
def egressTpid (b : Bank) (e : Nat) (f : Frame) : Nat :=
  let t := bkO b (0x3100 + e) 4
  if t == 1 then 0x88A8 else if t == 2 && f.tagged then f.tpid else 0x8100

/-- A frame leaves port e untagged (R90). -/
def untaggedAt (b : Bank) (e : Nat) (f : Frame) : Bool := bit (bkE b f.vid 0x3004 4) e

/-- The bytes that leave port e under action word w (R90, R91, R144, R180). -/
def copyBytes (b : Bank) (f : Frame) (e w mark : Nat) : Bytes :=
  let q := parse (bkO b (0x3100 + f.port) 4) 128 f.data
  let rw := rewriteOf b w
  let act := match f.entry with
    | some n => if bkE b n 0x3200 2 == 3 then some (bkE b n 0x3200 7) else none
    | none => none
  let d := if bit rw 30 then bareBytes b { f with data := setDscp f.data q (field rw 24 6) } q else bareBytes b f q
  let d := match act with
    | some a => leBytes 6 a ++ d.drop 6
    | none => d
  let vid := if bit rw 12 then field rw 0 12 else match act with
    | some a => field a 48 12
    | none => f.vid
  let pcp := if bit rw 19 then field rw 16 3 else match act with
    | some a => field a 60 3
    | none => f.prio
  let dei := if bit rw 21 then field rw 20 1 else if mark ≠ 2 && f.tagged then mark else b2n f.dei
  if untaggedAt b e f then d
  else d.take 12 ++ beBytes 2 (egressTpid b e f) ++ beBytes 2 (pcp * 8192 + dei * 4096 + vid) ++ d.drop 12

/-- The stream entry that generates an R-TAG on port e, and the offset after the outer tag (R92). -/
def genAt (b : Bank) (f : Frame) (e : Nat) : Option (Nat × Nat) :=
  match f.entry with
  | some n => if e < 22 && bit (bkE b n 0x3200 9) 1 then some (n, if untaggedAt b e f then 12 else 16) else none
  | none => none

/-- Offset and number of the R-TAG that a copy for port e carries: every copy of a frame has the number drawn for its first
(R92; assumption log 23). -/
def drawSeq (b : Bank) (f : Frame) (e : Nat) (s : State) : Option (Nat × Nat) × State :=
  match genAt b f e with
  | none => (none, s)
  | some (n, o) =>
    match f.seqGen with
    | some q => (some (o, q), s)
    | none =>
      let x := frerOf n s
      (some (o, x.genSeq), setFrame { f with seqGen := some x.genSeq } (setFrer n { x with genSeq := (x.genSeq + 1) % 65536 } s))

/-! ### When a copy starts, in fc after the reference point -/

/-- Cut-through between two ports (R18, R93). -/
def cutAllowed (b : Bank) (f : Frame) (e : Nat) (s : State) : Bool :=
  f.port < 16 && e < 16 && !f.stored && bkO b (0x3100 + f.port) 9 == 1 && bkO b (0x3100 + e) 9 == 1 &&
    portRate e s ≠ 0 && portRate e s ≤ portRate f.port s

/-- fc at which the last byte of a frame is held. -/
def endFc (f : Frame) (s : State) : Nat := holdFc f.length (portRate f.port s)

/-- A frame is under sequence recovery (R92). -/
def underRecovery (b : Bank) (f : Frame) : Bool :=
  match f.entry with
  | some n => f.rtag.isSome && bit (bkE b n 0x3200 9) 0
  | none => false

/-- Start of an early-start frame (R96): fc 22, or 8 fc after its length field is held. -/
def earlyAt (f : Frame) (s : State) : Nat := max 22 (holdFc f.lenField (portRate f.port s) + 8)

/-- Start of a cut-through copy on port e, none where it is stored and forwarded (R94, R96, R97, R189). -/
def startAt (b : Bank) (f : Frame) (zi ze : Nat) (deep : Bool) (e : Nat) (s : State) : Option Nat :=
  if !cutAllowed b f e s then none
  else
    let ri := portRate f.port s
    let re := portRate e s
    if !deep then
      some (max (f.rel + 8) (if underRecovery b f then holdFc (if f.tagged then 22 else 18) ri + 9 else 0))
    else if f.sample > 32 then none
    else
      let mode := nbyte (bkO b 0x3040 0) (16 * zi + ze)
      let sf := safeStart ri re
      if mode == 2 || f.length < sf then none
      else if mode == 1 && f.declared ≠ 0 && decide (f.declared ≥ earlyLen (earlyAt f s) re) then some (earlyAt f s)
      else
        let c := min (holdFc sf ri) f.rel
        if endFc f s < c then none else some (max 22 (c + 8))

/-- fc of enqueue: 7 fc before the start, but not before the cycle after a verdict that comes first (R94, R95, R518). -/
def enqueueFc (f : Frame) (start : Option Nat) (early : Bool) (s : State) : Nat :=
  match start with
  | some x => if early then x - 7 else max (f.rel + 1) (x - 7)
  | none => endFc f s + max 16 (f.rel + 1 - endFc f s)

/-- The first FCS byte is due before the verdict reaches the egress reader (R98). -/
def verdictLate (f : Frame) (x e : Nat) (s : State) : Bool :=
  decide (x + f.data.length * 6400 / portRate e s < f.rel + 8)

/-! ### Stages of the enqueue cycle -/

/-- Recolour of an action word (R178), else the frame's colour. -/
def recoloured (w colour : Nat) : Nat := if field w 56 2 ≠ 0 then field w 56 2 - 1 else colour

/-- Steps 2 to 4 of R179, once per frame: recolour, Sieve meter, stream stages with handle h. `zones` are the zones whose permit
a red Sieve meter, marked 3, turns into a denial (R179, R192). -/
def passStages (b : Bank) (f : Frame) (w : Nat) (h : Option Nat) (cut : Bool) (zi : Nat) (zones : List Nat) (s : State) :
    Policed × State :=
  let M := maxFrame b f.port
  let c := recoloured w f.colour
  let m := field w 44 11
  let x := if bit w 55 then runMeter b m (if cut then M else f.length) (if cut then M - f.length else 0) c s else (c, s)
  let mark := if bit w 55 && bit (bkE b m 0x3230 6) 4 then x.1 else 2
  let s := x.2
  if x.1 == 2 then (⟨false, 2, 3, 8, false⟩, each zones (fun e s => countPair zi e 3 s) s)
  else
    let s := each zones (fun e s => countPair zi e 0 s) s
    match h with
    | none => (⟨true, x.1, mark, 8, false⟩, s)
    | some h =>
      let r := police b h f.prio f.length M x.1 cut s
      let met := filterApplies b h f.prio && bkE b h 0x3210 5 ≠ 0xFFFF
      ({ r.1 with mark := if met then r.1.mark else mark }, r.2)

/-- Queue of a copy for port e (R125). -/
def queueOf (b : Bank) (f : Frame) (e w ipv : Nat) : Nat :=
  if bit w 61 then field w 58 3
  else field (bkO b (0x3480 + e) 1) (3 * (if ipv < 8 then ipv else f.prio)) 3

/-- Counter of 0x3060 for a copy that cut through when the end of its frame showed an error; 11 has none (R67, R100, R108). -/
def errStomp (err : Nat) : Nat := if err == 1 then 5 else if err == 4 then 0x0A else 11

/-- A stomp is counted at its counter of 0x3060 (R100). -/
def countStomp (k : Nat) (s : State) : State := if k == 0 || k > 10 then s else count 0x3060 k s

/-- One copy of frame f for port e on action word w, offered to admission (R114, R179). `cut`: it begins before its frame's end. -/
def offerCopy (b : Bank) (f : Frame) (e w : Nat) (pol : Policed) (start : Option Nat) (early : Bool) (s : State) :
    Bool × State :=
  let enq := enqueueFc f start early s
  let cut := start.isSome && decide (enq < endFc f s)
  if f.err ≠ 0 && !(start.isSome && decide (enq < f.errAt)) then (false, s)
  else
    let late := match start with
      | some x => verdictLate f x e s
      | none => false
    let stomp := if f.err ≠ 0 then errStomp f.err else if pol.oversize && cut then 7 else if late then 8 else 0
    let g := drawSeq b f e s
    let s := g.2
    let d := copyBytes b f e w pol.mark
    let c : Copy :=
      { frame := f.id, port := e, queue := queueOf b f e w pol.ipv, charge := 0, mirror := none, cut := cut, stomp := stomp
        rewrite := bit w 43, since := monoGrains s, endAt := monoNs s + (endFc f s - enq) * 5 / 4
        data := match g.1 with
          | some (o, q) => d.take o ++ beBytes 2 0xF1C1 ++ beBytes 2 0 ++ beBytes 2 q ++ d.drop o
          | none => d }
    let n := if cut then ceilDiv (maxFrame b f.port) 128 else f.ells.length
    let r := admitCopy c n pol.colour s
    (r.1, if r.1 then countStomp stomp r.2 else r.2)

/-- A mirror copy of session m with the given bytes (R101): stored and forwarded, cut to the truncation length with its FCS. -/
def offerMirror (f : Frame) (m : Nat) (data : Bytes) (stomp colour : Nat) (s : State) : State :=
  let i := 0x3050 + m
  let t := cfg i 6 s
  let d := if t ≠ 0 && data.length + 4 > t then data.take (t - 4) else data
  let c : Copy :=
    { frame := f.id, port := cfg i 2 s, queue := cfg i 5 s, charge := 0, mirror := some m, cut := false, stomp := stomp
      rewrite := false, since := monoGrains s, endAt := monoNs s, data := d }
  (admitCopy c f.ells.length colour s).2

end Sys2Proof.Machine
end

