-- ==== Sys2Proof/Machine/Frames.lean ====
section
/-!
DEFINITION. Frames.lean: arrival of an Ethernet frame (R67, R68, R80–R91, R100, R107, R108, R160–R162, R518).
-/
namespace Sys2Proof.Machine

/-! ### The end of reception -/

/-- What the MAC finds at the end of a frame of L bytes: 0 good, 1 bad FCS, 2 runt, 3 oversize, 4 link lost (R67, R100). -/
def macResult (f : EthFrame) (M : Nat) : Nat :=
  let L := f.bytes.length + 4
  if f.truncated then 4 else if L < 64 then 2 else if L > M then 3 else if !f.fcsGood then 1 else 0

/-- Counters of reception (R68); they read 0 on ports 30–32 but for frames and octets. -/
def countReceived (p err L : Nat) (s : State) : State :=
  if err == 0 then countBy 8 (pC p) 2 L (countBy 8 (pC p) 1 1 s)
  else if p < 30 && err ≤ 3 then count (pC p) (err + 2) s else s

/-- How the frame started (R160, R162): whether it is taken, and its counts. -/
def macStart (p : Nat) (m : MacStart) (s : State) : Bool × State :=
  match m with
  | .sfd => (true, s)
  | .preemptable n =>
    if p < 16 && cfg (0x3580 + p) 1 s == 1 then
      (true, if n > 1 then count (0x3580 + p) 0x0C (countBy 4 (0x3580 + p) 0x0B n s) else s)
    else (false, if p < 16 then count (0x3580 + p) 0x0E s else s)
  | .reassemblyError =>
    (false, if p < 16 then
        (if cfg (0x3580 + p) 1 s == 1 then count (0x3580 + p) 0x0D s else count (0x3580 + p) 0x0E s)
      else s)

/-! ### Candidate egress set (R81, R85) -/

/-- Ports of a mask. -/
def portsOf (m : Nat) : List Nat := bitsOf 33 m

/-- Frames to the reserved group addresses 01-80-C2-00-00-00 to -0F (R81). -/
def reservedGroup (da : Nat) : Bool := da / 16 == 0x0180C200000

/-- The backbone MAC of the device (0x3C01:01), as a number in wire order. -/
def ownMac (s : State) : Nat := beNat (leBytes 6 (cfg 0x3C01 1 s))

/-- Destination inside the device: 0 a port, 1 MP, 2 the time unit, 3 the backbone bridge (R81). -/
def sinkOf (q : Parsed) (s : State) : Nat :=
  if reservedGroup q.da then (if q.etherType == 0x88F7 then 2 else 1)
  else if q.etherType == 0x88B5 && q.da == ownMac s then 3 else 0

/-- Candidate egress set before mirroring (R85). -/
def candidates (b : Bank) (p vid : Nat) (q : Parsed) (found : Option Nat) : List Nat :=
  let members := bkE b vid 0x3004 3
  let m := match found with
    | some m => m
    | none =>
      if !bit q.da 40 then
        (List.range 33).foldl (fun a e => if bkO b (0x3100 + e) 0x0A == 1 then a + 2 ^ e else a) 0
      else if q.da == 2 ^ 48 - 1 then members
      else if bkO b 0x3000 4 == 1 then members else 0
  (portsOf (Nat.land m members)).filter fun e => e ≠ p

/-- Mirror sessions that copy the frame at ingress, or at the egress of one of its candidates (R101). -/
def mirrorsAt (b : Bank) (p : Nat) : List Nat :=
  (List.range 4).filter fun n => bkO b (0x3050 + n) 1 == 1 && bit (bkO b (0x3050 + n) 3) p

def mirrorsOut (b : Bank) (cand : List Nat) : List Nat :=
  (List.range 4).filter fun n => bkO b (0x3050 + n) 1 == 1 && cand.any fun e => bit (bkO b (0x3050 + n) 4) e

/-! ### Ingress VLAN rules (R82) -/

/-- VID of the outer tag, 0 where there is none or it is a priority tag. -/
def outerVid (q : Parsed) : Nat := if q.tagged then q.vid else 0

/-- Counter of 0x3060 of a frame that the ingress VLAN rules drop, 0 where they take it. -/
def vlanDrop (b : Bank) (p vid : Nat) (q : Parsed) : Nat :=
  let t := bkO b (0x3100 + p) 2
  if (t == 1 && !(1 ≤ outerVid q && outerVid q ≤ 4094)) || (t == 2 && outerVid q ≠ 0) then 3
  else if bkE b vid 0x3004 2 == 0 then 1
  else if bkO b (0x3100 + p) 3 == 1 && !bit (bkE b vid 0x3004 3) p then 2 else 0

/-! ### Arrival (R107, R108) -/

/-- Ells that a frame of n bytes takes, never more than 72 (R67). -/
def ellCount (n : Nat) : Nat := min 72 (ceilDiv n 128)

/-- Ells that a frame in bushel b can take now, and whether the free list, not the headroom, is what stops it (R108). -/
def ellRoom (b : Nat) (s : State) : Nat × Bool :=
  let h := if cfg (0x3408 + b) 1 s == 0 then 0 else cfg (0x3408 + b) 2 s - headroomUsed b s
  (min h (freeElls s), decide (freeElls s < h))

/-- A drop at arrival is counted (R108). -/
def arrivalDrop (p b : Nat) (shortage : Bool) (s : State) : State :=
  count (0x3408 + b) (if shortage then 0x0A else 9) (count (0x3440 + p) 0x0B s)

/-! ### The decision -/

/-- Inputs of the decision of a frame (R165–R171), and its deep key. -/
def ethDecision (b : Bank) (f : Frame) (q : Parsed) (known : Bool) (cand : List Nat) : DecIn × Nat :=
  let z := zoneOf b f.port
  let D := depthOf b z
  let qd := parse (bkO b (0x3100 + f.port) 4) D f.data
  let lim := min (min 128 D) f.data.length
  let ch := runChecks b z (anchorEth qd) f.data lim
  let fl := flowClass b (flowKey z qd)
  let handle := if f.streamDeep then none else f.stream
  ({ source := f.port, zone := z, zones := zonesOf b cand, bus := false
     keyExpress := keyExpressEth f.port z f.vid f.prio f.dei handle known q
     malExpress := q.malExpress, malDeep := qd.malDeep, absent := qd.absent || ch.2, checks := ch.1, checksAbsent := ch.2
     flow := fl, spoofed := false, streamDeep := f.streamDeep },
   keyDeepEth f.port z f.vid f.stream ch.1 fl (qd.absent || ch.2) qd)

/-- fc of the deep sample and of the verdict's release (R94, R189). -/
def sampleFc (b : Bank) (f : Frame) (s : State) : Nat :=
  max 14 (holdFc (min (depthOf b (zoneOf b f.port)) (f.length - 4)) (portRate f.port s) + 3)

def releaseFc (sample : Nat) (deep : Bool) (pairs : List Nat) : Nat :=
  if !deep then 14
  else (if sample % 2 == 0 then sample + 1 else sample + 2) + 8 * (pairs.filter (· ≠ 0)).length

/-- Ports whose zone the express result did not deny (R518). -/
def notDenied (b : Bank) (f : Frame) (d : Decision) : List Nat :=
  f.cand.filter fun e => d.express.any fun z => z.zone == zoneOf b e && z.verdict ≠ 0

/-- Copies whose start comes before the deep verdict (R518): enqueued now, on what the express result gave. -/
def enqueueEarly (id : Nat) (s : State) : State :=
  match frameOf id s, decOf id s with
  | some f, some d =>
    if !d.deep || d.outcome ≠ 0 || f.sink ≠ 0 then s
    else
      let b := s.cfg
      let l := (notDenied b f d).filterMap fun e =>
        match startAt b f d.zone (zoneOf b e) true e s with
        | some x => if x < f.rel then some (e, x) else none
        | none => none
      match l with
      | [] => s
      | (_, x) :: _ =>
        let w := actingWord b d.express
        let h := if f.streamDeep then none else f.stream
        let r := passStages b f w h (decide (x - 7 < endFc f s)) d.zone [] s
        let f := { f with staged := some r.1 }
        let s := setFrame f r.2
        if !r.1.ok then s
        else
          each l (fun ex s =>
            let r := offerCopy b ((frameOf id s).getD f) ex.1 w r.1 (some ex.2) true s
            match frameOf id r.2 with
            | some g => if r.1 then setFrame { g with early := g.early ++ [ex.1] } r.2 else r.2
            | none => r.2) s
  | _, _ => s

/-! ### Reception -/

/-- A frame that has been classified is written into ells and submitted to the Sieve. -/
def takeFrame (p err : Nat) (d : Bytes) (q : Parsed) (vid prio len : Nat) (stored : Bool) (s : State) : State :=
  let b := s.cfg
  let fid := bkE b vid 0x3004 5
  let bu := bushelOf b p prio
  let want := ellCount d.length
  let room := ellRoom bu s
  let got := min want room.1
  if got = 0 then arrivalDrop p bu room.2 s
  else
    let s := if got < want then arrivalDrop p bu room.2 s else s
    let found := fdbLookup b (fdbKey q.da fid) s
    let sink := sinkOf q s
    let cand := if sink ≠ 0 then [31] else candidates b p vid q found
    let st := identify b p vid q
    let t := takeElls got s
    let ri := portRate p s
    let f : Frame :=
      { id := s.buf.nextFrame, data := d, port := p, err := if got < want then 5 else err
        errAt := if got < want then holdFc (128 * got + 1) ri else holdFc len ri
        length := len, stored := stored, epoch := s.epoch, vid := vid, fid := fid, prio := prio, dei := q.dei, tpid := q.tpid
        tagged := q.tagged, colour := b2n q.dei, bushel := bu, ells := t.1, used := false, cand := cand
        mirrors := mirrorsAt b p, sink := sink
        stream := st.map fun e => bkE b e.1 0x3200 8, entry := st.map (·.1), streamDeep := (st.map (·.2)).getD false
        rtag := q.rtag, seqGen := none, stamp := nowNs s, declared := q.declared.getD 0, lenField := q.lenField, sample := 0, rel := 14
        early := [], staged := none, released := false }
    let dests := (f.mirrors ++ mirrorsOut b cand).map fun n => bkO b (0x3050 + n) 2
    let x := ethDecision b f q found.isSome (cand ++ dests)
    let s := t.2
    let s := submit f.id x.1 x.2 false false false
      { s with buf := { s.buf with frames := s.buf.frames ++ [f], nextFrame := f.id + 1 } }
    let dec := (decOf f.id s)
    let sample := sampleFc b f s
    let rel := match dec with
      | some d => releaseFc sample d.deep d.pairs
      | none => 14
    let s := setFrame { f with sample := sample, rel := rel } s
    enqueueEarly f.id s

/-- Classification (R82, R83, R87) of a frame whose first 18 bytes are held. -/
def classifyFrame (p err : Nat) (d : Bytes) (len : Nat) (stored : Bool) (s : State) : State :=
  let b := s.cfg
  let q := parse (bkO b (0x3100 + p) 4) 128 d
  let vid := if outerVid q ≠ 0 then q.vid else bkO b (0x3100 + p) 1
  let prio := if q.tagged then q.pcp else bkO b (0x3100 + p) 5
  let c := vlanDrop b p vid q
  if c ≠ 0 then count 0x3060 c s
  else if staticBlocked b p q.sa (bkE b vid 0x3004 5) then count 0x3001 6 s
  else takeFrame p err d q vid prio len stored s

/-- An Ethernet frame arrives on port p (R67): MAC, MACsec, classification. -/
def receiveFrame (p : Nat) (f : EthFrame) (s : State) : State :=
  if s.dev = .boot || s.dev = .catch_ || !portUp p s then s
  else
    let m := macStart p f.start s
    if !m.1 then m.2
    else
      let s := when (p < 30) (fun s => setPrt p { prt p s with lastAt := wall s } s) m.2
      let L := f.bytes.length + 4
      let err := macResult f (maxFrame s.cfg p)
      let s := countReceived p err L s
      if err ≠ 0 && macsecOn p s && rd f.bytes 12 2 == 0x88E5 then s
      else
        let r := secReceive p f.bytes s
        match r.1 with
        | .drop => r.2
        | .pass d secure =>
          if d.length < 18 then r.2
          else settle 4 (classifyFrame p err d L (secure || decide (f.start ≠ .sfd)) r.2)

/-- ETHERNET_FRAME_RECEIVE (R67). -/
def execEthernetFrameReceive (port : Fin 33) (frame : EthFrame) (s : State) : Res := .next (receiveFrame port.val frame s)

end Sys2Proof.Machine
end

