-- ==== Sys2Proof/Machine/Release.lean ====
section
/-!
DEFINITION. Release.lean: the outcome of a pass-pair and the withdrawal of a lane (R193–R201), D3 (R177, R181–R184), and the
release of a verdict (R85, R87, R92, R172, R178, R179, R192, R518).
-/
namespace Sys2Proof.Machine

/-! ### Lanes -/

def lane (n : Nat) (s : State) : LaneSt := tget laneSt0 s.lanes n

def setLane (n : Nat) (x : LaneSt) (s : State) : State := { s with lanes := tset laneSt0 s.lanes n x }

/-- Withdrawal of lane n with a cause (R201): it drains; a lane that already drains or is withdrawn stays as it is. The fault
source of the lane must be enabled (R405); with no other working lane source 0x28 fires as well (R16). -/
def withdrawLane (n cause : Nat) (s : State) : State :=
  if reg 0x4050 (n + 1) s ≠ 0 || !srcEnabled (0x22 + n) s then s
  else
    let s := setLane n { lane n s with latent := [] } (setReg (0x4051 + n) 0x0B cause (setReg 0x4050 (n + 1) 1 s))
    let s := if reg 0x4050 (2 - n) s ≠ 0 then fire 0x28 n s else s
    fire (0x22 + n) (n + 256 * cause) s

/-- The decision is denied for every candidate zone (R198). -/
def denyDecision (n : Nat) (d : Decision) (s : State) : State :=
  setDec { d with outcome := 1, pairs := [], retry := false } (count (0x4051 + n) 6 s)

/-- A latent divergence (R198, R199): counted; the third within 100 ms withdraws the lane. -/
def latentDivergence (n : Nat) (s : State) : State :=
  let s := fire (0x20 + n) n (count (0x4051 + n) 2 s)
  if reg 0x4050 (n + 1) s ≠ 0 then s
  else
    let g := monoGrains s
    let l := ((lane n s).latent.filter fun t => g < t + 12500000) ++ [g]
    if l.length ≥ 3 then withdrawLane n 2 s else setLane n { lane n s with latent := l } s

/-- What a comparison showed is kept at :08 to :0A of the lane's record. -/
def noteDivergence (n : Nat) (x : PassPair) (cons : Bool) (s : State) : State :=
  let w := if x.word0.val ≠ 0 then 0 else if x.word1.val ≠ 0 then 1 else if x.word2.val ≠ 0 then 2 else 0
  let bits := if x.word0.val ≠ 0 then x.word0.val else if x.word1.val ≠ 0 then x.word1.val else x.word2.val
  let kind := w + 4 * b2n cons + 8 * b2n x.stage4Parity + 16 * b2n x.bufferParity + 32 * b2n x.holdParity +
    64 * b2n x.digestMismatch
  setReg (0x4051 + n) 0x0A bits (setReg (0x4051 + n) 9 kind (setReg (0x4051 + n) 8 (time80 (nowNs s)) s))

/-- The retry of a pair of decision d would bring its verdict later than fc 64 of the deep scale (R200). -/
def retryTooLate (d : Decision) (s : State) : Bool :=
  match frameOf d.id s with
  | some f => d.deep && f.rel - (f.sample - 32) + 8 > 64
  | none => false

/-- The retry is launched: its verdict comes 8 fc later (R200). -/
def launchRetry (d : Decision) (s : State) : State :=
  let s := setDec { d with retry := true } s
  let s := match frameOf d.id s with
    | some f => setFrame { f with rel := f.rel + 8 } s
    | none => s
  if d.pairs.head? == some 0 then raise 0x4000 6 8 s else s

/-- The decision goes on with its next pass-pair. -/
def pairDone (d : Decision) (s : State) : State := setDec { d with pairs := d.pairs.tail, retry := false } s

/-- Outcome of the pass-pair in progress of decision d on lane n (R198, R200, R206). -/
def pairOutcome (n : Nat) (d : Decision) (x : PassPair) (s : State) : State :=
  let b := bankOf d.epoch s
  let p := d.pairs.headD 0
  let w0 := word0 b d p
  let w1 := word1 b d p
  let cons (k v : Nat) : Bool := consequential d.zones p w0 w1 x.word0.val x.word1.val k v
  let bad := cons 0 x.word0.val || cons 1 x.word1.val || cons 2 x.word2.val
  let diverged := x.word0.val ≠ 0 || x.word1.val ≠ 0 || x.word2.val ≠ 0
  let parity := if d.retry then x.bufferParity else x.stage4Parity || x.bufferParity
  let s := countBy 8 (0x4051 + n) 1 1 s
  let s := if diverged || parity || (d.retry && x.holdParity) || x.digestMismatch then noteDivergence n x bad s else s
  let s := if parity || (d.retry && x.holdParity) then fire (0x24 + n) n (count (0x4051 + n) 4 s) else s
  if x.holdParity && (d.retry || (diverged && parity && !retryTooLate d s)) then withdrawLane n 4 (denyDecision n d (if bad then count (0x4051 + n) 3 s else s))
  else if bad && (d.retry || !parity) then
    withdrawLane n (if d.retry then 3 else 1) (denyDecision n d (count (0x4051 + n) 3 s))
  else if diverged && parity && !d.retry then
    (if retryTooLate d s then denyDecision n d s else launchRetry d s)
  else
    let s := if diverged then latentDivergence n s else s
    let s := if d.retry then count (0x4051 + n) 5 s else s
    if x.digestMismatch then withdrawLane n 1 (pairDone { d with noHits := true } s) else pairDone d s

/-- PASS_PAIR_OUTCOME (R197–R200): the oldest decision of the lane that waits for a pass-pair gets its outcome. -/
def execPassPairOutcome (lane : Fin 2) (pair : PassPair) (s : State) : Res :=
  .next (
    match s.decs.find? fun d => d.lane == lane.val && !d.pairs.isEmpty with
    | some d => pairOutcome lane.val d pair s
    | none => s)

/-- COMPARATOR_FAULT (R204, R206): the comparator source fires, and the decision being compared is denied. -/
def execComparatorFault (lane : Fin 2) (s : State) : Res :=
  .next (
    let n := lane.val
    let s := match s.decs.find? fun d => d.lane == n && !d.pairs.isEmpty with
      | some d => denyDecision n d s
      | none => s
    fire (0x26 + n) n s)

/-! ### D3 -/

/-- Token bucket of a limiter: kept for the D3 limiters by their number, for those of the Braider from 1,024 (R184, R250). -/
def limiterNow (key rate burst : Nat) (s : State) : LimiterSt :=
  match s.limiters.find? fun e => e.1 == key with
  | some e =>
    { tokens := min (burst * 1000000000) (e.2.tokens + rate * 8 * (monoGrains s - e.2.last)), last := max e.2.last (monoGrains s) }
  | none => ⟨burst * 1000000000, monoGrains s⟩

/-- A limiter of table i is offered a frame: it takes a token, or it has none (:05, :06). -/
def takeToken (b : Bank) (i base l : Nat) (s : State) : Bool × State :=
  let x := limiterNow (base + l) (bkE b l i 2) (bkE b l i 3) s
  let ok := decide (x.tokens ≥ 1000000000)
  let x := if ok then { x with tokens := x.tokens - 1000000000 } else x
  let s := setRegE l i 4 (x.tokens / 1000000000) { s with limiters := tput s.limiters (base + l) x }
  (ok, s)

/-- Freshness value reconstructed from V and the received bits (R182). -/
def freshness (f t v r : Nat) : Nat :=
  if t = f then r
  else if r > v % 2 ^ t then v / 2 ^ t * 2 ^ t + r
  else (v / 2 ^ t + 1) * 2 ^ t + r

/-- Verification of an authenticated PDU under profile r (R181–R183, R383): freshness first, then the MAC. -/
def authenticate (b : Bank) (r : Nat) (l : Bytes) (s : State) : Bool × State :=
  let m := bkE b r 0x4020 4
  let f := bkE b r 0x4020 5
  let t := bkE b r 0x4020 6
  let slot := keySlot (bkE b r 0x4020 3) s
  let n := (t + m) / 8
  if l.length < n then (false, countE r 0x4020 0x0A s)
  else
    let tail := beNat (l.drop (l.length - n))
    let v := regE r 0x4020 8 s
    let c := freshness f t v (tail / 2 ^ m % 2 ^ t)
    if !(c < 2 ^ f && c > v && c - v ≤ bkE b r 0x4020 7) then (false, countE r 0x4020 0x0B s)
    else
      let mac := Config.cmac slot.value (beBytes 2 (bkE b r 0x4020 2) ++ l.take (l.length - n) ++ beBytes 8 c) % 2 ^ 128
      if s.crust.authWorking && slot.type ≠ 0 && bit slot.usage 2 && mac / 2 ^ (128 - m) == tail % 2 ^ m then
        (true, countE r 0x4020 0x0C (setRegE r 0x4020 8 c s))
      else (false, countE r 0x4020 0x0A s)

/-- Pass-pair D3 of an acting word: authentication of a bus frame's data, then the limiter (R177, R181). -/
def runD3 (b : Bank) (w : Nat) (data : Option Bytes) (s : State) : Bool × State :=
  let a := match data with
    | some l => if bit w 30 then authenticate b (field w 20 10) l s else (true, s)
    | none => (true, s)
  if !a.1 then a
  else if bit w 19 then
    let r := takeToken b 0x4021 0 (field w 9 10) a.2
    (r.1, countE (field w 9 10) 0x4021 (if r.1 then 5 else 6) r.2)
  else a

/-! ### The final verdict -/

/-- Zones that a verdict permits, and the action word that applies; 0 where none does. -/
structure Final where
  zones : List Nat
  word : Nat
deriving DecidableEq, Repr

/-- A zone was permitted by the action that acts (R177). -/
def byActing (b : Bank) (l : List ZoneDec) (z : ZoneDec) : Bool :=
  match actingRule l with
  | some a => z.table ≠ 0 && actionIndex b (decTable z) z.rule == actionIndex b (decTable a) a.rule
  | none => false

/-- A denied zone is counted (R192). -/
def countDenied (d : Decision) (z : ZoneDec) (s : State) : State :=
  countPair d.zone z.zone (if d.outcome == 1 || d.outcome == 3 then 3 else if d.outcome == 4 || z.table == 0 then 2 else 1) s

/-- Every zone of a denied decision is counted at :06 (R186, R198). -/
def countAllDenied (d : Decision) (s : State) : State := each d.zones (fun e s => countPair d.zone e 3 s) s

/-- A malformed frame is counted where a zone is denied, or permitted by a miss action (R172). -/
def countMalformed (d : Decision) (f : Final) (s : State) : State :=
  if d.malformed && d.final.any (fun z => !f.zones.contains z.zone || z.table == 0) then count 0x4000 8 s else s

/-- The final verdict of a decision (R167, R177, R192): D3, hits, denials. A permit is counted by the caller. -/
def finalVerdict (d : Decision) (data : Option Bytes) (s : State) : Final × State :=
  let b := bankOf d.epoch s
  if d.outcome == 1 || d.outcome == 3 then (⟨[], 0⟩, countAllDenied d s)
  else if d.outcome == 2 then (⟨[], 0⟩, s)
  else
    let w := if d.outcome == 0 then actingWord b d.final else 0
    let r := if d.outcome == 0 then runD3 b w data s else (true, s)
    let s := r.2
    let l := d.final.filter fun z => z.verdict == 1
    let keep := if r.1 then l else l.filter fun z => !byActing b d.final z
    let s := each (d.final.filter fun z => z.verdict ≠ 1) (countDenied d) s
    let s := if r.1 then s else each (l.filter (byActing b d.final)) (fun z s => countPair d.zone z.zone 3 s) s
    let s := if d.outcome == 0 && !d.noHits then countHits d s else s
    let f : Final := ⟨keep.map (·.zone), if r.1 then w else 0⟩
    (f, countMalformed d f s)

/-! ### Release of an Ethernet frame -/

/-- A copy of frame f for port e that is already queued, on the wire or preempted is stomped with counter k of 0x3060 (R98). -/
def stompCopy (f e k : Nat) (s : State) : State :=
  let hit (c : Copy) : Bool := c.frame == f && c.port == e && c.mirror.isNone && c.stomp == 0
  let mark (c : Copy) : Copy := if hit c then { c with stomp := k } else c
  let x := egr e s
  let some_ := s.buf.copies.any hit || (x.cur.map hit).getD false || (x.preempted.map hit).getD false
  if some_ then
    countStomp k (setEgr e { x with cur := x.cur.map mark, preempted := x.preempted.map mark }
      { s with buf := { s.buf with copies := s.buf.copies.map mark } })
  else s

/-- Trap copies of an action word (R178): port 31 or 30, stored and forwarded. -/
def trapPort (w : Nat) : Option Nat :=
  match field w 31 2 with
  | 1 => some 31
  | 2 => some 30
  | _ => none

/-- Learning at the release of a verdict that permits a port (R87). -/
def learnAt (f : Frame) (s : State) : State :=
  let sa := rd f.data 6 6
  if f.err = 0 && learns f.port f.vid sa s then learnSource f.port sa f.fid s else s

/-- The copy of frame id on port e is stomped, in its queue, on the wire or preempted. -/
def stompedOn (id e : Nat) (s : State) : Bool :=
  let hit (c : Copy) : Bool := c.frame == id && c.port == e && c.mirror.isNone && c.stomp ≠ 0
  s.buf.copies.any hit || (egr e s).cur.any hit || (egr e s).preempted.any hit

/-- Mirror copies of a released frame (R101): at ingress the frame as received, at egress as port e sends it. A copy leaves only
where the destination's zone is permitted; that of a frame that is stomped is stomped too. -/
def mirrorCopies (b : Bank) (f : Frame) (fin : Final) (out : List Nat) (pol : Policed) (s : State) : State :=
  let okTo (n : Nat) : Bool := fin.zones.contains (zoneOf b (bkO b (0x3050 + n) 2))
  let bad := f.err ≠ 0 && out.any fun e => stompedOn f.id e s
  let s := if f.err ≠ 0 && !bad then s
    else each (f.mirrors.filter okTo) (fun n s => offerMirror f n f.data (if bad then 11 else 0) f.colour s) s
  each ((mirrorsOut b out).filter okTo) (fun n s =>
    each (out.filter fun e => bit (bkO b (0x3050 + n) 4) e && (f.err = 0 || stompedOn f.id e s)) (fun e s =>
      offerMirror f n (copyBytes b f e fin.word pol.mark) (if stompedOn f.id e s then 11 else 0) pol.colour s) s) s

/-- Ports of a frame whose copy is still to be made at the release, with their cut-through start. -/
def laterPorts (b : Bank) (f : Frame) (d : Decision) (ports : List Nat) (trap : Option Nat) (s : State) :
    List (Nat × Option Nat) :=
  (ports.filter fun e => !f.early.contains e).map (fun e => (e, startAt b f d.zone (zoneOf b e) d.deep e s)) ++
    (match trap with
      | some e => if ports.contains e then [] else [(e, none)]
      | none => [])

/-- A copy would be enqueued: its frame is good, or its start came before the fault showed (R100, R108). -/
def offered (f : Frame) (x : Nat × Option Nat) (s : State) : Bool :=
  f.err = 0 || (x.2.isSome && decide (enqueueFc f x.2 false s < f.errAt))

/-- The copies of a released frame (R179): stages once per frame, then every copy on its own. -/
def releaseCopies (b : Bank) (f : Frame) (d : Decision) (fin : Final) (ports : List Nat) (s : State) : State :=
  let l := (laterPorts b f d ports (trapPort fin.word) s).filter fun x => offered f x s
  let permit (s : State) : State := each fin.zones (fun e s => countPair d.zone e 0 s) s
  match f.staged with
  | some p =>
    let s := if p.mark == 3 then each fin.zones (fun e s => countPair d.zone e 3 s) s else permit s
    if !p.ok then s
    else
      let s := each l (fun x s => (offerCopy b ((frameOf f.id s).getD f) x.1 fin.word p x.2 false s).2) s
      mirrorCopies b ((frameOf f.id s).getD f) fin ports p s
  | none =>
    if l.isEmpty && (f.err ≠ 0 || (f.mirrors ++ mirrorsOut b ports).isEmpty) then permit s
    else
      let cut := l.any fun x => x.2.isSome && decide (enqueueFc f x.2 false s < endFc f s)
      let r := passStages b f fin.word f.stream cut d.zone fin.zones s
      if !r.1.ok then r.2
      else
        let s := setFrame { f with staged := some r.1 } r.2
        let s := each l (fun x s => (offerCopy b ((frameOf f.id s).getD f) x.1 fin.word r.1 x.2 false s).2) s
        mirrorCopies b ((frameOf f.id s).getD f) fin ports r.1 s

/-- A permitted frame for the time unit or the bridge is handed over inside the device (R81). -/
def handOver (f : Frame) (s : State) : State :=
  if f.err ≠ 0 then s
  else if f.sink == 2 then emit (.toTime f.data) s else if f.sink == 3 then emit (.toBridge f.data) s else s

/-- The verdict of a frame is released: learning, sequence recovery, copies, stomps (R85, R87, R92, R179, R518). -/
def releaseFrame (f : Frame) (d : Decision) (s : State) : State :=
  let b := bankOf d.epoch s
  let r := finalVerdict d none s
  let fin := r.1
  let s := dropDec d.id r.2
  let ports := f.cand.filter fun e => fin.zones.contains (zoneOf b e)
  let dests := (f.mirrors ++ mirrorsOut b f.cand).map fun n => bkO b (0x3050 + n) 2
  let none_ := ports.isEmpty && (trapPort fin.word).isNone && !(dests.any fun e => fin.zones.contains (zoneOf b e))
  let s := if none_ then count 0x3060 4 s else s
  let s := if fin.zones.isEmpty then s else learnAt f s
  let s := each (f.early.filter fun e => !ports.contains e) (fun e s => stompCopy f.id e 7 s) s
  let dup := match f.entry, f.rtag with
    | some n, some q =>
      if underRecovery b f && f.err = 0 && !fin.zones.isEmpty then recoverSeq b n q s else (true, s)
    | _, _ => (true, s)
  let s := dup.2
  let s :=
    if !dup.1 then
      each f.early (fun e s => stompCopy f.id e 7 s) (each fin.zones (fun e s => countPair d.zone e 0 s) s)
    else if f.sink ≥ 2 then handOver f (each fin.zones (fun e s => countPair d.zone e 0 s) s)
    else releaseCopies b f d fin ports s
  let s := match frameOf f.id s with
    | some g => setFrame { g with released := true } s
    | none => s
  reap f.id s

/-- The verdict of a bus record is released (R166, R192): its permitted zones stand in the record, which waits for its routes; a
spoofed frame's trap copy goes to MP (R186). -/
def releaseRecord (d : Decision) (r : BusRec) (s : State) : State :=
  let v := finalVerdict d (some r.frame.data) s
  let s := dropDec d.id (each v.1.zones (fun e s => countPair d.zone e 0 s) v.2)
  let s := if d.trapMP then emit (.toCore r.frame.data) s else s
  { s with braid := { s.braid with
      recs := s.braid.recs.map fun x => if x.id == r.id then { x with permitted := v.1.zones, released := true } else x } }

/-- VERDICT_RELEASE (R198): the verdict of a frame or PDU whose pass-pairs are done. -/
def execVerdictRelease (frame : Nat) (s : State) : Res :=
  .next (
    match decOf frame s with
    | none => s
    | some d =>
      if !d.pairs.isEmpty then s
      else
        match frameOf frame s, s.braid.recs.find? fun r => r.id == frame with
        | some f, _ => settle 4 (releaseFrame f d s)
        | none, some r => settle 4 (releaseRecord d r s)
        | none, none => dropDec frame s)

end Sys2Proof.Machine
end

