-- ==== Sys2Proof/Machine/Pecks.lean ====
section
/-!
DEFINITION. Pecks.lean: the peck arbiter (R471–R481).
-/
namespace Sys2Proof.Machine

/-! ### Settings in use (R478) -/

/-- Committed budget, or the copy in PD_AON before the first configuration of the start is loaded, or the default. -/
def budget (s : State) : Nat :=
  if s.power.loaded then cfg 0x5000 1 s
  else match s.pecks.copy with
    | some c => c.1
    | none => 880

/-- Priority and permission of consumer n. -/
def peckPrio (n : Nat) (s : State) : Nat :=
  if s.power.loaded then cfgE n 0x5001 3 s
  else match s.pecks.copy with
    | some c => tget (peckPriority n) c.2 (2 * n)
    | none => peckPriority n

def peckPermitted (n : Nat) (s : State) : Bool :=
  if s.power.loaded then cfgE n 0x5001 4 s == 1
  else match s.pecks.copy with
    | some c => tget 1 c.2 (2 * n + 1) == 1
    | none => true

/-- Copy into PD_AON at a commit (R478). -/
def peckCopy (s : State) : State :=
  { s with pecks := { s.pecks with
      copy := some (cfg 0x5000 1 s,
        (List.range 62).foldl (fun t n =>
          tset 1 (tset (peckPriority n) t (2 * n) (cfgE n 0x5001 3 s)) (2 * n + 1) (cfgE n 0x5001 4 s)) []) } }

/-- Derating factor in 1/375 for a junction temperature in 0.1 °C (R477). -/
def derating (tj : Int) : Nat := if tj ≤ 1200 then 375 else if tj ≥ 1350 then 225 else 375 - (tj - 1200).toNat

/-- The effective budget of R477 for the last reading of the junction temperature, and the over-budget flag. -/
def setBudget (s : State) : State :=
  let f := derating (toInt 16 (reg 0x5000 7 s))
  let e := max 298 (budget s * f / 375)
  setReg 0x5000 0x0B (b2n (decide (reg 0x5000 5 s > e))) (setReg 0x5000 2 e s)

/-! ### Consumers -/

/-- Domain that consumer n switches on (R457, R472). -/
def consumerDomain (n : Nat) : Option Nat :=
  if 5 ≤ n && n ≤ 8 then some 0 else if 9 ≤ n && n ≤ 11 then some (n - 8) else if n == 24 then some 4
  else if 55 ≤ n && n ≤ 61 then some (n - 50) else if n == 2 then some 12 else if n == 3 then some 13
  else if n == 4 then some 14 else if n == 1 then some 15 else none

/-- Consumers of a domain. -/
def domainConsumers (d : Nat) : List Nat := (List.range 62).filter fun n => consumerDomain n == some d

/-- Port of consumer n. -/
def consumerPort (n : Nat) : Option Nat :=
  if 5 ≤ n && n ≤ 8 then some (n - 5) else if 12 ≤ n && n ≤ 23 then some (n - 8)
  else if 25 ≤ n && n ≤ 38 then some (n - 9) else none

/-- Consumer whose grant consumer n waits for (R472): its PLL, the PHY cluster base, or the MACsec base. -/
def consumerBase (n : Nat) : Option Nat :=
  if 12 ≤ n && n ≤ 23 then some (9 + (n - 12) / 4) else if 25 ≤ n && n ≤ 38 then some 24
  else if 39 ≤ n && n ≤ 54 then some 4 else none

/-- Rate code that port p is about to train to (R472). -/
def trainRate (p : Nat) (s : State) : Nat :=
  let c := (portSettings p s).2
  ((modeRates c.mode).find? fun r => !overCap p r c s).getD ((modeRates c.mode).headD 0)

/-- Charge that consumer n requests (R472). -/
def chargeFor (n : Nat) (s : State) : Nat :=
  match consumerPort n with
  | none => if 39 ≤ n && n ≤ 54 then (if n < 43 then 15 else 2) else peckCharge n
  | some p =>
    let r := trainRate p s
    if p < 4 then (if r == 7 || r == 0 then 39 else if r == 6 then 18 else if r == 5 then 12 else 8)
    else if p < 16 then (if r == 4 || r == 0 then 5 else 4)
    else peckCharge n

def setPeck (n v : Nat) (s : State) : State := setRegE n 0x5001 5 v s

def peckOf (n : Nat) (s : State) : Nat := regE n 0x5001 2 s

/-- A consumer waits for its grant: waiting, or starved. -/
def peckWaits (n : Nat) (s : State) : Bool := peckState n s == 1 || peckState n s == 3

def waiters (s : State) : List Nat := (List.range 62).filter fun n => peckWaits n s

/-- 0x5000:09, and 0x5020:03 (the domains whose consumer waits). -/
def noteWaiting (s : State) : State :=
  let l := waiters s
  let a := (List.range 16).foldl (fun a d => if l.any fun n => consumerDomain n == some d then a + 2 ^ d else a) 0
  setReg 0x5020 3 a (setReg 0x5000 9 l.length s)

def waitSince (n : Nat) (s : State) : Nat := tget 0 s.pecks.since n

def setSince (n : Nat) (s : State) : State :=
  { s with pecks := { s.pecks with since := tset 0 s.pecks.since n (wall s) } }

/-- The starved status of a port (B+0x01:05). -/
def setStarved (n v : Nat) (s : State) : State :=
  match consumerPort n with
  | some p => setReg (pS p) 5 v s
  | none => s

/-- A request (R472, R479, R481): one that is not permitted is reported so. -/
def peckRequest (n : Nat) (s : State) : State :=
  if n == 0 || n > 61 || peckState n s == 1 || peckState n s == 2 || peckState n s == 3 then s
  else if !peckPermitted n s then setPeck n 4 s
  else if !(match consumerBase n with
      | some b => granted b s
      | none => true) then s
  else
    let s := setRegE n 0x5001 6 (time80 (nowNs s)) (setRegE n 0x5001 2 (chargeFor n s) (setPeck n 1 s))
    noteWaiting (setSince n s)

/-- A power-up request during the drain of a domain cancels the power-down (R460). -/
def cancelDrain (d : Nat) (s : State) : State :=
  if bit (reg 0x5020 4 s) d then
    { setReg 0x5020 4 (setField (reg 0x5020 4 s) d 1 0) s with power := { s.power with drainAt := tdel s.power.drainAt d } }
  else s

/-- PECK_REQUEST (R460, R472, R473). -/
def execPeckRequest (consumer : Fin 62) (s : State) : Res :=
  .next (
    let s := match consumerDomain consumer.val with
      | some d => if peckPermitted consumer.val s then cancelDrain d s else s
      | none => s
    peckRequest consumer.val s)

/-! ### Grants (R473–R475) -/

/-- m is ranked ahead of n (R475): priority, then age, then number. -/
def rankedAhead (m n : Nat) (s : State) : Bool :=
  let a := peckPrio m s
  let b := peckPrio n s
  decide (a < b) || (a == b && (decide (waitSince m s < waitSince n s) ||
    (waitSince m s == waitSince n s && decide (m < n))))

/-- Charge c fits the effective budget. -/
def fitsBudget (c : Nat) (s : State) : Bool := decide (reg 0x5000 5 s + c ≤ reg 0x5000 2 s)

/-- Charges granted in the last 20 µs. -/
def recentGrants (s : State) : List (Nat × Nat) := s.pecks.grants.filter fun g => wall s < g.1 + 20000

/-- Charge c fits the ramp cap (R474). -/
def fitsRamp (c : Nat) (s : State) : Bool :=
  let cap := cfg 0x5000 3 s
  decide (s.pecks.exclusive ≤ wall s) &&
    (if c > cap then (recentGrants s).isEmpty else decide ((recentGrants s).foldl (fun a g => a + g.2) c ≤ cap))

/-- A waiting request m keeps n from being granted (R475): it is ranked ahead, and only the ramp cap holds it, or it is to be
granted first, or it has waited 10 ms while lower-ranked ones passed it. -/
def holdsBack (m n : Nat) (s : State) : Bool :=
  m ≠ n && rankedAhead m n s &&
    (fitsBudget (peckOf m s) s || (due (waitSince m s) (ms 10) s && s.pecks.passed.contains m))

/-- The grant itself. -/
def peckGive (n : Nat) (s : State) : State :=
  let c := peckOf n s
  let cap := cfg 0x5000 3 s
  let wait := (wall s - waitSince n s) / 1000
  let ahead := (waiters s).filter fun m => m ≠ n && rankedAhead m n s
  let s := { s with pecks := { s.pecks with
      grants := (wall s, c) :: recentGrants s
      passed := setDel n (ahead.foldl (fun l m => setIns m l) s.pecks.passed)
      exclusive := if c > cap then wall s + 20000 * ceilDiv c cap else s.pecks.exclusive } }
  let s := raise 0x5000 0x0C wait s
  let s := setStarved n 0 (setSince n (setPeck n 2 s))
  let s := setReg 0x5000 5 (reg 0x5000 5 s + c) s
  noteWaiting (raise 0x5000 6 (reg 0x5000 5 s) s)

/-- PECK_GRANT (R473–R475): granted once every condition holds. -/
def execPeckGrant (consumer : Fin 62) (s : State) : Res :=
  .next (
    let n := consumer.val
    if peckWaits n s && fitsBudget (peckOf n s) s && fitsRamp (peckOf n s) s && !((waiters s).any fun m => holdsBack m n s) then
      peckGive n s
    else s)

/-! ### Returns (R476) -/

/-- The charge of consumer n goes back. -/
def peckReturn (n : Nat) (s : State) : State :=
  if n == 0 || peckState n s ≠ 2 then s
  else setBudget (setReg 0x5000 5 (reg 0x5000 5 s - peckOf n s) (setPeck n 0 s))

/-- A waiting request is withdrawn (R480, R481). -/
def peckWithdraw (n : Nat) (s : State) : State :=
  if peckWaits n s then noteWaiting (setStarved n 0 (setPeck n 0 s)) else s

/-- The unit of consumer n is withdrawn (R11). -/
def consumerWithdrawn (n : Nat) (s : State) : Bool :=
  (match consumerPort n with
    | some p => portWithdrawn p s
    | none => false) ||
  s.faults.withdrawn.any fun w =>
    match w.1 with
    | .cluster c => consumerDomain n == some c && c ≠ 0
    | .canCluster c => n == 55 + c
    | .linCluster => n == 61
    | .pcie => n == 2
    | .lane l => l == 1 && n == 3
    | .domain d => consumerDomain n == some d
    | _ => false

/-- Consumer n gives back its charge (R476): its unit is off, withdrawn, or down for 1 ms, or trains to another rate (R472). -/
def mayReturn (n : Nat) (s : State) : Bool :=
  consumerWithdrawn n s ||
    (match consumerPort n with
      | some p => (!portUp p s && due (prt p s).since (ms 1) s) || chargeFor n s ≠ peckOf n s || !powered (portDomain p) s
      | none =>
        match consumerDomain n with
        | some d => !powered d s
        | none => !powered 14 s)

/-- Charge of BB port p in its configured mode. -/
def configuredCharge (p : Nat) (s : State) : Nat := chargeFor (5 + p) (setPrt p { prt p s with fallback := false } s)

/-- BB ports that run in their fallback mode return to the configured one once its charge fits (R63). -/
def leaveFallback (s : State) : State :=
  each (List.range 4) (fun p s =>
    if (prt p s).fallback && reg 0x5000 5 s + configuredCharge p s ≤ reg 0x5000 2 s + (if granted (5 + p) s then peckOf (5 + p) s else 0) then
      dropAtBoundary p s
    else s) s

/-- PECK_RETURN (R476): charges that become free let BB ports return to their configured mode (R63). -/
def execPeckReturn (consumer : Fin 62) (s : State) : Res :=
  .next (if mayReturn consumer.val s then settle 4 (leaveFallback (peckReturn consumer.val s)) else s)

/-! ### Starvation (R479) -/

/-- A CAN or LIN cluster has no power: its engines read domain down, their transceivers are in standby or sleep. -/
def clusterDown (d : Nat) (s : State) : State :=
  if d == 11 then
    each (List.range 16) (fun m s =>
      if reg (0x2E03 + 0x20 * m) 1 s == 6 then s
      else
        let s := setReg (0x2E03 + 0x20 * m) 1 7 s
        { s with braid := { s.braid with lin := tset linSt0 s.braid.lin m { tget linSt0 s.braid.lin m with mode := 0 } } }) s
  else
    each (List.range' (8 * (d - 5)) 8) (fun n s =>
      if reg (0x2802 + 0x20 * n) 1 s == 8 then s
      else setReg (0x2803 + 0x20 * n) 3 0 (setReg (0x2802 + 0x20 * n) 1 9 s)) s

/-- Ports behind a PLL or the PHY cluster base. -/
def portsBehind (n : Nat) : List Nat :=
  if 9 ≤ n && n ≤ 11 then clusterPorts (n - 8) else if n == 24 then clusterPorts 4
  else match consumerPort n with
    | some p => [p]
    | none => []

/-- The fallback of a starved or not permitted consumer. -/
def fallback (n reason : Nat) (s : State) : State :=
  let s := each (portsBehind n) (fun p s => if portUp p s then s else setReg (pS p) 4 reason s) s
  if n == 3 then (if reg 0x4050 2 s == 0 || reg 0x4050 2 s == 3 then setReg 0x4050 2 3 s else s)
  else if 55 ≤ n && n ≤ 61 then clusterDown (n - 50) s
  else if n == 2 then setReg 0x5C00 1 0 s
  else s

/-- PECK_STARVATION (R479): a request has waited 100 µs. -/
def execPeckStarvation (consumer : Fin 62) (s : State) : Res :=
  .next (
    let n := consumer.val
    if peckState n s == 1 && due (waitSince n s) (us 100) s then
      let s := setStarved n 1 (setPeck n 3 s)
      let s := countE n 0x5001 7 (count 0x5000 0x0A s)
      fire 0x4B n (fallback n 0x0A s)
    else s)

/-- STARVED_FALLBACK (R63, R479): a BB port that has been starved for 1 ms requests again at the charge of its fallback mode, or
stays down with reason 0x0A. -/
def execStarvedFallback (port : Fin 16) (s : State) : Res :=
  .next (
    let p := port.val
    let n := 5 + p
    if p < 4 && peckState n s == 3 && due (waitSince n s) (ms 1) s then
      if cfg (pB p) 0x0A s ≠ 0 && !(prt p s).fallback then
        peckRequest n (peckWithdraw n (setPrt p { prt p s with fallback := true } s))
      else setReg (pS p) 4 0x0A s
    else s)

/-! ### Derating (R477) -/

/-- The condition of a level source ends (R406); its status stays. -/
def endCondition (n : Nat) (s : State) : State :=
  { s with faults := { s.faults with condition := setDel n s.faults.condition } }

/-- DERATING_UPDATE (R477): the reading of the junction temperature in 0.1 °C, once every millisecond. -/
def execDeratingUpdate (tj : Int) (s : State) : Res :=
  .next (
    let s := setReg 0x5000 8 (derating tj * 100 / 375) (setReg 0x5000 7 (ofInt 16 tj) s)
    let s := setBudget s
    if tj > 1350 then fire 0x49 0 (endCondition 0x4A s)
    else if tj > 1200 then fire 0x4A 0 (endCondition 0x49 s)
    else endCondition 0x4A (endCondition 0x49 s))

/-! ### Serdes steps (R466, R480) -/

/-- Ports that wait to be brought up in a serdes step: enabled, with power to ask for, not yet served. -/
def stepPorts (s : State) : List Nat :=
  (List.range 30).filter fun p =>
    !portUp p s && cfg (pB p) 1 s == 1 && !portWithdrawn p s &&
      (p ≥ 16 || cfg (pI p) 1 s == 0 || reg (pI p) 4 s ≠ 0) && !granted (portConsumer p) s

/-- Consumers of a step in ascending number: the ports, their PLLs, the PHY cluster base and MACsec. -/
def stepConsumers (s : State) : List Nat :=
  let l := stepPorts s
  let l := l.foldl (fun a p =>
    let a := setIns (portConsumer p) a
    let a := match consumerBase (portConsumer p) with
      | some b => setIns b a
      | none => a
    if p < 16 && cfg (0x6100 + p) 1 s == 1 then setIns 4 (setIns (39 + p) a) else a) []
  l.filter fun n => !granted n s

/-- The requests of a step, until their charges would pass the step allowance; the rest are carried on. -/
def stepIssue (allow : Nat) : List Nat → Nat → State → State
  | [], _, s => s
  | n :: t, sum, s =>
    let c := chargeFor n s
    if sum + c > allow then
      { s with power := { s.power with carried := (n :: t).foldl (fun l m => setIns m l) s.power.carried } }
    else
      let s := peckRequest n (peckWithdraw n s)
      stepIssue allow t (sum + c) { s with power := { s.power with issued := s.power.issued ++ [n] } }

/-- Instants of the four steps, in µs after the start's reference (R465; R303 and R304 for the other starts; a later Operate delays them, R469). -/
def stepStart (k : Nat) (s : State) : Nat :=
  us (if s.power.warm then [2400, 3400, 4400, 5400].getD k 5400
    else max (if s.power.digest then 9000 else 12000) (reg 0x5010 4 s) + 4000 * k)

/-- SERDES_STEP (R465, R466, R480): the next of the four steps. A base that is not yet granted has its ports request after it. -/
def execSerdesStep (s : State) : Res :=
  .next (
    let k := s.power.step
    if k ≥ 4 || !s.power.loaded || !due s.power.started (stepStart k s) s then s
    else
      let s := { s with power := { s.power with step := k + 1, stepAt := wall s, carried := [], issued := [] } }
      let s := setReg 0x5010 6 ((wall s - s.power.started) / 1000) s
      stepIssue (cfg 0x5000 4 s) (stepConsumers s) 0 s)

/-- STEP_REQUEST_WITHDRAW (R466, R480): a port request of the step still waits 1 ms after it. -/
def execStepRequestWithdraw (consumer : Fin 62) (s : State) : Res :=
  .next (
    let n := consumer.val
    if s.power.issued.contains n && (consumerPort n).isSome && peckWaits n s && due s.power.stepAt (ms 1) s then
      let s := peckWithdraw n s
      { s with power := { s.power with
          issued := s.power.issued.filter (· ≠ n), carried := setIns n s.power.carried } }
    else s)

/-- A commit changes the budget or the consumers' settings (R478, R481): a granted consumer that is no longer permitted is
named, to be powered down. -/
def pecksCommit (s : State) : State :=
  let s := setBudget (peckCopy s)
  each (List.range' 1 61) (fun n s =>
    if !peckPermitted n s && (peckState n s == 0 || peckWaits n s) then fallback n 0x0A (noteWaiting (setPeck n 4 s))
    else if peckPermitted n s && peckState n s == 4 then setPeck n 0 s else s) s

end Sys2Proof.Machine
end

