-- ==== Sys2Proof/Machine/Bus.lean ====
section
/-!
DEFINITION. Bus.lean: what the bus engines and the Braider share: engine blocks (R208), guards (R185, R316), network management
frames (R295, R306), bus records and their submission to the Sieve (R166, R237, R239), the catch buffer (R226, R262).
-/
namespace Sys2Proof.Machine

/-! ### Engines -/

/-- Index blocks of CAN engine n and LIN engine m (R208): configuration; +1 timing or schedule, +2 status or frame table, +3
transceiver or status. -/
def cE (n : Nat) : Nat := 0x2800 + 0x20 * n

def lB (m : Nat) : Nat := 0x2E00 + 0x20 * m

def can (n : Nat) (s : State) : CanSt := tget canSt0 s.braid.can n

def setCan (n : Nat) (x : CanSt) (s : State) : State := { s with braid := { s.braid with can := tset canSt0 s.braid.can n x } }

def lin (m : Nat) (s : State) : LinSt := tget linSt0 s.braid.lin m

def setLin (m : Nat) (x : LinSt) (s : State) : State := { s with braid := { s.braid with lin := tset linSt0 s.braid.lin m x } }

/-- Engine states (E+0x02:01, L+0x03:01) and the transceiver state (E+0x03:03). -/
def canState (n : Nat) (s : State) : Nat := reg (cE n + 2) 1 s

def setCanState (n v : Nat) (s : State) : State := setReg (cE n + 2) 1 v s

def linState (m : Nat) (s : State) : Nat := reg (lB m + 3) 1 s

def setLinState (m v : Nat) (s : State) : State := setReg (lB m + 3) 1 v s

def trans (n : Nat) (s : State) : Nat := reg (cE n + 3) 3 s

/-- Power domain of an engine, by the bus code of R294: 0–47 CAN, 48–63 LIN. -/
def engDomain (e : Nat) : Nat := if e < 48 then 5 + e / 8 else 11

/-- Engine e is enabled, not withdrawn, and powered. -/
def engEnabled (b : Bank) (e : Nat) (s : State) : Bool :=
  if e < 48 then bkO b (cE e) 1 == 1 && canState e s ≠ 8 && powered (engDomain e) s
  else bkO b (lB (e - 48)) 1 == 1 && linState (e - 48) s ≠ 6 && powered 11 s

/-- Partial-network cluster of engine e. -/
def clusterOf (e : Nat) (s : State) : Option Nat := (List.range 8).find? fun c => bit (cfg (0x3F10 + c) 1 s) e

def clusterState (c : Nat) (s : State) : Nat := reg (0x3F10 + c) 0x0A s

/-- A cluster in prepare that is held awake returns to state 2 (R295, R297). -/
def holdAwake (e : Nat) (s : State) : State :=
  match clusterOf e s with
  | some c => if clusterState c s == 3 then setReg (0x3F10 + c) 0x0A 2 s else s
  | none => s

/-- Engine e's cluster sleeps or is about to (R300). -/
def engAsleep (e : Nat) (s : State) : Bool :=
  match clusterOf e s with
  | some c => [0, 3, 4].contains (clusterState c s)
  | none => false

/-- Outputs are in their safe state: the Braider runs no route (R265). -/
def braidStill (s : State) : Bool := s.faults.forced || s.dev = .safe || s.dev = .terminal

/-! ### Lease (R312, R313) -/

/-- A lease is held that ends no earlier than `ns` from now (R313, R319). -/
def leaseHolds (ns : Nat) (s : State) : Bool :=
  reg 0x5401 2 s == 1 && (!s.pair.useEnd || decide (nowNs s + ns ≤ s.pair.endAt)) && decide (monoNs s + ns ≤ s.pair.monoEnd)

/-- Engine e is in shadow (R313). -/
def shadowed (e : Nat) (s : State) : Bool := leased e s && !leaseHolds 0 s

/-- The active member's overlap interval (R316): the last 250 µs of a lease not renewed for 3 ms. -/
def overlap (s : State) : Bool :=
  leaseHolds 0 s && due s.pair.grantAt (ms 3) s && !leaseHolds 250000 s

/-! ### Identifiers -/

/-- An identifier agrees with a wanted one in every bit set in a mask, and its IDE fits: 0 base, 1 extended, 2 either (R185, R239). -/
def identFits (f : BusFrame) (id mask ide : Nat) : Bool :=
  Nat.land (Nat.xor f.ident.val id) (mask % 2 ^ 29) == 0 && (ide == 2 || ide == b2n f.ext)

/-- A CAN frame is a network management PDU (R295). -/
def isNm (f : BusFrame) (s : State) : Bool :=
  f.fmt ≠ .lin && identFits f (cfg 0x3F00 1 s % 2 ^ 29) (cfg 0x3F00 2 s) (field (cfg 0x3F00 1 s) 29 1)

/-- Cluster that withholds node `node` on bus e (R306). -/
def withheldBy (e node : Nat) (s : State) : Option Nat :=
  (List.range 8).find? fun c => (tget clusterSt0 s.wake.clusters c).withheld.contains (e, node)

/-! ### Guards (R185) -/

/-- The lowest guard entry that declares a frame's identifier sole-source on engine e. -/
def guardOf (b : Bank) (e : Nat) (f : BusFrame) : Option Nat :=
  (entriesOf b 0x4030).find? fun g =>
    bkE b g 0x4030 2 == 1 && bkE b g 0x4030 3 == e &&
      (if e < 48 then identFits f (bkE b g 0x4030 4) (bkE b g 0x4030 5) (bkE b g 0x4030 6)
        else identFits f (bkE b g 0x4030 4) (bkE b g 0x4030 5 % 64) 2)

/-- Engine e is in quarantine (R186). -/
def quarantined (e : Nat) (s : State) : Bool := decide (monoGrains s < tget 0 s.sieve.quarantine e)

/-! ### SDO servers (R48) -/

/-- SDO server that a CAN frame on engine e is a request to. -/
def serverOf (e : Nat) (f : BusFrame) (s : State) : Option Nat :=
  if f.fmt = .classical && !f.ext && !f.remote && f.data.length == 8 then
    (List.range 4).find? fun k =>
      cfg (0x1200 + k) 1 s == 1 && cfg (0x1200 + k) 2 s == e && f.ident.val == 0x600 + sdoNode k s
  else none

/-! ### Routes -/

/-- Field j of route r. Numbers from 12,288 on are the device's own senders: 12,288 + k SDO server k, 16,384 + 64c + n the NM PDU of
cluster c on engine n. -/
def rt (b : Bank) (r j : Nat) : Nat := bkE b r 0x3C10 j

def ownRoute (r : Nat) : Bool := decide (r ≥ 12288)

/-- Egress of a route: an engine, or 64 + stream. -/
def rtEgress (b : Bank) (r : Nat) : Nat :=
  if r < 12288 then rt b r 8 else if r < 16384 then bkO b (0x1200 + (r - 12288)) 2 else (r - 16384) % 64

/-- A FIFO route. The answers of an SDO server are sent in order, an NM PDU replaces the one before it. -/
def rtFifo (b : Bank) (r : Nat) : Bool := if r < 12288 then rt b r 0x0C == 1 else decide (r < 16384)

def rtMode (b : Bank) (r : Nat) : Nat := if r < 12288 then rt b r 0x0E else 0

/-- Limiter of a route, none at 0xFFFF, and window class, 0xFF untimed. -/
def rtLimiter (b : Bank) (r : Nat) : Nat := if r < 12288 then rt b r 0x14 else 0xFFFF

def rtClass (b : Bank) (r : Nat) : Nat := if r < 12288 then rt b r 0x15 else 0xFF

/-- Source number of the Sieve for what a route sends to (R165, R166). -/
def rtTarget (b : Bank) (r : Nat) : Nat := if rtEgress b r < 64 then 64 + rtEgress b r else 32

/-- Route r matches a record (R239). -/
def routeMatches (b : Bank) (x : BusRec) (r : Nat) : Bool :=
  rt b r 2 ≠ 0 && rt b r 3 == x.source && (x.source < 64 || rt b r 4 == 0xFF || rt b r 4 == x.busId) &&
    (if 48 ≤ x.source && x.source < 64 then identFits x.frame (rt b r 5 % 64) (rt b r 6 % 64) 2
      else identFits x.frame (rt b r 5) (rt b r 6) (rt b r 7))

/-- The routes of a record (R239), without those that a withheld node's NM PDU is not carried on (R306). -/
def routesOf (x : BusRec) (s : State) : List Nat :=
  let l := (entriesOf s.cfg 0x3C10).filter (routeMatches s.cfg x)
  if isNm x.frame s && (withheldBy x.source (byteAt x.frame.data (cfg 0x3F00 3 s)) s).isSome then
    l.filter fun r => rtEgress s.cfg r == x.source
  else l

/-! ### Records -/

/-- A record that comes in, before its ells and routes are known. -/
def recOf (source busId eth stamp : Nat) (f : BusFrame) : BusRec :=
  { id := 0, stamp := stamp, frame := f, source := source, busId := busId, ethPort := eth, ells := [], epoch := 0, routes := []
    server := none, permitted := [], released := false }

/-- Ells of a record or an egress frame of n data bytes (R237, R245). -/
def busElls (n : Nat) : Nat := ceilDiv (32 + n) 128

/-- Source of the Sieve for a record (R165): its engine, or the port on which its container arrived. -/
def recSource (x : BusRec) : Nat := if x.source < 64 then 64 + x.source else x.ethPort

/-- Inputs of the decision of a record (R166, R169, R171), and its deep key. -/
def busDecision (b : Bank) (x : BusRec) (targets : List Nat) (mal bad : Bool) : DecIn × Nat :=
  let src := recSource x
  let z := zoneOf b src
  let cont := decide (64 ≤ x.source ∧ x.source < 128)
  let ch := runChecks b z anchorBus x.frame.data (min (depthOf b z) x.frame.data.length)
  let absent := ch.2 || decide (x.frame.data.length < 32)
  ({ source := src, zone := z, zones := zonesOf b targets, bus := true, keyExpress := keyExpressBus src z cont mal x.frame
     malExpress := mal, malDeep := mal, absent := absent, checks := ch.1, checksAbsent := ch.2, flow := 0, spoofed := bad
     streamDeep := false },
   keyDeepBus src z ch.1 cont absent mal x.frame)

/-- A record enters the Braider (R108, R123, R237, R239) and is submitted to the Sieve (R166, R187): `routes` are its routes before the
limit of 32, `bad` says that it is spoofed or in quarantine, `trap` that a copy goes to MP (R186). -/
def submitRec (x : BusRec) (routes : List Nat) (server : Option Nat) (mal bad trap : Bool) (s : State) : State :=
  let b := s.cfg
  let n := busElls x.frame.data.length
  let bu := bushelOf b 32 0
  let room := ellRoom bu s
  if room.1 < n then arrivalDrop 32 bu room.2 s
  else
    let t := takeElls n s
    let s := t.2
    let s := if routes.length > 32 then count 0x3C00 2 s else s
    let l := routes.take 32
    let y : BusRec := { x with id := s.buf.nextFrame, ells := t.1, epoch := s.epoch, routes := l, server := server }
    let s := { s with
      buf := { s.buf with nextFrame := y.id + 1 }, braid := { s.braid with recs := s.braid.recs ++ [y] } }
    let targets := l.map (rtTarget b) ++ (if server.isSome then [31] else [])
    let d := busDecision b y targets mal bad
    let fixed := server == some 0 || l == [12288]
    submit y.id d.1 d.2 fixed bad trap s

/-- A record from an engine arrives (R166, R185, R186): `foreign` is the guard entry whose identifier it carries as a spoof. -/
def arriveEngine (x : BusRec) (replayed : Bool) (foreign : Option Nat) (s : State) : State :=
  let sv := serverOf x.source x.frame s
  let s := if replayed then
      match sv with
      | some k => count (0x1200 + k) 6 s
      | none => s
    else s
  let trap := match foreign with
    | some g => bit (cfgE g 0x4030 7 s) 2
    | none => false
  let l := routesOf x s
  submitRec x l (if replayed then none else sv) false (foreign.isSome || quarantined x.source s) trap s

/-! ### The catch buffer (R226, R262–R264) -/

/-- Objects of an engine's catch share: index, overflow flag, held count. -/
def catchObj (e : Nat) : Nat × Nat × Nat := if e < 48 then (cE e + 2, 0x0D, 0x0E) else (lB (e - 48) + 3, 0x0C, 0x0D)

def catchLimit (e : Nat) : Nat := if e < 48 then 64 else 16

/-- Records of engine e that wait in the catch buffer or in replay. -/
def waitingOf (e : Nat) (s : State) : Nat := ((s.braid.caught ++ s.braid.replay).filter fun r => r.source == e).length

/-- The held count of an engine. -/
def noteHeld (e : Nat) (s : State) : State :=
  setReg (catchObj e).1 (catchObj e).2.2 (min (catchLimit e) (waitingOf e s)) s

/-- A caught frame is kept in catch-held ells (R109, R262), or dropped as the newest. -/
def catchRec (x : BusRec) (s : State) : State :=
  let n := busElls x.frame.data.length
  if waitingOf x.source s ≥ catchLimit x.source || freeElls s < n then setReg (catchObj x.source).1 (catchObj x.source).2.1 1 s
  else
    let t := takeElls n s
    let s := { t.2 with
      buf := { t.2.buf with catchElls := t.2.buf.catchElls ++ t.1 }
      braid := { t.2.braid with caught := t.2.braid.caught ++ [{ x with ells := t.1 }] } }
    noteHeld x.source s

/-- A frame of an engine whose records still wait in replay goes behind them (R264). -/
def appendRec (x : BusRec) (s : State) : State :=
  let t := takeElls (busElls x.frame.data.length) s
  let s := { t.2 with
    buf := { t.2.buf with catchElls := t.2.buf.catchElls ++ t.1 }
    braid := { t.2.braid with replay := t.2.braid.replay ++ [{ x with ells := t.1 }] } }
  noteHeld x.source (count 0x3C90 7 s)

/-- A record leaves the catch buffer: its ells return to the free list. -/
def releaseCatch (x : BusRec) (s : State) : State :=
  returnElls x.ells { s with buf := { s.buf with catchElls := s.buf.catchElls.filter fun e => !x.ells.contains e } }

/-- An engine in capture keeps what it hears (R226). -/
def inCapture (e : Nat) (s : State) : Bool := if e < 48 then canState e s == 7 else linState (e - 48) s == 5

/-- A valid frame of an engine is handed over (R216, R264). -/
def handRec (x : BusRec) (foreign : Option Nat) (s : State) : State :=
  if inCapture x.source s then catchRec x s
  else if s.braid.replay.any fun r => r.source == x.source then appendRec x s
  else arriveEngine x false foreign s

/-! ### Power copies -/

/-- The configuration objects of an engine that PD_AON keeps (R225): mode, timing and catch enable of a CAN engine, rate, break and
catch enable of a LIN engine. -/
def keptObj (k : Nat) : Bool :=
  let i := k / 256
  let j := k % 256
  if k ≥ 2 ^ 24 then false
  else if 0x2800 ≤ i && i < 0x2E00 then (i % 0x20 == 0 && (j == 2 || j == 0x0A)) || i % 0x20 == 1
  else if 0x2E00 ≤ i && i < 0x3000 then i % 0x20 == 0 && [3, 4, 5, 6, 9].contains j
  else false

/-- The copy made at every commit. -/
def busCopy (s : State) : State :=
  { s with braid := { s.braid with kept := some (s.cfg.objs.filter fun e => keptObj e.1) } }

/-- Value that capture takes from the copy, or the default where the copy is invalid. -/
def keptVal (i j : Nat) (s : State) : Nat := sget (s.braid.kept.getD []) (okey i j)

end Sys2Proof.Machine
end

