-- ==== Sys2Proof/Machine/Programs.lean ====
section
/-!
DEFINITION. Programs.lean: route programs (R241–R243), frame lengths on the bus (R210, R253), and the arbitration order (R218).
-/
namespace Sys2Proof.Machine

/-! ### Fields of a byte string (R241) -/

/-- The field of n bits whose least significant bit is bit o, little or big endian; none where it reaches past the string. -/
def getBits (l : Bytes) (big : Bool) (o n : Nat) : Option Nat :=
  if big then
    if o / 8 < l.length && n ≤ 8 * (o / 8) + 8 - o % 8 then some (field (beNat (l.take (o / 8 + 1))) (o % 8) n) else none
  else if o + n ≤ 8 * l.length then some (field (leNat (slice (o / 8) 9 l)) (o % 8) n) else none

/-- The same field of a buffer replaced by v. -/
def putBits (l : Bytes) (big : Bool) (o n v : Nat) : Bytes :=
  if big then beBytes (o / 8 + 1) (setField (beNat (l.take (o / 8 + 1))) (o % 8) n v) ++ l.drop (o / 8 + 1)
  else
    let w := slice (o / 8) 9 l
    l.take (o / 8) ++ leBytes w.length (setField (leNat w) (o % 8) n v) ++ l.drop (o / 8 + w.length)

/-! ### Program words -/

def opOf (w : Nat) : Nat := field w 60 4
def srcOff (w : Nat) : Nat := field w 46 14
def dstOff (w : Nat) : Nat := field w 32 14
def lenOf (w : Nat) : Nat := field w 26 6 + 1
def srcBig (w : Nat) : Bool := bit w 25
def dstBig (w : Nat) : Bool := bit w 24
def operand (w : Nat) : Nat := field w 0 24

/-- The words of a route, in order. -/
def wordsOf (b : Bank) (r : Nat) : List Nat := (List.range (rt b r 0x12)).map fun k => bkE b (rt b r 0x11 + k) 0x3C11 2

/-- Result of SCALE (R241): (value × m) >> s + a, clamped to an unsigned field of n bits. -/
def scaled (v : Int) (w2 n : Nat) : Nat :=
  let y := v * toInt 32 (field w2 32 32) / ((2 ^ field w2 26 6 : Nat) : Int) + toInt 26 (field w2 0 26)
  if y < 0 then 0 else min (2 ^ n - 1) y.toNat

/-- The program on the record's data, the slot buffer and the rolling counter; none where a source field lies beyond the data
(R243). -/
def runWords (data : Bytes) : List Nat → Bytes → Nat → Option (Bytes × Nat)
  | [], buf, c => some (buf, c)
  | w :: t, buf, c =>
    match opOf w with
    | 0 => some (buf, c)
    | 1 =>
      match getBits data (srcBig w) (srcOff w) (lenOf w) with
      | none => none
      | some v => runWords data t (putBits buf (dstBig w) (dstOff w) (lenOf w) v) c
    | 2 =>
      let n := field w 0 12 + 1
      let d := dstOff w / 8
      if srcOff w / 8 + n ≤ data.length then
        runWords data t (buf.take d ++ slice (srcOff w / 8) n data ++ buf.drop (d + n)) c
      else none
    | 3 => runWords data t (putBits buf (dstBig w) (dstOff w) (lenOf w) (operand w)) c
    | 4 =>
      match t, getBits data (srcBig w) (srcOff w) (lenOf w) with
      | w2 :: t2, some v =>
        let n := field w 0 6 + 1
        let x : Int := if bit w 6 then toInt (lenOf w) v else v
        runWords data t2 (putBits buf (dstBig w) (dstOff w) n (scaled x w2 n)) c
      | [], some _ => some (buf, c)
      | _, none => none
    | 5 => runWords data t (putBits buf (dstBig w) (dstOff w) (lenOf w) c) ((c + 1) % 2 ^ lenOf w)
    | _ =>
      let x := (slice (srcOff w / 8) (field w 8 12 + 1) buf).foldl (fun a y => Nat.xor a y.toNat) (field w 0 8)
      runWords data t (putBits buf (dstBig w) (dstOff w) 8 x) c

/-- Cost of a program in BCLK cycles (R242); the second word of a SCALE costs as a word. -/
def wordsCost : List Nat → Nat
  | [] => 0
  | w :: t =>
    if opOf w == 0 then 12
    else if opOf w == 2 then 12 + (field w 0 12 / 64) + wordsCost t
    else if opOf w == 4 then
      match t with
      | [] => 12
      | _ :: t2 => 24 + wordsCost t2
    else 12 + wordsCost t

/-- Highest byte that a word's destination field touches, plus one. -/
def dstEnd (w : Nat) : Nat :=
  let n := if opOf w == 4 then field w 0 6 + 1 else if opOf w == 6 then 8 else lenOf w
  if opOf w == 2 then dstOff w / 8 + field w 0 12 + 1
  else if dstBig w then dstOff w / 8 + 1 else (dstOff w + n + 7) / 8

/-- Object of 0x3C10 at which a program is refused, none if it is taken (R241, R242): its opcodes and offsets, cost, destinations, and a
SCALE without its second word. -/
def wordsBad (len : Nat) : List Nat → Bool
  | [] => false
  | w :: t =>
    if opOf w == 0 then false
    else if opOf w > 6 || dstEnd w > len then true
    else if dstBig w && opOf w ≠ 2 && (if opOf w == 4 then field w 0 6 + 1 else if opOf w == 6 then 8 else lenOf w) >
        8 * (dstOff w / 8) + 8 - dstOff w % 8 then true
    else if opOf w == 2 && (srcOff w % 8 ≠ 0 || dstOff w % 8 ≠ 0) then true
    else if opOf w == 4 then
      match t with
      | [] => true
      | _ :: t2 => wordsBad len t2
    else wordsBad len t

/-! ### Egress frames -/

/-- Data length that a CAN FD DLC carries for n bytes (R210), and the DLC. -/
def fdLen (n : Nat) : Nat := if n ≤ 8 then n else ([12, 16, 20, 24, 32, 48].find? fun k => n ≤ k).getD 64

def dlcOf (n : Nat) : Nat :=
  if n ≤ 8 then n else if n ≤ 12 then 9 else if n ≤ 16 then 10 else if n ≤ 20 then 11 else if n ≤ 24 then 12
  else if n ≤ 32 then 13 else if n ≤ 48 then 14 else 15

/-- Format of a route's egress (0x3C10:0A). -/
def fmtOf (c : Nat) : BusFmt :=
  match c with
  | 0 => .classical
  | 1 => .fd
  | 2 => .fdBrs
  | 3 => .xl
  | _ => .lin

/-- The egress frame that a slot buffer spells (R241): the data up to the egress length, an FD frame filled from the buffer up to what
its DLC carries. The XL fields that no object of a route names are free values (assumption log 10). -/
def egressFrame (b : Bank) (r : Nat) (buf : Bytes) (s : State) : BusFrame × State :=
  let f := fmtOf (rt b r 0x0A)
  let n := rt b r 0x0B
  let ext := bit (rt b r 9) 29
  let id := if ext then rt b r 9 % 2 ^ 29 else rt b r 9 % 2048
  let len := if f = .fd || f = .fdBrs then fdLen n else n
  let x : BusFrame :=
    { fmt := f, ext := ext, remote := false, ident := Fin.ofNat _ id, sdt := 0, vcid := 0, af := 0, esi := false, sec := false
      enhanced := false, dlc := Fin.ofNat _ (dlcOf n), data := fit len buf }
  if f = .xl then
    let v := freeNow s
    ({ x with sdt := BitVec.ofNat 8 v, vcid := BitVec.ofNat 8 (v / 256), af := Fin.ofNat _ (v / 65536), sec := bit v 48 }, useFree s)
  else (x, s)

/-! ### Lengths on the bus (R253) -/

/-- Nominal and data bit times in units of 1/160 µs, from the timing of engine n. -/
def nominalBit (b : Bank) (n : Nat) : Nat := bkO b (cE n + 1) 1 * (1 + bkO b (cE n + 1) 2 + bkO b (cE n + 1) 3)

def dataBit (b : Bank) (n : Nat) : Nat := bkO b (cE n + 1) 5 * (1 + bkO b (cE n + 1) 6 + bkO b (cE n + 1) 7)

/-- Worst-case bits of a frame in the nominal and the data phase, with maximum stuffing and three bits of intermission (R253; FD and XL
by ISO 11898-1, assumption log 52). -/
def worstBits (f : BusFrame) : Nat × Nat :=
  let n := f.data.length
  match f.fmt with
  | .classical =>
    if f.ext then (8 * n + 67 + (54 + 8 * n - 1) / 4, 0) else (8 * n + 47 + (34 + 8 * n - 1) / 4, 0)
  | .xl => (44, (116 + 8 * n + 10) * 11 / 10 + 1)
  | .lin => (0, 0)
  | g =>
    let h := if f.ext then 36 else 17
    let d := 5 + 8 * n
    let crc := if n ≤ 16 then 27 else 32
    let st := (h + d - 1) / 4
    let sh := (h - 1) / 4
    if g = .fdBrs then (h + sh + 13, d + (st - sh) + crc) else (h + d + st + crc + 13, 0)

/-- Worst-case length in ns on engine n. -/
def worstNs (b : Bank) (n : Nat) (f : BusFrame) : Nat :=
  let w := worstBits f
  ceilDiv ((w.1 * nominalBit b n + w.2 * dataBit b n) * 25) 4

/-! ### Arbitration order (R218) -/

/-- Order of formats: classical before FD before XL. -/
def fmtRank : BusFmt → Nat
  | .classical => 0
  | .fd => 1
  | .fdBrs => 1
  | .xl => 2
  | .lin => 3

/-- Rank of a frame of age `born`: base identifier, base data before base remote before extended, extended identifier, data before remote,
format, age. -/
def rankOf (f : BusFrame) (born : Nat) : List Nat :=
  let base := if f.ext then f.ident.val / 2 ^ 18 else f.ident.val % 2048
  [base, if f.ext then 2 else b2n f.remote, if f.ext then f.ident.val % 2 ^ 18 else 0, b2n f.remote, fmtRank f.fmt, born]

/-- Lexicographic order. -/
def lexLt : List Nat → List Nat → Bool
  | a :: x, c :: y => a < c || (a == c && lexLt x y)
  | _, _ => false

/-- Insertion of a slot into a list in arbitration order. -/
def rankIns (x : Slot) : List Slot → List Slot
  | [] => [x]
  | y :: t => if lexLt (rankOf x.frame x.born) (rankOf y.frame y.born) then x :: y :: t else y :: rankIns x t

end Sys2Proof.Machine
end

