-- ==== Sys2Proof/Machine/Containers.lean ====
section
/-!
DEFINITION. Containers.lean: container streams and their closing (R254–R257), and unpacking (R258, R259). The bit positions inside the
AVTP and ACF headers are those of IEEE 1722 (assumption log 53).
-/
namespace Sys2Proof.Machine

def streamSt (k : Nat) (s : State) : StreamSt := tget streamSt0 s.braid.streams k

def setStream (k : Nat) (x : StreamSt) (s : State) : State :=
  { s with braid := { s.braid with streams := tset streamSt0 s.braid.streams k x } }

/-- Field j of container stream k. -/
def st (b : Bank) (k j : Nat) : Nat := bkE b k 0x3C20 j

/-! ### Messages -/

/-- A container does not carry a record: an XL or LIN record, one of no engine, or one whose map byte is 0xFF (R255). -/
def notCarried (b : Bank) (k : Nat) (x : BusRec) : Bool :=
  x.frame.fmt = .xl || x.frame.fmt = .lin || x.source ≥ 48 || nbyte (st b k 0x0A) x.source == 0xFF

/-- The ACF message of a record (R255). -/
def acfMsg (b : Bank) (k : Nat) (x : BusRec) : Bytes :=
  let f := x.frame
  let full := st b k 8 == 1
  let n := f.data.length
  let pad := (4 - n % 4) % 4
  let q := ((if full then 16 else 8) + n + pad) / 4
  let fd := f.fmt = .fd || f.fmt = .fdBrs
  let flags := pad * 64 + b2n full * 32 + b2n f.remote * 16 + b2n f.ext * 8 + b2n (f.fmt = .fdBrs) * 4 + b2n fd * 2 + b2n f.esi
  beBytes 2 ((if full then 1 else 2) * 512 + q % 512) ++ beBytes 1 flags ++ beBytes 1 (nbyte (st b k 0x0A) x.source % 32) ++
    (if full then beBytes 8 x.stamp else []) ++ beBytes 4 f.ident.val ++ f.data ++ List.replicate pad 0

/-! ### Closing -/

/-- Bytes of the ACF messages of a container. -/
def msgBytes (l : List (Bytes × Nat)) : Bytes := l.flatMap (·.1)

/-- The container of a stream as a frame without its FCS (R254). -/
def containerBytes (b : Bank) (k seq : Nat) (body : Bytes) (s : State) : Bytes :=
  let n := body.length
  let head :=
    if st b k 7 == 0 then
      beBytes 1 0x82 ++ beBytes 2 (0x8000 + n % 2048) ++ beBytes 1 seq ++ leBytes 8 (st b k 3)
    else
      beBytes 1 5 ++ beBytes 1 0x81 ++ beBytes 1 seq ++ beBytes 1 0 ++ leBytes 8 (st b k 3) ++
        beBytes 4 ((nowNs s + st b k 0x0B) % 2 ^ 32) ++ beBytes 4 0 ++ beBytes 2 n ++ beBytes 2 0
  leBytes 6 (st b k 4) ++ leBytes 6 (bkO b 0x3C01 1) ++ beBytes 2 0x8100 ++ beBytes 2 (st b k 6 * 8192 + st b k 5) ++
    beBytes 2 0x22F0 ++ head ++ body

/-- A leased stream in shadow: its containers are built and discarded (R313). -/
def streamShadow (k : Nat) (s : State) : Bool := member s && bit (cfg 0x5400 4 s) k && !leaseHolds 0 s

/-- The open container of stream k closes with the parameters of bank b (R254, R256), `why` counting it: 0x0D by size, 0x0E by deadline, 0
neither. It leaves BP at once (assumption log 54). -/
def closeStream (b : Bank) (k why : Nat) (s : State) : State :=
  let x := streamSt k s
  if x.msgs.isEmpty then s
  else
    let seq := regE k 0x3C20 0x11 s
    let d := containerBytes b k seq (msgBytes x.msgs) s
    let s := setRegE k 0x3C20 0x11 ((seq + 1) % 256) (setStream k { x with msgs := [] } s)
    let s := if why ≠ 0 then countE k 0x3C20 why s else s
    if streamShadow k s then count 0x5402 7 s
    else receiveFrame 32 ⟨d, true, .sfd, false⟩ (countE k 0x3C20 0x0C s)

/-- Bytes of the messages of an open container. -/
def openLen (k : Nat) (s : State) : Nat := (msgBytes (streamSt k s).msgs).length

/-- A PDU is placed in stream k with a deadline offset in µs (R256). -/
def placePdu (b : Bank) (k offset : Nat) (x : BusRec) (s : State) : State :=
  if notCarried b k x then countE k 0x3C20 0x10 s
  else
    let m := acfMsg b k x
    let s := if openLen k s + m.length > st b k 9 then closeStream b k 0x0D s else s
    let y := streamSt k s
    let s := countE k 0x3C20 0x0F (setStream k { y with msgs := y.msgs ++ [(m, monoNs s + us offset)] } s)
    if offset == 0 then closeStream b k 0x0E s else s

/-- CONTAINER_DEADLINE_CLOSE (R256): the earliest deadline of the open container has been reached. -/
def execContainerDeadlineClose (stream : Fin 64) (s : State) : Res :=
  .next (
    if !braidStill s && (streamSt stream.val s).msgs.any (fun m => decide (m.2 ≤ monoNs s)) then
      settle 4 (closeStream s.cfg stream.val 0x0E s)
    else s)

/-! ### Unpacking -/

/-- AVTP header of a container: start of its ACF messages, their length, sequence number and stream ID as the number of its bytes. -/
structure Avtp where
  start : Nat
  length : Nat
  seq : Nat
  id : Nat
deriving DecidableEq, Repr

/-- A frame's AVTP header, none where it is no container. -/
def avtpOf (d : Bytes) : Option Avtp :=
  let o := if rd d 12 2 == 0x8100 || rd d 12 2 == 0x88A8 then 18 else 14
  if rd d (o - 2) 2 ≠ 0x22F0 then none
  else if byteAt d o == 0x82 && d.length ≥ o + 12 then
    some ⟨o + 12, rd d (o + 1) 2 % 2048, byteAt d (o + 3), leNat (slice (o + 4) 8 d)⟩
  else if byteAt d o == 5 && d.length ≥ o + 24 then
    some ⟨o + 24, rd d (o + 20) 2, byteAt d (o + 2), leNat (slice (o + 4) 8 d)⟩
  else none

/-- The receive entry that takes a container (R258). -/
def entryFor (b : Bank) (port id : Nat) : Option Nat :=
  (entriesOf b 0x3C21).find? fun e =>
    bkE b e 0x3C21 2 == 1 && bkE b e 0x3C21 3 == id && bit (bkE b e 0x3C21 4) port

/-- A data length that a CAN frame of the format carries (R210). -/
def lengthCarried (fd : Bool) (n : Nat) : Bool := if fd then n ≤ 64 && fdLen n == n else n ≤ 8

/-- The frame of an ACF_CAN or ACF_CAN_BRIEF message, and whether it is malformed (assumption log 55). -/
def acfFrame (m : Bytes) (full : Bool) : BusFrame × Bool :=
  let fl := byteAt m 2
  let h := if full then 16 else 8
  let ext := bit fl 3
  let id := rd m (h - 4) 4 % 2 ^ 29
  let data := (m.drop h).take (m.length - h - fl / 64)
  let fd := bit fl 1
  ({ fmt := if fd then (if bit fl 2 then .fdBrs else .fd) else .classical, ext := ext, remote := bit fl 4
     ident := Fin.ofNat _ id, sdt := 0, vcid := 0, af := 0, esi := bit fl 0, sec := false, enhanced := false
     dlc := Fin.ofNat _ (dlcOf data.length), data := data },
   !lengthCarried fd data.length || (!ext && decide (id ≥ 2048)))

/-- One message becomes a bus record (R258). -/
def unpackMsg (e port stamp : Nat) (m : Bytes) (s : State) : State :=
  let ty := byteAt m 0 / 2
  if ty ≠ 1 && ty ≠ 2 then countE e 0x3C21 0x0A s
  else
    let full := ty == 1
    let x := acfFrame m full
    let t := if full && bit (byteAt m 2) 5 then rd m 4 8 else stamp
    let r := recOf (64 + e) (byteAt m 3 % 32) port t x.1
    submitRec r ((entriesOf s.cfg 0x3C10).filter (routeMatches s.cfg r)) none x.2 false false (countE e 0x3C21 9 s)

/-- The messages of a container in order; one of length 0, shorter than its header, or beyond the declared length ends it (R259). -/
def unpackAll (e port stamp : Nat) (short : Bool) : Nat → Bytes → State → State
  | 0, _, s => s
  | n + 1, l, s =>
    if l.isEmpty then (if short then countE e 0x3C21 8 s else s)
    else
      let q := 4 * (rd l 0 2 % 512)
      let ty := byteAt l 0 / 2
      let least := if ty == 1 then 16 else if ty == 2 then 8 else 4
      if q < least || q > l.length then countE e 0x3C21 8 s
      else unpackAll e port stamp short n (l.drop q) (unpackMsg e port stamp (l.take q) s)

/-- The body of a container; one that runs past the frame's end is malformed there. -/
def unpackBody (e : Nat) (u : Unpack) (a : Avtp) (s : State) : State :=
  let body := slice a.start a.length u.data
  unpackAll e u.port u.stamp (decide (body.length < a.length)) (body.length + 1) body s

/-- The sequence check of entry e (R258); the first container after a commit or a wake shows no gap. -/
def checkSeq (e seq : Nat) (s : State) : State :=
  let last := tget 0 s.braid.seqs e
  let gap := last ≠ 0 && last % 256 ≠ seq
  let s := { s with braid := { s.braid with seqs := tset 0 s.braid.seqs e ((seq + 1) % 256 + 256) } }
  if gap && cfgE e 0x3C21 5 s == 1 then countE e 0x3C21 7 s else s

/-- CONTAINER_UNPACK (R258, R259): the oldest container that waits at port 32. -/
def execContainerUnpack (s : State) : Res :=
  .next (
    match s.braid.unpack with
    | [] => s
    | u :: rest =>
      let s := { s with braid := { s.braid with unpack := rest } }
      match avtpOf u.data with
      | none => count 0x3C00 6 s
      | some a =>
        match entryFor s.cfg u.port a.id with
        | none => count 0x3C00 6 s
        | some e => settle 4 (unpackBody e u a (checkSeq e a.seq (countE e 0x3C21 6 s))))

end Sys2Proof.Machine
end

