-- ==== Sys2Proof/Machine/Braider.lean ====
section
/-!
DEFINITION. Braider.lean: mailboxes, FIFOs, the pending sets and transmit slots (R244–R250), transmit windows (R252, R253), the
execution of routes (R240, R248), and the shadow comparison (R315).
-/
namespace Sys2Proof.Machine

def route (r : Nat) (s : State) : RouteSt := tget routeSt0 s.braid.routes r

def setRoute (r : Nat) (x : RouteSt) (s : State) : State :=
  { s with braid := { s.braid with routes := tset routeSt0 s.braid.routes r x } }

/-! ### Transmit windows -/

/-- Windows of CAN engine n in a bank: base and cycle in ns, entries (offset, class, length) in ns. -/
def windowList (b : Bank) (n : Nat) : GateList :=
  let i := 0x3C40 + n
  { base := ofTime80 (bkO b i 3), cycle := 8 * bkO b i 4, ext := 0
    entries := (List.range (bkO b i 5)).map fun k =>
      let w := field (bkO b i 6) (64 * k) 64
      (8 * field w 0 32, field w 56 8, 8 * field w 32 24) }

def windowSt (n : Nat) (s : State) : GateSt := tget gateSt0 s.braid.windows n

def setWindow (n : Nat) (g : GateSt) (s : State) : State :=
  { s with braid := { s.braid with windows := tset gateSt0 s.braid.windows n g } }

/-- The windows in force at local time t; none before the first change time (R252). -/
def windowsAt (n t : Nat) (s : State) : Option GateList :=
  let g := windowSt n s
  match g.admin with
  | some a => if g.changeAt ≤ t then some a else g.oper
  | none => g.oper

/-- Windows run on engine n. -/
def windowed (n : Nat) (s : State) : Bool := cfg (0x3C40 + n) 1 s == 1

/-- ns left of an open window that meets a condition on its class. -/
def windowLeft (n : Nat) (f : Nat → Bool) (s : State) : Option Nat :=
  match windowsAt n (nowNs s) s with
  | none => none
  | some l =>
    let x := listPos l (nowNs s)
    (l.entries.find? fun w => f w.2.1 && w.1 ≤ x && x < w.1 + w.2.2).map fun w => w.1 + w.2.2 - x

/-- ns to the start of the next window of any class. -/
def windowNext (n : Nat) (s : State) : Option Nat :=
  match windowsAt n (nowNs s) s with
  | none => none
  | some l =>
    let x := listPos l (nowNs s)
    l.entries.foldl (fun a w =>
      let d := if w.1 > x then w.1 - x else w.1 + l.cycle - x
      match a with
      | none => some d
      | some e => some (min d e)) none

/-- A frame of window class c may be in the pending set (R253). -/
def windowOpen (n c : Nat) (f : BusFrame) (s : State) : Bool :=
  if c == 0xFF || n ≥ 48 || !windowed n s then true
  else
    match windowLeft n (fun k => k == c) s with
    | none => false
    | some t => decide (worstNs s.cfg n f ≤ t)

/-- An untimed frame may start (R253): no window is open, and it does not reach into the next. -/
def untimedFits (n : Nat) (f : BusFrame) (s : State) : Bool :=
  if !windowed n s || cfg (0x3C40 + n) 2 s == 0 then true
  else (windowLeft n (fun _ => true) s).isNone &&
    (match windowNext n s with
      | none => true
      | some t => decide (worstNs s.cfg n f ≤ t))

/-! ### Slots (R218, R244) -/

/-- The slot that a route's head would take. -/
def headSlot (r : Nat) (x : RouteSt) : Option Slot :=
  match x.box with
  | [] => none
  | y :: _ => if x.joined then some ⟨r, y.1, x.born, false, none, false⟩ else none

/-- The 32 slots of engine n hold what they must keep, and the members of the pending set that rank highest. -/
def fillSlots (n : Nat) (s : State) : State :=
  if n ≥ 48 then s
  else
    let c := can n s
    let fixed := c.slots.filter fun x => x.locked || x.kept
    let l := s.braid.routes.foldl (fun a e =>
      if e.2.joined && rtEgress s.cfg e.1 == n && !(fixed.any fun x => x.locked && x.route == e.1 && !x.kept) then
        match headSlot e.1 e.2 with
        | some x => rankIns x a
        | none => a
      else a) []
    setCan n { c with slots := fixed ++ l.take (32 - fixed.length) } s

/-! ### Joining the pending set (R249, R250, R253) -/

/-- The transmit mode lets the head of route r join now. -/
def modeAllows (b : Bank) (r : Nat) (x : RouteSt) (f : BusFrame) (s : State) : Bool :=
  match rtMode b r with
  | 2 => x.lastData ≠ some f.data
  | 3 =>
    match x.lastSof with
    | none => true
    | some t => due t (us (rt b r 0x0F)) s
  | _ => true

/-- The head of route r joins its engine's pending set if its window and its limiter let it; a frame without a token is held, and counted
once (R250). -/
def joinNow (r : Nat) (s : State) : State :=
  let b := s.cfg
  let x := route r s
  match x.box with
  | [] => s
  | y :: _ =>
    if x.joined || !windowOpen (rtEgress b r) (rtClass b r) y.1 s then s
    else
      let l := rtLimiter b r
      let t := if l < 1024 then takeToken b 0x3C30 1024 l s else (true, s)
      let s := t.2
      if t.1 then
        let s := if l < 1024 then countE l 0x3C30 5 s else s
        let o := s.braid.order
        let s := setRoute r { x with joined := true, held := false, missed := false, owed := false, born := o, bornAt := wall s }
          { s with braid := { s.braid with order := o + 1 } }
        fillSlots (rtEgress b r) s
      else if x.held then s
      else setRoute r { x with held := true } (countE l 0x3C30 6 s)

/-- The head of route r is offered to the pending set, by its transmit mode. A periodic frame joins at its period, or later in that period
where its window or its limiter kept it. -/
def tryJoin (r : Nat) (s : State) : State :=
  let x := route r s
  match x.box with
  | [] => s
  | y :: _ => if (rtMode s.cfg r ≠ 1 || x.owed) && modeAllows s.cfg r x y.1 s then joinNow r s else s

/-- A route's frame is no longer pending. -/
def leaveSet (r : Nat) (s : State) : State :=
  if (route r s).joined then fillSlots (rtEgress s.cfg r) (setRoute r { route r s with joined := false } s) else s

/-! ### Mailboxes and FIFOs (R245, R246) -/

/-- Depth of a FIFO route. -/
def fifoDepth (b : Bank) (r : Nat) : Nat := if r < 12288 then rt b r 0x0D else 64

/-- A counter of a route; the device's own senders have none. -/
def countRoute (r j : Nat) (s : State) : State := if r < 12288 then countE r 0x3C10 j s else s

/-- A FIFO arrival. -/
def fifoPut (b : Bank) (r : Nat) (f : BusFrame) (s : State) : State :=
  let x := route r s
  let n := busElls f.data.length
  if x.box.length ≥ fifoDepth b r then countRoute r 0x18 s
  else
    let bu := bushelOf s.cfg 32 0
    let room := ellRoom bu s
    if room.1 < n then arrivalDrop 32 bu room.2 s
    else
      let t := takeElls n s
      tryJoin r (setRoute r { route r t.2 with box := x.box ++ [(f, t.1)], ever := true } t.2)

/-- The locked slot of engine n. -/
def lockedSlot (n : Nat) (s : State) : Option Slot := (can n s).slots.find? (·.locked)

/-- Route r's frame is in transmission on its engine. -/
def inTransmission (r n : Nat) (s : State) : Bool :=
  n < 48 && ((lockedSlot n s).map fun x => x.route == r && !x.kept).getD false

/-- A new frame for a locked slot goes to its shadow (R219). -/
def setShadow (n : Nat) (f : BusFrame) (s : State) : State :=
  setCan n { can n s with slots := (can n s).slots.map fun x => if x.locked then { x with shadow := some f } else x } s

/-- The data of a LIN frame has been updated (R231, R247). -/
def markUpdated (n id : Nat) (s : State) : State :=
  if n < 48 then s else setLin (n - 48) { lin (n - 48) s with updated := setIns id (lin (n - 48) s).updated } s

/-- A latest-value arrival (R245, R249): an overwritten value that had not been sent is counted. -/
def boxPut (b : Bank) (r : Nat) (f : BusFrame) (s : State) : State :=
  let n := rtEgress b r
  let x := route r s
  let x := { x with ever := true }
  if inTransmission r n s then
    let over_ := ((lockedSlot n s).map (·.shadow.isSome)).getD false
    let s := if over_ then countRoute r 0x17 s else s
    setShadow n f (setRoute r x s)
  else
    let s := if !x.box.isEmpty && !x.sent then countRoute r 0x17 s else s
    let s := setRoute r { x with box := [(f, [])], sent := false } s
    let s := if rtMode b r == 2 && x.lastData == some f.data then leaveSet r s else s
    if n ≥ 48 && n < 64 then markUpdated n (f.ident.val % 64) s
    else if (route r s).joined then fillSlots n s else tryJoin r s

/-- A frame built by route r. -/
def putFrame (b : Bank) (r : Nat) (f : BusFrame) (s : State) : State :=
  if rtFifo b r then fifoPut b r f s else boxPut b r f s

/-- A frame of route r has been sent, or counts as sent: a FIFO advances, a mailbox empties but under periodic transmission; `next_` is
what stands in the slot's shadow. -/
def frameSent (b : Bank) (r : Nat) (f : BusFrame) (next_ : Option BusFrame) (s : State) : State :=
  let x := { route r s with joined := false, held := false, missed := false, owed := false, lastData := some f.data }
  if rtFifo b r then
    match x.box with
    | [] => setRoute r x s
    | y :: t => tryJoin r (returnElls y.2 (setRoute r { x with box := t } s))
  else
    match next_ with
    | some g => tryJoin r (setRoute r { x with box := [(g, [])], sent := false } s)
    | none =>
      if rtMode b r == 1 then setRoute r { x with sent := true } s
      else setRoute r { x with box := [], sent := true } s

/-! ### Execution of routes (R239–R243, R248) -/

/-- A route's egress takes no frames (R248, R300). -/
def egressLost (b : Bank) (r : Nat) (s : State) : Bool :=
  let e := rtEgress b r
  if e < 64 then !engEnabled s.cfg e s || engAsleep e s else st s.cfg (e - 64) 2 == 0

/-- One permitted route of a record is executed. -/
def runRoute (b : Bank) (x : BusRec) (r : Nat) (s : State) : State :=
  if ownRoute r then putFrame b r x.frame s
  else if egressLost b r s then
    countRoute r 0x18 (count 0x3C00 4 (countRoute r 0x16 (countBy 8 0x3C00 1 1 s)))
  else if rt b r 2 == 2 then
    placePdu s.cfg (rtEgress b r - 64) (rt s.cfg r 0x10) x (countRoute r 0x16 (countBy 8 0x3C00 1 1 s))
  else
    let n := rt b r 0x0B
    let n := if rt b r 0x0A == 1 || rt b r 0x0A == 2 then fdLen n else n
    match runWords x.frame.data (wordsOf b r) (fit (max 64 n) (leBytes 64 (rt b r 0x13))) (route r s).counter with
    | none => countRoute r 0x18 (count 0x3C00 7 s)
    | some y =>
      let s := countRoute r 0x16 (countBy 8 0x3C00 1 1 s)
      let s := setRoute r { route r s with counter := y.2 } s
      let f := egressFrame b r y.1 s
      putFrame b r f.1 f.2

/-- A record leaves the Braider. -/
def dropRec (x : BusRec) (s : State) : State :=
  returnElls x.ells { s with braid := { s.braid with recs := s.braid.recs.filter fun y => y.id ≠ x.id } }

/-- The permitted routes of a record, in ascending number, on the bank of its epoch (R240, R456). -/
def runRecord (x : BusRec) (s : State) : State :=
  let b := bankOf x.epoch s
  let l := x.routes.filter fun r => x.permitted.contains (zoneOf b (rtTarget b r))
  let s := if braidStill s then s else each l (runRoute b x) s
  dropRec x s

/-- ROUTE_EXECUTE (R240): the oldest record whose verdict has been released. -/
def execRouteExecute (s : State) : Res :=
  .next (
    match s.braid.recs.find? (·.released) with
    | none => s
    | some x => settle 4 (runRecord x s))

/-! ### Timed joining -/

/-- Number of the last multiple of route r's period at local time (R249). -/
def periodNow (r : Nat) (s : State) : Nat := nowNs s / us (max 1 (rt s.cfg r 0x0F))

/-- PERIODIC_TRANSMIT (R249): local time reaches a multiple of the period. A transmission still pending is not repeated. -/
def execPeriodicTransmit (route : Fin 12288) (s : State) : Res :=
  .next (
    let r := route.val
    let x := Machine.route r s
    if rt s.cfg r 2 ≠ 1 || rtMode s.cfg r ≠ 1 || braidStill s || periodNow r s ≤ x.perAt then s
    else
      let s := setRoute r { x with perAt := periodNow r s } s
      if !x.ever || x.box.isEmpty then s
      else if rtEgress s.cfg r ≥ 48 then markUpdated (rtEgress s.cfg r) (rt s.cfg r 9 % 64) s
      else if x.joined || x.owed || inTransmission r (rtEgress s.cfg r) s then countRoute r 0x17 s
      else joinNow r (setRoute r { Machine.route r s with owed := true } s))

/-- MINIMUM_INTERVAL_END (R249): the interval of a mode 3 route ends. -/
def execMinimumIntervalEnd (route : Fin 12288) (s : State) : Res :=
  .next (
    let r := route.val
    if rtMode s.cfg r == 3 && !braidStill s && !(Machine.route r s).joined && !inTransmission r (rtEgress s.cfg r) s then
      tryJoin r s
    else s)

/-- LIMITER_TOKEN_RELEASE (R250): the lowest-numbered route whose frame this limiter holds joins when a token is there. -/
def execLimiterTokenRelease (limiter : Fin 1024) (s : State) : Res :=
  .next (
    match s.braid.routes.find? fun e => e.2.held && rtLimiter s.cfg e.1 == limiter.val with
    | none => s
    | some e => if braidStill s then s else tryJoin e.1 s)

/-- At a window edge of engine n, frames whose window is open join; a frame that no longer fits leaves, and one that no window held is
counted (R253). -/
def windowEdge (n r : Nat) (s : State) : State :=
  let b := s.cfg
  let x := route r s
  match x.box with
  | [] => s
  | y :: _ =>
    if rtEgress b r ≠ n || rtClass b r == 0xFF || inTransmission r n s then s
    else if windowOpen n (rtClass b r) y.1 s then (if x.joined then s else tryJoin r s)
    else
      let s := leaveSet r s
      if (windowLeft n (fun k => k == rtClass b r) s).isNone && !(route r s).missed then
        setRoute r { route r s with missed := true } (count (0x3C40 + n) 7 s)
      else s

/-- TRANSMIT_WINDOW_EDGE (R252, R253): a window of engine n opens or closes, or pending windows take over. -/
def execTransmitWindowEdge (engine : Fin 48) (s : State) : Res :=
  .next (
    let n := engine.val
    if !windowed n s || braidStill s || !listsRun s then s
    else
      let g := windowSt n s
      let s := match g.admin with
        | some a =>
          if g.changeAt ≤ nowNs s then
            setReg (0x3C40 + n) 9 (time80 a.base) (setWindow n ⟨some a, none, g.changeAt⟩ s)
          else s
        | none => s
      each (s.braid.routes.map (·.1)) (windowEdge n) s)

/-! ### Shadow comparison (R315) -/

/-- The oldest shadow frame of engine e that a received frame is a candidate for: (route, frame). -/
def shadowCandidate (e : Nat) (f : BusFrame) (s : State) : Option (Nat × BusFrame) :=
  let l := s.braid.routes.foldl (fun (a : Option (Nat × BusFrame × Nat)) k =>
    match k.2.box with
    | [] => a
    | y :: _ =>
      if k.2.joined && rtEgress s.cfg k.1 == e && y.1.ident == f.ident && y.1.ext == f.ext && y.1.fmt = f.fmt &&
          !due k.2.bornAt (ms (cfg 0x5400 0x0B s) + 1) s then
        match a with
        | some (_, _, t) => if k.2.born < t then some (k.1, y.1, k.2.born) else a
        | none => some (k.1, y.1, k.2.born)
      else a) none
  l.map fun x => (x.1, x.2.1)

/-- A frame on a leased engine is to be compared: the member is in shadow. -/
def compares (e : Nat) (s : State) : Bool := shadowed e s

/-- A disagreement is noted for the report and for the limit of 0x5400:0C (R315). -/
def noteDisagree (s : State) : State :=
  let l := (s.pair.recent.filter fun t => monoNs s < t + ms 1000) ++ [monoNs s]
  let s := { s with pair := { s.pair with recent := l } }
  if l.length > cfg 0x5400 0x0C s then fire 0xC9 0 s else s

/-- A mismatch, with its detail. -/
def noteMismatch (e : Nat) (f : BusFrame) (s : State) : State :=
  let d := f.ident.val + b2n f.ext * 2 ^ 29 + e * 2 ^ 32 + nowNs s % 2 ^ 64 * 2 ^ 64
  noteDisagree { setReg 0x5402 6 d (count 0x5402 4 s) with pair := { s.pair with mism := min 65535 (s.pair.mism + 1) } }

/-- A received frame is compared with the oldest candidate, which counts as sent (R315). Padding reaches from the route's egress length
to the length of the DLC. -/
def shadowCompare (e : Nat) (f : BusFrame) (s : State) : State :=
  if !compares e s then s
  else
    match shadowCandidate e f s with
    | none => s
    | some (r, g) =>
      let n := if g.fmt = .lin || ownRoute r then g.data.length else rt s.cfg r 0x0B
      let s := count 0x5402 1 s
      let s := if f.data == g.data then count 0x5402 2 s
        else if f.data.length == g.data.length && f.data.take n == g.data.take n then count 0x5402 3 s
        else noteMismatch e f s
      fillSlots e (frameSent s.cfg r g none s)

/-- A frame that no received frame has matched within the window is an omission (R315). -/
def shadowOmission (e : Nat) (s : State) : State :=
  match s.braid.routes.find? fun k =>
      k.2.joined && rtEgress s.cfg k.1 == e && due k.2.bornAt (ms (cfg 0x5400 0x0B s) + 1) s with
  | none => s
  | some (r, x) =>
    match x.box with
    | [] => s
    | y :: _ =>
      let s := { count 0x5402 5 s with pair := { s.pair with omis := min 65535 (s.pair.omis + 1) } }
      fillSlots e (frameSent s.cfg r y.1 none (noteDisagree s))

/-! ### Own frames -/

/-- A frame of the device's own sender goes to the Sieve with the source of MP (R166, R187). -/
def ownFrame (r : Nat) (f : BusFrame) (s : State) : State :=
  submitRec (recOf 200 0xFF 31 (nowNs s) f) [r] none false false false s

/-- A classical base-format data frame. -/
def classicalFrame (id : Nat) (data : Bytes) : BusFrame :=
  { fmt := .classical, ext := false, remote := false, ident := Fin.ofNat _ id, sdt := 0, vcid := 0, af := 0, esi := false
    sec := false, enhanced := false, dlc := Fin.ofNat _ data.length, data := data }

/-! ### Discards (R265) and commits (R241, R245, R248, R250, R254, R257) -/

/-- A route's mailbox or FIFO is emptied; a frame already in transmission keeps its slot (R248). -/
def emptyRoute (r : Nat) (s : State) : State :=
  let x := route r s
  let n := rtEgress s.cfg r
  let s := setRoute r { x with box := [], joined := false, held := false, missed := false, owed := false, sent := false } s
  let s := each x.box (fun y s => returnElls y.2 s) s
  if n < 48 then
    setCan n { can n s with slots := (can n s).slots.map fun y => if y.locked && y.route == r then { y with kept := true } else y } s
  else s

/-- Slots of a route in the pending set stay as they are, to be sent under their old epoch (R248). -/
def keepSlot (n r : Nat) (s : State) : State :=
  if n ≥ 48 then s
  else setCan n { can n s with slots := (can n s).slots.map fun y => if y.route == r then { y with kept := true } else y } s

/-- Objects of a route whose change empties it (R248). -/
def routeChanged (old new : Bank) (r : Nat) : Bool :=
  [2, 8, 9, 0x0A, 0x0B, 0x0C, 0x13].any fun j => bkE old r 0x3C10 j ≠ bkE new r 0x3C10 j

/-- A commit on route r (R241, R245, R248, R249): counters start at 0, changed routes are emptied, a latest-value bus route owns its ells. -/
def routeCommit (old new : Bank) (r : Nat) (s : State) : State :=
  let x := route r s
  let changed := routeChanged old new r
  let s := if changed then emptyRoute r (keepSlot (rtEgress old r) r s) else s
  let x := { route r s with counter := 0, ever := !x.box.isEmpty && !changed, perAt := periodNow r s }
  let want := if rt new r 2 == 1 && !rtFifo new r then busElls (rt new r 0x0B) else 0
  if x.own.length == want then setRoute r x s
  else
    let t := takeElls want (returnElls x.own (setRoute r { x with own := [] } s))
    setRoute r { x with own := t.1 } t.2

/-- A stream's parameters change (R257). -/
def contChanged (old new : Bank) (k : Nat) : Bool :=
  [3, 4, 5, 6, 7, 8, 9, 0x0B].any fun j => bkE old k 0x3C20 j ≠ bkE new k 0x3C20 j

/-- A commit on stream k (R254, R257): an open container closes with the old parameters; sequence numbers start at 0. -/
def streamCommit (old new : Bank) (k : Nat) (s : State) : State :=
  let s := if contChanged old new k || st new k 2 == 0 then closeStream old k 0 s else s
  setRegE k 0x3C20 0x11 0 s

/-- A commit on the windows of engine n (R252). -/
def windowCommit (old new : Bank) (n : Nat) (s : State) : State :=
  if bkO new (0x3C40 + n) 1 == 0 then setWindow n gateSt0 s
  else if (List.range' 1 6).any fun j => bkO old (0x3C40 + n) j ≠ bkO new (0x3C40 + n) j then
    let l := windowList new n
    setWindow n { windowSt n s with admin := some l, changeAt := changeTime l (nowNs s) } s
  else s

/-- Routes, streams, limiters and windows at the switch of a commit. -/
def braidCommit (old new : Bank) (s : State) : State :=
  let rs := (entriesOf old 0x3C10 ++ entriesOf new 0x3C10 ++ s.braid.routes.map (·.1)).foldl (fun l r => setIns r l) []
  let ks := (entriesOf old 0x3C20 ++ entriesOf new 0x3C20 ++ s.braid.streams.map (·.1)).foldl (fun l r => setIns r l) []
  let s := each ks (streamCommit old new) s
  let s := each rs (routeCommit old new) s
  let s := { s with
    limiters := (s.limiters.filter fun e =>
      if e.1 < 1024 then [2, 3].all fun j => bkE old e.1 0x4021 j == bkE new e.1 0x4021 j
      else [2, 3].all fun j => bkE old (e.1 - 1024) 0x3C30 j == bkE new (e.1 - 1024) 0x3C30 j)
    braid := { s.braid with seqs := [] } }
  let s := each (List.range 48) (windowCommit old new) s
  each (List.range 48) fillSlots s

/-- A time step realigns windows and periods (R249, R252, R158). -/
def braidStep (s : State) : State :=
  let s := each (List.range 48) (fun n s =>
    if windowed n s && (windowsAt n (nowNs s) s).isSome then count (0x3C40 + n) 8 s else s) s
  each (s.braid.routes.map (·.1)) (fun r s =>
    if rtMode s.cfg r == 1 && r < 12288 then setRoute r { route r s with perAt := periodNow r s } s else s) s

end Sys2Proof.Machine
end

