-- ==== Sys2Proof/Machine/Lanes.lean ====
section
/-!
DEFINITION. Lanes.lean: draining, restoring and testing the Sieve lanes (R201–R206).
-/
namespace Sys2Proof.Machine

/-- Domain d is switched off at once: its bit of 0x5020:02 reads 0 (R457). -/
def domainOff (d : Nat) (s : State) : State := setReg 0x5020 2 (setField (reg 0x5020 2 s) d 1 0) s

/-- LANE_DRAIN_END (R201): every accepted decision has run; lane 1 returns its grant and PD_SIEVE1 is switched off. -/
def execLaneDrainEnd (lane : Fin 2) (s : State) : Res :=
  .next (
    let n := lane.val
    if reg 0x4050 (n + 1) s == 1 && !(s.decs.any fun d => d.lane == n && !d.pairs.isEmpty) then
      let s := setReg 0x4050 (n + 1) 2 s
      if n == 1 then domainOff 13 (peckReturn 3 s) else s
    else s)

/-- Restore command 0x4050:07 (R202): only a withdrawn lane whose fault source is clear is powered and tested. -/
def restoreLane (n : Nat) : Svc := notTerminal fun s =>
  if reg 0x4050 (n + 1) s ≠ 2 || srcSet (0x22 + n) s then (s, 0x08000022)
  else
    let s := setLane n { lane n s with testing := true, latent := [] } (setReg 0x4050 7 1 s)
    done (if n == 1 then peckRequest 3 s else s)

/-- RESTORE_LANE (R202). -/
def execRestoreLane (ses : Session) (lane : Fin 2) (s : State) : Res := .next (serve ses (restoreLane lane.val) s)

/-- A lane can be tested: one that waits for its test, or lane 1 when it gets its power (R201, R203). -/
def laneTests (n : Nat) (s : State) : Bool :=
  ((lane n s).testing || (n == 1 && reg 0x4050 2 s == 3)) && (n == 0 || (powered 13 s && granted 3 s))

/-- LANE_SELF_TEST_COMPLETE (R202, R203): the lane works, or it stays withdrawn with cause 5 and its fault source fires; the
no-working-lane source fires where neither lane works. -/
def execLaneSelfTestComplete (lane : Fin 2) (passed : Bool) (s : State) : Res :=
  .next (
    let n := lane.val
    if !laneTests n s then s
    else
      let restore := reg 0x4050 7 s == 1
      let s := setLane n { Sys2Proof.Machine.lane n s with testing := false, latent := [] } s
      if passed then
        let s := setReg (0x4051 + n) 0x0B 0 (setReg 0x4050 (n + 1) 0 s)
        let s := { s with faults := { s.faults with withdrawn := s.faults.withdrawn.filter fun w => w.1 ≠ .lane n } }
        if restore then setReg 0x4050 7 2 s else s
      else
        let s := setReg (0x4051 + n) 0x0B 5 (setReg 0x4050 (n + 1) 2 s)
        let s := if restore then setReg 0x4050 7 3 s else s
        let o := 1 - n
        let s := if reg 0x4050 (o + 1) s ≠ 0 && !(Sys2Proof.Machine.lane o s).testing then fire 0x28 n s else s
        fire (0x22 + n) (n + 256 * 5) s)

/-- SEEDED_COMPARATOR_TEST (R205): a working lane passes its test decision, and the seeded position steps on. What a failing
test shows comes as COMPARATOR_FAULT or PASS_PAIR_OUTCOME. -/
def execSeededComparatorTest (lane : Fin 2) (s : State) : Res :=
  .next (
    let n := lane.val
    if reg 0x4050 (n + 1) s == 0 && !(Sys2Proof.Machine.lane n s).testing then
      setReg (0x4051 + n) 0x0C ((reg (0x4051 + n) 0x0C s + 1) % 192) (count (0x4051 + n) 7 s)
    else s)

end Sys2Proof.Machine
end

