-- ==== Sys2Proof/Machine/Crust.lean ====
section
/-!
DEFINITION. Crust.lean: roles and credentials, key slots, random numbers, MACsec associations, the sealed log, module binding, tamper
sensors and OTP (R372–R404, R492).
-/
namespace Sys2Proof.Machine

/-! ### Roles and credentials (R387–R390) -/

/-- The role that a session has requested, 1 where it has written none. -/
def requestedRole (ses : Session) (s : State) : Nat := tget 1 s.crust.requested (sesCode ses)

/-- A lockout of role r is in force (R390). -/
def lockedRole (r : Nat) (s : State) : Bool := tget 0 s.crust.lockEnd r ≠ 0

def trngWorks (s : State) : Bool := reg 0x6000 8 s == 1

/-- The 64 bytes of a challenge (R388). -/
def challengeBytes (ses : Session) (s : State) : Bytes :=
  leBytes 32 (Config.random s.fresh) ++ leBytes 4 serialNo ++ leBytes 1 (requestedRole ses s) ++ leBytes 1 (sesCode ses) ++
    leBytes 10 (time80 (nowNs s)) ++ leBytes 16 0

/-- The challenge of a session is read: zeros while the role is locked (R390). -/
def readChallenge (ses : Session) : SvcD := fun s =>
  if !trngWorks s then (s, 0x06060000, [])
  else if lockedRole (requestedRole ses s) s then (s, 0, leBytes 64 0)
  else
    let l := challengeBytes ses s
    let c : Challenge := ⟨l, requestedRole ses s, wall s⟩
    (useFree { s with crust := { s.crust with challenges := tset none s.crust.challenges (sesCode ses) (some c) } }, 0, l)

/-- CHALLENGE_READ (R388). -/
def execChallengeRead (ses : Session) (s : State) : Res := .next (serveData ses (readChallenge ses) s)

/-- A failed response for role r with a key index on a path (R390): the fifth in a row, and each further one, locks the role. -/
def credentialFails (r key path : Nat) (s : State) : State :=
  let n := tget 0 s.crust.failures r + 1
  let s := { s with crust := { s.crust with failures := tset 0 s.crust.failures r n } }
  if n < 5 then s
  else
    let old := tget 0 s.crust.lockLen r
    let len := if old == 0 then 60 else min 3600 (2 * old)
    let s := { s with crust := { s.crust with
      lockLen := tset 0 s.crust.lockLen r len, lockEnd := tset 0 s.crust.lockEnd r (wall s + len * 1000000000) } }
    fire 0xA9 r (sealRecord 0x000B 0 [r, key, path, len] s)

/-- A role is granted to a session (R388, R390). -/
def grantRole (code r key : Nat) (s : State) : State :=
  let s := { s with crust := { s.crust with
    roles := tset 0 s.crust.roles code r, failures := tset 0 s.crust.failures r 0, lockLen := tset 0 s.crust.lockLen r 0 } }
  sealRecord 0x000B r [r, key, code / 16, 0] s

/-- A P-384 signature r‖s under credential key i of role rank r (R377, R388). -/
def credentialSigned (r i : Nat) (l sig : Bytes) (s : State) : Bool :=
  let k := keySlot (0xF0 + 4 * (r - 1) + i) s
  i < 4 && 1 ≤ r && r ≤ 4 && k.type == 4 && bit k.usage 6 && Config.ecdsaVerify k.value (Config.sha384 l) (beNat sig)

/-- A response to a session's challenge (R388, R390, R404): one response ends the challenge, and a Retired device grants nothing (R373). -/
def respond (ses : Session) (l : Bytes) : Svc := notTerminal fun s =>
  if l.length ≠ 97 then deny 0x06070010 s
  else
    let c := tget none s.crust.challenges (sesCode ses)
    let r := (c.map (·.role)).getD (requestedRole ses s)
    let i := byteAt l 0
    let good := match c with
      | some x => wall s ≤ x.since + 60000000000 && !lockedRole r s && lifecycle s ≠ 3 && credentialSigned r i x.bytes (l.drop 1) s
      | none => false
    let s := { s with crust := { s.crust with challenges := tset none s.crust.challenges (sesCode ses) none } }
    if good then done (grantRole (sesCode ses) r i s) else deny 0x080000A1 (credentialFails r i (sesCode ses / 16) s)

/-- CREDENTIAL_RESPONSE (R388). -/
def execCredentialResponse (ses : Session) (response : List Byte) (s : State) : Res := .next (serve ses (respond ses response) s)

/-- A session gives its role back. -/
def releaseRole (ses : Session) : Svc := notTerminal fun s =>
  done { s with crust := { s.crust with roles := tset 0 s.crust.roles (sesCode ses) 0 } }

/-- ROLE_RELEASE (R388). -/
def execRoleRelease (ses : Session) (s : State) : Res := .next (serve ses (releaseRole ses) s)

/-- LOCKOUT_END (R390). -/
def execLockoutEnd (role : Fin 4) (s : State) : Res :=
  .next (
    let r := role.val + 1
    if lockedRole r s && tget 0 s.crust.lockEnd r ≤ wall s then
      { s with crust := { s.crust with lockEnd := tset 0 s.crust.lockEnd r 0 } }
    else s)

/-! ### Key slots (R377–R380) -/

/-- The check value of a key (0x6020:06), 4 bytes in order. -/
def checkBytes (k : KeySlot) : Bytes :=
  if k.type == 1 || k.type == 2 then (beBytes 16 (Config.cmac k.value (leBytes 16 0))).take 4
  else if k.type == 3 then (beBytes 32 (Config.sha256 (beBytes 65 k.value))).take 4
  else if k.type == 4 then (beBytes 32 (Config.sha256 (beBytes 97 k.value))).take 4
  else leBytes 4 0

/-- A slot's key goes to flash if it is persistent (R380), and record 0x000C is written. -/
def putKey (n : Nat) (k : KeySlot) (role : Nat) (s : State) : State :=
  let s := { s with crust := { s.crust with
    slots := tset keySlot0 s.crust.slots n k, stored := tset keySlot0 s.crust.stored n (if k.persistent then k else keySlot0) } }
  refreshEval (sealRecord 0x000C role [n, k.usage, k.origin, leNat (checkBytes k)] s)

/-- A configuration names slot n (R380): a profile, the lease key, the transport key. -/
def bankNames (b : Bank) (n : Nat) (s : State) : Bool :=
  (entriesOf b 0x4020).any (fun e => bkE b e 0x4020 3 == n) ||
    (bkO b 0x5400 9 == n && (n ≠ 0 || member s)) || (bkO b 0x5C20 6 == n && (n ≠ 0 || bkO b 0x5C20 1 == 1))

def slotInUse (n : Nat) (s : State) : Bool := bankNames s.cfg n s || bankNames s.staged n s

/-- An SA that is enabled uses slot n. -/
def saUses (n : Nat) (s : State) : Bool := s.crust.sas.any fun kv => kv.2.enabled && kv.2.slot == n

/-- The role that loads, or erases, a usage of slot n (R379); 0 where none is needed. -/
def usageRole (n usage : Nat) : Nat :=
  if bit usage 6 then min 4 ((n - 0xF0) / 4 + 2)
  else if bit usage 5 then 3
  else if bit usage 4 then (if n ≥ 0xE9 then 3 else 2)
  else if bit usage 1 || bit usage 2 || bit usage 3 then 2 else 0

/-- A symmetric usage that slot n may hold (R377, R379): PXP access in its five slots, all others in the free ones. -/
def symmetricFits (n usage : Nat) : Bool :=
  if 0xE6 ≤ n && n ≤ 0xEA then usage == 0x10
  else n < 0xE0 && usage ≠ 0 && Nat.land usage 0x0E == usage

/-- Bytes of the input object. -/
def keyInput (s : State) : Bytes := leBytes 128 (reg 0x6020 7 s)

def keySelect (s : State) : Nat := reg 0x6020 1 s

/-- A key command ends: the Crust erases the input, and the command reads 2 or 3 (0x6020:08). -/
def keyCommand (f : Svc) : Svc := notTerminal fun s =>
  let r := if lifecycle s == 3 then deny 0x08000022 s else f s
  (setReg 0x6020 8 (if r.2 == 0 then 2 else 3) (setReg 0x6020 7 0 r.1), r.2)

/-- The fields of bytes 0–7 of a blob or clear-import record: slot, type, usage, persistence, and whether the reserved bytes are 0. -/
def keyHead (l : Bytes) : Nat × Nat × Nat × Bool × Bool :=
  (byteAt l 0, byteAt l 1, leNat (slice 2 2 l), byteAt l 4 == 1, leNat (slice 5 3 l) == 0 && byteAt l 4 ≤ 1)

/-- The key of a symmetric type in 32 bytes with zero padding. -/
def keyOf (type : Nat) (l : Bytes) : Nat := beNat (if type == 1 then l.take 16 else l.take 32)

/-- Command 0x01 (R379, R380). -/
def loadBlob (ses : Session) : Svc := keyCommand fun s =>
  let l := keyInput s
  let n := keySelect s
  let h := keyHead l
  if !(n == h.1 && (h.2.1 == 1 || h.2.1 == 2) && symmetricFits n h.2.2.1 && h.2.2.2.2) then deny 0x06090030 s
  else if roleOf ses s < usageRole n h.2.2.1 then deny 0x080000A1 s
  else if slotInUse n s then deny 0x08000022 s
  else
    match Config.gcmOpen (slotValue 0xE1 s) (beNat (slice 8 12 l)) (l.take 8 ++ leBytes 4 serialNo ++ slice 20 48 l) with
    | none => deny 0x06090030 s
    | some k => done (putKey n ⟨h.2.1, h.2.2.1, 1, h.2.2.2.1, keyOf h.2.1 k⟩ (roleOf ses s) s)

/-- Command 0x02 (R379): an uncompressed public key; Manufacturer keys in lifecycle Provisioned only. -/
def importPublic (ses : Session) : Svc := keyCommand fun s =>
  let l := keyInput s
  let n := keySelect s
  let cred := n ≥ 0xF0
  if !(cred || n == 0xE5) || byteAt l 0 ≠ 4 then deny 0x06090030 s
  else if roleOf ses s < usageRole n (if cred then 0x40 else 0x20) || (n ≥ 0xFC && lifecycle s ≠ 1) then deny 0x080000A1 s
  else if cred then done (putKey n ⟨4, 0x40, 3, true, beNat (l.take 97)⟩ (roleOf ses s) s)
  else done (putKey n ⟨3, 0x20, 3, true, beNat (l.take 65)⟩ (roleOf ses s) s)

/-- Command 0x03 (R379–R381, R404): a SAK under the KEK of 0x6030:01; 24 bytes wrap a 128-bit key and 40 bytes a 256-bit one. -/
def unwrapSak (ses : Session) : Svc := keyCommand fun s =>
  let l := keyInput s
  let n := keySelect s
  let kek := keySlot (reg 0x6030 1 s) s
  if n ≥ 0xE0 then deny 0x06090030 s
  else if !trngWorks s then deny 0x06060000 s
  else if slotInUse n s || saUses n s then deny 0x08000022 s
  else if !bit kek.usage 1 then deny 0x06090030 s
  else
    let small := leNat (slice 24 16 l) == 0
    match Config.unwrap kek.value (l.take (if small then 24 else 40)) with
    | none => deny 0x06090030 s
    | some v => done (putKey n ⟨if small then 1 else 2, 1, 2, false, v⟩ (roleOf ses s) s)

/-- Command 0x04 (R379, R380). -/
def eraseKey (ses : Session) : Svc := keyCommand fun s =>
  let n := keySelect s
  let k := keySlot n s
  if 0xE0 ≤ n && n ≤ 0xE4 || 0xEB ≤ n && n ≤ 0xEF then deny 0x06090030 s
  else if roleOf ses s < usageRole n k.usage || (n ≥ 0xFC && lifecycle s ≠ 1) then deny 0x080000A1 s
  else if slotInUse n s then deny 0x08000022 s
  else
    let c := leNat (checkBytes k)
    let s := { s with crust := { s.crust with slots := tdel s.crust.slots n, stored := tdel s.crust.stored n } }
    done (refreshEval (sealRecord 0x000C (roleOf ses s) [n, k.usage, k.origin, c] s))

/-- Command 0x07 (R379): a clear-import record. -/
def clearImport (ses : Session) : Svc := keyCommand fun s =>
  let l := keyInput s
  let n := keySelect s
  let h := keyHead l
  let key := keyOf h.2.1 (slice 8 32 l)
  let k : KeySlot := ⟨h.2.1, h.2.2.1, 5, h.2.2.2.1, key⟩
  if roleOf ses s < 4 || lifecycle s ≠ 1 then deny 0x080000A1 s
  else if !(n == h.1 && (h.2.1 == 1 || h.2.1 == 2) && (symmetricFits n h.2.2.1 || (n < 0xE0 && h.2.2.1 == 1)) && h.2.2.2.2 &&
      (h.2.1 == 2 || leNat (slice 24 16 l) == 0) && leNat (slice 44 84 l) == 0 && checkBytes k = slice 40 4 l) then deny 0x06090030 s
  else if slotInUse n s then deny 0x08000022 s
  else done (putKey n k 4 s)

/-- LOAD_WRAPPED_BLOB (R379). -/
def execLoadWrappedBlob (ses : Session) (s : State) : Res := .next (serve ses (loadBlob ses) s)

/-- IMPORT_PUBLIC_KEY (R379). -/
def execImportPublicKey (ses : Session) (s : State) : Res := .next (serve ses (importPublic ses) s)

/-- UNWRAP_SAK (R379). -/
def execUnwrapSak (ses : Session) (s : State) : Res := .next (serve ses (unwrapSak ses) s)

/-- ERASE_KEY (R379). -/
def execEraseKey (ses : Session) (s : State) : Res := .next (serve ses (eraseKey ses) s)

/-- CLEAR_IMPORT (R379). -/
def execClearImport (ses : Session) (s : State) : Res := .next (serve ses (clearImport ses) s)

/-- KEY_PARITY_ERROR (R378): a slot that holds a key is erased; a key of 0xE0–0xE4 comes again from OTP. -/
def execKeyParityError (slot : Fin 256) (s : State) : Res :=
  .next (
    let n := slot.val
    if keySlot n s = keySlot0 then s
    else refreshEval (fire 0xA6 n { s with crust := { s.crust with slots := tdel s.crust.slots n } }))

/-! ### Tests of the Crust (R381, R383) -/

/-- TRNG_HEALTH_FAILURE (R381): a continuous test fails; the Degrade reaction withdraws the TRNG. -/
def execTrngHealthFailure (s : State) : Res := .next (if trngWorks s then fire 0xA3 0 s else s)

/-- TRNG_START_UP_TEST (R381). -/
def execTrngStartUpTest (passed : Bool) (s : State) : Res :=
  .next (
    if reg 0x6000 8 s ≠ 0 then s
    else if passed then refreshEval (setReg 0x6000 8 1 s)
    else fire 0xA4 0 (setReg 0x6000 8 2 s))

/-- AUTH_UNIT_SELF_TEST (R383): a withdrawn unit rejoins at a passing test in Boot or Catch. -/
def execAuthUnitSelfTest (passed : Bool) (s : State) : Res :=
  .next (
    if !passed then (if s.crust.authWorking then fire 0xA5 0 s else s)
    else if s.dev = .boot || s.dev = .catch_ then { s with crust := { s.crust with authWorking := true } } else s)

/-! ### MACsec associations (R384–R386) -/

/-- The transmit AN of port p is written (R385). -/
def writeAn (p an : Nat) : Svc := notTerminal fun s => if an > 3 then deny 0x06090031 s else done (setReg (pM p) 9 an s)

/-- TRANSMIT_AN_WRITE (R385). -/
def execTransmitAnWrite (ses : Session) (port : Fin 16) (an : Byte) (s : State) : Res :=
  .next (serve ses (writeAn port.val an.toNat) s)

/-- The association that the record 0x6180 selects. -/
def saSelect (s : State) : Nat :=
  saKey (reg 0x6180 1 s) (reg 0x6180 2 s) (if reg 0x6180 2 s == 0 then 0 else reg 0x6180 3 s) (reg 0x6180 5 s)

/-- A command at 0x6180:0C is taken in Configure, Operate, Headless and Safe. -/
def saCommand (f : State → State) : Svc := fun s =>
  if s.dev = .configure || s.dev = .operate || s.dev = .headless || s.dev = .safe then done (setReg 0x6180 0x0C 2 (f s))
  else deny 0x08000022 s

/-- Command 0x01: the fields read the association. -/
def saRead : Svc := saCommand fun s =>
  let x := sa (saSelect s) s
  setReg 0x6180 4 x.sci (setReg 0x6180 6 x.slot (setReg 0x6180 7 x.nextPn (setReg 0x6180 8 x.ssci (setReg 0x6180 9 x.salt
    (setReg 0x6180 0x0A (b2n x.enabled) (setReg 0x6180 0x0B x.lowest s))))))

/-- Command 0x02: the association takes the fields, and a receive SA accepts packets from its PN on. An enabled one needs a slot with usage
SAK (R378) and a PN within its suite. -/
def saWrite : Svc := fun s =>
  let p := reg 0x6180 1 s
  let on := reg 0x6180 0x0A s == 1
  let pn := reg 0x6180 7 s
  if on && !bit (keySlot (reg 0x6180 6 s) s).usage 0 then deny 0x080000A4 s
  else if pn > pnMax p s then deny 0x06090031 s
  else saCommand (fun s => setSa (saSelect s) ⟨reg 0x6180 4 s, reg 0x6180 6 s, pn, reg 0x6180 8 s, reg 0x6180 9 s, on, pn⟩ s) s

/-- SA_READ (R385). -/
def execSaRead (ses : Session) (s : State) : Res := .next (serve ses saRead s)

/-- SA_WRITE (R385). -/
def execSaWrite (ses : Session) (s : State) : Res := .next (serve ses saWrite s)

/-- PN_EXHAUSTION (R385): the transmit SA has reached its warning level. -/
def execPnExhaustion (port : Fin 16) (s : State) : Res :=
  .next (
    let p := port.val
    if macsecOn p s && (sa (txSa p s) s).nextPn ≥ (if isXpn p s then 2 ^ 62 else 0xC0000000) then hostEvent 4 s else s)

/-- MKA commands end with 2 or 3 (0x6030:06). -/
def mkaCommand (f : Svc) : Svc := notTerminal fun s =>
  let r := f s
  (setReg 0x6030 6 (if r.2 == 0 then 2 else 3) r.1, r.2)

/-- Command 0x01: KEK and ICK are derived from the CAK, labelled by their use, with the CKN of :04 (R386). -/
def deriveKeys : Svc := mkaCommand fun s =>
  let cak := keySlot (reg 0x6030 3 s) s
  let a := reg 0x6030 1 s
  let b := reg 0x6030 2 s
  if !bit cak.usage 1 || !(cak.type == 1 || cak.type == 2) then deny 0x06090030 s
  else if slotInUse a s || slotInUse b s || saUses a s || saUses b s then deny 0x08000022 s
  else
    let ckn := leBytes 1500 (reg 0x6030 4 s)
    let key (l : Nat) : KeySlot := ⟨cak.type, 2, 0, false, Config.kdf cak.value (leBytes 1 l ++ ckn)⟩
    done { s with crust := { s.crust with slots := tset keySlot0 (tset keySlot0 s.crust.slots a (key 0)) b (key 1) } }

/-- Command 0x02: the ICV of the bytes of :04 under the ICK. -/
def computeIcv : Svc := mkaCommand fun s =>
  if !bit (keySlot (reg 0x6030 2 s) s).usage 1 then deny 0x06090030 s
  else done (setReg 0x6030 5 (leNat (macBytes (reg 0x6030 2 s) 16 (leBytes 1500 (reg 0x6030 4 s)) s)) s)

/-- DERIVE_KEK_ICK (R386). -/
def execDeriveKekIck (ses : Session) (s : State) : Res := .next (serve ses deriveKeys s)

/-- COMPUTE_ICV (R386). -/
def execComputeIcv (ses : Session) (s : State) : Res := .next (serve ses computeIcv s)

/-! ### The sealed log (R393–R396) -/

/-- A record enters the ring of 4,096 in flash; the oldest leaves it, and is counted if it was not acknowledged (R395). -/
def flashRecord (r : SealedRec) (s : State) : State :=
  let l := s.crust.flash
  if l.length < 4096 then { s with crust := { s.crust with flash := l ++ [r] } }
  else
    let lost := match l.head? with
      | some o => decide (o.counter > reg 0x6040 5 s)
      | none => false
    let s := { s with crust := { s.crust with flash := l.drop (l.length - 4095) ++ [r] } }
    if lost then count 0x6040 6 { s with crust := { s.crust with overwritten := s.crust.overwritten + 1 } } else s

/-- SEALED_RECORD_WRITE (R393): the oldest queued record is written to flash, once firmware runs. -/
def execSealedRecordWrite (s : State) : Res :=
  .next (
    match s.crust.queue with
    | [] => s
    | r :: t => if s.access.coreUp then flashRecord r { s with crust := { s.crust with queue := t } } else s)

/-- Acknowledgement through a counter (R395). -/
def acknowledge (ses : Session) (n : Nat) : Svc := notTerminal (needRole ses 2 fun s =>
  if n < reg 0x6040 5 s then deny 0x06090032 s
  else
    let s := setReg 0x6040 5 n s
    let k := s.crust.overwritten
    done (sealRecord 0x0011 (roleOf ses s) [n, k] { s with crust := { s.crust with overwritten := 0 } }))

/-- LOG_ACKNOWLEDGE (R395). -/
def execLogAcknowledge (ses : Session) (through : Fin 18446744073709551616) (s : State) : Res :=
  .next (serve ses (acknowledge ses through.val) s)

/-- Records a to b stand in flash: the oldest held is not above a, and b is not above the newest (R396, R404). -/
def rangeHeld (a b : Nat) (s : State) : Bool :=
  match s.crust.flash.head?, s.crust.flash.getLast? with
  | some o, some n => o.counter ≤ a && a ≤ b && b ≤ n.counter
  | _, _ => false

/-- Export begins (R396). -/
def exportLog (ses : Session) : Svc := notTerminal (needRole ses 1 fun s =>
  if s.crust.exporting.isSome then deny 0x08000022 s
  else if !rangeHeld (reg 0x6040 8 s) (reg 0x6040 9 s) s then deny 0x06090031 (setReg 0x6040 0x0B 3 s)
  else done (setReg 0x6040 0x0B 1 { s with crust := { s.crust with exporting := some (reg 0x6040 8 s, reg 0x6040 9 s) } }))

/-- LOG_EXPORT (R396). -/
def execLogExport (ses : Session) (s : State) : Res := .next (serve ses (exportLog ses) s)

/-- LOG_EXPORT_COMPLETE (R396, R404): SHA-384 over the records in counter order, and its signature under slot 0xE4. -/
def execLogExportComplete (s : State) : Res :=
  .next (
    match s.crust.exporting with
    | none => s
    | some (a, b) =>
      let s := { s with crust := { s.crust with exporting := none } }
      if !rangeHeld a b s then setReg 0x6040 0x0B 3 s
      else
        let l := (s.crust.flash.filter fun r => a ≤ r.counter && r.counter ≤ b).flatMap recBytes
        let d := Config.sha384 l
        setReg 0x6040 0x0B 2 (setReg 0x6040 0x0A
          (leNat (beBytes 48 d ++ beBytes 96 (Config.ecdsaSign (slotValue 0xE4 s) d))) s))

/-! ### Module binding (R398) -/

/-- A binding command, while the port has a valid record. -/
def bindCommand (ses : Session) (p : Nat) (f : State → State) : Svc := notTerminal (needRole ses 2 fun s =>
  if reg (pI p) 4 s == 2 || reg (pI p) 4 s == 3 then done (f s) else deny 0x08000022 s)

def bindModule (ses : Session) (p : Nat) : Svc := bindCommand ses p fun s =>
  let d := recDigest (reg (pI p) 5 s)
  let s := { s with crust := { s.crust with bound := tset 0 s.crust.bound p (d + 1) } }
  let s := setReg (0x6050 + p) 3 (time80 (nowNs s)) (setReg (0x6050 + p) 2 (leNat (beBytes 32 d)) (setReg (0x6050 + p) 1 1 s))
  setReg (pI p) 6 1 (sealRecord 0x000F (roleOf ses s) [p, d / 2 ^ 192, d / 2 ^ 128 % 2 ^ 64, d / 2 ^ 64 % 2 ^ 64, d % 2 ^ 64] s)

def unbindModule (ses : Session) (p : Nat) : Svc := bindCommand ses p fun s =>
  let d := tget 0 s.crust.bound p - 1
  let s := { s with crust := { s.crust with bound := tset 0 s.crust.bound p 0 } }
  let s := setReg (0x6050 + p) 3 0 (setReg (0x6050 + p) 2 0 (setReg (0x6050 + p) 1 0 s))
  setReg (pI p) 6 0 (sealRecord 0x000F (roleOf ses s) [p, d / 2 ^ 192, d / 2 ^ 128 % 2 ^ 64, d / 2 ^ 64 % 2 ^ 64, d % 2 ^ 64] s)

/-- MODULE_BIND (R398). -/
def execModuleBind (ses : Session) (port : Fin 16) (s : State) : Res := .next (serve ses (bindModule ses port.val) s)

/-- MODULE_UNBIND (R398). -/
def execModuleUnbind (ses : Session) (port : Fin 16) (s : State) : Res := .next (serve ses (unbindModule ses port.val) s)

/-! ### Tamper sensors (R399, R400), the TAP (R492) and OTP (R373) -/

/-- Response code of a sensor; the mesh has its fixed one. -/
def tamperResponse (k : Nat) (s : State) : Nat := if k == 3 then 2 else reg 0x6060 (k + 1) s

/-- Response 2 erases the volatile slots and every credential; persistent slots are not restored until a power cycle (R399). -/
def tamperErase (s : State) : State :=
  { s with crust := { s.crust with
      slots := s.crust.slots.filter fun kv => kv.2.persistent
      roles := [], challenges := [], noRestore := true } }

/-- A tamper event acts (R399). -/
def tamper (k : Nat) (s : State) : State :=
  let r := tamperResponse k s
  let s := setReg 0x6060 5 (time80 (nowNs s)) (count 0x6060 4 s)
  let s := setReg 0x6000 4 (setField (reg 0x6000 4 s) k 1 1) s
  let s := sealRecord 0x000A 0 [k, r] s
  refreshEval (fire (0xAC + k) k (if r == 2 then tamperErase s else s))

/-- TAMPER_EVENT (R399, R400): in sleep only the voltage sensor of VDD_AON runs, and its event is latched. -/
def execTamperEvent (sensor : Fin 4) (s : State) : Res :=
  .next (
    if s.power.sleep == 0 then tamper sensor.val s
    else if sensor.val == 0 then { s with crust := { s.crust with aonTamper := true } } else s)

/-- Latched tamper bits are cleared (0x6000:04). -/
def tamperClear (ses : Session) (v : Nat) : Svc := notTerminal (needRole ses 2 fun s =>
  if v ≥ 16 then deny 0x06090030 s else done (setReg 0x6000 4 (Nat.land (reg 0x6000 4 s) (15 - v)) s))

/-- TAMPER_LATCH_CLEAR (R399). -/
def execTamperLatchClear (ses : Session) (bits : Byte) (s : State) : Res := .next (serve ses (tamperClear ses bits.toNat) s)

/-- JTAG_INSTRUCTION (R492): while JTAG is locked only IDCODE and BYPASS are accepted. IDCODE shifts out the revision, the part number and a
manufacturer code that the spec does not give. -/
def execJtagInstruction (instruction : JtagInstr) (s : State) : Res :=
  .next (
    match instruction with
    | .idcode => emit (.tdo (0xB * 2 ^ 28 + 0x9420 * 2 ^ 12 + Config.freeFun 2 [] % 2 ^ 11 * 2 + 1)) s
    | .bypass => s
    | .other => if reg 0x6000 2 s == 1 then fire 0xB0 0 (sealRecord 0x0014 0 [] s) else s)

/-- The lifecycle moves by one (R373): Field locks JTAG; the move to Provisioned generates the
attestation key, which a withdrawn TRNG refuses (R377, R381); retirement erases every slot and every credential, once its record is
written. -/
def moveLifecycle (ses : Session) (t : Nat) : Svc := notTerminal fun s =>
  let old := lifecycle s
  if roleOf ses s < (if old == 2 then 3 else 4) then deny 0x080000A1 s
  else if t ≠ old + 1 then deny 0x06090030 s
  else if t == 1 && !trngWorks s then deny 0x06060000 s
  else
    let s := sealRecord 0x0013 (roleOf ses s) [old, t] s
    let s := setReg 0x6000 1 t s
    let s := if t == 2 then setReg 0x6000 2 1 s else s
    let s := if t == 3 then { s with crust := { s.crust with slots := [], stored := [], roles := [], challenges := [] } } else s
    done (refreshEval s)

/-- LIFECYCLE_TRANSITION (R373). -/
def execLifecycleTransition (ses : Session) (target : Fin 4) (s : State) : Res := .next (serve ses (moveLifecycle ses target.val) s)

/-- A revocation bit is set (R373); the root hashes stand in OTP from Provisioned on. -/
def revokeRoot (ses : Session) (k : Nat) : Svc := notTerminal (needRole ses 3 fun s =>
  if lifecycle s == 0 then deny 0x08000022 s
  else done { s with crust := { s.crust with revoked := setField s.crust.revoked k 1 1 } })

/-- ROOT_KEY_REVOCATION (R373). -/
def execRootKeyRevocation (ses : Session) (key : Fin 4) (s : State) : Res := .next (serve ses (revokeRoot ses key.val) s)

end Sys2Proof.Machine
end

