-- ==== Sys2Proof/Machine/Egress.lean ====
section
/-!
DEFINITION. Egress.lean: transmission selection, shapers and fair queuing (R127–R135), the closing rule (R153, R154), preemption
and hold (R159–R164), and the end of a transmission (R98–R100, R104).
-/
namespace Sys2Proof.Machine

/-! ### Lengths and rates -/

/-- Outputs are held in their safe state (R415, R416). -/
def outputsSafe (s : State) : Bool := s.faults.forced || s.dev = .safe || s.dev = .terminal

/-- Frame length with FCS as a copy leaves port p: padded, and protected where MACsec is on (R67, R386). -/
def sendLen (p : Nat) (c : Copy) (s : State) : Nat := max 60 c.data.length + secAdd p s + 4

/-- The length of a copy's frame is not known yet (R130). -/
def lengthOpen (c : Copy) (s : State) : Bool := c.cut && decide (monoNs s < c.endAt)

/-- L_wire at a test (R129, R130, R153): the provisional length while the length is not known. -/
def wireLen (p : Nat) (c : Copy) (s : State) : Nat :=
  if lengthOpen c s then maxFrame s.cfg (((frameOf c.frame s).map (·.port)).getD p) + 20 else sendLen p c s + 20

/-- ns that n bytes take at a rate in Mbit/s, rounded up. -/
def wireNs (n rate : Nat) : Nat := if rate = 0 then 0 else ceilDiv (n * 8000) rate

/-- Head copy of a queue. -/
def headOf (p q : Nat) (s : State) : Option Copy := s.buf.copies.find? fun c => c.port == p && c.queue == q

/-- A copy leaves its queue. -/
def takeCopy (c : Copy) (s : State) : State := { s with buf := { s.buf with copies := s.buf.copies.erase c } }

/-! ### Preemption -/

/-- Queue q of port p is preemptable and preemption is active (R159). -/
def preemptable (p q : Nat) (s : State) : Bool := preemptActive p s && bit (cfg (0x3580 + p) 2 s) q

/-- Shortest fragment of port p (R161). -/
def fragMin (p : Nat) (s : State) : Nat := 64 * (1 + cfg (0x3580 + p) 3 s)

/-- Bytes of the fragment in progress on port p. -/
def fragSent (p : Nat) (s : State) : Nat := (wall s - (egr p s).txAt) * portRate p s / 8000

/-- The frame in transmission is at a permitted point (R161). -/
def atPoint (p : Nat) (c : Copy) (s : State) : Bool :=
  let n := fragSent p s
  decide (n ≥ fragMin p s) && decide ((egr p s).sent + n + 64 ≤ c.data.length + 4)

/-- The frame in transmission is preempted at a permitted point (R161, R162). -/
def preempt (p : Nat) (s : State) : State :=
  match (egr p s).cur with
  | none => s
  | some c =>
    if preemptable p c.queue s && (egr p s).preempted.isNone && atPoint p c s then
      let e := egr p s
      let s := count (0x3580 + p) 9 s
      let s := if e.sent == 0 then count (0x3580 + p) 0x0A s else s
      setEgr p { e with cur := none, sent := 0, preempted := some c, preSent := e.sent + fragSent p s } s
    else s

/-! ### Gates -/

/-- n bytes on the wire fit before queue q's gate closes (R153). -/
def fitsGate (p q n : Nat) (s : State) : Bool :=
  match tClose p q (nowNs s) s with
  | none => true
  | some t => decide (nowNs s + 30 + wireNs n (portRate p s) ≤ t)

/-- The head frame satisfies the closing rule, or is preemptable and its first fragment does (R153, R163). -/
def closingRule (p : Nat) (c : Copy) (s : State) : Bool :=
  fitsGate p c.queue (wireLen p c s) s ||
    (preemptable p c.queue s && fitsGate p c.queue (fragMin p s + 20) s && decide (sendLen p c s ≥ fragMin p s + 64))

/-- The head frame never fits its longest window (R154). -/
def neverFits (p : Nat) (c : Copy) (s : State) : Bool :=
  match longestWindow p c.queue s with
  | none => false
  | some w => decide (w < 30 + wireNs (wireLen p c s) (portRate p s))

/-- Head frames that no window holds are dropped at dequeue (R154). -/
def dropOversize : Nat → Nat → Nat → State → State
  | 0, _, _, s => s
  | n + 1, p, q, s =>
    match headOf p q s with
    | none => s
    | some c =>
      if neverFits p c s then dropOversize n p q (reap c.frame (count (0x3500 + p) 0x10 (takeCopy c s))) else s

/-! ### Credits (R133–R135) -/

/-- Queue q of port p is shaped. -/
def shaped (p q : Nat) (s : State) : Bool := p < 30 && bit (cfg (0x34C0 + p) 1 s) q

/-- Idle slope in use, kbit/s: scaled where the sum exceeds the operating rate (R135). -/
def idleSlope (p q : Nat) (s : State) : Nat :=
  let x := cfg (0x34C0 + p) (2 + q) s
  if bit (reg (0x3480 + p) 0x0B s) 0 then x * (1000 * portRate p s) / max 1 (slopeSum s.cfg p) else x

def creditOf (p q : Nat) (s : State) : Int := tget 0 (egr p s).credit q

/-- Credit of queue q after dt ns in the present conditions (R133), in 10⁻⁶ bit. -/
def creditAfter (p q dt : Nat) (s : State) : Int :=
  let e := egr p s
  let c := creditOf p q s
  let sending := (e.cur.toList ++ e.preempted.toList).any fun x => x.queue == q
  let up : Int := (idleSlope p q s * dt : Nat)
  if !portUp p s then 0
  else if sending then c + up - (1000 * portRate p s * dt : Nat)
  else if (headOf p q s).isNone && c > 0 then 0
  else if !gateOpen p q s then c
  else if (headOf p q s).isNone then min 0 (c + up)
  else min ((cfg (0x34C0 + p) (0x0A + q) s * 1000000 : Nat) : Int) (c + up)

/-- Credits of port p after dt ns. -/
def creditStep (dt p : Nat) (s : State) : State :=
  if p ≥ 30 then s
  else
    each (List.range 8) (fun q t =>
      if shaped p q s then setEgr p { egr p t with credit := tset 0 (egr p t).credit q (creditAfter p q dt s) } t else t) s

/-- Credits of every port on which something is queued, sent or owed. -/
def creditsStep (dt : Nat) (s : State) : State :=
  let ports := (s.egress.map (·.1)).foldl (fun l p => setIns p l) (s.buf.copies.foldl (fun l c => setIns c.port l) [])
  each ports (creditStep dt) s

/-! ### Eligibility and choice (R127–R130) -/

/-- Queue q of port p is eligible. -/
def eligible (p q : Nat) (s : State) : Bool :=
  match headOf p q s with
  | none => false
  | some c =>
    gateOpen p q s && closingRule p c s && (!shaped p q s || decide (creditOf p q s ≥ 0)) &&
      !(preemptable p q s && (holdInForce p s || (egr p s).preempted.isSome))

/-- The preempted frame of port p may resume: its gate is open, a fragment fits, no hold is in force (R162, R163). -/
def resumable (p : Nat) (s : State) : Bool :=
  match (egr p s).preempted with
  | none => false
  | some c =>
    gateOpen p c.queue s && !holdInForce p s &&
      fitsGate p c.queue (min (fragMin p s) (sendLen p c s - (egr p s).preSent) + 20) s

/-- Finish tag of queue q's head (R129, R130). -/
def finishTag (p q : Nat) (c : Copy) (s : State) : Nat :=
  let S := tget 0 (egr p s).start q - 1
  (S + ceilDiv (wireLen p c s * 1024) (max 1 (cfg (0x3480 + p) (3 + q) s))) % 2 ^ 40

/-- The eligible weighted queue with the smallest finish tag, the higher number on a tie. -/
def chooseWeighted (p : Nat) (s : State) : Option Nat :=
  (List.range (8 - strictK p s)).foldl (fun a q =>
    match headOf p q s with
    | none => a
    | some c =>
      if !eligible p q s then a
      else
        match a with
        | none => some q
        | some r =>
          let fr := match headOf p r s with
            | some d => finishTag p r d s
            | none => 0
          if tagDiff (finishTag p q c s) fr ≤ 0 then some q else a) none

/-- The queue that port p serves next. -/
def chooseQueue (p : Nat) (s : State) : Option Nat :=
  match ((List.range 8).filter fun q => !weighted p q s && eligible p q s).getLast? with
  | some q => some q
  | none => chooseWeighted p s

/-- Tags after the head c of weighted queue q has been selected (R129, R130). -/
def tagSelected (p q : Nat) (c : Copy) (s : State) : State :=
  if !weighted p q s then s
  else
    let e := egr p s
    let f := finishTag p q c s
    let more := s.buf.copies.any fun x => x.port == p && x.queue == q && x ≠ c
    setEgr p { e with
      v := f, fin := tset 0 e.fin q f, start := tset 0 e.start q (if more then f + 1 else 0)
      fix := if lengthOpen c s then some (q, tget 0 e.start q - 1) else none } s

/-- Tags that stood on a provisional length are recomputed from the actual one (R130). -/
def tagFix (p : Nat) (c : Copy) (s : State) : State :=
  let e := egr p s
  match e.fix with
  | none => s
  | some (q, S) =>
    let f := (S + ceilDiv ((sendLen p c s + 20) * 1024) (max 1 (cfg (0x3480 + p) (3 + q) s))) % 2 ^ 40
    setEgr p { e with
      fix := none, fin := tset 0 e.fin q f, start := if tget 0 e.start q = 0 then e.start else tset 0 e.start q (f + 1) } s

/-! ### Selection -/

/-- Copy c begins transmission on port p (R127, R147): padded, then protected; a frame that MACsec does not let out is dropped. -/
def beginFrame (p : Nat) (c : Copy) (s : State) : Bool × State :=
  let s := takeCopy c (tagSelected p c.queue c s)
  let s := raise (0x7400 + p) (9 + c.queue) (monoGrains s - c.since) s
  let d := if c.data.length < 60 then fit 60 c.data else c.data
  match secTransmit p d s with
  | (none, s) => (false, reap c.frame s)
  | (some d, s) =>
    (true, setEgr p { egr p s with cur := some { c with data := d }, txAt := wall s, sent := 0, overrun := false } s)

/-- Selection among the queues, until a frame begins (R127, R128). -/
def selectFrame : Nat → Nat → State → State
  | 0, _, s => s
  | n + 1, p, s =>
    match chooseQueue p s with
    | none => s
    | some q =>
      match headOf p q s with
      | none => s
      | some c =>
        let r := beginFrame p c s
        if r.1 then r.2 else selectFrame n p r.2

/-- An express queue of port p is eligible. -/
def expressEligible (p : Nat) (s : State) : Bool := (List.range 8).any fun q => !preemptable p q s && eligible p q s

/-- The preempted frame resumes (R162). -/
def resumeFrame (p : Nat) (s : State) : State :=
  let e := egr p s
  setEgr p { e with cur := e.preempted, preempted := none, txAt := wall s, sent := e.preSent, preSent := 0 } s

/-- Frames queued for a port that is down, or whose outputs are safe, are dropped at dequeue (R62, R416). -/
def dropQueued (p : Nat) (s : State) : State :=
  let l := s.buf.copies.filter fun c => c.port == p
  flushPort p (countBy 4 (pC p) 0x0A l.length s)

/-- Port p is free, or its frame can be preempted: the next frame is selected (R127, R159–R164). -/
def selection (p : Nat) (s : State) : State :=
  if !portUp p s || (p < 30 && outputsSafe s) then dropQueued p s
  else
    let s := if (egr p s).cur.isSome && (expressEligible p s || holdInForce p s) then preempt p s else s
    if (egr p s).cur.isSome then s
    else
      let s := each (List.range 8) (dropOversize s.buf.copies.length p) s
      if !expressEligible p s && resumable p s then resumeFrame p s
      else selectFrame (s.buf.copies.length + 1) p s

/-- TRANSMISSION_SELECTION (R127–R135, R147, R153, R154). -/
def execTransmissionSelection (port : Fin 33) (s : State) : Res := .next (settle 4 (selection port.val s))

/-! ### The end of a transmission -/

/-- An error that the memory shows in an ell of frame f (R104): stomp code it brings, 0 none, 12 a stomp that 0x3060 does not count. -/
def ellError (f : Nat) (x : EllError) (s : State) : Nat × State :=
  match frameOf f s with
  | none => (0, s)
  | some fr =>
    let at_ (n : Nat) : Option Nat := (fr.ells.drop n).head?
    match x with
    | .corrected n =>
      match at_ n with
      | none => (0, s)
      | some e =>
        let s := fire 0x00 0 (count 0x3400 7 s)
        (0, if s.buf.corrected.contains e then { s with buf := { s.buf with doomed := setIns e s.buf.doomed } }
          else { s with buf := { s.buf with corrected := setIns e s.buf.corrected } })
    | .data n =>
      match at_ n with
      | none => (0, s)
      | some e => (6, fire 0x01 0 (count 0x3400 8 { s with buf := { s.buf with doomed := setIns e s.buf.doomed } }))
    | .metadata n =>
      match at_ n with
      | none => (0, s)
      | some e =>
        let s := fire 0x01 0 (retireEll e (count 0x3400 8 s))
        (12, setFrame { fr with ells := fr.ells.take n }
          { s with buf := { s.buf with orphans := s.buf.orphans ++ fr.ells.drop (n + 1) } })

/-- Every error of the frame's ells; the first stomp code stands. -/
def ellErrors (f : Nat) : List EllError → Nat → State → Nat × State
  | [], k, s => (k, s)
  | x :: t, k, s =>
    let r := ellError f x s
    ellErrors f t (if k ≠ 0 then k else r.1) r.2

/-- Whether frame f still waits for its verdict (R98). -/
def verdictOpen (f : Nat) (s : State) : Bool := ((frameOf f s).map fun x => !x.released).getD false

/-- Where the frame of a port goes at its end (R5, R258): the wire, the management core, or the unpackers of the Braider. -/
def deliver (p : Nat) (c : Copy) (stomped : Bool) (s : State) : State :=
  if p < 30 then emit (.eth p c.data stomped) s
  else if stomped then s
  else if p == 31 then emit (.toCore c.data) s
  else if p == 32 then
    let f := frameOf c.frame s
    { s with braid := { s.braid with
        unpack := s.braid.unpack ++ [⟨c.data, (f.map (·.port)).getD 0, (f.map (·.stamp)).getD (nowNs s)⟩] } }
  else s

/-- The MAC of port p ends the frame with its FCS or the stomp, and counts it (R68, R98, R100): whether it is stomped. -/
def closeFrame (p : Nat) (c : Copy) (seen : TxEnd) (s : State) : Bool × State :=
  let s := tagFix p c s
  let r := ellErrors c.frame seen.ells 0 s
  let k := if c.stomp ≠ 0 then 0
    else if r.1 ≠ 0 then r.1
    else if c.rewrite && seen.rewriteParity then 9
    else if verdictOpen c.frame r.2 then 8 else 0
  let s := countStomp k r.2
  let bad := c.stomp ≠ 0 || k ≠ 0
  let s := if bad then count (pC p) 9 s else countBy 8 (pC p) 8 (c.data.length + 4) (countBy 8 (pC p) 7 1 s)
  (bad, if (egr p s).sent ≠ 0 then count (0x3580 + p) 9 s else s)

/-- The frame that port p has sent is delivered, and the port is free. -/
def endFrame (p : Nat) (c : Copy) (seen : TxEnd) (s : State) : State :=
  let r := closeFrame p c seen s
  let s := deliver p c r.1 r.2
  let s := setEgr p { egr p s with cur := none, sent := 0, overrun := false } s
  let s := reap c.frame s
  if p < 30 && (prt p s).retrain then dropAtBoundary p s else s

/-- FRAME_TRANSMIT_END (R61, R98–R100, R104): the frame in transmission ends. Port 30 hands its frames to the receive rings of the
DMA engine. -/
def execFrameTransmitEnd (port : Fin 33) (seen : TxEnd) (s : State) : Res :=
  .next (
    match (egr port.val s).cur with
    | none => s
    | some c => if port.val == 30 then s else settle 4 (endFrame port.val c seen s))

/-! ### Gate entries and hold -/

/-- A frame on port p is still being transmitted although its gate is closed (R154, R158, R163): a preemptable one ends its
fragment, another is counted once. -/
def closedUnder (p : Nat) (s : State) : State :=
  let e := egr p s
  match e.cur with
  | none => s
  | some c =>
    if gateOpen p c.queue s then s
    else if p < 16 && preemptable p c.queue s then preempt p s
    else if e.overrun then s
    else count (0x3500 + p) 0x11 (setEgr p { e with overrun := true } s)

/-- GATE_ENTRY_CHANGE (R150–R154, R163): the list of a port reaches its entry of the present time. -/
def execGateEntryChange (port : Fin 22) (s : State) : Res :=
  .next (
    let p := port.val
    if !(listsRun s && gated p s) then s
    else
      match (gateOf p s).oper with
      | none => s
      | some l => closedUnder p (setReg (0x3500 + p) 0x0E (entryAt l (nowNs s)).1 s))

/-- HOLD_ASSERT (R164): a Set-And-Hold-MAC entry, less the hold advance; a preemptable frame in progress is preempted. -/
def execHoldAssert (port : Fin 16) (s : State) : Res :=
  .next (
    let p := port.val
    if listsRun s && gated p s && reg (0x3580 + p) 8 s == 0 && holdEntry p 1 (cfg (0x3500 + p) 7 s) s then
      preempt p (holdOn p s)
    else s)

/-- Frames that have been released and that nothing holds leave the buffer (R106, R117). -/
def sweep (s : State) : State := each (s.buf.frames.map (·.id)) reap s

end Sys2Proof.Machine
end

