-- ==== Sys2Proof/Machine/Dma.lean ====
section
/-!
DEFINITION. Dma.lean: rings, descriptors, receive and transmit channels, write-back and stopping (R355–R363, R366–R371, R122).
-/
namespace Sys2Proof.Machine

/-! ### Descriptors (R358–R360) -/

/-- Bytes 16–18 of a descriptor: buffer length or byte count. -/
def dLen (d : Bytes) : Nat := leNat (slice 16 3 d)

def dEof (d : Bytes) : Bool := bit (byteAt d 20) 2

/-- A descriptor that is refused before any data moves: a reserved bit, a width code above 5, a short buffer (R359). -/
def dRefused (kind : Nat) (d : Bytes) : Bool :=
  let f := byteAt d 22
  let ends (o : Nat) (dev : Bool) : Bool := dev && leNat (slice (o + 5) 3 d) ≠ 0
  byteAt d 19 ≠ 0 || byteAt d 20 / 8 ≠ 0 || byteAt d 23 ≠ 0 ||
    (if kind == 3 then
      bit (byteAt d 20) 2 || byteAt d 21 % 16 > 5 || byteAt d 21 / 16 > 5 || f / 16 ≠ 0 || ends 0 (bit f 0) || ends 8 (bit f 1) || dLen d == 0
    else leNat (slice 8 8 d) ≠ 0 || byteAt d 21 ≠ 0 || f ≠ 0 || dLen d < 64)

/-- Descriptors of the ring that are taken in and not yet passed, and the index of the next one to read. -/
def inHand (n : Nat) (s : State) : Nat := (dma n s).fetched.length + (dma n s).ended.length

def readIdx (n : Nat) (s : State) : Nat := (reg (dP n) 0x0B s + inHand n s) % ringSize n s

/-- The phase that is expected of the descriptor k places after the next one to read (R360). -/
def phaseAt (n k : Nat) (s : State) : Bool :=
  if reg (dP n) 0x0B s + inHand n s + k ≥ ringSize n s then !(dma n s).phase else (dma n s).phase

/-- The channel reads and moves data: running, a leader, with the host within reach (R331, R355). -/
def dmaRuns (n : Nat) (s : State) : Bool := chState n s == 2 && leader n s == n && dmaKind n s ≠ 0 && bar0Up s

/-- A descriptor ends. -/
def dmaEnd (n : Nat) (f : Nat × Bytes) (moved status : Nat) (eof : Bool) (s : State) : State :=
  setDma n { dma n s with ended := (dma n s).ended ++ [⟨f.1, f.2, moved, status, eof⟩] } s

/-- Descriptors with refused fields end as they come to the front of those in hand (R359). -/
def refuseHeads (n : Nat) : Nat → State → State
  | 0, s => s
  | k + 1, s =>
    match (dma n s).fetched with
    | [] => s
    | f :: t =>
      if dRefused (dmaKind n s) f.2 then
        refuseHeads n k (dmaEnd n f 0 8 false (setDma n { dma n s with fetched := t } s))
      else s

/-- Descriptors that the channel has read are taken in up to the first with the wrong phase, which it will read again (R360). -/
def takeDescs (n : Nat) : List Bytes → State → State
  | [], s => s
  | d :: t, s =>
    if bit (byteAt d 20) 0 == phaseAt n 0 s then
      takeDescs n t (setDma n { dma n s with fetched := (dma n s).fetched ++ [(readIdx n s, d)], rereads := 0 } s)
    else setDma n { dma n s with rereads := max 1 (dma n s).rereads, readAt := wall s } s

/-- A byte string in pieces of 32. -/
def pieces32 : Nat → Bytes → List Bytes
  | 0, _ => []
  | n + 1, l => if l.isEmpty then [] else l.take 32 :: pieces32 n (l.drop 32)

/-- DESCRIPTOR_FETCH (R360): up to 8 descriptors within the posted range. `bytes`: what host memory holds there. -/
def execDescriptorFetch (channel : Fin 64) (bytes : List Byte) (s : State) : Res :=
  .next (
    let n := channel.val
    let k := bytes.length / 32
    if dmaRuns n s && (dma n s).rereads == 0 && bytes.length % 32 == 0 && 1 ≤ k && k ≤ 8 && k + inHand n s ≤ posted n s &&
        readIdx n s + k ≤ ringSize n s then
      let s := emit (.hostRead (reg (dP n) 6 s + 32 * readIdx n s) bytes.length) s
      let s := takeDescs n (pieces32 8 bytes) s
      refuseHeads n (dma n s).fetched.length s
    else s)

/-- The phase still differs after the fourth repeated read: the channel stops at the descriptor (R360). -/
def notReady (n : Nat) (s : State) : State :=
  let s := setDma n { dma n s with rereads := 0 } s
  dmaStop n 4 true (cause n 2 (count (dP n) 0x14 s))

/-- PHASE_REREAD (R360): 1 µs after the last read; at the fourth the channel stops, once the descriptors before it have ended. -/
def execPhaseReread (channel : Fin 64) (bytes : List Byte) (s : State) : Res :=
  .next (
    let n := channel.val
    let x := dma n s
    if dmaRuns n s && x.rereads ≠ 0 && bytes.length == 32 && due x.readAt 1000 s then
      let ok := bit (byteAt bytes 20) 0 == phaseAt n 0 s
      if !ok && x.rereads == 4 && inHand n s ≠ 0 then s
      else
        let s := emit (.hostRead (reg (dP n) 6 s + 32 * readIdx n s) 32) s
        if ok then
          let s := takeDescs n [bytes] s
          refuseHeads n (dma n s).fetched.length s
        else if x.rereads == 4 then notReady n s
        else setDma n { x with rereads := x.rereads + 1, readAt := wall s } s
    else s)

/-- DESCRIPTOR_WRITE_BACK (R361, R366): the oldest descriptor that has ended is written back, in ring order; a PCIe error, and an integrity
error on a copy, stop the channel after it. An abort comes to its end. -/
def execDescriptorWriteBack (channel : Fin 64) (s : State) : Res :=
  .next (
    let n := channel.val
    if leader n s ≠ n || !bar0Up s then s
    else if chState n s == 3 then dmaHalt n 2 true s
    else if chState n s ≠ 2 then s
    else
      match (dma n s).ended with
      | [] => s
      | e :: _ =>
        let s := writeBackNext n e s
        if e.status == 9 || (e.status == 5 && dmaKind n s == 3) then
          dmaStop n e.status true (setDma n { dma n s with fetched := [], ended := [], rereads := 0 } s)
        else s)

/-! ### Doorbell and control (R356, R357, R366, R367) -/

/-- DMA_DOORBELL (R357): a write to the hot register or to the object; the index is its low half. -/
def execDmaDoorbell (channel : Fin 64) (value : Fin 4294967296) (s : State) : Res :=
  .next (serveHot false (fun s => if value.val ≥ 65536 then deny 0x06090030 s else done (doorbell channel.val value.val s)) s)

/-- A control command of channel n: only the leader's is used (R356). -/
def dmaControl (n : Nat) (f : Svc) : Svc := notTerminal fun s => if leader n s ≠ n then done (cause n 3 s) else f s

/-- After a control command the object reads 2 (R30). -/
def dmaDone (n : Nat) (s : State) : State := setReg (dP n) 0x0C 2 s

/-- Start (R366, R367, R369, R370). -/
def dmaStart (n : Nat) : Svc := dmaControl n fun s =>
  if chState n s == 2 then done (dmaDone n s)
  else if chState n s ≠ 1 || dmaKind n s == 0 || s.dev = .safe then deny 0x08000022 s
  else done (dmaDone n (setGang n 2 s))

/-- Abort of a solo channel (R366): while a descriptor is read again nothing is written back (R370). -/
def dmaAbort (n : Nat) : Svc := notTerminal fun s =>
  if gangSize n s > 1 then deny 0x06090030 s
  else if chState n s ≠ 2 then deny 0x08000022 s
  else if inHand n s == 0 then done (dmaDone n (dmaStop n 2 true (dropRest n (setDma n { dma n s with rereads := 0 } s))))
  else done (dmaDone n (setChState n 3 s))

/-- Disable, in any state (R367). -/
def dmaDisableCmd (n : Nat) : Svc := dmaControl n fun s => done (dmaDone n (dmaDisable n s))

/-- Ring reset, in states 1 and 5 (R357, R367). -/
def dmaReset (n : Nat) : Svc := dmaControl n fun s =>
  if chState n s ≠ 1 && chState n s ≠ 5 then deny 0x08000022 s
  else
    let s := setDma n { dma n s with phase := true, fetched := [], ended := [], rereads := 0 } s
    done (dmaDone n (setGang n 1 (setReg (dP n) 0x0B 0 (setReg (dP n) 0x0A 0 s))))

/-- DMA_START (R366). -/
def execDmaStart (ses : Session) (channel : Fin 64) (s : State) : Res := .next (serveBoth ses (dmaStart channel.val) s)

/-- DMA_ABORT (R366). -/
def execDmaAbort (ses : Session) (channel : Fin 64) (s : State) : Res := .next (serveBoth ses (dmaAbort channel.val) s)

/-- DMA_DISABLE (R367). -/
def execDmaDisable (ses : Session) (channel : Fin 64) (s : State) : Res := .next (serveBoth ses (dmaDisableCmd channel.val) s)

/-- DMA_RESET_RING (R357). -/
def execDmaResetRing (ses : Session) (channel : Fin 64) (s : State) : Res := .next (serveBoth ses (dmaReset channel.val) s)

/-- The oldest completion record, taken; zeros where none is held (R361). -/
def popRecord (n : Nat) (s : State) : Bytes × State :=
  match (dma n s).fifo with
  | [] => (leBytes 8 0, s)
  | r :: t => (r, setDma n { dma n s with fifo := t } s)

/-- COMPLETION_POP (R361): a read of the object, or of its hot register. -/
def execCompletionPop (ses : Session) (channel : Fin 64) (s : State) : Res :=
  .next (
    let n := channel.val
    match ses with
    | .bar0 =>
      if s.dev = .boot || s.dev = .catch_ || !bar0Up s then s
      else
        let r := popRecord n s
        emit (.completion true false r.1) r.2
    | _ => serveData ses (fun s =>
        let r := popRecord n s
        (r.2, 0, r.1)) s)

/-! ### Receive (R122, R362) -/

/-- Header of a received frame (R362). -/
def hostHeader (c : Copy) (s : State) : Bytes :=
  match frameOf c.frame s with
  | none => leBytes 16 0
  | some f =>
    leBytes 8 f.stamp ++ leBytes 1 f.port ++ leBytes 1 (f.prio % 8 + 8 * b2n (f.colour ≠ 0)) ++ leBytes 2 c.data.length ++
      leBytes 2 (f.stream.getD 0xFFFF) ++ leBytes 2 0

/-- Bytes that reach the host: the header and the frame, or what stands before the first ell that fails its check (R362). -/
def receivedBytes (c : Copy) (seen : TxEnd) (bad : Bool) (s : State) : Bytes :=
  let h := hostHeader c s ++ c.data
  let pos := seen.ells.filterMap fun x =>
    match x with
    | .data k => some k
    | .metadata k => some k
    | .corrected _ => none
  if bad then h.take (16 + 128 * ((pos.head?).getD ((c.data.length - 1) / 128))) else h

/-- Descriptors that n bytes take up, in order; what no buffer holds is left out (R362). -/
def spread : Nat → List (Nat × Bytes) → List ((Nat × Bytes) × Nat)
  | _, [] => []
  | n, f :: t => if dLen f.2 ≥ n then [(f, n)] else (f, dLen f.2) :: spread (n - dLen f.2) t

/-- The bytes go into the buffers; the last descriptor carries the frame's status, and the end of frame where the frame ends there. -/
def fillBuffers (n status : Nat) (last : Bool) : List ((Nat × Bytes) × Nat) → Bytes → State → State
  | [], _, s => s
  | (f, k) :: t, l, s =>
    let m := min k l.length
    let s := if m == 0 then s else emit (.hostWrite (leNat (slice 0 8 f.2)) (l.take k)) s
    let s := setDma n { dma n s with fetched := (dma n s).fetched.tail } s
    let s := if t.isEmpty then dmaEnd n f m status last s else dmaEnd n f m 1 false s
    fillBuffers n status last t (l.drop k) s

/-- The buffers that a frame of so many bytes takes: one in a gang; the channel's next ones otherwise. -/
def frameBuffers (n len : Nat) (s : State) : List ((Nat × Bytes) × Nat) :=
  let l := (dma n s).fetched
  spread len ((if gangSize n s > 1 then l.take 1 else l).takeWhile fun f => !dRefused 1 f.2)

/-- The receive channel or gang leader of an HP queue (R355). -/
def receiver (q : Nat) (s : State) : Option Nat :=
  (List.range 64).find? fun n => leader n s == n && dmaKind n s == 1 && cfg (dP n) 3 s == q

/-- RECEIVE_FRAME_TO_HOST (R362): the frame that port 30 has dequeued goes into the buffers in hand. Where they do not hold it, a solo
channel fills them and goes on with the frame in the following descriptors; a gang cuts it off. `seen`: what the ells show as they are
read. -/
def execReceiveFrameToHost (channel : Fin 64) (seen : TxEnd) (s : State) : Res :=
  .next (
    let n := channel.val
    match (egr 30 s).cur with
    | none => s
    | some c =>
      if !dmaRuns n s || dmaKind n s ≠ 1 || cfg (dP n) 3 s ≠ c.queue || (dma n s).fetched.isEmpty then s
      else
        let r := closeFrame 30 c seen s
        let data := (receivedBytes c seen r.1 s).drop (dma n s).taken
        let want := max 1 data.length
        let l := frameBuffers n want s
        let room := l.foldl (fun a x => a + x.2) 0
        if room < want && gangSize n s == 1 then
          let t := fillBuffers n 1 false l data (setDma n { dma n s with taken := (dma n s).taken + room } s)
          refuseHeads n (dma n t).fetched.length t
        else
          let status := if r.1 then 5 else if room < want then 7 else 1
          let t := fillBuffers n status true l data (setDma n { dma n r.2 with taken := 0 } r.2)
          let t := refuseHeads n (dma n t).fetched.length t
          settle 4 (reap c.frame (setEgr 30 { egr 30 t with cur := none, sent := 0, overrun := false } t)))

/-- HOST_RING_DROP (R122, R362): no descriptor is free for the frame that port 30 has dequeued. -/
def execHostRingDrop (queue : Fin 8) (s : State) : Res :=
  .next (
    match (egr 30 s).cur with
    | none => s
    | some c =>
      let ch := receiver queue.val s
      let free := match ch with
        | some n => (dma n s).taken ≠ 0 || dmaRuns n s && (decide (inHand n s < posted n s) || !(dma n s).fetched.isEmpty)
        | none => false
      if c.queue ≠ queue.val || free then s
      else
        let s := count 0x345E 0x14 s
        let s := match ch with
          | some n => count (dP n) 0x13 s
          | none => s
        reap c.frame (setEgr 30 { egr 30 s with cur := none, sent := 0, overrun := false } s))

/-! ### Transmit (R363) -/

/-- The descriptors in hand up to the first end of frame; none where no frame is complete. -/
def wholeFrame : List (Nat × Bytes) → Option (List (Nat × Bytes))
  | [] => none
  | f :: t => if dEof f.2 then some [f] else (wholeFrame t).map (f :: ·)

/-- Descriptors end one after another, each with the status that its place gives it. -/
def endAll (n : Nat) (status : Nat → Nat) : Nat → List (Nat × Bytes) → State → State
  | _, [], s => s
  | k, f :: t, s =>
    let st := if dRefused 2 f.2 then 8 else status k
    let s := setDma n { dma n s with fetched := (dma n s).fetched.tail } s
    let s := dmaEnd n f (if st == 1 || st == 6 then dLen f.2 else 0) st (dEof f.2) s
    endAll n status (k + 1) t s

/-- The frame goes into port 30 as an ingress frame: whether it was dropped at arrival (R108), and the state. -/
def hostFrame (l : Bytes) (s : State) : Bool × State :=
  let t := receiveFrame 30 ⟨l ++ List.replicate (60 - l.length) 0, true, .sfd, false⟩ s
  (reg 0x345E 0x0B t ≠ reg 0x345E 0x0B s, t)

/-- TRANSMIT_FRAME_FROM_HOST (R363): a frame up to its end-of-frame descriptor. `frame`: the bytes of its buffers one after another, `host`
what the reads showed. -/
def execTransmitFrameFromHost (channel : Fin 64) (frame : List Byte) (host : HostRead) (s : State) : Res :=
  .next (
    let n := channel.val
    if !dmaRuns n s || dmaKind n s ≠ 2 then s
    else
      match wholeFrame (dma n s).fetched with
      | none => s
      | some l =>
        let good := l.filter fun f => !dRefused 2 f.2
        let total := good.foldl (fun a f => a + dLen f.2) 0
        if host = .good && total ≤ 9212 && frame.length ≠ total then s
        else
        let s := each good (fun f s => emit (.hostRead (leNat (slice 0 8 f.2)) (dLen f.2)) s) s
        let s := match host with
          | .poisoned k => endAll n (fun j => if j == k then 5 else 1) 0 l s
          | .failed k => endAll n (fun j => if j == k then 9 else 1) 0 (l.take (k + 1)) s
          | .good =>
            if total > 9212 then endAll n (fun _ => 7) 0 l s
            else
              let r := hostFrame frame s
              endAll n (fun j => if r.1 && j + 1 == l.length then 6 else 1) 0 l r.2
        refuseHeads n (dma n s).fetched.length s)

/-! ### Domain loss (R368) -/

/-- The switchable domain that holds the unit of an object (R457): 16 where it is in PD_CORE. -/
def objDomain (i : Nat) : Nat :=
  if 0x2000 ≤ i && i < 0x2780 then portDomain ((i - 0x2000) / 0x40)
  else if 0x2800 ≤ i && i < 0x2E00 then 5 + (i - 0x2800) / 0x20 / 8
  else if 0x2E00 ≤ i && i < 0x3000 then 11
  else if 0x5C00 ≤ i && i < 0x5C20 then 12
  else if 0x6100 ≤ i && i < 0x6110 then 14 else 16

/-- A domain is off, or drains (R459). -/
def domainGoes (d : Nat) (s : State) : Bool := d < 16 && (!powered d s || bit (reg 0x5020 4 s) d)

/-- The device endpoint of the descriptor in work lies in a domain that goes down. -/
def endpointGoes (n : Nat) (s : State) : Bool :=
  match (dma n s).fetched.head? with
  | none => false
  | some f =>
    (bit (byteAt f.2 22) 0 && domainGoes (objDomain (leNat (slice 0 2 f.2))) s) ||
      (bit (byteAt f.2 22) 1 && domainGoes (objDomain (leNat (slice 8 2 f.2))) s)

/-- DMA_DOMAIN_LOSS (R368): PD_PCIE or the link under the channel goes, or the domain of a copy's device endpoint. -/
def execDmaDomainLoss (channel : Fin 64) (s : State) : Res :=
  .next (
    let n := channel.val
    if leader n s ≠ n || (chState n s ≠ 2 && chState n s ≠ 3) then s
    else if domainGoes 12 s || !bar0Up s then
      if gangSize n s > 1 then dmaDisable n s
      else
        let t := dmaHalt n 3 (powered 12 s && bar0Up s) s
        if domainGoes 12 s then setChState n 5 t else t
    else if dmaKind n s == 3 && endpointGoes n s then dmaHalt n 3 true s
    else s)

end Sys2Proof.Machine
end

