-- ==== Sys2Proof/Machine/Can.lean ====
section
/-!
DEFINITION. Can.lean: the CAN engines (R209–R226, R234–R236) and the replay of the catch buffer (R262–R264).
-/
namespace Sys2Proof.Machine

/-! ### Error state -/

def tec (n : Nat) (s : State) : Nat := reg (cE n + 2) 2 s

def rec_ (n : Nat) (s : State) : Nat := reg (cE n + 2) 3 s

/-- The engine runs on its bus: error-active or error-passive. -/
def canActive (n : Nat) (s : State) : Bool := canState n s == 3 || canState n s == 4

/-- The engine hears its bus (R209, R217, R222, R226). -/
def canHears (n : Nat) (s : State) : Bool := 3 ≤ canState n s && canState n s ≤ 7

/-- Error-active or error-passive by the counters (R221); the first entry into error-passive fires source 0x81. -/
def errorState (n : Nat) (s : State) : State :=
  if !canActive n s then s
  else if tec n s ≥ 128 || rec_ n s ≥ 128 then
    (if canState n s == 3 then fire 0x81 n (setCanState n 4 s) else s)
  else setCanState n 3 s

/-- State of an engine that has integrated: capture, listen-only, or by its counters. -/
def runState (n : Nat) (capture : Bool) (s : State) : State :=
  if capture then setCanState n 7 s
  else if cfg (cE n) 3 s == 1 then setReg (cE n + 2) 2 0 (setReg (cE n + 2) 3 0 (setCanState n 6 s))
  else errorState n (setCanState n 3 s)

/-- The engines listen in capture: from Boot to the first Operate or Configure, and while their cluster wakes (R226, R302). -/
def capturing (e : Nat) (s : State) : Bool :=
  s.dev = .boot || s.dev = .catch_ ||
    (match clusterOf e s with
      | some c => clusterState c s == 1
      | none => false)

/-! ### Reception (R209, R210, R215–R217, R222) -/

/-- A frame's format is received in a mode (R209). -/
def fmtReceived (mode : Nat) (f : BusFmt) : Bool :=
  match f with
  | .classical => true
  | .fd => mode ≥ 1
  | .fdBrs => mode ≥ 1
  | .xl => mode ≥ 2
  | .lin => false

/-- A valid reception lowers the receive error counter as ISO 11898-1 says: by 1, or from above 127 to a value between 119 and 127 that
the standard leaves open. -/
def goodReception (n : Nat) (s : State) : State :=
  if !canActive n s || shadowed n s then s
  else
    let r := rec_ n s
    if r == 0 then s
    else if r ≤ 127 then errorState n (setReg (cE n + 2) 3 (r - 1) s)
    else errorState n (setReg (cE n + 2) 3 (119 + freeNow s % 9) (useFree s))

/-- The staging buffer holds two frames for 40 BCLK cycles (R216). -/
def staged (n : Nat) (s : State) : List Nat := (can n s).recent.filter fun t => wall s < t + 250

/-- Guard entry whose identifier a foreign frame on engine e carries as a spoof (R185, R316). -/
def foreignGuard (e : Nat) (f : BusFrame) (s : State) : Option Nat :=
  match guardOf s.cfg e f with
  | none => none
  | some g =>
    if compares e s && (shadowCandidate e f s).isSome then none
    else if leased e s && overlap s then none else some g

/-- A frame that engine n has received goes on: to the shadow comparison, and to the Braider. -/
def handOn (n : Nat) (f : BusFrame) (stamp : Nat) (s : State) : State :=
  let g := foreignGuard n f s
  let x := recOf n 0xFF 0xFF stamp f
  shadowCompare n f (handRec x g s)

/-- A valid CAN frame (R216). A frame that finds the staging buffer full is dropped. -/
def receiveCan (n : Nat) (f : BusFrame) (stamp : Nat) (s : State) : State :=
  if !canHears n s || !fmtReceived (can n s).mode f.fmt then s
  else
    let s := goodReception n s
    let s := setCan n { can n s with recent := staged n s ++ [wall s], lastAt := wall s } s
    if (can n s).recent.length > 2 then
      fire 0x83 n (count (cE n + 2) 0x0C (setCan n { can n s with recent := (can n s).recent.take 2 } s))
    else handOn n f stamp (count (cE n + 2) 6 s)

/-- CAN_FRAME_RECEIVE (R216): the frame is valid at its end of frame; its start of frame was sofAgo ns ago (R215). -/
def execCanFrameReceive (engine : Fin 48) (frame : BusFrame) (sofAgo : Fin 4294967296) (s : State) : Res :=
  .next (settle 4 (receiveCan engine.val frame (nowNs s - sofAgo.val) s))

/-- PROTOCOL_EXCEPTION (R209): a frame of a higher format, with exception handling on. -/
def execProtocolException (engine : Fin 48) (s : State) : Res :=
  .next (
    let n := engine.val
    if canHears n s && (can n s).mode < 2 && cfg (cE n) 5 s == 1 then count (cE n + 2) 0x0B s else s)

/-! ### Slots in transmission (R218–R220) -/

/-- The transceiver of engine n goes to standby once no frame is in progress (R235); bus-off is kept (R222). -/
def settleStandby (n : Nat) (s : State) : State :=
  if trans n s == 3 && (lockedSlot n s).isNone then
    let s := setReg (cE n + 3) 3 0 s
    if [2, 3, 4, 6, 7].contains (canState n s) then setCanState n 1 s else s
  else s

/-- The locked slot goes. -/
def unlock (n : Nat) (s : State) : State := setCan n { can n s with slots := (can n s).slots.filter fun x => !x.locked } s

/-- Engine n may start a frame: error-active or passive, in normal mode, no settings pending, no frame under way, not held dominant, not in
shadow (R214, R223, R234, R235, R313). -/
def mayStart (n : Nat) (s : State) : Bool :=
  canActive n s && trans n s == 2 && !(can n s).takeover && (lockedSlot n s).isNone && !(can n s).held && !braidStill s &&
    !shadowed n s && !(s.pair.yielding && leased n s) && fmtReceived (can n s).mode .classical

/-- A slot's frame is eligible at this instant (R253): its window, or the exclusive windows of its engine. -/
def slotEligible (n : Nat) (x : Slot) (s : State) : Bool :=
  let c := rtClass s.cfg x.route
  if c == 0xFF || x.kept then untimedFits n x.frame s else windowOpen n c x.frame s

/-- The slot that would win arbitration among the eligible ones. -/
def bestSlot (n : Nat) (s : State) : Option Slot :=
  ((can n s).slots.filter fun x => slotEligible n x s).foldl (fun a x =>
    match a with
    | none => some x
    | some y => if lexLt (rankOf x.frame x.born) (rankOf y.frame y.born) then some x else some y) none

/-- The frame of slot x starts (R219). -/
def startSlot (n : Nat) (x : Slot) (s : State) : State :=
  let c := can n s
  let s := setCan n { c with
    slots := c.slots.map fun y => if y.route == x.route && y.born == x.born then { y with locked := true } else y
    sof := nowNs s } s
  if x.kept then s else setRoute x.route { route x.route s with lastSof := some (wall s) } s

/-- TRANSMIT_SLOT_SELECTION (R218, R253, R313). -/
def execTransmitSlotSelection (engine : Fin 48) (s : State) : Res :=
  .next (
    let n := engine.val
    if !mayStart n s then s
    else
      match bestSlot n s with
      | none => s
      | some x =>
        if leased n s && !leaseHolds (worstNs s.cfg n x.frame) s then
          (if (can n s).gated == x.born + 1 then s
            else count 0x5401 0x0B (setCan n { can n s with gated := x.born + 1 } s))
        else startSlot n x s)

/-- The loop delay measured in a transmission (R213), with compensation enabled and in a frame that has a data phase: shown up to 255, and
counted above it. -/
def measureTdc (n : Nat) (f : BusFmt) (d : Nat) (s : State) : State :=
  if cfg (cE n + 1) 9 s == 1 && f ≠ .classical then
    let s := setReg (cE n + 2) 5 (min 255 d) s
    if d > 255 then count (cE n + 2) 0x0F s else s
  else s

/-- A frame of engine n has been sent (R219): the counters, the slot, its shadow, and its route. -/
def confirmSlot (n : Nat) (x : Slot) (s : State) : State :=
  let s := emit (.can n x.frame) (count (cE n + 2) 7 s)
  let s := errorState n (setReg (cE n + 2) 2 (tec n s - 1) s)
  let s := unlock n (setCan n { can n s with offs := 0, lastAt := wall s } s)
  let s := if x.kept then s else frameSent s.cfg x.route x.frame x.shadow s
  settleStandby n (fillSlots n s)

/-- TRANSMIT_CONFIRMATION (R213, R219): the transmission completes without error. -/
def execTransmitConfirmation (engine : Fin 48) (loopDelay : Fin 4096) (s : State) : Res :=
  .next (
    match lockedSlot engine.val s with
    | none => s
    | some x => settle 4 (confirmSlot engine.val x (measureTdc engine.val x.frame.fmt loopDelay.val s)))

/-- A failed attempt with retransmission on: the slot stays pending, with its shadow's frame if there is one. -/
def retrySlot (n : Nat) (x : Slot) (s : State) : State :=
  if x.kept then
    setCan n { can n s with slots := (can n s).slots.map fun y => if y.locked then { y with locked := false } else y } s
  else
    let s := unlock n s
    match x.shadow with
    | none => s
    | some g => setRoute x.route { route x.route s with box := [(g, [])], sent := false } s

/-- A failed attempt with retransmission off: the slot is freed (R220). -/
def freeSlot (n : Nat) (x : Slot) (s : State) : State :=
  let s := unlock n s
  if x.kept then s
  else
    let r := x.route
    let old := (route r s).lastData
    let s := frameSent s.cfg r x.frame x.shadow s
    setRoute r { route r s with lastData := old } s

/-- TRANSMIT_ATTEMPT_FAILED (R213, R219, R220). -/
def execTransmitAttemptFailed (engine : Fin 48) (byArbitration : Bool) (loopDelay : Option (Fin 4096)) (s : State) : Res :=
  .next (
    let n := engine.val
    match lockedSlot n s with
    | none => s
    | some x =>
      let s := match loopDelay with
        | some d => measureTdc n x.frame.fmt d.val s
        | none => s
      let s := if byArbitration then count (cE n + 2) 0x0A s else s
      let s := if cfg (cE n) 4 s == 1 then retrySlot n x s else freeSlot n x s
      settleStandby n (fillSlots n s))

/-! ### Errors and bus-off (R221, R222) -/

def errorCode : CanErrorKind → Nat
  | .stuff => 1
  | .form => 2
  | .ack => 3
  | .bit1 => 4
  | .bit0 => 5
  | .crc => 6
  | .pwm => 7

/-- Hold-off of engine n in ms (R222). -/
def holdOff (n : Nat) (s : State) : Nat :=
  if (can n s).offs ≤ cfg (cE n) 7 s then cfg (cE n) 8 s else cfg (cE n) 9 s

/-- Recovery begins by the mode of E+0x00:06. -/
def startRecovery (n : Nat) (s : State) : State :=
  let m := cfg (cE n) 6 s
  setCan n { can n s with recov := if m == 0 then 2 else if m == 1 then 1 else 3, offAt := wall s } s

/-- Entry into bus-off (R222). -/
def busOff (n : Nat) (s : State) : State :=
  let s := setCan n { can n s with offs := (can n s).offs + 1 } (setCanState n 5 (setReg (cE n + 2) 2 255 s))
  fire 0x80 n (startRecovery n (count (cE n + 2) 9 s))

/-- The error counters after an error (R221): a receiver's rises by 1, and by 8 on a dominant bit after its flag; a transmitter's by 8, but
for the exceptions of ISO 11898-1. -/
def errorCount (n : Nat) (e : CanError) (s : State) : State :=
  if e.transmitter then
    (if e.exempt then s
      else
        let t := tec n s + 8
        if t > 255 then busOff n s else errorState n (setReg (cE n + 2) 2 t s))
  else
    let k := if e.dominantAfterFlag then 8 else 1
    errorState n (setReg (cE n + 2) 3 (min 255 (rec_ n s + k)) s)

/-- CAN_BUS_ERROR (R217, R221). An error of the XL data phase with error signalling off leaves the counters as they are, as does every
error while the engine is passive on its bus; in the safe state no error flag is sent (R236). -/
def execCanBusError (engine : Fin 48) (error : CanError) (s : State) : Res :=
  .next (
    let n := engine.val
    if !canHears n s then s
    else
      let s := setReg (cE n + 2) 4 (errorCode error.kind) (count (cE n + 2) 8 s)
      if !canActive n s || shadowed n s || (error.inXlData && cfg (cE n) 0x0C s == 0) then s
      else settle 4 (errorCount n error (if braidStill s then s else emit (.canError n) s)))

/-- BUS_OFF_HOLD_OFF_END (R222). -/
def execBusOffHoldOffEnd (engine : Fin 48) (s : State) : Res :=
  .next (
    let n := engine.val
    if (can n s).recov == 1 && trans n s == 2 && due (can n s).offAt (ms (holdOff n s)) s then
      setCan n { can n s with recov := 2 } s
    else s)

/-- BUS_OFF_RECOVERY_COMPLETE (R222): both counters are 0 and the engine is error-active. -/
def execBusOffRecoveryComplete (engine : Fin 48) (s : State) : Res :=
  .next (
    let n := engine.val
    if canState n s == 5 && (can n s).recov == 2 && trans n s == 2 then
      fillSlots n (runState n false (setReg (cE n + 2) 2 0 (setReg (cE n + 2) 3 0 (setCan n { can n s with recov := 0 } s))))
    else s)

/-- Manual recovery (R222). -/
def canRecover (n : Nat) : Svc := notTerminal fun s =>
  if canState n s == 5 && cfg (cE n) 6 s == 2 then
    done (setReg (cE n) 0x0D 2 (setCan n { can n s with recov := 2 } s))
  else deny 0x08000022 s

/-- CAN_RECOVER (R222). -/
def execCanRecover (ses : Session) (engine : Fin 48) (s : State) : Res := .next (serve ses (canRecover engine.val) s)

/-- The W1C counters of E+0x02 are cleared (R208). -/
def canClear (n : Nat) : Svc := notTerminal fun s =>
  done (setReg (cE n) 0x0D 2 (each [6, 7, 8, 9, 0x0A, 0x0B, 0x0C, 0x0D, 0x0F] (fun j => setReg (cE n + 2) j 0) s))

/-- CAN_CLEAR_COUNTERS. -/
def execCanClearCounters (ses : Session) (engine : Fin 48) (s : State) : Res := .next (serve ses (canClear engine.val) s)

/-! ### Settings and transceivers (R214, R234, R235) -/

/-- ENGINE_SETTINGS_TAKEOVER (R214, R226): at the next bus idle. -/
def execEngineSettingsTakeover (engine : Fin 48) (s : State) : Res :=
  .next (
    let n := engine.val
    let c := can n s
    if c.takeover && (lockedSlot n s).isNone && !capturing n s then
      let s := setCan n { c with takeover := false, retime := false, mode := cfg (cE n) 2 s } s
      if canState n s == 5 || !canHears n s then s
      else if c.retime then setCanState n 2 s
      else fillSlots n (runState n false s)
    else s)

/-- The transceiver of engine e is released from standby or sleep (R234). -/
def toNormal (e : Nat) (s : State) : State :=
  if e < 48 then
    if trans e s == 2 || trans e s == 1 then s
    else
      let s := setCan e { can e s with modeAt := wall s } (setReg (cE e + 3) 3 1 s)
      if [0, 9].contains (canState e s) then setCanState e 1 s else s
  else
    let m := e - 48
    if (lin m s).mode ≠ 0 then s
    else
      let s := setLin m { lin m s with mode := 1, modeAt := wall s } s
      if [0, 7].contains (linState m s) then setLinState m 1 s else s

/-- A LIN engine's transceiver goes to sleep (R235). -/
def linSleep (m : Nat) (s : State) : State :=
  let s := setLin m { lin m s with mode := 0, ident := none } s
  if [2, 3, 4, 5].contains (linState m s) then setLinState m 1 s else s

/-- A standby or sleep request (R235). -/
def toStandby (e : Nat) (s : State) : State :=
  if e < 48 then (if trans e s == 1 || trans e s == 2 then settleStandby e (setReg (cE e + 3) 3 3 s) else s)
  else linSleep (e - 48) s

/-- TRANSCEIVER_STANDBY_REQUEST (R235): an engine forced to normal mode by E+0x03:01 takes none. -/
def execTransceiverStandbyRequest (engine : Fin 64) (s : State) : Res :=
  .next (if engine.val < 48 && cfg (cE engine.val + 3) 1 s == 1 then s else toStandby engine.val s)

/-- TRANSCEIVER_MODE_CHANGE_END (R222, R234): the engine integrates; a bus-off engine starts its hold-off again. -/
def execTransceiverModeChangeEnd (engine : Fin 64) (s : State) : Res :=
  .next (
    let e := engine.val
    if e < 48 then
      if trans e s == 1 && due (can e s).modeAt (us (cfg (cE e + 3) 2 s)) s then
        let s := setReg (cE e + 3) 3 2 s
        if canState e s == 5 then startRecovery e s else if canState e s == 1 then setCanState e 2 s else s
      else s
    else
      let m := e - 48
      if (lin m s).mode == 1 && due (lin m s).modeAt 50000 s then setLin m { lin m s with mode := 2 } s else s)

/-- State of a LIN engine in operation. -/
def linRun (m : Nat) (s : State) : State :=
  if [0, 6, 7].contains (linState m s) then s
  else if capturing (48 + m) s then setLinState m 5 s
  else if cfg (lB m) 2 s == 1 then setLinState m 4 s
  else setLinState m (if reg (lB m + 1) 3 s ≠ 0xFF then 3 else 2) s

/-- INTEGRATION_COMPLETE (R214, R223, R234): 11 recessive bits have been seen. -/
def execIntegrationComplete (engine : Fin 64) (s : State) : Res :=
  .next (
    let e := engine.val
    if e < 48 then
      let s := if (can e s).held then setCan e { can e s with held := false } s else s
      if canState e s == 2 && trans e s == 2 then fillSlots e (runState e (capturing e s) s) else s
    else
      let m := e - 48
      let s := if (lin m s).held then setLin m { lin m s with held := false } s else s
      if (lin m s).mode == 2 then linRun m (setLin m { lin m s with mode := 3 } s) else s)

/-- BUS_HELD_DOMINANT (R223). -/
def execBusHeldDominant (engine : Fin 64) (s : State) : Res :=
  .next (
    let e := engine.val
    if e < 48 then
      if trans e s == 2 && !(can e s).held then fire 0x82 e (setCan e { can e s with held := true } s) else s
    else
      let m := e - 48
      if (lin m s).mode ≥ 2 && !(lin m s).held then fire 0x82 e (setLin m { lin m s with held := true } s) else s)

/-! ### Capture (R225, R226) -/

/-- The domains of the engines that join are switched on, with the charges of their clusters (R457, R472). -/
def powerBus (d : Nat) (s : State) : State :=
  let n := 50 + d
  if powered d s || !peckPermitted n s || peckState n s == 3 then s
  else
    let s := if peckState n s == 2 then s else peckGive n (setSince n (setRegE n 0x5001 2 (chargeFor n s) (setPeck n 1 s)))
    setReg 0x5020 2 (reg 0x5020 2 s + 2 ^ d) s

/-- Catch enable of an engine in the copy of PD_AON. -/
def catchEnabled (e : Nat) (s : State) : Bool := if e < 48 then keptVal (cE e) 0x0A s == 1 else keptVal (lB (e - 48)) 9 s == 1

/-- Engine e joins in capture with the copied settings. -/
def joinCapture (e : Nat) (s : State) : State :=
  if !catchEnabled e s || !powered (engDomain e) s then s
  else if e < 48 then toNormal e (setCan e { can e s with mode := keptVal (cE e) 2 s } s)
  else toNormal e s

/-- Engines of a list join, their domains first. -/
def captureJoin (l : List Nat) (s : State) : State :=
  let ds := (l.filter fun e => catchEnabled e s).foldl (fun a e => setIns (engDomain e) a) []
  each l joinCapture (each ds powerBus s)

/-- µs since the reference of the start (0x5010). -/
def sinceStart (s : State) : Nat := (wall s - s.power.started) / 1000

/-- CAPTURE_JOIN (R36, R225, R423): 0.2 ms after PORST_N release, with the BCLK PLL locked, the engines join and the device enters Catch,
or Terminal while that is latched. -/
def execCaptureJoin (s : State) : Res :=
  .next (
    if s.dev = .boot && s.power.reset == 0 && s.power.extending.isNone && bit (reg 0x5030 1 s) 2 && due s.power.started 200000 s then
      let s := setReg 0x5010 1 (sinceStart s) (captureJoin ((List.range 64).filter fun e => !engAsleep e s) s)
      setDev (if s.faults.terminal then .terminal else .catch_) s
    else s)

/-! ### Replay (R263, R264) -/

/-- Insertion by stamp, then by byte 14. -/
def stampIns (x : BusRec) : List BusRec → List BusRec
  | [] => [x]
  | y :: t => if x.stamp < y.stamp || (x.stamp == y.stamp && x.source < y.source) then x :: y :: t else y :: stampIns x t

/-- Replay starts (R263). -/
def startReplay (s : State) : State :=
  if reg 0x3C90 2 s ≠ 0 then s
  else
    let l := s.braid.caught.foldl (fun a x => stampIns x a) []
    let s := setReg 0x5010 8 l.length (setReg 0x3C90 2 1 s)
    { s with braid := { s.braid with caught := [], replay := l, replayAt := wall s } }

/-- One record of the replay (R263): discarded by age, or judged as an arrival with its stamp. -/
def replayRec (x : BusRec) (s : State) : State :=
  let s := releaseCatch x s
  let s := noteHeld x.source s
  if x.stamp + ms (cfg 0x5010 2 s) < nowNs s then count 0x3C90 4 s
  else arriveEngine { x with ells := [] } true (guardOf s.cfg x.source x.frame) (count 0x3C90 3 s)

/-- REPLAY_RECORD_SUBMIT (R263). -/
def execReplayRecordSubmit (s : State) : Res :=
  .next (
    if reg 0x3C90 2 s ≠ 1 then s
    else
      match s.braid.replay with
      | [] => s
      | x :: t => settle 4 (replayRec x { s with braid := { s.braid with replay := t } }))

/-- REPLAY_END (R264): no record waits. -/
def execReplayEnd (s : State) : Res :=
  .next (
    if reg 0x3C90 2 s == 1 && s.braid.replay.isEmpty then
      setReg 0x3C90 5 ((wall s - s.braid.replayAt) / 1000) (setReg 0x3C90 2 2 s)
    else s)

/-! ### Commits -/

/-- A disabled engine: off, in standby (R234). -/
def canOff (n : Nat) (s : State) : State :=
  if canState n s == 8 then s else setReg (cE n + 3) 3 0 (setCanState n 0 (unlock n s))

/-- A commit on engine n: enable, mode and timing, standby control, listen-only. The first one ends the capture (R226); what it changes is
seen against the copy that the capture used. -/
def canCommit (old new : Bank) (n : Nat) (s : State) : State :=
  if bkO new (cE n) 1 == 0 then canOff n s
  else if !powered (engDomain n) s || canState n s == 8 then s
  else
    let cap := !s.power.loaded
    let before (i j : Nat) : Nat := if cap then keptVal i j s else bkO old i j
    let rt := before (cE n) 2 ≠ bkO new (cE n) 2 || (List.range' 1 13).any fun j => before (cE n + 1) j ≠ bkO new (cE n + 1) j
    let s := if rt || canState n s == 7 then setCan n { can n s with takeover := true, retime := rt || (can n s).retime } s else s
    let s := if canActive n s && bkO new (cE n) 3 == 1 || canState n s == 6 && bkO new (cE n) 3 == 0 then runState n false s else s
    if bkO new (cE n + 3) 1 == 2 then toStandby n s
    else if bkO new (cE n + 3) 1 == 1 || !engAsleep n s then toNormal n s else s

/-- Checks of a commit on engine n (R211, R212). -/
def canCheck (b : Bank) (n : Nat) : Option (Nat × Nat × Nat) :=
  let t (j : Nat) : Nat := bkO b (cE n + 1) j
  let nom := nominalBit b n
  let dat := dataBit b n
  let mode := bkO b (cE n) 2
  if bkO b (cE n) 0x0B == 1 && bkO b (cE n) 0x0C == 1 then some (cE n, 0x0B, 0x06090030)
  else if nom < 160 then some (cE n + 1, 1, 0x06090030)
  else if t 4 > t 2 || t 4 > t 3 then some (cE n + 1, 4, 0x06090030)
  else if dat > nom then some (cE n + 1, 5, 0x06090030)
  else if (mode == 1 && dat < 20) || (mode == 2 && dat < 8) then some (cE n + 1, 5, 0x06090030)
  else if t 8 > t 6 || t 8 > t 7 then some (cE n + 1, 8, 0x06090030)
  else none

end Sys2Proof.Machine
end

