-- ==== Sys2Proof/Machine/Lin.lean ====
section
/-!
DEFINITION. Lin.lean: the LIN engines (R227–R233), and the guards of the bus engines (R185, R186).
-/
namespace Sys2Proof.Machine

/-! ### Tables -/

/-- Entry k of table t of LIN engine m (R229): identifier, type, collision table, slot length in ticks. -/
structure LinEntry where
  ident : Nat
  type : Nat
  coll : Nat
  ticks : Nat
deriving DecidableEq, Repr

def linEntry (b : Bank) (m t k : Nat) : LinEntry :=
  let w := field (bkO b (lB m + 1) 6) (8 * (256 * t + 4 * k)) 32
  let ty := field w 8 3
  ⟨if ty == 3 then 0x3C else if ty == 4 then 0x3D else w % 64, ty, field w 11 3, field w 16 8⟩

def linCount (b : Bank) (m t : Nat) : Nat := nbyte (bkO b (lB m + 1) 5) t

/-- Direction and length of an identifier in the frame table (R228). -/
def linDir (b : Bank) (m id : Nat) : Nat := nbyte (bkO b (lB m + 2) 0) (3 * id)

def linLen (b : Bank) (m id : Nat) : Nat := nbyte (bkO b (lB m + 2) 0) (3 * id + 1)

/-- TFrame_Max in tenths of a bit for a response of n bytes (R229). -/
def tFrameBits (b : Bank) (m n : Nat) : Nat := 14 * (bkO b (lB m) 4 + bkO b (lB m) 5 + 20 + 10 * (n + 1))

/-- The same in ns, at the configured rate. -/
def tFrameNs (b : Bank) (m n : Nat) : Nat := ceilDiv (tFrameBits b m n * 100000000) (max 1 (bkO b (lB m) 3))

/-- Time base in ns. -/
def linBase (m : Nat) (s : State) : Nat := ms (cfg (lB m) 8 s)

/-! ### Data that the Braider holds (R228, R231, R247) -/

/-- The route whose mailbox holds the response of identifier id, and its data. -/
def linData (m id : Nat) (s : State) : Option (Nat × Bytes) :=
  s.braid.routes.findSome? fun e =>
    if rtEgress s.cfg e.1 == 48 + m then
      match e.2.box with
      | [] => none
      | x :: _ => if x.1.ident.val % 64 == id then some (e.1, x.1.data) else none
    else none

/-- The published response of identifier id has been sent: the data is no longer updated; a held request leaves its FIFO. A mailbox
keeps its value (R231; assumption log 56). -/
def linPublished (m id : Nat) (s : State) : State :=
  let x := lin m s
  let s := setLin m { x with updated := setDel id x.updated } s
  match linData m id s with
  | none => s
  | some (r, d) =>
    let s := emit (.linResponse m d) (count (lB m + 3) 4 s)
    if rtFifo s.cfg r || id == 0x3C then frameSent s.cfg r (classicalFrame id d) none s
    else setRoute r { route r s with sent := true, lastData := some d, lastSof := some (wall s) } s

/-- A response that this engine publishes is over, without a bit error; in the safe state its rest was not driven (R236). -/
def finishOwn (m : Nat) (s : State) : State :=
  let x := lin m s
  if !x.own then s
  else
    let s := setLin m { x with own := false, ident := none } s
    if braidStill s then s
    else match x.ident with
    | some (id, _) => linPublished m id s
    | none => s

/-! ### Commander (R229–R231, R233) -/

/-- Schedules run in these states (R229). -/
def schedulesRun (s : State) : Bool := (s.dev = .operate || s.dev = .configure || s.dev = .headless) && !s.faults.forced

/-- The engine is a commander that may send. -/
def commands (m : Nat) (s : State) : Bool :=
  cfg (lB m) 2 s == 0 && (linState m s == 2 || linState m s == 3) && (lin m s).mode == 3 && !(lin m s).held

/-- Entry to be served in the slot that starts now: table and entry, with what is left to resume; none stops the schedule (R230, R231). -/
def linNext (m : Nat) (s : State) : Option (Nat × Nat) × Option (Nat × Nat) :=
  let x := lin m s
  let t := reg (lB m + 1) 3 s
  let k := reg (lB m + 1) 4 s
  let n := linCount s.cfg m t
  let after (e : Nat) : Nat := if e + 1 < n then e + 1 else 0
  match x.req with
  | some (r, e) => (if r > 7 then none else some (r, if e < linCount s.cfg m r then e else 0), none)
  | none =>
    if t > 7 then (none, none)
    else
      match x.collide with
      | some c => (some (c, 0), some (t, after k))
      | none =>
        match x.resume with
        | some y => if k + 1 < n then (some (t, k + 1), some y) else (some y, none)
        | none => (some (t, after k), none)

/-- The header of a slot goes out; in shadow it does not (R313). -/
def sendHeader (m id ty : Nat) (s : State) : State :=
  if shadowed (48 + m) s || (s.pair.yielding && leased (48 + m) s) then s
  else
    let s := emit (.linHeader m id) (count (lB m + 3) 3 s)
    let d := if ty == 3 then 1 else linDir s.cfg m id
    let own := d == 1 && (linData m id s).isSome
    setLin m { lin m s with
      ident := if own || d == 2 || ty == 1 || ty == 4 then some (id, ty) else none, own := own, stamp := nowNs s, lastAt := wall s } s

/-- An entry of a schedule is served by its type (R231). -/
def serveEntry (m : Nat) (e : LinEntry) (s : State) : State :=
  match e.type with
  | 2 => if (lin m s).updated.contains e.ident then sendHeader m e.ident 2 s else s
  | 3 => if (linData m 0x3C s).isSome then sendHeader m 0x3C 3 s else s
  | ty => sendHeader m e.ident ty s

/-- The go-to-sleep frame, then the end of the schedule (R233), and the transceiver's sleep where the cluster has committed (R298). -/
def sendSleep (m : Nat) (s : State) : State :=
  let s := setLin m { lin m s with toSleep := false, req := none, resume := none, collide := none, sleepSeen := true } s
  let s := setReg (lB m) 0x0B 2 (setReg (lB m + 1) 3 0xFF (setLinState m 2 s))
  let s := if shadowed (48 + m) s || (s.pair.yielding && leased (48 + m) s) then s
    else
      let s := count (lB m + 3) 4 (count (lB m + 3) 3 s)
      emit (.linResponse m (beBytes 8 0x00FFFFFFFFFFFFFF)) (emit (.linHeader m 0x3C) (setLin m { lin m s with lastAt := wall s } s))
  if engAsleep (48 + m) s then linSleep m s else s

/-- A slot starts at a tick of the time base (R229, R230). -/
def slotStart (m : Nat) (s : State) : State :=
  let s := finishOwn m s
  let s := setLin m { lin m s with ident := none } s
  if (lin m s).toSleep then sendSleep m s
  else
    let n := linNext m s
    let s := setLin m { lin m s with req := none, collide := none, resume := n.2 } s
    match n.1 with
    | none => setLinState m 2 (setReg (lB m + 1) 3 0xFF s)
    | some (t, k) =>
      let e := linEntry s.cfg m t k
      let tb := max 1 (linBase m s)
      let s := setLinState m 3 (setReg (lB m + 1) 4 k (setReg (lB m + 1) 3 t s))
      serveEntry m e (setLin m { lin m s with slotEnd := nowNs s / tb * tb + e.ticks * tb } s)

/-- LIN_SLOT_START (R229): within 1 µs of a multiple of the time base, after the slot before. -/
def execLinSlotStart (bus : Fin 16) (s : State) : Res :=
  .next (
    let m := bus.val
    let x := lin m s
    if schedulesRun s && commands m s && nowNs s % max 1 (linBase m s) < 1000 && x.slotEnd ≤ nowNs s && x.notBefore ≤ nowNs s then
      settle 4 (slotStart m s)
    else s)

/-- A request for a table, or a stop (R230). -/
def tableRequest (m table : Nat) (s : State) : State :=
  setReg (lB m + 1) 1 table (setLin m { lin m s with req := some (table, reg (lB m + 1) 2 s) } s)

/-- A write to L+0x01:01. -/
def linTable (m table : Nat) : Svc := notTerminal fun s =>
  if table > 7 && table ≠ 0xFF then deny 0x06090031 s
  else if cfg (lB m) 2 s == 1 then done s
  else done (tableRequest m table s)

/-- LIN_TABLE_REQUEST (R230). -/
def execLinTableRequest (ses : Session) (bus : Fin 16) (table : Byte) (s : State) : Res :=
  .next (serve ses (linTable bus.val table.toNat) s)

/-- The wake-up pulse (R233); LINn_TX stays recessive in the safe state, in shadow, and at an engine that is off (R234, R236, R313). -/
def linWake (m : Nat) : Svc := notTerminal fun s =>
  if reg (lB m) 0x0B s == 1 then deny 0x08000022 s
  else
    let n := us (cfg (lB m) 0x0A s)
    let s := setLin m { lin m s with pulseEnd := wall s + n, notBefore := nowNs s + n + ms 100 } s
    let silent := braidStill s || shadowed (48 + m) s || !engEnabled s.cfg (48 + m) s
    done (if silent then setReg (lB m) 0x0B 1 s else emit (.linWake m) (setReg (lB m) 0x0B 1 s))

/-- LIN_WAKE_UP. -/
def execLinWakeUp (ses : Session) (bus : Fin 16) (s : State) : Res := .next (serve ses (linWake bus.val) s)

/-- Pulses that are over leave their command done. -/
def pulsesDone (s : State) : State :=
  each (s.braid.lin.map (·.1)) (fun m s =>
    let x := lin m s
    if x.pulseEnd ≠ 0 && x.pulseEnd ≤ wall s then setReg (lB m) 0x0B 2 (setLin m { x with pulseEnd := 0 } s) else s) s

/-- Go-to-sleep is to be sent in the next slot (R233). -/
def linGoToSleep (m : Nat) : Svc := notTerminal fun s =>
  if cfg (lB m) 2 s == 1 then deny 0x06090030 s
  else if reg (lB m) 0x0B s == 1 then deny 0x08000022 s
  else done (setReg (lB m) 0x0B 1 (setLin m { lin m s with toSleep := true } s))

/-- LIN_GO_TO_SLEEP. -/
def execLinGoToSleep (ses : Session) (bus : Fin 16) (s : State) : Res := .next (serve ses (linGoToSleep bus.val) s)

/-- The W1C counters of L+0x03 are cleared (R208). -/
def linClear (m : Nat) : Svc := notTerminal fun s =>
  done (setReg (lB m) 0x0B 2 (each (List.range' 3 10) (fun j => setReg (lB m + 3) j 0) s))

/-- LIN_CLEAR_COUNTERS. -/
def execLinClearCounters (ses : Session) (bus : Fin 16) (s : State) : Res := .next (serve ses (linClear bus.val) s)

/-! ### Responder and capture (R226, R228) -/

/-- The engine decodes headers that another node sends. -/
def linHears (m : Nat) (s : State) : Bool := linState m s == 4 || linState m s == 5

/-- An error of the LIN engine: its counter and code. -/
def linError (m j code : Nat) (s : State) : State := setReg (lB m + 3) 2 code (count (lB m + 3) j s)

/-- Automatic bit rate is on (R228). -/
def autoRate (m : Nat) (s : State) : Bool := (if linState m s == 5 then keptVal (lB m) 6 s else cfg (lB m) 6 s) == 1

/-- A sync byte is taken (R228): within 1,000 to 20,000 bit/s with automatic bit rate, else within 14 % of the configured rate. -/
def syncTaken (m rate : Nat) (s : State) : Bool :=
  let own := if linState m s == 5 then keptVal (lB m) 3 s else cfg (lB m) 3 s
  if autoRate m s then decide (1000 ≤ rate ∧ rate ≤ 20000) else decide (100 * rate ≤ 114 * own ∧ 86 * own ≤ 100 * rate)

/-- LIN_HEADER_RECEIVE (R228): break, sync and identifier of another commander, with the measured rate. -/
def execLinHeaderReceive (bus : Fin 16) (ident : Fin 64) (measured : Fin 65536) (s : State) : Res :=
  .next (
    let m := bus.val
    if !linHears m s || (lin m s).mode ≠ 3 then s
    else
      let s := finishOwn m s
      let s := setLin m { lin m s with ident := none, lastAt := wall s } s
      if !syncTaken m measured.val s then linError m 9 5 s
      else
        let id := ident.val
        let s := if autoRate m s then setReg (lB m + 3) 0x0E measured.val s else s
        let d := linDir s.cfg m id
        let own := linState m s == 4 && d == 1 && (linData m id s).isSome && !shadowed (48 + m) s && !(s.pair.yielding && leased (48 + m) s) && !(lin m s).held &&
          !braidStill s
        let s := if linState m s == 4 then holdAwake (48 + m) s else s
        setLin m { lin m s with
          ident := if own || d == 2 || linState m s == 5 then some (id, 5) else none, own := own, stamp := nowNs s
          headerAt := some (wall s) } s)

/-! ### Responses (R231, R232) -/

/-- The collision table of the entry in progress is run next (R231). -/
def linCollision (m : Nat) (s : State) : State :=
  let e := linEntry s.cfg m (reg (lB m + 1) 3 s) (reg (lB m + 1) 4 s)
  linError m 0x0A 6 (setLin m { lin m s with ident := none, collide := some e.coll } s)

/-- A LIN response as a bus frame (R215, R237). -/
def linFrame (id : Nat) (r : LinResponse) : BusFrame :=
  { classicalFrame id r.data with fmt := .lin, enhanced := r.enhanced }

/-- A response on LIN engine m ends. -/
def linResponse (m id ty : Nat) (r : LinResponse) (s : State) : State :=
  let x := lin m s
  if x.own then
    if r.bitError then linError m 8 3 (setLin m { x with own := false, ident := none } s) else finishOwn m s
  else if ty == 1 && (r.collision || !r.checksumGood) then linCollision m s
  else
    let s := setLin m { x with ident := none, lastAt := wall s } s
    if !r.checksumGood then linError m 7 2 s
    else
      let f := linFrame id r
      let g := foreignGuard (48 + m) f s
      let s := count (lB m + 3) 5 s
      shadowCompare (48 + m) f (handRec (recOf (48 + m) 0xFF 0xFF x.stamp f) g s)

/-- LIN_RESPONSE_RECEIVE (R226, R231, R232). -/
def execLinResponseReceive (bus : Fin 16) (response : LinResponse) (s : State) : Res :=
  .next (
    let m := bus.val
    match (lin m s).ident with
    | none => s
    | some (id, ty) => settle 4 (linResponse m id ty response s))

/-- LIN_RESPONSE_TIMEOUT (R231, R232): TFrame_Max after the start of the break. -/
def execLinResponseTimeout (bus : Fin 16) (bytesSeen : Bool) (s : State) : Res :=
  .next (
    let m := bus.val
    let x := lin m s
    match x.ident with
    | none => s
    | some (id, ty) =>
      if x.own || nowNs s < x.stamp + tFrameNs s.cfg m (linLen s.cfg m id) then s
      else if ty == 1 && bytesSeen then linCollision m s
      else
        let s := setLin m { x with ident := none } s
        if bytesSeen then linError m 9 4 s else linError m 6 1 s)

/-- GO_TO_SLEEP_RECEIVE (R233): a responder reports the go-to-sleep frame to the wake logic. -/
def execGoToSleepReceive (bus : Fin 16) (s : State) : Res :=
  .next (
    let m := bus.val
    if linState m s == 4 then count (lB m + 3) 0x0B (setLin m { lin m s with sleepSeen := true } s) else s)

/-! ### Commits (R226, R229) -/

/-- A commit on LIN engine m: enable, role, the end of capture. -/
def linCommit (new : Bank) (m : Nat) (s : State) : State :=
  if bkO new (lB m) 1 == 0 then
    (if linState m s == 6 then s else setLinState m 0 (setLin m { linSt0 with updated := (lin m s).updated } s))
  else if !powered 11 s || linState m s == 6 then s
  else if (lin m s).mode == 3 then
    (if linState m s == 5 || linState m s == 2 || linState m s == 3 || linState m s == 4 then
      let s := if bkO new (lB m) 2 == 1 then setReg (lB m + 1) 1 0xFF (setReg (lB m + 1) 3 0xFF s) else s
      linRun m s
    else s)
  else if engAsleep (48 + m) s then s else toNormal (48 + m) s

/-- An entry of a schedule is refused at commit (R229). -/
def linEntryBad (b : Bank) (m t k : Nat) : Bool :=
  let e := linEntry b m t k
  e.type > 4 || tFrameBits b m (linLen b m e.ident) * 100 > e.ticks * bkO b (lB m) 8 * bkO b (lB m) 3 ||
    (e.type == 1 && (e.coll == t || linCount b m e.coll == 0))

/-- Checks of a commit on LIN engine m. -/
def linCheck (b : Bank) (m : Nat) : Option (Nat × Nat × Nat) :=
  if (List.range 8).any fun t => (List.range (linCount b m t)).any fun k => linEntryBad b m t k then some (lB m + 1, 6, 0x06090030)
  else none

/-! ### Guards (R185, R186) -/

/-- The log of a guard entry (R186): the first spoof of a log interval is recorded, the others are suppressed and counted. -/
def logSpoof (g e kind : Nat) (f : BusFrame) (s : State) : State :=
  let x := tget (0, 0) s.sieve.guardLog g
  let now := wall s
  if x.1 ≠ 0 && now < x.1 - 1 + ms 1000 * cfgE g 0x4030 9 s then
    { s with sieve := { s.sieve with guardLog := tset (0, 0) s.sieve.guardLog g (x.1, x.2 + 1) } }
  else
    sealRecord 4 0 [e, f.ident.val + b2n f.ext * 2 ^ 29, kind, x.2]
      { s with sieve := { s.sieve with guardLog := tset (0, 0) s.sieve.guardLog g (now + 1, 0) } }

/-- Reactions of a guard entry (R186). -/
def guardReact (g e kind : Nat) (s : State) : State :=
  let r := cfgE g 0x4030 7 s
  let s := if bit r 0 then
      let t := monoGrains s + 125000 * cfgE g 0x4030 8 s
      { s with sieve := { s.sieve with quarantine := tset 0 s.sieve.quarantine e t } }
    else s
  if bit r 1 then fire 0x86 (e + 256 * kind) s else s

/-- Decisions in flight of the spoofed frame are denied (R172, R186). -/
def denySpoofed (e : Nat) (f : BusFrame) (s : State) : State :=
  let l := (s.braid.recs.filter fun r => r.source == e && r.frame == f && !r.released).map (·.id)
  { s with decs := s.decs.map fun d => if l.contains d.id then { d with outcome := 3, pairs := [] } else d }

def kindCode : SpoofKind → Nat
  | .foreign => 0
  | .collision => 1
  | .replayed => 2

/-- A spoof of an engine is handled (R186); in the active's overlap interval it is an overlap (R316); a frame that the shadow
comparison takes is none. -/
def guardSpoof (e : Nat) (kind : SpoofKind) (f : BusFrame) (s : State) : State :=
  match guardOf s.cfg e f with
  | none => s
  | some g =>
    if kind = .foreign && compares e s && (shadowCandidate e f s).isSome then s
    else
      let s := countE g 0x4030 0x0A s
      if leased e s && overlap s then sealRecord 5 0 [e, f.ident.val + b2n f.ext * 2 ^ 29] s
      else
        let k := kindCode kind
        let s := setRegE g 0x4030 0x0B (time80 (nowNs s)) s
        guardReact g e k (logSpoof g e k f (denySpoofed e f s))

/-- GUARD_SPOOF (R185, R186). -/
def execGuardSpoof (engine : Fin 64) (kind : SpoofKind) (frame : BusFrame) (s : State) : Res :=
  .next (settle 4 (guardSpoof engine.val kind frame s))

/-- QUARANTINE_END (R186). -/
def execQuarantineEnd (engine : Fin 64) (s : State) : Res :=
  .next (
    if quarantined engine.val s then s
    else { s with sieve := { s.sieve with quarantine := tdel s.sieve.quarantine engine.val } })

/-- The spoof count and time of the selected entry are cleared, under a Workshop credential (0x4030:0C). -/
def guardClear (ses : Session) : Svc := notTerminal (needRole ses 2 fun s =>
  let g := reg 0x4030 1 s
  done (setReg 0x4030 0x0C 2 (setRegE g 0x4030 0x0A 0 (setRegE g 0x4030 0x0B 0 s))))

/-- GUARD_CLEAR_COUNTERS (R186). -/
def execGuardClearCounters (ses : Session) (s : State) : Res := .next (serve ses (guardClear ses) s)

end Sys2Proof.Machine
end

