-- ==== Sys2Proof/Machine/Domains.lean ====
section
/-!
DEFINITION. Domains.lean: power domains: switching on, drains, and switching off (R457–R460).
-/
namespace Sys2Proof.Machine

/-- Engines and ports of domain d (R457). -/
def domainEngines (d : Nat) : List Nat :=
  if 5 ≤ d && d ≤ 10 then List.range' (8 * (d - 5)) 8 else if d == 11 then List.range' 48 16 else []

def domainPorts (d : Nat) : List Nat := if d ≤ 4 then clusterPorts d else if d == 12 then [30] else []

def draining (d : Nat) (s : State) : Bool := bit (reg 0x5020 4 s) d

/-- Cluster that a port belongs to (R294). -/
def portCluster (p : Nat) (s : State) : Option Nat := (List.range 8).find? fun c => bit (cfg (0x3F10 + c) 2 s) p

/-- Member with bus code k (R294) of a cluster that sleeps or is committed; a held bus does not (R298, R306). -/
def memberRests (k : Nat) (s : State) : Bool :=
  match if k < 64 then clusterOf k s else portCluster (k - 64) s with
  | none => false
  | some c =>
    let st := clusterState c s
    st == 0 || st == 4 || (st == 5 && !(tget clusterSt0 s.wake.clusters c).held.contains k)

/-- Every engine and port of a domain rests (R298). -/
def domainRests (d : Nat) (s : State) : Bool :=
  let l := domainEngines d ++ (if d == 12 then [] else (domainPorts d).map (64 + ·))
  !l.isEmpty && l.all fun k => memberRests k s

/-- A commit has taken the permission of a granted consumer of the domain away (R481). -/
def domainRevoked (d : Nat) (s : State) : Bool := (domainConsumers d).any fun n => granted n s && !peckPermitted n s

/-! ### Switching off (R459) -/

/-- A domain is quiesced and its drain starts: no port takes a new frame, engines go to standby after the frame in progress. -/
def drainStart (d : Nat) (s : State) : State :=
  if d ≥ 16 || !powered d s || draining d s then s
  else
    let s := setReg 0x5020 4 (reg 0x5020 4 s + 2 ^ d) s
    let s := { s with power := { s.power with drainAt := tput s.power.drainAt d (wall s) } }
    let s := each (domainPorts d) (fun p s => if p < 30 then dropAtBoundary p s else s) s
    each (domainEngines d) toStandby s

/-- Nothing is in progress in a domain that drains. -/
def drained (d : Nat) (s : State) : Bool :=
  ((domainPorts d).all fun p => (egr p s).cur.isNone) &&
    ((domainEngines d).all fun e =>
      if e < 48 then (lockedSlot e s).isNone else (lin (e - 48) s).ident.isNone || !(lin (e - 48) s).own) &&
    (d ≠ 12 || (List.range 64).all fun n => chState n s ≠ 2 && chState n s ≠ 3) &&
    (d ≠ 13 || !s.decs.any fun x => x.lane == 1 && !x.pairs.isEmpty)

/-- The units of a domain when its switch opens: a frame still in transmission is stomped and counted (R459), ports are down with reason
0x0E, engines read domain down, the endpoint's link is down, lane 1 is withdrawn from work, and the domain's PLL stops (R453). -/
def unitsOff (d : Nat) (s : State) : State :=
  let s := each (domainPorts d) (fun p s =>
    let s := if (egr p s).cur.isSome then count 0x5020 6 s else s
    if p < 30 then setPrt p { prt p s with phase := 0, retrain := false } (portDown p 0x0E s) else s) s
  let s := each (domainEngines d) (fun e s =>
    if e < 48 then unlock e s else setLin (e - 48) { lin (e - 48) s with ident := none, own := false } s) s
  let s := if 5 ≤ d && d ≤ 11 then clusterDown d s else s
  let s := if d ≤ 3 then setReg 0x5030 1 (setField (reg 0x5030 1 s) (6 + d) 1 0) s
    else if d == 12 then setReg 0x5030 1 (setField (reg 0x5030 1 s) 4 1 0) s else s
  if d == 12 then linkGoes true false s
  else if d == 13 then (if reg 0x4050 2 s == 0 then setReg 0x4050 2 3 s else s)
  else s

/-- Pecks of a domain that is off go back; a consumer that is no longer permitted is reported so (R459, R481). -/
def domainReturn (d : Nat) (s : State) : State :=
  each (domainConsumers d ++ ((domainPorts d).filter (· < 30)).map portConsumer ++ (if d == 14 then List.range' 39 16 else []))
    (fun n s =>
      let s := peckWithdraw n (peckReturn n s)
      if peckPermitted n s then s else setPeck n 4 s) s

/-- The switch of a domain opens. -/
def switchOff (d : Nat) (s : State) : State :=
  if d ≥ 16 || !powered d s then s
  else
    let s := unitsOff d s
    let s := setReg 0x5020 4 (setField (reg 0x5020 4 s) d 1 0) (domainOff d s)
    let s := { s with power := { s.power with drainAt := tdel s.power.drainAt d, offAt := tput s.power.offAt d (wall s) } }
    domainReturn d s

/-- DOMAIN_POWER_DOWN (R298, R459, R481): every member of the domain rests, or its consumer is no longer permitted. -/
def execDomainPowerDown (domain : Fin 18) (s : State) : Res :=
  .next (if domainRests domain.val s || domainRevoked domain.val s then settle 4 (drainStart domain.val s) else s)

/-- DOMAIN_DRAIN_END (R459): the work in flight has drained, or the drain limit is reached. -/
def execDomainDrainEnd (domain : Fin 18) (s : State) : Res :=
  .next (
    let d := domain.val
    if draining d s && (drained d s || due (tget 0 s.power.drainAt d) (us (cfg 0x5020 1 s)) s) then
      let s := if drained d s then s else count 0x5020 5 s
      settle 4 (switchOff d s)
    else s)

/-! ### Switching on (R458) -/

/-- A consumer of a domain holds its grant. -/
def domainGranted (d : Nat) (s : State) : Bool := (domainConsumers d).any fun n => granted n s

/-- Units of a domain start their bring-up when it is ready: engines leave standby unless their cluster sleeps, ports wait for their
bring-up, the endpoint trains once PE_PERST_N is high (R467). -/
def unitsOn (d : Nat) (s : State) : State :=
  if d ≤ 4 then each (domainPorts d) (fun p s => if reg (pS p) 4 s == 0x0E then setReg (pS p) 4 2 s else s) s
  else if d ≤ 10 then each (domainEngines d) (fun n s => if s.power.loaded then canCommit s.cfg s.cfg n s else s) s
  else if d == 11 then each (List.range 16) (fun m s => if s.power.loaded then linCommit s.cfg m s else s) s
  else if d == 12 then linkTrains s
  else s

/-- A domain is switched on. -/
def switchOn (d : Nat) (s : State) : State :=
  if powered d s then s else unitsOn d (setReg 0x5020 2 (reg 0x5020 2 s + 2 ^ d) s)

/-- DOMAIN_READY (R457, R458, R460): a granted domain whose switch works and which has been off for 10 µs. -/
def execDomainReady (domain : Fin 18) (s : State) : Res :=
  .next (
    let d := domain.val
    if d < 16 && s.power.reset == 0 && s.power.sleep == 0 && domainGranted d s && !s.power.broken.contains d &&
        (tget 0 s.power.offAt d == 0 || due (tget 0 s.power.offAt d) 10000 s) then settle 4 (switchOn d s)
    else s)

/-- POWER_SWITCH_FAULT (R460): a domain's switch fails to open or to close, and the domain is reported as withdrawn. -/
def execPowerSwitchFault (domain : Fin 18) (s : State) : Res :=
  .next (
    let d := domain.val
    if d < 16 then
      fire 0x4E d (count 0x5020 7 { s with power := { s.power with broken := setIns d s.power.broken } })
    else s)

end Sys2Proof.Machine
end

