-- ==== Sys2Proof/Machine/Tables.lean ====
section
/-!
DEFINITION. Tables.lean: the table-access records (R38, R90, R174, R191, R192 and the cards), the refresh of the staged bank
(R191), the flash copy of freshness (R182), and PLCA coordination (R260, R261).
-/
namespace Sys2Proof.Machine

/-! ### The records -/

/-- A table-access record: its index, the fields of an entry, the live fields that command 0x03 clears, the command's
subindex, and whether the table belongs to the Sieve. -/
structure TabRec where
  index : Nat
  fields : List Nat
  clear : List Nat
  cmd : Nat
  sieve : Bool

/-- The record of a table, by its card. -/
def tabRec : TableRec → TabRec
  | .vlan => ⟨0x3004, List.range' 2 5, [], 7, false⟩
  | .stream => ⟨0x3200, List.range' 2 10, [0x0C, 0x0D], 0x0E, false⟩
  | .filter => ⟨0x3210, List.range' 2 6, List.range' 8 6, 0x0E, false⟩
  | .streamGate => ⟨0x3220, List.range' 2 6, [8], 0x0A, false⟩
  | .meter => ⟨0x3230, List.range' 2 5, List.range' 9 4, 0x0D, false⟩
  | .ternaryRule => ⟨0x4010, List.range' 2 6, [8], 9, true⟩
  | .canRule => ⟨0x4011, List.range' 2 6, [8], 9, true⟩
  | .action => ⟨0x4012, [2], [], 3, true⟩
  | .rewrite => ⟨0x4015, [2], [], 3, true⟩
  | .flow => ⟨0x4013, [2], [], 3, true⟩
  | .check => ⟨0x4014, List.range' 2 10, [], 0x0C, true⟩
  | .profile => ⟨0x4020, List.range' 2 6 ++ [9], [0x0A, 0x0B, 0x0C], 0x0D, true⟩
  | .limiter => ⟨0x4021, [2, 3], [5, 6], 7, true⟩
  | .guard => ⟨0x4030, List.range' 2 8, [0x0A, 0x0B], 0x0C, true⟩
  | .route => ⟨0x3C10, List.range' 2 20, [0x16, 0x17, 0x18], 0x19, false⟩
  | .program => ⟨0x3C11, [2], [], 3, false⟩
  | .container => ⟨0x3C20, List.range' 2 10, List.range' 0x0C 5, 0x12, false⟩
  | .receiveEntry => ⟨0x3C21, List.range' 2 4, List.range' 6 5, 0x0B, false⟩
  | .braiderLimiter => ⟨0x3C30, [2, 3], [5, 6], 7, false⟩
  | .peck => ⟨0x5001, [3, 4], [7], 8, false⟩
  | .eventExport => ⟨0x5C21, List.range' 2 6, [], 8, false⟩
  | .prefetch => ⟨0x5C30, [3, 4, 5, 6], [], 7, false⟩

/-- The entry that a record selects; a prefetch window by its bridge and number. -/
def selected (t : TableRec) (s : State) : Nat :=
  let i := (tabRec t).index
  if t = .prefetch then 16 * reg i 1 s + reg i 2 s else reg i 1 s

/-! ### Flow entries (R174) -/

/-- Ways used in a flow's bucket of a bank. -/
def flowWays (b : Bank) (k : Nat) : Nat := (b.flows.filter fun e => flowBucket b e.1 == flowBucket b k).length

/-- A flow written to a bank: status 4 and no entry where its bucket is full. -/
def flowPut (b : Bank) (k c : Nat) : Option Bank :=
  let rest := { b with flows := tdel b.flows k }
  if flowWays rest k < 4 then some { b with flows := tput b.flows k c } else none

/-- Flow write to the staged table, and deletion from it, with the status that 0x4013:03 then reads. -/
def flowStage (k c : Nat) (s : State) : State :=
  match flowPut s.staged k c with
  | some b => setReg 0x4013 3 2 { s with staged := b }
  | none => setReg 0x4013 3 4 s

def flowUnstage (k : Nat) (s : State) : State :=
  if tget 0 s.staged.flows k == 0 then setReg 0x4013 3 3 s
  else setReg 0x4013 3 2 { s with staged := { s.staged with flows := tdel s.staged.flows k } }

/-- Every bucket of a bank's flows holds its entries; else its new seed is refused at commit. -/
def flowsCheck (b : Bank) : Option (Nat × Nat × Nat) :=
  if b.flows.any fun e => flowWays b e.1 > 4 then some (0x4000, 9, 0x06090031) else none

/-! ### Staged writes that wait for the refresh (R191) -/

/-- Mark of a waiting flow write. -/
def flowMark : Nat := 2 ^ 336

/-- A staged write of the Sieve takes effect, or waits for the refresh of the staged bank. -/
def stageWrite (k v : Nat) (s : State) : State :=
  if k ≥ flowMark then (if v == 0 then flowUnstage (k - flowMark) s else flowStage (k - flowMark) v s)
  else { s with staged := { s.staged with objs := sset s.staged.objs k v } }

def sieveStage (k v : Nat) (s : State) : State :=
  if s.sieve.refreshing then
    { s with sieve := { s.sieve with waitingWrites := s.sieve.waitingWrites ++ [(k, v)] } }
  else stageWrite k v s

/-- STAGED_BANK_REFRESH_COMPLETE (R191): the copy ends, and the writes that waited proceed in order. -/
def execStagedBankRefreshComplete (s : State) : Res :=
  .next (
    if s.sieve.refreshing then
      let l := s.sieve.waitingWrites
      each l (fun x s => stageWrite x.1 x.2 s) { s with sieve := { s.sieve with refreshing := false, waitingWrites := [] } }
    else s)

/-! ### Commands 0x01, 0x02 and 0x03 -/

/-- Command 0x01 (R191): the committed entry is put into the record's fields; a flow is looked up by its key. -/
def readCommitted (t : TableRec) : Svc := notTerminal fun s =>
  let r := tabRec t
  let e := selected t s
  if t = .flow then
    match tget 0 s.cfg.flows (reg 0x4013 1 s) with
    | 0 => done (setReg 0x4013 3 3 s)
    | c => done (setReg 0x4013 3 2 (setReg 0x4013 2 c s))
  else done (setReg r.index r.cmd 2 (each r.fields (fun j s => setReg r.index j (cfgE e r.index j s) s) s))

/-- Command 0x02 (R38, R191): the record's fields are staged as the selected entry. The priority of consumer 0 is not
written (0x5001:03). -/
def writeStaged (ses : Session) (t : TableRec) : Svc := notTerminal (staging ses fun s =>
  let r := tabRec t
  let e := selected t s
  if t = .flow then
    let k := flowMark + reg 0x4013 1 s
    done (sieveStage k (reg 0x4013 2 s) s)
  else
    let l := if t = .peck && e == 0 then r.fields.filter (· ≠ 3) else r.fields
    let put (j : Nat) (s : State) : State :=
      if r.sieve then sieveStage (ekey e r.index j) (reg r.index j s) s else stageE e r.index j (reg r.index j s) s
    done (setReg r.index r.cmd 2 (each l put s)))

/-- Command 0x03 of the flow record: the entry is deleted from the staged table (R174). -/
def flowDelete (ses : Session) : Svc := notTerminal (staging ses fun s => done (sieveStage (flowMark + reg 0x4013 1 s) 0 s))

/-- Command 0x03 (R191): the live counters of the selected entry are cleared, those of a guard under a Workshop credential; a
record without them refuses the command as out of its range. -/
def clearCounters (ses : Session) (t : TableRec) : Svc := notTerminal fun s =>
  let r := tabRec t
  let e := selected t s
  if t = .flow then flowDelete ses s
  else if t = .guard && roleOf ses s < 2 then (s, 0x080000A1)
  else if r.clear.isEmpty then (s, 0x06090031)
  else done (setReg r.index r.cmd 2 (each r.clear (fun j s => setRegE e r.index j 0 s) s))

/-- READ_COMMITTED (R191). -/
def execReadCommitted (ses : Session) (table : TableRec) (s : State) : Res := .next (serve ses (readCommitted table) s)

/-- WRITE_STAGED (R38). -/
def execWriteStaged (ses : Session) (table : TableRec) (s : State) : Res := .next (serve ses (writeStaged ses table) s)

/-- CLEAR_ENTRY_COUNTERS (R191). -/
def execClearEntryCounters (ses : Session) (table : TableRec) (s : State) : Res := .next (serve ses (clearCounters ses table) s)

/-- FLOW_DELETE_STAGED (R174). -/
def execFlowDeleteStaged (ses : Session) (s : State) : Res := .next (serve ses (flowDelete ses) s)

/-! ### Zone-pair counters (R192) -/

/-- The pair that 0x4040 selects. -/
def zonePair (s : State) : Nat := 16 * reg 0x4040 1 s + reg 0x4040 2 s

def zonePairRead : Svc := notTerminal fun s =>
  done (setReg 0x4040 7 2 (each [3, 4, 5, 6] (fun j s => setReg 0x4040 j (regE (zonePair s) 0x4040 j s) s) s))

def zonePairClear : Svc := notTerminal fun s =>
  done (setReg 0x4040 7 2 (each [3, 4, 5, 6] (fun j s => setRegE (zonePair s) 0x4040 j 0 s) s))

/-- ZONE_PAIR_COUNTERS_READ (R192). -/
def execZonePairCountersRead (ses : Session) (s : State) : Res := .next (serve ses zonePairRead s)

/-- ZONE_PAIR_COUNTERS_CLEAR (R192). -/
def execZonePairCountersClear (ses : Session) (s : State) : Res := .next (serve ses zonePairClear s)

/-! ### Freshness in flash (R182) -/

/-- Profiles with a live freshness value. -/
def freshProfiles (s : State) : List Nat :=
  s.regs.foldl (fun l kv => if kv.1 ≥ 2 ^ 24 && kv.1 % 2 ^ 24 == okey 0x4020 8 then setIns (kv.1 / 2 ^ 24 - 1) l else l) []

/-- Firmware copies each profile's V, with its data ID and key slot (R182). -/
def copyFreshness (s : State) : State :=
  each (freshProfiles s) (fun r s =>
    let x := (regE r 0x4020 8 s, cfgE r 0x4020 2 s, cfgE r 0x4020 3 s)
    { s with sieve := { s.sieve with flashFreshness := tset (0, 0, 0) s.sieve.flashFreshness r x } }) s

/-- FRESHNESS_FLASH_COPY (R182). -/
def execFreshnessFlashCopy (s : State) : Res := .next (if s.access.coreUp then copyFreshness s else s)

/-! ### PLCA coordination (R260, R261) -/

/-- BEACON_ALIGNMENT (R260): the BEACON of a new cycle is sent at a grid point; a grid point that the last cycle has run
past is counted as an overrun. -/
def execBeaconAlignment (port : Fin 8) (s : State) : Res :=
  .next (
    let k := port.val
    let p := 22 + k
    let g := nowNs s / (8 * max 1 (cfg (0x3C80 + k) 2 s)) + 1
    let last := tget 0 s.braid.gridAt k
    if coordinator p s && portUp p s && cfg (0x3C80 + k) 1 s == 1 && decide (last < g) then
      let s := if last ≠ 0 && decide (last + 1 < g) then count (0x3C80 + k) 7 s else s
      emit (.beacon p) (noteBeacon p { s with braid := { s.braid with gridAt := tset 0 s.braid.gridAt k g } })
    else s)

/-- PLCA_TAKEOVER (R261): no BEACON for the takeover time makes the port coordinator, and source 0x62 fires. -/
def execPlcaTakeover (port : Fin 8) (s : State) : Res :=
  .next (
    let k := port.val
    let p := 22 + k
    if cfg (0x3C80 + k) 3 s == 1 && cfg (pB p + 5) 1 s == 1 && !coordinator p s && portUp p s &&
        due (tget 0 s.braid.beaconAt k) (ms (cfg (0x3C80 + k) 4 s)) s then
      fire 0x62 p (count (0x3C80 + k) 6 (setReg (0x3C80 + k) 5 1 s))
    else s)

/-- Takeover ends at a commit that changes the port's PLCA settings or its coordination record, or at a wake (R261). -/
def plcaCommit (old new : Bank) (s : State) : State :=
  each (List.range 8) (fun k s =>
    let p := 22 + k
    if (List.range' 1 6).any (fun j => bkO old (pB p + 5) j ≠ bkO new (pB p + 5) j) ||
        (List.range' 1 4).any (fun j => bkO old (0x3C80 + k) j ≠ bkO new (0x3C80 + k) j) then
      setReg (0x3C80 + k) 5 0 { s with braid := { s.braid with gridAt := tdel s.braid.gridAt k } }
    else s) s

def plcaWake (s : State) : State := each (List.range 8) (fun k s => setReg (0x3C80 + k) 5 0 s) s

end Sys2Proof.Machine
end

