-- ==== Sys2Proof/Machine/Pairing.lean ====
section
/-!
DEFINITION. Pairing.lean: the member's and the referee's side of the lease (R311–R329).
-/
namespace Sys2Proof.Machine

/-! ### Messages (R317) -/

/-- Fields of a lease message or health report. -/
def pmType (m : Bytes) : Nat := byteAt m 0 % 16

def pmPair (m : Bytes) : Nat := byteAt m 0 / 16 % 4

def pmYield (m : Bytes) : Bool := bit (byteAt m (if pmType m == 4 then 1 else 0)) 6

def pmDev (m : Bytes) : Nat := byteAt m 1 % 8

def pmSeq (m : Bytes) : Nat := leNat (slice 2 4 m)

/-- Length of a message by its type. -/
def pmLen (ty : Nat) : Nat := if ty == 4 then 32 else 16

/-- The CMAC at the end of a message verifies under a slot. -/
def pmMac (slot : Nat) (m : Bytes) (s : State) : Bool := m.drop (m.length - 4) == macBytes slot 4 (m.take (m.length - 4)) s

/-- What a receiver makes of a message of sender x (R317): 0 rejected, 1 a copy of one already accepted, 2 accepted. -/
def pmCheck (slot x : Nat) (m : Bytes) (s : State) : Nat :=
  if m.length ≠ pmLen (pmType m) || !pmMac slot m s then 0
  else if s.pair.seen.contains (x * 2 ^ 32 + pmSeq m) then 1
  else if pmSeq m > tget 0 s.pair.seqs x then 2 else 0

def pmReject (s : State) : State := fire 0xCC 0 (count 0x5401 0x0A s)

def pmAccept (x : Nat) (m : Bytes) (s : State) : State :=
  { s with pair := { s.pair with
      seqs := tset 0 s.pair.seqs x (pmSeq m), seen := (x * 2 ^ 32 + pmSeq m) :: s.pair.seen } }

/-- A message of sender x is taken up by f, discarded silently, or rejected. -/
def pmTake (slot x : Nat) (m : Bytes) (f : State → State) (s : State) : State :=
  match pmCheck slot x m s with
  | 0 => pmReject s
  | 1 => s
  | _ => f (pmAccept x m s)

/-! ### Member (R313–R319) -/

/-- Leased engine e has no frame in progress. -/
def engIdle (e : Nat) (s : State) : Bool :=
  if e < 48 then (lockedSlot e s).isNone else (lin (e - 48) s).ident.isNone || !(lin (e - 48) s).own

def leasedIdle (s : State) : Bool := (List.range 64).all fun e => !leased e s || engIdle e s

/-- Every leased engine is idle: the lease ends and the ACK carries yield (R319). -/
def finishYield (s : State) : State := if s.pair.yielding && leasedIdle s then yieldLease s else s

/-- The member stops for its partner or at a RELEASE (R319): it starts no frame on its leased engines; without a lease it answers
at once. -/
def stopLease (answer : Bool) (s : State) : State :=
  if reg 0x5401 2 s == 1 then finishYield (setReg 0x5401 1 3 { s with pair := { s.pair with yielding := true } })
  else if answer then sendAck true s else s

/-- Lease end in ns of local time from its low 40 bits, taken nearest to the present time. -/
def leaseEnd (low : Nat) (s : State) : Nat :=
  let now := nowNs s
  let e := now / 2 ^ 40 * 2 ^ 40 + low
  if e > now + 2 ^ 39 then e - 2 ^ 40 else if now > e + 2 ^ 39 then e + 2 ^ 40 else e

/-- A GRANT that names the member is accepted, and answered (R314, R319). -/
def takeLease (m : Bytes) (s : State) : State :=
  let e := leaseEnd (leNat (slice 6 5 m)) s
  let sync := pairSync (cfg 0x5400 0x0A s) s
  if !mayHold s || (sync && (e ≤ nowNs s || e > nowNs s + 4250000)) then s
  else
    let s := if reg 0x5401 2 s == 1 then s else count 0x5401 8 s
    let s := setReg 0x5401 3 (time80 e) (setReg 0x5401 2 1 (setReg 0x5401 1 2 s))
    let s := { s with pair := { s.pair with
        endAt := e, monoEnd := monoNs s + 4000000, useEnd := sync, grantAt := wall s, yielding := false } }
    sendAck false (each (List.range 48) (fun n s => if leased n s then fillSlots n s else s) s)

/-- A message of the referee has been heard (R325). -/
def heardReferee (m : Bytes) (s : State) : State :=
  setReg 0x5401 4 (pmSeq m) (setReg 0x5401 6 1 { s with pair := { s.pair with heardAt := wall s } })

/-- A GRANT or RELEASE at a member (R319, R328). -/
def refereeMessage (m : Bytes) (s : State) : State :=
  let s := heardReferee m s
  if pmType m == 3 then (if pmDev m == ownDev s then stopLease true s else s)
  else if pmDev m == ownDev s then
    (if s.dev = .safe || s.dev = .terminal then sendAck true s else takeLease m s)
  else if pmDev m == cfg 0x5400 5 s then stopLease false s
  else s

/-- A member takes up messages of its own pair while it is awake and past Catch. -/
def memberHears (ty : Nat) (m : Bytes) (s : State) : Bool :=
  member s && s.dev ≠ .boot && s.dev ≠ .catch_ && s.power.sleep == 0 && pmType m == ty && pmPair m == cfg 0x5400 2 s

/-- GRANT_RECEIVE (R319). -/
def execGrantReceive (msg : List Byte) (s : State) : Res :=
  .next (if memberHears 1 msg s then pmTake (cfg 0x5400 9 s) 0 msg (refereeMessage msg) s else s)

/-- RELEASE_RECEIVE (R319). -/
def execReleaseReceive (msg : List Byte) (s : State) : Res :=
  .next (if memberHears 3 msg s then pmTake (cfg 0x5400 9 s) 0 msg (refereeMessage msg) s else s)

/-- LEASE_YIELD (R319): every leased engine has fallen idle. -/
def execLeaseYield (s : State) : Res := .next (finishYield s)

/-- The lease has lapsed (R314, R319, R325): source 0xC8 fires, unless the member was yielding anyway. -/
def leaseLapse (s : State) : State :=
  if reg 0x5401 2 s == 1 && !leaseHolds 0 s then
    (if s.pair.yielding then yieldLease s else fire 0xC8 0 (endLease s))
  else s

/-- LEASE_END (R319). -/
def execLeaseEnd (s : State) : Res := .next (leaseLapse s)

/-- Engine e is able to transmit (R317): it is on, and not withdrawn, bus-off, held dominant or without power. -/
def engAble (e : Nat) (s : State) : Bool :=
  if e < 48 then !([0, 5, 8, 9].contains (canState e s)) && !(can e s).held && powered (engDomain e) s
  else !([0, 6, 7].contains (linState (e - 48) s)) && !(lin (e - 48) s).held && powered 11 s

/-- The health report (R317, R318). -/
def healthBody (s : State) : Bytes :=
  let st := if s.dev = .headless then s.pair.frozen else devCode s.dev + 256 * highestClass s
  let able := (List.range 64).foldl (fun a e => if leased e s && engAble e s then a + 2 ^ e else a) 0
  leBytes 1 (4 + 16 * cfg 0x5400 2 s) ++
    leBytes 1 (ownDev s + 8 * b2n (pairSync (cfg 0x5400 0x0A s) s) + 16 * reg 0x5401 2 s + 32 * b2n (mayHold s) +
      64 * b2n s.pair.yielding) ++
    leBytes 4 (pairSeq s) ++ leBytes 2 st ++ leBytes 8 able ++ leBytes 2 s.pair.mism ++ leBytes 2 s.pair.omis ++ leBytes 4 (nowNs s) ++
    leBytes 4 (reg 0x5401 4 s)

/-- HEALTH_REPORT_SEND (R318): every 10 ms of the monotonic count, to the referee and to the partner. -/
def execHealthReportSend (s : State) : Res :=
  .next (
    if member s && s.dev ≠ .boot && s.dev ≠ .catch_ && s.power.sleep == 0 && decide (s.pair.healthAt + ms 10 ≤ monoNs s) then
      let s := nextPairSeq { s with pair := { s.pair with healthAt := monoNs s } }
      let b := healthBody s
      let s := { s with pair := { s.pair with mism := 0, omis := 0 } }
      sendPairing 6 (cfg 0x5400 2 s) [cfg 0x5400 6 s, cfg 0x5400 5 s] (cfg 0x5400 7 s) (cfg 0x5400 8 s + 2 + reg 0x5400 1 s)
        (b ++ macBytes (cfg 0x5400 9 s) 4 b s) s
    else s)

/-- PARTNER_HEALTH_TIMEOUT (R318). -/
def execPartnerHealthTimeout (s : State) : Res :=
  .next (if member s && due s.pair.partnerAt (ms 30) s then fire 0xCA 0 s else s)

/-- REFEREE_LOST (R325). -/
def execRefereeLost (s : State) : Res :=
  .next (
    if member s && reg 0x5401 6 s == 1 && due s.pair.heardAt (ms 3) s then fire 0xCB 0 (setReg 0x5401 6 0 s) else s)

/-- SHADOW_OMISSION (R315). -/
def execShadowOmission (engine : Fin 48) (s : State) : Res :=
  .next (if shadowed engine.val s then settle 4 (shadowOmission engine.val s) else s)

/-- TRANSMIT_WITHOUT_LEASE (R313): the monitor sees a dominant bit of a leased engine with no valid lease. -/
def execTransmitWithoutLease (engine : Fin 48) (s : State) : Res :=
  .next (if shadowed engine.val s then fire 0xCE engine.val s else s)

/-- A commit that changes 0x5400:02 to :09 makes the holder yield (R327). -/
def pairCommit (old new : Bank) (s : State) : State :=
  if (List.range' 2 8).any fun j => bkO old 0x5400 j ≠ bkO new 0x5400 j then stopLease false s else s

/-- Commit checks of the lease engine (R312); a nominal bit of 500 kbit/s has 320 cycles of 160 MHz. -/
def pairCheck (b : Bank) : Option (Nat × Nat × Nat) :=
  let e := bkO b 0x5400 7
  if e < 48 && (bit (bkO b 0x5400 3) e || bkO b (cE e) 2 == 0 || nominalBit b e > 320) then some (0x5400, 7, 0x06090030)
  else none

/-- At a wake or a start a member has no lease (R327). -/
def pairWake (s : State) : State :=
  if member s then
    let s := setReg 0x5401 6 0 (setReg 0x5401 1 (restState s) (setReg 0x5401 2 0 s))
    { s with pair := { s.pair with yielding := false, heardAt := wall s, partnerAt := wall s } }
  else s

/-! ### Referee (R320–R328) -/

def referee (k : Nat) (s : State) : RefSt := tget refSt0 s.referee k

def setReferee (k : Nat) (x : RefSt) (s : State) : State := { s with referee := tset refSt0 s.referee k x }

/-- Record of pair k. -/
def rP (k : Nat) : Nat := 0x5440 + k

def member_ (k m : Nat) (s : State) : MemberSt := tget memberSt0 (referee k s).members m

def setMember (k m : Nat) (x : MemberSt) (s : State) : State :=
  setReferee k { referee k s with members := tset memberSt0 (referee k s).members m x } s

/-- The referee grants: it is one, pair k is enabled, and its state allows it (R311, R325). -/
def grants (k : Nat) (s : State) : Bool :=
  reg 0x5400 1 s == 3 && cfg (rP k) 1 s == 1 && s.power.sleep == 0 && (s.dev = .operate || s.dev = .configure || s.dev = .headless)

/-- Device number of member m (1 A, 2 B) of pair k, and the member of a device number, 0 none. -/
def memberDev (k m : Nat) (s : State) : Nat := cfg (rP k) (m + 1) s

def devMember (k d : Nat) (s : State) : Nat := if d == cfg (rP k) 2 s then 1 else if d == cfg (rP k) 3 s then 2 else 0

/-- A report of member m is younger than 30 ms. -/
def reports (k m : Nat) (s : State) : Bool :=
  match (member_ k m s).at_ with
  | some t => decide (wall s < t + ms 30)
  | none => false

/-- Member m counts as eligible (R321). Members with one device number are not granted (R328). -/
def eligibleNow (k m : Nat) (s : State) : Bool :=
  let x := member_ k m s
  reports k m s && x.eligible && [2, 3, 4].contains x.state && memberDev k 1 s ≠ memberDev k 2 s

/-- 0x5440 + k:0A. -/
def noteEligibility (k : Nat) (s : State) : State :=
  setReg (rP k) 0x0A (b2n (eligibleNow k 1 s) + 2 * b2n (eligibleNow k 2 s) + 4 * b2n (member_ k 1 s).sync +
    8 * b2n (member_ k 2 s).sync) s

def holder (k : Nat) (s : State) : Nat := reg (rP k) 8 s

def other (m : Nat) : Nat := 3 - m

/-- A GRANT or RELEASE of the referee (R317, R320). -/
def sendLease (k ty m e : Nat) (s : State) : State :=
  let s := nextPairSeq s
  let b := leBytes 1 (ty + 16 * k) ++ leBytes 1 (memberDev k m s + 8 * b2n (pairSync (cfg 0x5400 0x0A s) s)) ++
    leBytes 4 (pairSeq s) ++ leBytes 5 (e % 2 ^ 40) ++ leBytes 1 0
  sendPairing 5 k [memberDev k 1 s, memberDev k 2 s] (cfg (rP k) 4 s) (cfg (rP k) 5 s) (b ++ macBytes (cfg (rP k) 6 s) 4 b s) s

/-- The previous lease has ended by the referee's own clock, with the guard where the referee or member m is not synchronised; or by a yield
(R320). -/
def leaseEnded (k m : Nat) (s : State) : Bool :=
  let x := referee k s
  let g := if pairSync (cfg 0x5400 0x0A s) s && (member_ k m s).sync && !x.clash then 0 else us (cfg (rP k) 7 s)
  (x.ended && !x.clash) || (decide (x.endAt + g < nowNs s || x.endAt == 0) && decide (x.sentAt + 4000000 + g ≤ monoNs s || x.endAt == 0))

/-- A GRANT to member m with the lease end 4 ms ahead. -/
def grant (k m : Nat) (s : State) : State :=
  let e := nowNs s + 4000000
  let s := setReg (rP k) 9 (time80 e) (setReg (rP k) 8 m s)
  let s := setReferee k { referee k s with
    endAt := e, sentAt := monoNs s, awaiting := true, withheld := false, ended := false, releasing := false, started := true
    clash := false, next := 0 } s
  sendLease k 1 m e s

/-- A running command is over. -/
def commandOver (k v : Nat) (s : State) : State := if reg (rP k) 0x0B s == 1 then setReg (rP k) 0x0B v s else s

/-- Member m is granted as a move of the lease, with its cause (R320, R321). -/
def moveLease (k m : Nat) (s : State) : State :=
  let s := setReg (rP k) 0x0E (referee k s).why (count (rP k) 0x0C s)
  commandOver k 2 (grant k m s)

/-- With the lease ended, the other member is granted, else the old holder, if eligible; with neither, none is, and source 0xCF
fires (R321, R328). `h`: the member whose lease ended, 0 none. -/
def regrant (k h : Nat) (s : State) : State :=
  let x := referee k s
  let pick := if x.next ≠ 0 && eligibleNow k x.next s then some x.next
    else if h ≠ 0 && eligibleNow k (other h) s then some (other h)
    else if eligibleNow k 1 s then some 1
    else if eligibleNow k 2 s then some 2 else none
  if !grants k s || x.stopped then commandOver k 2 s
  else
    match pick with
    | some m => if leaseEnded k m s then moveLease k m s else s
    | none => fire 0xCF k s

/-- The holder's lease is over for the referee. -/
def holderOut (k : Nat) (byYield : Bool) (s : State) : State :=
  setReg (rP k) 8 0 (setReferee k { referee k s with ended := byYield, awaiting := false, withheld := false, releasing := false } s)

/-- REFEREE_GRANT_RENEWAL (R320): every 1 ms while the holder's lease is not withheld. -/
def execRefereeGrantRenewal (referee : Fin 3) (s : State) : Res :=
  .next (
    let k := referee.val
    let x := Sys2Proof.Machine.referee k s
    if grants k s && holder k s ≠ 0 && !x.withheld && !x.releasing && !x.clash && eligibleNow k (holder k s) s &&
        decide (x.sentAt + 1000000 ≤ monoNs s) then
      grant k (holder k s) s
    else s)

/-- Renewals are withheld, with the cause that a move would then have. -/
def withhold (k why : Nat) (s : State) : State :=
  if (referee k s).withheld then s
  else count (rP k) 0x0D (setReferee k { referee k s with withheld := true, why := why, awaiting := false } s)

/-- REFEREE_ACK_TIMEOUT (R321): no ACK within 0.5 ms of the last GRANT. -/
def execRefereeAckTimeout (referee : Fin 3) (s : State) : Res :=
  .next (
    let k := referee.val
    let x := Sys2Proof.Machine.referee k s
    if holder k s ≠ 0 && x.awaiting && decide (x.sentAt + 500000 ≤ monoNs s) then withhold k 1 s else s)

/-- REFEREE_HEALTH_TIMEOUT (R321): the holder's reports have been missing for 30 ms; eligibility of a silent member lapses. -/
def execRefereeHealthTimeout (referee : Fin 3) (s : State) : Res :=
  .next (
    let k := referee.val
    let s := noteEligibility k s
    if holder k s ≠ 0 && !reports k (holder k s) s then withhold k 2 s else s)

/-- REFEREE_LEASE_LAPSE (R320, R321): the lease has run out by the referee's clock. -/
def execRefereeLeaseLapse (referee : Fin 3) (s : State) : Res :=
  .next (
    let k := referee.val
    let h := holder k s
    let x := Sys2Proof.Machine.referee k s
    if !grants k s then s
    else if h ≠ 0 then
      (if (x.withheld || x.releasing || x.clash) && leaseEnded k (other h) s then regrant k h (holderOut k false s) else s)
    else if x.started then regrant k 0 (noteEligibility k s)
    else s)

/-- Command 0x01 (R324), and the RELEASE of a hand-over for the standby's better reach (R321). -/
def releaseFor (k why : Nat) (s : State) : State :=
  let h := holder k s
  setReferee k { referee k s with releasing := true, next := other h, why := why, awaiting := false } (sendLease k 3 h 0 s)

/-- An ACK of member m (R320, R321, R328). -/
def ackReceived (k m : Nat) (msg : Bytes) (s : State) : State :=
  let s := setMember k m { member_ k m s with sync := bit (byteAt msg 1) 3, holds := bit (byteAt msg 1) 4 } s
  let s := noteEligibility k s
  if (member_ k 1 s).holds && (member_ k 2 s).holds then
    let s := sendLease k 3 2 0 (sendLease k 3 1 0 s)
    fire 0xCF k (setReg (rP k) 8 0 (setReferee k { referee k s with clash := true, ended := false, awaiting := false, next := 0, why := 3 } s))
  else if holder k s ≠ m then s
  else if pmYield msg then
    let x := referee k s
    let s := if x.releasing then s else setReferee k { x with why := 3 } s
    regrant k m (holderOut k true s)
  else
    let x := referee k s
    setReferee k { x with awaiting := false, withheld := x.withheld && x.why ≠ 1 } s

/-- LEASE_ACK_RECEIVE (R321). -/
def execLeaseAckReceive (referee : Fin 3) (msg : List Byte) (s : State) : Res :=
  .next (
    let k := referee.val
    let m := devMember k (pmDev msg) s
    if !grants k s || pmType msg ≠ 2 || pmPair msg ≠ k || m == 0 then s
    else pmTake (cfg (rP k) 6 s) (2 * k + m + 1) msg (ackReceived k m msg) s)

/-- Number of set bits. -/
def bitCount (v : Nat) : Nat := (bitsOf 64 v).length

/-- The first grant after the referee's start (R325): with reports of both, member A first. -/
def firstGrant (k : Nat) (s : State) : State :=
  let x := referee k s
  if x.started || x.stopped || !grants k s then s
  else if reports k 1 s && reports k 2 s && (eligibleNow k 1 s || eligibleNow k 2 s) then
    moveLease k (if eligibleNow k 1 s then 1 else 2) (setReferee k { x with why := 6 } s)
  else s

/-- A health report of member m at the referee (R321, R325). -/
def refereeHealth (k m : Nat) (msg : Bytes) (s : State) : State :=
  let b := byteAt msg 1
  let able := leNat (slice 8 8 msg)
  let x := member_ k m s
  let h := holder k s
  let better := if h ≠ 0 && m ≠ h && bitCount able > bitCount (member_ k h s).able then x.better + 1 else 0
  let s := setMember k m { x with
    at_ := some (wall s), state := byteAt msg 6, eligible := bit b 5, sync := bit b 3, holds := bit b 4, able := able, better := better } s
  let s := if (referee k s).firstAt == 0 then setReferee k { referee k s with firstAt := wall s } s else s
  let s := noteEligibility k s
  if h == m && bit b 6 then regrant k m (holderOut k true (setReferee k { referee k s with why := 3 } s))
  else if better ≥ 3 && eligibleNow k m s && !(referee k s).releasing then
    releaseFor k 4 (setMember k m { member_ k m s with better := 0 } s)
  else if !(referee k s).started then firstGrant k s
  else if h == 0 && eligibleNow k m s then regrant k 0 s
  else s

/-- HEALTH_REPORT_RECEIVE (R318, R321): a member takes its partner's, the referee those of its pairs. -/
def execHealthReportReceive (msg : List Byte) (s : State) : Res :=
  .next (
    let k := pmPair msg
    if memberHears 4 msg s then
      (if pmDev msg == cfg 0x5400 5 s then
        pmTake (cfg 0x5400 9 s) 1 msg (fun s => { s with pair := { s.pair with partnerAt := wall s } }) s
      else s)
    else if grants k s && k < 3 && pmType msg == 4 then
      let m := devMember k (pmDev msg) s
      (if m == 0 then s else pmTake (cfg (rP k) 6 s) (2 * k + m + 1) msg (refereeHealth k m msg) s)
    else s)

/-- REFEREE_FIRST_GRANT (R325): the only reporting member is granted 30 ms after its first report. -/
def execRefereeFirstGrant (referee : Fin 3) (s : State) : Res :=
  .next (
    let k := referee.val
    let x := Sys2Proof.Machine.referee k s
    if grants k s && !x.started && !x.stopped && x.firstAt ≠ 0 && due x.firstAt (ms 30) s then
      (match [1, 2].find? fun m => eligibleNow k m s && !reports k (other m) s with
      | some m => moveLease k m (setReferee k { x with why := 6 } s)
      | none => firstGrant k s)
    else s)

/-- Commands 0x01 to 0x03 at 0x5440 + k:0B (R324). -/
def cmdHandOver (k : Nat) : Svc := notTerminal fun s =>
  let h := holder k s
  if grants k s && h ≠ 0 && eligibleNow k (other h) s then done (setReg (rP k) 0x0B 1 (releaseFor k 5 s))
  else done (setReg (rP k) 0x0B 3 s)

def cmdReleaseAll (k : Nat) : Svc := notTerminal fun s =>
  let h := holder k s
  let s := setReferee k { referee k s with stopped := true, next := 0, why := 5 } s
  if grants k s && h ≠ 0 then
    done (setReg (rP k) 0x0B 1 (setReferee k { referee k s with releasing := true, awaiting := false } (sendLease k 3 h 0 s)))
  else done (setReg (rP k) 0x0B 2 s)

def cmdResume (k : Nat) : Svc := notTerminal fun s =>
  let s := setReferee k { referee k s with stopped := false, next := 0, why := 5 } s
  let s := setReg (rP k) 0x0B 2 s
  done (if holder k s == 0 then (if (referee k s).started then regrant k 0 s else firstGrant k s) else s)

/-- HAND_OVER (R324). -/
def execHandOver (ses : Session) (referee : Fin 3) (s : State) : Res := .next (serve ses (cmdHandOver referee.val) s)

/-- RELEASE_ALL (R324). -/
def execReleaseAll (ses : Session) (referee : Fin 3) (s : State) : Res := .next (serve ses (cmdReleaseAll referee.val) s)

/-- RESUME (R324). -/
def execResume (ses : Session) (referee : Fin 3) (s : State) : Res := .next (serve ses (cmdResume referee.val) s)

end Sys2Proof.Machine
end

