-- ==== Sys2Proof/Machine/Time.lean ====
section
/-!
DEFINITION. Time.lean: gPTP, steering, steps, comparators, captures and PPS (R266–R287).
-/
namespace Sys2Proof.Machine

/-! ### Rate adjustment (R266, R275) -/

def aLimit : Int := 17179869

/-- A and its value in ppb (0x3800:05, :09). -/
def setA (a : Int) (s : State) : State :=
  let a := max (-aLimit) (min aLimit a)
  setReg 0x3800 9 (ofInt 32 (a * 1000000000 / 34359738368)) (setReg 0x3800 5 (ofInt 32 a) s)

def rateA (s : State) : Int := toInt 32 (reg 0x3800 5 s)

/-- The slew limit of 0x3802:02 in units of A. -/
def slewLimit (s : State) : Nat := reg 0x3802 2 s * 34359738 / 1000

/-! ### Steps (R277, R278, R281) -/

def cP (k : Nat) : Nat := 0x3840 + k

def far (a b : Nat) : Bool := decide (b + timeWindow < a ∨ a + timeWindow < b)

def cmpArmed (k : Nat) (s : State) : Bool := reg (cP k) 2 s == 1

/-- Target in force of comparator k in ns. -/
def target (k : Nat) (s : State) : Nat := tget 0 s.time.target k

/-- The target that comparator k is armed with; the object shows it. -/
def setTarget (k v : Nat) (s : State) : State :=
  setReg (cP k) 1 (time80 v) { s with time := { s.time with target := tset 0 s.time.target k v } }

/-- The copy of armed targets and periods in PD_AON (R268, R283). -/
def keepTargets (s : State) : State :=
  { s with time := { s.time with
      kept := (List.range 16).foldl (fun t k => if cmpArmed k s then tput t k (target k s, reg (cP k) 3 s) else t) [] } }

def disarm (k : Nat) (s : State) : State := keepTargets (setReg (cP k) 2 0 s)

/-- Firings and skipped periods (0x3840 + k:0B). -/
def addFirings (k fired skipped : Nat) (s : State) : State :=
  let v := reg (cP k) 0x0B s
  setReg (cP k) 0x0B (min 0xFFFFFFFF (v % 2 ^ 32 + fired) + min 0xFFFFFFFF (v / 2 ^ 32 + skipped) * 2 ^ 32) s

/-- What a firing does at the internal target (R282): a table request, a doorbell, or the joining of a mailbox frame. -/
def internalTarget (k : Nat) (s : State) : State :=
  let op := cfg (cP k) 7 s
  match cfg (cP k) 6 s with
  | 1 => tableRequest (op % 16) (op / 16 % 8) s
  | 2 => dmaTrigger (op % 64) s
  | 3 => if rt s.cfg op 2 == 1 && !rtFifo s.cfg op && !braidStill s then joinNow op s else s
  | _ => s

/-- Comparators act on the outside: not in Safe or Terminal (R283). -/
def timeActs (s : State) : Bool := !s.faults.forced && s.dev ≠ .safe && s.dev ≠ .terminal && s.power.sleep == 0

/-- A firing (R279, R280, R282, R283). -/
def fireComparator (k : Nat) (s : State) : State :=
  let p := reg (cP k) 3 s
  let s := addFirings k 1 0 s
  let s := if p == 0 then setReg (cP k) 2 0 s else setTarget k (target k s + p) s
  let s := announce 2 k (leBytes 10 (time80 (nowNs s))) (keepTargets s)
  let s := if !timeActs s then s
    else if k < 8 then
      (if cfg (cP k) 9 s == 1 && s.time.drivers then
        driveTtrig k (1 - ttrigIdle k s)
          { s with time := { s.time with ttrig := tset 0 s.time.ttrig k (wall s + 8 * cfg (cP k) 4 s) } }
      else s)
    else internalTarget k s
  let v := cfg (cP k) 8 s
  if v == 0xFF then s else msix v s

/-- An armed comparator after a step (R281). -/
def comparatorStep (k : Nat) (s : State) : State :=
  let now := nowNs s
  let t := target k s
  let p := reg (cP k) 3 s
  if !cmpArmed k s then s
  else if far t now then owe 0xC3 k (setReg (cP k) 0x0C (setField (reg (cP k) 0x0C s) 1 1 1) (disarm k s))
  else if t > now then s
  else if p == 0 then fireComparator k s
  else
    let n := (now - t) / p
    fireComparator k (addFirings k 0 n (setTarget k (t + n * p) s))

/-- LIN schedules after a step (R278): the slot in progress is finished, and the next starts at the first multiple of the time base after the
new time. -/
def linStep (delta : Int) (m : Nat) (s : State) : State :=
  let x := lin m s
  let tb := max 1 (linBase m s)
  if cfg (lB m) 1 s == 0 || tb == 1 then s
  else setLin m { x with slotEnd := ((x.slotEnd : Int) + delta).toNat, notBefore := (nowNs s / tb + 1) * tb } s

/-! #### An armed activation at a step (R427, R439) -/

/-- Objects of the slots of a kind, 0 firmware and 1 configuration. -/
def slotP (k : Nat) : Nat := 0x6801 + k

def activeSlot (k : Nat) (s : State) : Nat := reg (slotP k) 1 s

def setSlotState (k slot v : Nat) (s : State) : State := setReg (slotP k) (2 + slot) v s

/-- The flash header is rewritten with the next sequence number (R427). -/
def headerWritten (s : State) : State :=
  let n := (reg 0x6801 8 s + 1) % 2 ^ 32
  setReg 0x6802 8 n (setReg 0x6801 8 n s)

/-- The header names the other slots of the given kinds as active. -/
def headerSwap (kinds : Nat) (s : State) : State :=
  headerWritten (each (bitsOf 2 kinds) (fun k s => setReg (slotP k) 1 (1 - activeSlot k s) s) s)

/-- An image event for the sealed log (R397, R445): its code and the kinds. -/
def imageEvent (code kinds : Nat) (s : State) : State := sealRecord 0x0010 0 [code, kinds] s

/-- An armed activation is cancelled with a cause (R438–R440); a header that was already rewritten for it is restored. -/
def cancelActivation (why : Nat) (s : State) : State :=
  let k := s.update.armed
  let s := if s.update.flag ≠ 0 then headerSwap s.update.flag s else s
  let s := { s with update := { s.update with armed := 0, flag := 0 } }
  imageEvent 5 k (setReg 0x6808 7 why (setReg 0x6808 6 6 s))

/-- A step that moves the target out of the window cancels the activation with cause 7. -/
def activationStep (s : State) : State :=
  if s.update.armed ≠ 0 && far s.update.target (nowNs s) then cancelActivation 7 s else s

/-- A step of local time (R277): cause 0 servo, 1 command, 2 absolute setting. -/
def stepTime (delta : Int) (why role : Nat) (s : State) : State :=
  let old := nowNs s
  let new := ofInt 64 ((old : Int) + delta)
  let s := { s with time := { s.time with loc := new * 2 ^ 32 + s.time.loc % 2 ^ 32 } }
  let s := fire 0xC1 0 (setReg 0x3802 5 (ofInt 64 delta) (count 0x3802 4 s))
  let s := sealRecord 6 role [old, new, why] s
  let s := activationStep (each (List.range 16) comparatorStep (braidStep (gatesStep s)))
  settle 4 (leaseLapse (each (List.range 16) (linStep delta) s))

/-- STEP_BY (R277): 0x3802:06 = 0x01. -/
def cmdStepBy (ses : Session) : Svc := notTerminal (needRole ses 2 fun s =>
  let d := toInt 64 (reg 0x3802 7 s)
  if d.natAbs > timeWindow then (s, 0x080000A2) else done (setReg 0x3802 6 2 (stepTime d 1 (roleOf ses s) s)))

/-- SET_ABSOLUTE (R277): 0x3802:06 = 0x02. -/
def cmdSetAbsolute (ses : Session) : Svc := notTerminal (needRole ses 3 fun s =>
  done (setReg 0x3802 6 2 (stepTime (toInt 64 (reg 0x3802 7 s) - (nowNs s : Int)) 2 (roleOf ses s) s)))

def execStepBy (ses : Session) (s : State) : Res := .next (serve ses (cmdStepBy ses) s)

def execSetAbsolute (ses : Session) (s : State) : Res := .next (serve ses (cmdSetAbsolute ses) s)

/-! ### Steering (R274–R276) -/

/-- Local time is locked (R275); the holdover ends. -/
def lockTime (s : State) : State :=
  let s := setReg 0x3800 6 3 s
  if reg 0x3801 1 s == 1 then setReg 0x3801 3 (wall s - s.time.holdAt) (setReg 0x3801 1 0 s) else s

/-- The servo (R275): offset o of local time from the master, and the estimated rate ratio. The correction that removes o is left open
within the slew limit. -/
def servo (o ratio : Int) (s : State) : State :=
  let s := setReg 0x3800 7 (ofInt 64 o) { s with time := { s.time with ratio := ratio } }
  let st := reg 0x3800 6 s
  let s := if st ≤ 1 then { setReg 0x3800 6 2 s with time := { s.time with acquired := true, inLock := 0 } } else s
  if o.natAbs ≥ reg 0x3802 1 s * 1000 then
    stepTime (-o) 0 0 { s with time := { s.time with inLock := 0 } }
  else
    let c : Nat := freeNow s % (slewLimit s + 1)
    let s := setA (ratio + (if o > 0 then -(c : Int) else if o < 0 then c else 0)) (useFree s)
    let n := if o.natAbs ≤ reg 0x3802 3 s then s.time.inLock + 1 else 0
    let s := { s with time := { s.time with inLock := n } }
    if n ≥ 8 && reg 0x3800 6 s ≠ 3 then lockTime s else s

def iP (d : Nat) : Nat := 0x3810 + d

def ptpInst (d : Nat) (s : State) : PtpInst := tget ptpInst0 s.time.inst d

def setPtpInst (d : Nat) (x : PtpInst) (s : State) : State :=
  { s with time := { s.time with inst := tset ptpInst0 s.time.inst d x } }

/-- gPTP messages are processed: from Operate on, and not in Headless or before (R272). -/
def ptpRuns (s : State) : Bool := s.dev ≠ .boot && s.dev ≠ .catch_ && s.dev ≠ .headless && s.power.sleep == 0

/-- 2^l seconds in ns. -/
def logNs (l : Int) : Nat := if l < 0 then 1000000000 / 2 ^ l.natAbs else 1000000000 * 2 ^ l.natAbs

def syncInterval (d : Nat) (s : State) : Nat := logNs (toInt 32 (cfg (iP d) 6 s))

/-- A Sync has been heard by instance d. -/
def heardSync (d : Nat) (s : State) : State :=
  setReg (iP d) 9 1 (setPtpInst d { lastSync := wall s, assumed := false } s)

/-- SYNC_RECEIVE (R272, R275): a Sync of the steering instance on its slave port. -/
def execSyncReceive (msg : SyncInfo) (s : State) : Res :=
  .next (
    let d := cfg 0x3800 4 s
    if cfg 0x3800 3 s ≠ 1 || cfg (iP d) 1 s == 0 then s
    else if !ptpRuns s then count (iP d) 0x0D s
    else if (List.range 22).any fun p => steersFrom p s && portUp p s && reg (0x3820 + p) 0x0A s == 1 then
      settle 4 (servo msg.offset msg.ratio (heardSync d s))
    else s)

/-- PPS_IN_EDGE (R274, R275): the edge is steered onto the nearest whole second; its rate ratio is left open. -/
def execPpsInEdge (s : State) : Res :=
  .next (
    if cfg 0x3800 3 s ≠ 2 || !ptpRuns s then s
    else
      let f := nowNs s % 1000000000
      let o : Int := if f ≥ 500000000 then (f : Int) - 1000000000 else f
      let r : Int := (freeNow s % 34359739 : Nat) - aLimit
      settle 4 (servo o r (useFree { s with time := { s.time with ppsIn := wall s } })))

/-- SYNC_RECEIPT_TIMEOUT (R276): instance 0x3800:04 loses its master. A bridge that is set to assume the grandmaster role does so. -/
def execSyncReceiptTimeout (s : State) : Res :=
  .next (
    let d := cfg 0x3800 4 s
    if cfg 0x3800 3 s == 1 && reg (iP d) 9 s == 1 && due (ptpInst d s).lastSync (cfg (iP d) 7 s * syncInterval d s) s then
      let s := setPtpInst d { ptpInst d s with assumed := cfg (iP d) 3 s == 1 && cfg (iP d) 8 s == 1 } (setReg (iP d) 9 0 s)
      settle 4 (enterHoldover (nowNs s) s)
    else s)

/-- PPS_IN_TIMEOUT (R276). -/
def execPpsInTimeout (s : State) : Res :=
  .next (
    if cfg 0x3800 3 s == 2 && due s.time.ppsIn 2000000000 s then settle 4 (enterHoldover (nowNs s) s) else s)

/-- HOLDOVER_LIMIT (R276). -/
def execHoldoverLimit (s : State) : Res :=
  .next (
    if reg 0x3801 4 s ≠ 0 && reg 0x3801 1 s == 1 && due s.time.holdAt (ms 1000 * reg 0x3801 4 s) s then fire 0xC6 0 s else s)

/-! ### gPTP messages (R271–R273) -/

/-- Instance of a domain number that is enabled on port p. -/
def instanceOf (p domain : Nat) (s : State) : Option Nat :=
  (List.range 4).find? fun d => cfg (iP d) 1 s == 1 && cfg (iP d) 2 s == domain && bit (cfg (0x3820 + p) 1 s) d

/-- Port p is asCapable (0x3820 + p:0A). -/
def asCapable (p : Nat) (s : State) : Bool := p < 22 && reg (0x3820 + p) 0x0A s == 1

/-- The ports on which instance d is master. -/
def masterPorts (d : Nat) (s : State) : List Nat :=
  (List.range 22).filter fun p => bit (cfg (0x3820 + p) 1 s) d && ptpRole s.cfg p d == 1 && asCapable p s

/-- Time of an instance: local time, or its master's for one that does not steer (R274). -/
def instTime (d : Nat) (s : State) : Nat :=
  if cfg 0x3800 3 s == 1 && cfg 0x3800 4 s == d then nowNs s else ofInt 64 ((nowNs s : Int) + toInt 64 (reg (iP d) 0x0A s))

/-- Sync or Follow_Up of instance d on its slave port: an instance that does not steer keeps its master's offset and rate ratio; a bridge
relays it (R272, R274). -/
def ptpSync (p d : Nat) (m : PtpMessage) (s : State) : State :=
  let s := heardSync d s
  let steers := cfg 0x3800 3 s == 1 && cfg 0x3800 4 s == d
  let t : Int := (m.origin : Int) + m.correction + (reg (0x3820 + p) 8 s : Int)
  let s := if steers then s
    else setReg (iP d) 0x0B (ofInt 32 m.ratio) (setReg (iP d) 0x0A (ofInt 64 (t - (nowNs s : Int))) s)
  if cfg (iP d) 3 s == 1 then each (masterPorts d s) (fun q s => emit (.ptp m.kind.val q (ofInt 64 t)) s) s else s

/-- A new grandmaster identity on the slave port of instance d (R276, R277). -/
def newGrandmaster (d g : Nat) (s : State) : State :=
  let old := reg (iP d) 0x0C s
  let s := setReg (iP d) 0x0C (g % 2 ^ 64) s
  if cfg 0x3800 3 s == 1 && cfg 0x3800 4 s == d then
    let s := setReg 0x3800 8 (g % 2 ^ 64) s
    if old ≠ 0 && old ≠ g % 2 ^ 64 then enterHoldover (nowNs s) (sealRecord 7 0 [old, g % 2 ^ 64] s) else s
  else s

/-- PTP_MESSAGE_RECEIVE (R271–R274): kind 0 Sync, 8 Follow_Up, 11 Announce; a link-delay request is answered. -/
def execPtpMessageReceive (port : Fin 33) (msg : PtpMessage) (s : State) : Res :=
  .next (
    let p := port.val
    let k := msg.kind.val
    if p ≥ 22 || !portUp p s then s
    else if k == 2 then (if ptpRuns s then emit (.ptp 10 p (nowNs s)) (emit (.ptp 3 p (nowNs s)) s) else s)
    else
      match instanceOf p msg.domain.toNat s with
      | none => s
      | some d =>
        if k ≠ 0 && k ≠ 8 && k ≠ 11 then s
        else if !ptpRuns s then count (iP d) 0x0D s
        else if !asCapable p s || ptpRole s.cfg p d ≠ 2 then s
        else if k == 11 then settle 4 (newGrandmaster d msg.grandmaster s)
        else ptpSync p d msg s)

/-- LINK_DELAY_EXCHANGE (R273): the exchange completes. -/
def execLinkDelayExchange (port : Fin 22) (exchange : DelayExchange) (s : State) : Res :=
  .next (
    let p := port.val
    if !portUp p s then s
    else
      let n := min 3 ((ptpPort p s).completed + 1)
      let s := setPtpPort p { ptpPort p s with completed := n, open_ := false } s
      let s := setReg (0x3820 + p) 9 (ofInt 32 exchange.ratio) (setReg (0x3820 + p) 8 (min 0xFFFFFFFF exchange.delay) s)
      if exchange.delay ≤ cfg (0x3820 + p) 5 s then (if n ≥ 3 then setReg (0x3820 + p) 0x0A 1 s else s)
      else settle 4 (loseCapable p s))

/-- LINK_DELAY_REQUEST_SEND (R273): a new exchange starts; one that is still open has not completed. -/
def execLinkDelayRequestSend (port : Fin 22) (s : State) : Res :=
  .next (
    let p := port.val
    let x := ptpPort p s
    if !portUp p s || s.dev = .boot || s.dev = .catch_ || !due x.lastSent (logNs (toInt 32 (cfg (0x3820 + p) 3 s))) s then s
    else
      let s := setPtpPort p { completed := if x.open_ then 0 else x.completed, lastSent := wall s, open_ := true } s
      let s := if x.open_ then loseCapable p s else s
      settle 4 (emit (.ptp 2 p (nowNs s)) s))

/-- GRANDMASTER_SYNC_SEND (R271): Sync and Follow_Up of an instance in the grandmaster role. -/
def execGrandmasterSyncSend (inst : Fin 4) (port : Fin 33) (s : State) : Res :=
  .next (
    let d := inst.val
    let p := port.val
    if cfg (iP d) 1 s == 1 && (cfg (iP d) 3 s == 0 || (ptpInst d s).assumed) && (masterPorts d s).contains p && ptpRuns s &&
        timeActs s && due (tget 0 s.time.sent (32 * d + p)) (syncInterval d s) s then
      let s := { s with time := { s.time with sent := tset 0 s.time.sent (32 * d + p) (wall s) } }
      emit (.ptp 8 p (instTime d s)) (emit (.ptp 0 p (instTime d s)) s)
    else s)

/-! ### Comparator commands (R279, R280) -/

def cmdArm (k : Nat) : Svc := notTerminal fun s =>
  let t := ofTime80 (reg (cP k) 1 s)
  if far t (nowNs s) then (setReg (cP k) 0x0C (setField (reg (cP k) 0x0C s) 0 1 1) s, 0x080000A2)
  else done (setReg (cP k) 0x0A 2 (keepTargets (setReg (cP k) 2 1 (setTarget k t s))))

def cmdDisarm (k : Nat) : Svc := notTerminal fun s => done (setReg (cP k) 0x0A 2 (disarm k s))

/-- COMPARATOR_ARM (R279). -/
def execComparatorArm (ses : Session) (comp : Fin 16) (s : State) : Res := .next (serve ses (cmdArm comp.val) s)

/-- COMPARATOR_DISARM (R280). -/
def execComparatorDisarm (ses : Session) (comp : Fin 16) (s : State) : Res := .next (serve ses (cmdDisarm comp.val) s)

/-- An armed comparator has reached its target: (now − target) as a signed 40-bit difference is not negative (R279). -/
def reached (k : Nat) (s : State) : Bool := (nowNs s % 2 ^ 40 + 2 ^ 40 - target k s % 2 ^ 40) % 2 ^ 40 < 2 ^ 39

/-- COMPARATOR_FIRE (R279, R283). -/
def execComparatorFire (comp : Fin 16) (s : State) : Res :=
  .next (
    if cmpArmed comp.val s && reached comp.val s && s.dev ≠ .boot && s.dev ≠ .catch_ && s.power.sleep == 0 then
      settle 4 (fireComparator comp.val s)
    else s)

/-- Commit check of a periodic comparator (R282). -/
def comparatorCheck (b : Bank) (s : State) : Option (Nat × Nat × Nat) :=
  match (List.range 8).find? fun k => reg (cP k) 3 s ≠ 0 && reg (cP k) 3 s ≤ 8 * bkO b (cP k) 4 with
  | some k => some (cP k, 3, 0x06090032)
  | none => none

/-- A commit on the time unit: without a steering source A is 0 and local time free-runs (R274), and a time output whose setting changes
goes to its idle level (R282). -/
def timeCommit (old new : Bank) (s : State) : State :=
  let s := if bkO new 0x3800 3 == 0 then
      { setReg 0x3800 6 1 (setA 0 s) with time := { s.time with inLock := 0, ratio := 0 } }
    else s
  each (List.range 8) (fun k s =>
    if bkO old (cP k) 5 ≠ bkO new (cP k) 5 || bkO old (cP k) 9 ≠ bkO new (cP k) 9 then
      driveTtrig k (ttrigIdle k s) { s with time := { s.time with ttrig := tdel s.time.ttrig k } }
    else s) s

/-! ### Captures (R284) -/

def capP (c : Nat) : Nat := 0x3850 + c

def caps (c : Nat) (s : State) : List Capture := tget [] s.time.caps c

def setCaps (c : Nat) (l : List Capture) (s : State) : State :=
  setReg (capP c) 8 l.length { s with time := { s.time with caps := tset [] s.time.caps c l } }

/-- The 16 bytes of a capture entry. -/
def capBytes (x : Capture) : Bytes := leBytes 8 x.time ++ leBytes 1 x.edge ++ leBytes 1 x.step ++ leBytes 6 0

/-- CAPTURE_EDGE (R284): the edge of a ball after its filter, or the internal event that the channel takes: a firing, entered as a rising
edge, or a falling edge of ERR_IN_N or SAFE_N. -/
def execCaptureEdge (channel : Fin 12) (rising : Bool) (s : State) : Res :=
  .next (
    let c := channel.val
    let ball := decide (c < 9)
    let wanted := if ball then bit (cfg (capP c) 2 s) (if rising then 0 else 1) else cfg (capP c) 3 s ≠ 0
    if cfg (capP c) 1 s == 0 || !wanted || s.power.sleep ≠ 0 then s
    else if (caps c s).length ≥ 16 then fire 0xC4 c (setReg (capP c) 7 1 s)
    else
      let t := nowNs s - (if ball then 8 * cfg (capP c) 5 s else 0)
      let falls := if ball then !rising else cfg (capP c) 3 s ≠ 1
      let x : Capture := ⟨t, if falls then 2 else 1, reg 0x3802 4 s % 256⟩
      let s := announce 3 c (capBytes x) (setCaps c (caps c s ++ [x]) s)
      let v := cfg (capP c) 9 s
      if v == 0xFF then s else msix v s)

/-- A read of :06 pops the oldest entry, and gives zeros where none is held. -/
def popCapture (c : Nat) (s : State) : State × Bytes :=
  match caps c s with
  | [] => (s, leBytes 16 0)
  | x :: t => (setCaps c t s, capBytes x)

/-- CAPTURE_POP (R284). -/
def execCapturePop (ses : Session) (channel : Fin 12) (s : State) : Res :=
  .next (serveData ses (fun s =>
    let r := popCapture channel.val s
    (r.1, 0, r.2)) s)

/-! ### Cross-stamp and PPS (R285, R286) -/

def latchTime : Svc := notTerminal fun s => done (setReg 0x3803 2 (time80 (nowNs s)) s)

/-- CROSS_STAMP_LATCH (R285), also through BAR0 (R333). -/
def execCrossStampLatch (ses : Session) (s : State) : Res := .next (serveBoth ses latchTime s)

/-- PPS_OUT_PULSE (R286): at a whole second of local time. -/
def execPpsOutPulse (s : State) : Res :=
  .next (
    if cfg 0x3860 1 s == 1 && (s.time.acquired || cfg 0x3860 3 s == 1) && timeActs s && s.time.drivers &&
        nowNs s % 1000000000 < 16 then
      emit (.ball "PPS_OUT" 1) { s with time := { s.time with ppsOut := wall s + us (cfg 0x3860 2 s) } }
    else s)

/-- Pulses that have run out end (R282, R286). -/
def pulsesEnd (s : State) : State :=
  let s := each (s.time.ttrig.map (·.1)) (fun k s =>
    if tget 0 s.time.ttrig k ≤ wall s then
      driveTtrig k (ttrigIdle k s) { s with time := { s.time with ttrig := tdel s.time.ttrig k } }
    else s) s
  if s.time.ppsOut ≠ 0 && s.time.ppsOut ≤ wall s then emit (.ball "PPS_OUT" 0) { s with time := { s.time with ppsOut := 0 } } else s

/-! ### Sleep and reset (R267, R268, R283) -/

/-- The counts are copied into PD_AON, at a sleep entry or at the assertion of a reset. -/
def saveTime (slept : Bool) (s : State) : State :=
  { s with time := { s.time with
      shadow := some (s.time.loc, s.time.mono, reg 0x3800 5 s, wall s), slept := slept, tclk := false } }

/-- Comparators return to their kept targets and periods (R283). -/
def restoreComparators (s : State) : State :=
  each (s.time.kept.map (·.1)) (fun k s =>
    let x := tget (0, 0) s.time.kept k
    let now := nowNs s
    let t := if x.2 ≠ 0 && x.1 ≤ now then x.1 + ((now - x.1) / x.2 + 1) * x.2 else x.1
    if t ≤ now then setReg (cP k) 0x0C (setField (reg (cP k) 0x0C s) 2 1 1) (setReg (cP k) 2 0 s)
    else setReg (cP k) 2 1 (setReg (cP k) 3 x.2 (setTarget k t s))) s

/-- The counts are restored with the time that passed on ACLK; the state is holdover from the instant of the copy (R267, R268). ACLK is
taken to count the time that passes (assumption log 26). -/
def restoreTime (s : State) : State :=
  match s.time.shadow with
  | none => { s with time := { s.time with tclk := true } }
  | some (l, m, a, w) =>
    let n := wall s - w
    let acc := if cfg 0x3800 0x0A s == 1 then n / 10000 else n / 50
    let s := { s with time := { s.time with
        loc := l + n * 2 ^ 32, mono := m + n * 2 ^ 32, shadow := none, tclk := true, holdAt := w, inLock := 0 } }
    let s := setReg 0x3801 6 (if s.time.slept then acc else 250 + acc) (setReg 0x3800 5 a s)
    let s := setReg 0x3801 2 (time80 (l / 2 ^ 32)) (setReg 0x3801 1 1 (setReg 0x3800 6 4 s))
    setA (toInt 32 a) (count 0x3801 5 s)

end Sys2Proof.Machine
end

