-- ==== Sys2Proof/Machine/Nm.lean ====
section
/-!
DEFINITION. Nm.lean: partial-network clusters: network management (R294–R297), sleep commits and wakes (R298–R302), the awake limit
(R305–R307), TC10 (R72), and validated wake sources (R289).
-/
namespace Sys2Proof.Machine

/-! ### Clusters (R294) -/

/-- Objects of cluster c, and its state that no object names. -/
def nP (c : Nat) : Nat := 0x3F10 + c

def cluster (c : Nat) (s : State) : ClusterSt := tget clusterSt0 s.wake.clusters c

def setCluster (c : Nat) (x : ClusterSt) (s : State) : State :=
  { s with wake := { s.wake with clusters := tset clusterSt0 s.wake.clusters c x } }

def setClusterState (c v : Nat) (s : State) : State := setReg (nP c) 0x0A v s

def clusterEngines (c : Nat) (s : State) : List Nat := bitsOf 64 (cfg (nP c) 1 s)

def netPorts (c : Nat) (s : State) : List Nat := (bitsOf 30 (cfg (nP c) 2 s)).filter (4 ≤ ·)

/-- Clusters that have members; the others take no part in the device's sleep (assumption log 61). -/
def hasMembers (c : Nat) (s : State) : Bool := !(clusterEngines c s).isEmpty || !(netPorts c s).isEmpty

def memberClusters (s : State) : List Nat := (List.range 8).filter fun c => hasMembers c s

/-- NM timeout and prepare time in ns. -/
def nmTimeout (c : Nat) (s : State) : Nat := ms (cfg (nP c) 4 s)

def prepareTime (c : Nat) (s : State) : Nat := ms (cfg (nP c) 5 s)

/-- The device's own keep-awake for cluster c (R296, R306). -/
def ownKeep (c : Nat) (s : State) : Bool :=
  reg (nP c) 9 s == 1 || (!(cluster c s).expired &&
    match (cluster c s).lastPn with
    | some t => decide (monoNs s < t + nmTimeout c s)
    | none => false)

/-- A LIN responder among the members has heard a header within the last 4 s (R295). -/
def linHold (c : Nat) (s : State) : Bool :=
  (clusterEngines c s).any fun e => 48 ≤ e && cfg (lB (e - 48)) 2 s == 1 &&
    match (lin (e - 48) s).headerAt with
    | some t => decide (wall s < t + ms 4000)
    | none => false

/-! ### The balls INH_OUT2 and INH_OUT3 (R290) -/

def inhOut (k : Nat) (s : State) : Bool :=
  s.power.sleep == 0 && (List.range 8).any fun c => bit (cfg 0x5040 (4 + k) s) c && [1, 2, 5].contains (clusterState c s)

/-- A change, with the levels of INH_OUT2 and INH_OUT3 that it moves. -/
def withInh (f : State → State) (s : State) : State :=
  let t := f s
  let out (k : Nat) (name : String) (t : State) : State :=
    if inhOut k s == inhOut k t then t else emit (.ball name (b2n (inhOut k t))) t
  out 3 "INH_OUT3" (out 2 "INH_OUT2" t)

/-! ### Device sleep preparation (R301) -/

/-- An armed activation or an open proofing window keeps the device awake (R439). -/
def updateHolds (s : State) : Bool := s.update.armed ≠ 0 || s.update.proof ≠ 0

/-- Every cluster has agreed to sleep. -/
def sleepAgreed (s : State) : Bool :=
  cfg 0x5040 3 s == 1 && !(memberClusters s).isEmpty && !updateHolds s &&
    (memberClusters s).all fun c => [0, 3, 4].contains (clusterState c s)

/-- The device goes from Operate to Sleep-prep and back (R36, R301); firmware copies the freshness values (R182). -/
def sleepCheck (s : State) : State :=
  if s.dev = .operate && sleepAgreed s then copyFreshness (setDev .sleepPrep s)
  else if s.dev = .sleepPrep && !sleepAgreed s && !s.wake.committed then setDev .operate s
  else s

/-- The device's sleep commit (R301 step 1): every cluster is committed or asleep. -/
def deviceCommit (s : State) : State :=
  if s.dev = .sleepPrep && !s.wake.committed && (memberClusters s).all fun c => clusterState c s == 0 || clusterState c s == 4 then
    let s := each (entriesOf s.cfg 0x3C20) (fun k s => closeStream s.cfg k 0 s) s
    setReg 0x5040 8 1 { s with wake := { s.wake with committed := true, ready := false, watchdog := wall s } }
  else s

/-! ### Entering state 2 and waking (R297, R299, R302) -/

/-- Cluster c is awake; its NM timeout runs from here. -/
def toAwake (c : Nat) (s : State) : State :=
  setClusterState c 2 (setCluster c { cluster c s with lastPdu := some (monoNs s), latched := false } s)

/-- Members of a woken cluster leave standby; domains that are off ask for their pecks; ports that slept in TC10 send a wake-up, but for the
one that was woken so itself (R72, R302). -/
def wakeMembers (c : Nat) (remote : Option Nat) (s : State) : State :=
  let s := each (clusterEngines c s) (fun e s =>
    let d := engDomain e
    if powered d s then
      let s := cancelDrain d s
      let on := if e < 48 then cfg (cE e) 1 s == 1 && cfg (cE e + 3) 1 s ≠ 2 && canState e s ≠ 8
        else cfg (lB (e - 48)) 1 s == 1 && linState (e - 48) s ≠ 6
      if on then toNormal e s else s
    else peckRequest (50 + d) s) s
  each (netPorts c s) (fun p s =>
    let s := if powered (portDomain p) s then cancelDrain (portDomain p) s else s
    let s := if p ≥ 16 && reg (pB p + 6) 4 s == 2 then
        (if remote ≠ some p && cfg (pB p + 6) 3 s == 1 then emit (.tc10 p true) (setReg (pB p + 6) 4 3 s) else setReg (pB p + 6) 4 0 s)
      else s
    if portUp p s then s else setReg (pS p) 4 2 s) s

/-- An ordinary wake of a sleeping cluster: state 1. -/
def startWaking (c : Nat) (remote : Option Nat) (s : State) : State :=
  wakeMembers c remote (setClusterState c 1 (setCluster c { cluster c s with latched := false } s))

/-- The minimum dwell of cluster c since its standby point has passed. -/
def dwelled (c : Nat) (s : State) : Bool := due (cluster c s).standbyAt (ms (cfg (nP c) 6 s)) s

/-- A wake for cluster c (R299). -/
def wakeCluster (c : Nat) (remote : Option Nat) (s : State) : State :=
  match clusterState c s with
  | 3 => if (cluster c s).held.isEmpty then toAwake c s else s
  | 0 => if dwelled c s then startWaking c remote s else setCluster c { cluster c s with latched := true } s
  | 4 => count (nP c) 0x10 (setCluster c { cluster c s with latched := true } s)
  | 5 => count (nP c) 0x10 (setCluster c { cluster c s with latched := true } s)
  | _ => s

/-- What a waking cluster's engines have caught goes to replay (R263, R302). -/
def replayCluster (c : Nat) (s : State) : State :=
  let l := clusterEngines c s
  let mine := s.braid.caught.filter fun r => l.contains r.source
  if mine.isEmpty then s
  else
    let sorted := mine.foldl (fun a x => stampIns x a) []
    let s := { s with braid := { s.braid with
      caught := s.braid.caught.filter fun r => !l.contains r.source
      replay := s.braid.replay ++ sorted
      replayAt := if reg 0x3C90 2 s == 1 then s.braid.replayAt else wall s } }
    setReg 0x3C90 2 1 s

/-- A waking cluster's member is integrated, or will not be (disabled, withdrawn, without power by its peck fallback). -/
def memberIntegrated (e : Nat) (s : State) : Bool :=
  if e < 48 then !([1, 2].contains (canState e s)) || cfg (cE e + 3) 1 s == 2 || cfg (cE e) 1 s == 0
  else (lin (e - 48) s).mode == 3 || cfg (lB (e - 48)) 1 s == 0 || linState (e - 48) s == 6 || linState (e - 48) s == 7

/-- Cluster c reaches state 2 once its members are integrated and the device routes (R297, R302): its engines end their capture. -/
def finishWaking (c : Nat) (s : State) : State :=
  if clusterState c s == 1 && s.power.loaded && s.dev ≠ .boot && s.dev ≠ .catch_ && (clusterEngines c s).all (fun e => memberIntegrated e s) then
    let s := toAwake c s
    let s := each (clusterEngines c s) (fun e s =>
      if e < 48 then (if canState e s == 7 then setCan e { can e s with takeover := true } s else s)
      else if linState (e - 48) s == 5 then linRun (e - 48) s else s) s
    replayCluster c s
  else s

/-! ### NM PDUs (R295, R305) -/

/-- Node ID, PNI bit and PN vector of an NM PDU (R295): the vector's byte i is bits 8i to 8i + 7. -/
def nmNode (d : Bytes) (s : State) : Nat := byteAt d (cfg 0x3F00 3 s)

def nmPni (d : Bytes) (s : State) : Bool := bit (byteAt d (cfg 0x3F00 4 s)) 6

def nmVector (d : Bytes) (s : State) : Nat := leNat (slice (cfg 0x3F00 5 s) 8 d)

/-- Keeper record of R305, as its object shows it. -/
def keeperBytes (c : Nat) (k : Nat × Nat × Nat) (s : State) : Bytes :=
  leBytes 1 k.1 ++ leBytes 1 k.2.1 ++ leBytes 1 (b2n ((cluster c s).withheld.contains (k.1, k.2.1))) ++ leBytes 1 0 ++
    leBytes 4 (k.2.2 / 1000000)

def noteKeepers (c : Nat) (s : State) : State :=
  setReg (0x3F20 + c) 1 (leNat ((cluster c s).keepers.flatMap fun k => keeperBytes c k s)) s

/-- A counted PDU is noted as its keeper's last; a ninth keeper replaces the oldest (R305). -/
def keep (c bus node : Nat) (s : State) : State :=
  let l := (cluster c s).keepers.filter fun k => !(k.1 == bus && k.2.1 == node)
  let full := l.length ≥ 8
  let s := setCluster c { cluster c s with keepers := (if full then l.drop 1 else l) ++ [(bus, node, monoNs s)] } s
  noteKeepers c (if full then count (0x3F20 + c) 2 s else s)

/-- A PDU counts for cluster c (R295–R297, R305). -/
def countPdu (c bus node : Nat) (byVector : Bool) (s : State) : State :=
  let t := monoNs s
  let s := setCluster c { cluster c s with
    lastPdu := some t, lastPn := if byVector then some t else (cluster c s).lastPn } s
  let s := keep c bus node s
  if clusterState c s == 3 && (cluster c s).held.isEmpty then setClusterState c 2 s else s

/-- Bus code k is a member of cluster c. -/
def memberOf (c k : Nat) (s : State) : Bool := if k < 64 then bit (cfg (nP c) 1 s) k else bit (cfg (nP c) 2 s) (k - 64)

/-- NM_PDU_RECEIVE (R295, R296, R305, R306). -/
def execNmPduReceive (bus : Fin 94) (data : List Byte) (s : State) : Res :=
  .next (
    if s.dev = .boot || s.dev = .catch_ || s.power.sleep ≠ 0 then s
    else
      let k := bus.val
      let node := nmNode data s
      match withheldBy k node s with
      | some c => count (nP c) 0x11 s
      | none =>
        let v := nmVector data s
        let meets (c : Nat) : Bool := nmPni data s && Nat.land v (cfg (nP c) 3 s) ≠ 0
        withInh (fun s => sleepCheck (each (List.range 8) (fun c s =>
          if meets c || (memberOf c k s && !nmPni data s) then countPdu c k node (meets c) s else s) s)) s)

/-- The device's own NM PDU for cluster c (R296); a PDU has 8 bytes (assumption log 62). -/
def ownNmData (c : Nat) (s : State) : Bytes :=
  let v := (List.range 8).foldl (fun a d => if ownKeep d s then Nat.lor a (cfg (nP d) 3 s) else a) 0
  let o := cfg 0x3F00 5 s
  let base := fit 8 (List.replicate o 0xFF ++ leBytes (8 - o) v)
  let l := patch base (cfg 0x3F00 4 s) 1 (if cfg (nP c) 3 s ≠ 0 then 0x40 else 0)
  patch l (cfg 0x3F00 3 s) 1 (cfg 0x3F00 6 s)

/-- OWN_NM_PDU_SEND (R296): once per own NM cycle, on every CAN member. -/
def execOwnNmPduSend (cluster : Fin 8) (s : State) : Res :=
  .next (
    let c := cluster.val
    let x := Sys2Proof.Machine.cluster c s
    let live := s.dev = .operate || s.dev = .configure || s.dev = .headless || s.dev = .sleepPrep
    if live && s.power.sleep == 0 && ownKeep c s && clusterState c s == 2 && decide (x.ownAt + ms (cfg 0x3F00 7 s) ≤ monoNs s) then
      let f := classicalFrame ((cfg 0x3F00 1 s % 2048 + cfg 0x3F00 6 s) % 2048) (ownNmData c s)
      let s := setCluster c { x with ownAt := monoNs s } s
      settle 4 (each ((clusterEngines c s).filter (· < 48)) (fun e s =>
        if engEnabled s.cfg e s then ownFrame (16384 + 64 * c + e) f s else s) s)
    else s)

/-! ### Prepare (R297) -/

/-- Wall time of the last frame that a bus has carried. -/
def busLastAt (k : Nat) (s : State) : Nat :=
  if k < 48 then (can k s).lastAt else if k < 64 then (lin (k - 48) s).lastAt else (prt (k - 64) s).lastAt

/-- A bus has carried no frame for a span. -/
def busSilent (k span : Nat) (s : State) : Bool := due (busLastAt k s) span s

/-- NM_TIMEOUT (R297, R301; R307 for held buses). -/
def execNmTimeout (cluster : Fin 8) (s : State) : Res :=
  .next (
    let c := cluster.val
    let x := Sys2Proof.Machine.cluster c s
    let quiet := match x.lastPdu with
      | some t => decide (t + nmTimeout c s ≤ monoNs s)
      | none => true
    if s.dev = .boot || s.dev = .catch_ || s.power.sleep ≠ 0 then s
    else if clusterState c s == 2 && !ownKeep c s && !linHold c s && quiet then
      withInh (fun s => sleepCheck (setClusterState c 3 (setCluster c { x with prepAt := monoNs s } s))) s
    else if clusterState c s == 5 && !x.held.isEmpty && x.held.all (fun k => busSilent k (nmTimeout c s) s) then
      withInh (fun s => sleepCheck (setClusterState c 3 (setCluster c { x with prepAt := monoNs s } s))) s
    else s)

/-- LIN_RESPONDER_HOLD_END (R295). -/
def execLinResponderHoldEnd (bus : Fin 16) (s : State) : Res :=
  .next (
    let m := bus.val
    match (lin m s).headerAt with
    | some t => if due t (ms 4000) s then setLin m { lin m s with headerAt := none } s else s
    | none => s)

/-! ### The sleep commit (R298, R306) -/

/-- One member of a cluster at its sleep commit (R298, R72, R233): an engine forced to normal mode stays (R234); a LIN commander that runs
sends its go-to-sleep frame first. -/
def commitMember (k : Nat) (s : State) : State :=
  if k < 48 then (if cfg (cE k + 3) 1 s == 1 then s else toStandby k s)
  else if k < 64 then
    let m := k - 48
    if cfg (lB m) 2 s == 0 && (lin m s).mode == 3 && !s.faults.forced then setLin m { lin m s with toSleep := true } s else linSleep m s
  else
    let p := k - 64
    if p ≥ 16 && cfg (pB p + 6) 1 s == 1 && portUp p s then
      emit (.tc10 p false) (setPrt p { prt p s with tcAt := wall s } (setReg (pB p + 6) 4 1 s))
    else dropAtBoundary p s

/-- Bus codes of a cluster's members. -/
def memberCodes (c : Nat) (s : State) : List Nat := clusterEngines c s ++ (netPorts c s).map (64 + ·)

/-- Buses of withheld keepers that have carried a frame within the NM timeout plus the prepare time (R306). -/
def heldBuses (c : Nat) (s : State) : List Nat :=
  ((cluster c s).withheld.map (·.1)).foldl (fun l k =>
    if busSilent k (nmTimeout c s + prepareTime c s) s || l.contains k || !memberOf c k s then l else l ++ [k]) []

/-- The sleep-commit point of cluster c. -/
def commitCluster (c : Nat) (s : State) : State :=
  let held := heldBuses c s
  let s := setCluster c { cluster c s with held := held } (count (nP c) 0x0F s)
  let s := setClusterState c (if held.isEmpty then 4 else 5) s
  let s := each ((memberCodes c s).filter fun k => !held.contains k) commitMember s
  match held with
  | [] => deviceCommit s
  | k :: _ =>
    let node := ((cluster c s).withheld.find? fun w => w.1 == k).map (·.2)
    setReg (nP c) 0x0D (node.getD 0) (setReg (nP c) 0x0C k s)

/-- A state in which a cluster can commit to sleep: not in Headless (R298), nor where the mode balls keep their levels (R236). -/
def mayCommit (s : State) : Bool := s.dev = .operate || s.dev = .configure || s.dev = .sleepPrep

/-- SLEEP_COMMIT (R297, R298): the prepare time has passed. -/
def execSleepCommit (cluster : Fin 8) (s : State) : Res :=
  .next (
    let c := cluster.val
    let x := Sys2Proof.Machine.cluster c s
    if mayCommit s && clusterState c s == 3 && x.held.isEmpty && decide (x.prepAt + prepareTime c s ≤ monoNs s) then
      if ownKeep c s || linHold c s then withInh (fun s => sleepCheck (toAwake c s)) s
      else settle 4 (withInh (commitCluster c) s)
    else s)

/-- A member of a committed cluster is in standby, or down. -/
def memberStill (k : Nat) (s : State) : Bool :=
  if k < 48 then trans k s == 0 || !powered (engDomain k) s
  else if k < 64 then (lin (k - 48) s).mode == 0 || !powered 11 s
  else !portUp (k - 64) s

/-- STANDBY_POINT (R297): every member is in standby or asleep, and the cluster sleeps. -/
def execStandbyPoint (cluster : Fin 8) (s : State) : Res :=
  .next (
    let c := cluster.val
    let x := Sys2Proof.Machine.cluster c s
    if clusterState c s == 4 && (memberCodes c s).all (fun k => memberStill k s) then
      let y := { x with standbyAt := wall s, awake := 0, expired := false, withheld := [], keepers := [], held := [], lastPn := none }
      withInh (fun s => noteKeepers c (setReg (nP c) 0x0B 0 (setClusterState c 0 (setCluster c y s)))) s
    else s)

/-! ### TC10 (R72) -/

/-- TC10_SLEEP_ENTRY (R72): the partner's acknowledgement, or 16 ms after the request. -/
def execTc10SleepEntry (port : Fin 33) (acknowledged : Bool) (s : State) : Res :=
  .next (
    let p := port.val
    if 16 ≤ p && p < 30 && reg (pB p + 6) 4 s == 1 && (acknowledged || due (prt p s).tcAt (ms 16) s) then
      settle 4 (setPrt p { prt p s with phase := 0 } (portDown p 0x0C (setReg (pB p + 6) 4 2 s)))
    else s)

/-! ### The awake limit (R305–R307) -/

/-- AWAKE_TIMER_EXPIRY (R305, R306). -/
def execAwakeTimerExpiry (cluster : Fin 8) (s : State) : Res :=
  .next (
    let c := cluster.val
    let x := Sys2Proof.Machine.cluster c s
    let limit := cfg (nP c) 7 s * 1000000000
    if limit ≠ 0 && reg (nP c) 9 s == 0 && (clusterState c s == 2 || clusterState c s == 3) && !x.expired && limit ≤ x.awake then
      let now := x.keepers.filter fun k => decide (monoNs s < k.2.2 + nmTimeout c s)
      let s := count (nP c) 0x0E (setCluster c { x with expired := true, withheld := now.map fun k => (k.1, k.2.1) } s)
      noteKeepers c (each now (fun k s => sealRecord 8 0 [c, k.1, k.2.1, x.awake / 1000000000] s) s)
    else s)

/-- Withholding ends (R307): its marks, the keeper list and the shown bus are cleared. -/
def endWithholding (c : Nat) (s : State) : State :=
  let s := setCluster c { cluster c s with withheld := [], held := [], keepers := [], expired := false } s
  noteKeepers c (setReg (nP c) 0x0D 0 (setReg (nP c) 0x0C 0xFF s))

/-- Withholding ends by a setting of :09, a commit or a wake (R307): the cluster returns to state 2 and its timer to 0. -/
def resumeCluster (c : Nat) (s : State) : State :=
  let x := cluster c s
  if x.withheld.isEmpty && !x.expired then s
  else
    let st := clusterState c s
    let s := endWithholding c s
    let s := setReg (nP c) 0x0B 0 (setCluster c { cluster c s with awake := 0 } s)
    if st == 5 || (st == 3 && !x.held.isEmpty) then wakeMembers c none (toAwake c s)
    else if st == 3 then toAwake c s else s

/-- WITHHOLDING_END (R306, R307): every held bus has been silent for the NM timeout plus the prepare time, and commits. -/
def execWithholdingEnd (cluster : Fin 8) (s : State) : Res :=
  .next (
    let c := cluster.val
    let x := Sys2Proof.Machine.cluster c s
    if mayCommit s && clusterState c s == 3 && !x.held.isEmpty &&
        x.held.all (fun k => busSilent k (nmTimeout c s + prepareTime c s) s) then
      settle 4 (withInh (fun s => deviceCommit (each x.held commitMember (setClusterState c 4 (endWithholding c s)))) s)
    else s)

/-! ### Validated wake sources (R289, R299, R309) -/

/-- A set of clusters with every cluster that a wake of one of them also wakes (R289). -/
def wakeTargets (m : Nat) (s : State) : Nat :=
  let grow (m : Nat) : Nat := (bitsOf 8 m).foldl (fun a c => Nat.lor a (cfg (nP c) 8 s)) m
  (List.range 8).foldl (fun a _ => grow a) m

/-- Clusters that source n wakes (R289). -/
def wakeSet (n : Nat) (s : State) : Nat :=
  let of_ (c : Option Nat) : Nat := match c with
    | some c => 2 ^ c
    | none => 0
  wakeTargets (
    if n < 64 then of_ (clusterOf n s)
    else if n < 68 then nbyte (cfg 0x5041 6 s) (n - 64)
    else if n < 82 then of_ (portCluster (n - 52) s)
    else if n == 82 then cfg 0x5041 7 s else cfg 0x5041 9 s) s

/-- Sources that a backoff masks (R309). -/
def masked (n : Nat) (s : State) : Bool := decide (wall s < s.wake.backoff) && (n < 64 || (68 ≤ n && n < 82))

/-- The device's minimum dwell for a set of clusters: the longest of theirs. -/
def deviceDwell (m : Nat) (s : State) : Nat := (bitsOf 8 m).foldl (fun a c => max a (ms (cfg (nP c) 6 s))) 0

/-- A wake of the sleeping device is served once the dwell has passed since sleep entry. -/
def deviceCalled (n : Nat) (s : State) : State :=
  if due s.wake.sleptAt (deviceDwell (wakeSet n s) s) s then { s with wake := { s.wake with called := some n } }
  else { s with wake := { s.wake with latched := setIns n s.wake.latched } }

/-- The record of a wake (0x5042). -/
def noteWake (n kind : Nat) (s : State) : State := setReg 0x5042 3 kind (setReg 0x5042 2 (time80 (nowNs s)) (setReg 0x5042 1 n s))

/-- An enabled wake, validated and not masked (R299, R302). -/
def takeWake (n : Nat) (s : State) : State :=
  let s := count 0x5042 4 s
  if s.power.sleep ≠ 0 then (if s.wake.called.isSome then s else deviceCalled n s)
  else if s.wake.committed then
    let s := { s with wake := { s.wake with latched := setIns n s.wake.latched } }
    each (bitsOf 8 (wakeSet n s)) (fun c s => if clusterState c s == 4 then count (nP c) 0x10 s else s) s
  else
    let remote := if 68 ≤ n && n < 82 then some (n - 52) else none
    let s := noteWake n 3 s
    let s := each (bitsOf 8 (wakeSet n s)) (fun c s => wakeCluster c remote s) s
    if s.dev = .sleepPrep then sleepCheck (setDev .operate s) else s

/-- A wake source reports (R289, R309); the balls of the VDDIO_BUS bank give none without it (R488). -/
def wakeSource (n : Nat) (s : State) : State :=
  if n > 83 || (!s.power.busUp && (n < 68 || n == 82)) then s
  else if !bit (cfg 0x5041 1 s) n then count 0x5042 5 s
  else if masked n s then count 0x5042 6 { s with wake := { s.wake with masked := setIns n s.wake.masked } }
  else settle 4 (withInh (takeWake n) s)

/-- The wake timer has run since sleep entry. -/
def timerRuns (s : State) : Bool :=
  s.power.sleep ≠ 0 && cfg 0x5041 8 s ≠ 0 && due s.wake.sleptAt (cfg 0x5041 8 s * 1000000000) s && !s.wake.timerDone

/-- The wake timer fires (R289). -/
def fireTimer (s : State) : State :=
  if timerRuns s then wakeSource 83 { s with wake := { s.wake with timerDone := true } } else s

/-- WAKE_SOURCE_VALIDATED (R289): a bus source only while its transceiver is in standby or sleep, a TC10 source while its port sleeps. Its
edge is counted at the engine (R235). -/
def execWakeSourceValidated (source : Fin 96) (s : State) : Res :=
  .next (
    let n := source.val
    if !s.power.aonUp || (s.power.reset ≠ 0 && s.power.sleep == 0) then s
    else if n < 48 then (if trans n s == 0 || s.power.sleep ≠ 0 then wakeSource n (count (cE n + 3) 4 s) else s)
    else if n < 64 then (if (lin (n - 48) s).mode == 0 || s.power.sleep ≠ 0 then wakeSource n s else s)
    else if 68 ≤ n && n < 82 then (if reg (pB (n - 52) + 6) 4 s == 2 || s.power.sleep ≠ 0 then wakeSource n s else s)
    else if n == 83 then fireTimer s else wakeSource n s)

/-- WAKE_TIMER_EXPIRY (R289). -/
def execWakeTimerExpiry (s : State) : Res := .next (fireTimer s)

/-- TC10_WAKE_PULSE (R72, R289): a sleeping port, or one between its request and its sleep entry, with its detector enabled. -/
def execTc10WakePulse (port : Fin 33) (s : State) : Res :=
  .next (
    let p := port.val
    if 16 ≤ p && p < 30 && (reg (pB p + 6) 4 s == 1 || reg (pB p + 6) 4 s == 2) && cfg (pB p + 6) 2 s == 1 then
      wakeSource (p + 52) (count (pB p + 6) 5 s)
    else s)

/-- SLEEP_DWELL_END (R299): a wake that was latched or held is served once the dwell has passed; of the device, the lowest source. -/
def execSleepDwellEnd (cluster : Fin 8) (s : State) : Res :=
  .next (
    let c := cluster.val
    if s.power.sleep ≠ 0 then
      match s.wake.latched.find? fun n => due s.wake.sleptAt (deviceDwell (wakeSet n s) s) s with
      | some n => if s.wake.called.isSome then s else { s with wake := { s.wake with called := some n } }
      | none => s
    else if clusterState c s == 0 && (Sys2Proof.Machine.cluster c s).latched && dwelled c s && !s.wake.committed then
      settle 4 (withInh (fun s => sleepCheck (startWaking c none (setReg 0x5042 3 4 s))) s)
    else s)

/-- WAKE_BACKOFF_END (R309): latched wakes are served. -/
def execWakeBackoffEnd (s : State) : Res :=
  .next (
    if s.wake.backoff ≠ 0 && decide (s.wake.backoff ≤ wall s) then
      let l := s.wake.masked
      let s := { s with wake := { s.wake with backoff := 0, masked := [] } }
      settle 4 (withInh (each l takeWake) s)
    else s)

end Sys2Proof.Machine
end

