-- ==== Sys2Proof/Machine/Reply.lean ====
section
/-!
DEFINITION. Reply.lean: how each access path carries the answer to a request (R45, R48, R49, R53, R54), at once or when it comes later
(R40, R57).
-/
namespace Sys2Proof.Machine

/-- A frame of SDO server n (R48), judged as one of MP on its way to the engine (R46); with the outputs safe no response leaves (R416). -/
def sdoSend (n : Nat) (data : Bytes) (s : State) : State :=
  if braidStill s then s
  else
    let id := 0x580 + sdoNode n s
    ownFrame (12288 + n) (classicalFrame id data) (emit (.sdo n id data) s)

/-- The CiA 301 abort transfer for the object that the 3 bytes name. -/
def sdoAbort (mux : Bytes) (code : Nat) : Bytes := leBytes 1 0x80 ++ mux ++ leBytes 4 code

/-- A PXP message leaves toward its client (R49, R416). -/
def pxpSend (dest : PxpSource) (m : Bytes) (s : State) : State := if braidStill s then s else emit (.pxp dest m) s

/-- The leading 8 bytes of the CMAC under a session key. -/
def pxpMac (key : Nat) (l : Bytes) : Bytes := (beBytes 16 (Config.cmac key l)).take 8

/-- A PXP response (R49): bit 7 of the opcode, bytes 2–15 of the request, status, data. -/
def pxpBody (op : Nat) (head : Bytes) (code : Nat) (data : Bytes) : Bytes :=
  leBytes 1 1 ++ leBytes 1 (op % 128 + 128) ++ slice 2 14 head ++ leBytes 4 code ++ data

def pxp (n : Nat) (s : State) : Option PxpSession := tget none s.access.pxp n

def setPxp (n : Nat) (x : PxpSession) (s : State) : State :=
  { s with access := { s.access with pxp := tset none s.access.pxp n (some x) } }

/-- The response of session n to the request with the given header; the last one is kept for a repeated request (R51). -/
def pxpReply (n : Nat) (head : Bytes) (code : Nat) (data : Bytes) (s : State) : State :=
  match pxp n s with
  | none => s
  | some x =>
    let b := pxpBody (byteAt head 1) head code data
    let m := b ++ pxpMac x.key b
    pxpSend x.source m (setPxp n { x with cached := if leNat (slice 4 4 head) == x.lastIn then m else x.cached } s)

def mailbox (n : Nat) (s : State) : Mailbox := tget mailbox0 s.access.mbox n

def setMailbox (n : Nat) (x : Mailbox) (s : State) : State :=
  { s with access := { s.access with mbox := tset mailbox0 s.access.mbox n x } }

/-- Status and data are written, Done bit 0 is set, and the vector is sent (R53). A request that gives no data leaves the data area. -/
def mailboxDone (n code : Nat) (data : Bytes) (s : State) : State :=
  let x := mailbox n s
  msix (cfg 0x1220 (n + 1) s)
    (setMailbox n { x with status := code, data := data ++ x.data.drop data.length, done := true, busy := false } s)

/-- A result waits to be fetched and MS_INT_N is low (R54). -/
def spiDone (code : Nat) (data : Bytes) (s : State) : State :=
  emit (.ball "MS_INT_N" 0) { s with access := { s.access with spi := some (code, data) } }

/-- The answer to a session on its path. `head`: for SDO the 8 bytes of a good answer and the 3 bytes that name the object, for PXP the
header of the request. -/
def pathReply (ses : Session) (head : Bytes) (code : Nat) (data : Bytes) (s : State) : State :=
  match ses with
  | .sdo n => sdoSend n.val (if code == 0 then head.take 8 else sdoAbort (head.drop 8) code) s
  | .pxp n => pxpReply n.val head code data s
  | .mailbox n => mailboxDone n.val code data s
  | .spi => spiDone code data s
  | .bar0 => s

/-- An answer that comes later goes where its request came from. -/
def lateReply (r : RemoteReq) (code : Nat) (data : Bytes) (s : State) : State :=
  let data := if code == 0 then data else []
  if r.path then pathReply r.ses r.head code data s else emit (.answer r.ses code data) s

/-- A commit write waits for the end of its validation (R40). -/
def deferCommit (ses : Session) (path : Bool) (head : Bytes) (s : State) : State :=
  let r : RemoteReq := ⟨ses, 8, true, 0x1002, 1, 0, 1, 0, wall s, path, head⟩
  { s with access := { s.access with remote := s.access.remote ++ [r] } }

/-- The commit write that waits is answered. -/
def answerCommit (code : Nat) (s : State) : State :=
  let l := s.access.remote.filter fun r => r.device == 8
  let s := { s with access := { s.access with remote := s.access.remote.filter fun r => r.device ≠ 8 } }
  each l (fun r s => lateReply r code [] s) s

end Sys2Proof.Machine
end

