-- ==== Sys2Proof/Machine/Commit.lean ====
section
/-!
DEFINITION. Commit.lean: the Configure lock (R38, R39), validation (R39, R40), and the switch of the tables (R17).
-/
namespace Sys2Proof.Machine

/-! ### Checks that only the whole staged configuration allows (R39): offending index, subindex, and object code -/

abbrev Check := Option (Nat × Nat × Nat)

/-- Shapers (R132, R135). -/
def shaperCheckPort (b : Bank) (s : State) (p : Nat) : Check :=
  let e := bkO b (0x34C0 + p) 1
  if (List.range 8).any fun q => bit e q && q + bkO b (0x3480 + p) 2 < 8 then some (0x34C0 + p, 1, 0x06090030)
  else if slopeSum b p > 1000 * topRate b p s then
    some (0x34C0 + p, 2 + (((List.range 8).find? (bit e)).getD 0), 0x06090031)
  else none

def shaperCheck (b : Bank) (s : State) : Check := (List.range 30).findSome? (shaperCheckPort b s)

/-- One rule of table t (R173, R178): mask bits that its class has not or that are reserved, and what its action may not ask for. -/
def ruleCheckOne (b : Bank) (t r : Nat) : Check :=
  let cls := if t == 0x4011 then (if bkE b r t 2 == 0 then 0 else 4) else bkE b r t 2
  let m := bkE b r t 4
  let w := actionWord b (actionIndex b t r)
  if cls == 0 then none
  else if (cls == 1 && (m / 2 ^ 160 ≠ 0 || m % 16 ≠ 0)) || (cls == 2 && m % 2 ^ 15 ≠ 0) || (cls == 3 && m % 64 ≠ 0) ||
      (cls == 4 && m % 4 ≠ 0) then some (t, 4, 0x06090030)
  else if (cls == 2 || cls == 3) && wordVerdict w == 2 then some (t, 7, 0x06090030)
  else if (cls == 3 || cls == 4) && (bit w 61 || field w 56 2 ≠ 0 || bit w 55 || bit w 43 || field w 31 2 ≠ 0) then
    some (t, 7, 0x06090030)
  else none

def rulesCheck (b : Bank) (t : Nat) : Check := (entriesOf b t).findSome? (ruleCheckOne b t)

/-- Actions of verdict 3 (R178). -/
def actionsCheck (b : Bank) : Check :=
  if (entriesOf b 0x4012).any fun a => wordVerdict (actionWord b a) == 3 then some (0x4012, 2, 0x06090030) else none

/-- Two enabled payload checks that share a zone and a result bit (R175). -/
def payloadCheck (b : Bank) : Check :=
  let l := (entriesOf b 0x4014).filter fun c => bkE b c 0x4014 2 == 1
  if l.any fun x => l.any fun y => x < y && bkE b x 0x4014 4 == bkE b y 0x4014 4 &&
      Nat.land (bkE b x 0x4014 3) (bkE b y 0x4014 3) ≠ 0 then some (0x4014, 4, 0x06090030) else none

/-- A key slot that a setting names lacks a usage (R378). -/
def lacksUsage (n u : Nat) (s : State) : Bool := !bit (keySlot n s).usage u

/-- Authentication profiles that are set up (R181, R378). -/
def profileCheckOne (b : Bank) (s : State) (r : Nat) : Check :=
  let t := bkE b r 0x4020 6
  if (t + bkE b r 0x4020 4) % 8 ≠ 0 then some (0x4020, 4, 0x06090030)
  else if t > bkE b r 0x4020 5 then some (0x4020, 6, 0x06090031)
  else if lacksUsage (bkE b r 0x4020 3) 2 s then some (0x4020, 3, 0x06090030)
  else none

def profilesCheck (b : Bank) (s : State) : Check := (entriesOf b 0x4020).findSome? (profileCheckOne b s)

/-- Keys of the lease and of the transport, where they are in use (R378). -/
def keysCheck (b : Bank) (s : State) : Check :=
  if member s && lacksUsage (bkO b 0x5400 9) 3 s then some (0x5400, 9, 0x06090030)
  else if bkO b 0x5C20 1 == 1 && lacksUsage (bkO b 0x5C20 6) 3 s then some (0x5C20, 6, 0x06090030)
  else none

/-! #### Routes -/

/-- Refusal code of a route's program, 0 if it is taken (R241, R242): its cost, then word by word. -/
def wordsRefusal (len : Nat) : List Nat → Nat
  | [] => 0
  | w :: t =>
    if opOf w == 0 then 0
    else if opOf w > 6 then 0x06090030
    else if dstEnd w > len then 0x06090031
    else if opOf w == 4 then
      match t with
      | [] => 0x06090030
      | _ :: t2 => if wordsBad len (w :: t) then 0x06090030 else wordsRefusal len t2
    else if wordsBad len [w] then 0x06090030
    else wordsRefusal len t

/-- Largest and smallest egress length of a format (0x3C10:0B). -/
def lenLimit (f : Nat) : Nat × Nat :=
  if f == 0 then (0, 8) else if f == 1 || f == 2 then (0, 64) else if f == 3 then (1, 2048) else (1, 8)

/-- A bus route (R241, R242, R247, R249, R252): egress, format, length, semantics, mode, window class and program. -/
def busRouteCheck (b : Bank) (r : Nat) : Check :=
  let e := rt b r 8
  let f := rt b r 0x0A
  let n := rt b r 0x0B
  let lin_ := decide (48 ≤ e)
  let mode := bkO b (cE e) 2
  let prog := wordsRefusal n (wordsOf b r)
  if e ≥ 64 then some (0x3C10, 8, 0x06090030)
  else if (lin_ && f ≠ 4) || (!lin_ && (f == 4 || ((f == 1 || f == 2) && mode == 0) || (f == 3 && mode < 2))) then
    some (0x3C10, 0x0A, 0x06090030)
  else if n > (lenLimit f).2 then some (0x3C10, 0x0B, 0x06090031)
  else if n < (lenLimit f).1 then some (0x3C10, 0x0B, 0x06090032)
  else if lin_ && rt b r 0x0C == 1 && rt b r 9 % 64 ≠ 0x3C then some (0x3C10, 0x0C, 0x06090030)
  else if lin_ && n ≠ linLen b (e - 48) (rt b r 9 % 64) then some (0x3C10, 0x0B, 0x06090030)
  else if rt b r 0x0C == 1 && (rt b r 0x0E == 1 || rt b r 0x0E == 2) then some (0x3C10, 0x0E, 0x06090030)
  else if lin_ && rt b r 0x15 ≠ 0xFF then some (0x3C10, 0x15, 0x06090030)
  else if rt b r 0x11 + rt b r 0x12 > 32768 then some (0x3C10, 0x12, 0x06090031)
  else if wordsCost (wordsOf b r) > 192 then some (0x3C10, 0x12, 0x06090031)
  else if prog ≠ 0 then some (0x3C10, 0x12, prog)
  else none

/-- A route (R252, R255). -/
def routeCheckOne (b : Bank) (r : Nat) : Check :=
  if rt b r 2 == 1 then busRouteCheck b r
  else if rt b r 2 == 2 then
    if rt b r 8 < 64 then some (0x3C10, 8, 0x06090030)
    else if 48 ≤ rt b r 3 && rt b r 3 < 64 then some (0x3C10, 3, 0x06090030)
    else if rt b r 0x15 ≠ 0xFF then some (0x3C10, 0x15, 0x06090030)
    else none
  else none

def routesCheck (b : Bank) : Check := (entriesOf b 0x3C10).findSome? (routeCheckOne b)

/-- Container streams in use: the size limit, with 34 or 46 bytes of header and FCS, fits every port of the VLAN. -/
def streamsCheck (b : Bank) : Check :=
  if (entriesOf b 0x3C20).any fun k => bkE b k 0x3C20 2 == 1 &&
      (bitsOf 33 (bkE b (bkE b k 0x3C20 5) 0x3004 3)).any fun p =>
        bkE b k 0x3C20 9 + (if bkE b k 0x3C20 7 == 0 then 34 else 46) > maxFrame b p
  then some (0x3C20, 9, 0x06090031) else none

/-- Transmit windows of engine n (R252). -/
def windowCheckOne (b : Bank) (n : Nat) : Check :=
  if bkO b (0x3C40 + n) 1 == 0 then none
  else
    let l := windowList b n
    let w := l.entries.map fun e => (e.1, e.1 + e.2.2)
    if w.any fun e => e.1 == e.2 then some (0x3C40 + n, 6, 0x06090032)
    else if w.any fun e => e.2 > l.cycle then some (0x3C40 + n, 6, 0x06090031)
    else if (List.range w.length).any fun i => (w.drop (i + 1)).any fun y =>
        match (w.drop i).head? with
        | some x => x.1 < y.2 && y.1 < x.2
        | none => false
    then some (0x3C40 + n, 6, 0x06090030)
    else none

def windowsCheck (b : Bank) : Check := (List.range 48).findSome? (windowCheckOne b)

/-- gPTP: two enabled instances with one domain number (R271), and a second slave port of an instance (0x3820 + p:02). -/
def domainsCheck (b : Bank) : Check :=
  match (List.range 4).find? fun d => bkO b (iP d) 1 == 1 &&
      (List.range d).any fun e => bkO b (iP e) 1 == 1 && bkO b (iP e) 2 == bkO b (iP d) 2 with
  | some d => some (iP d, 2, 0x06090030)
  | none =>
    let slave (d p : Nat) : Bool := nbyte (bkO b (0x3820 + p) 2) d == 2
    match (List.range 22).find? fun p => (List.range 4).any fun d => slave d p && (List.range p).any (slave d) with
    | some p => some (0x3820 + p, 2, 0x06090030)
    | none => none

/-- Clusters: a member of two (R294), and the NM timeout (R297). -/
def clusterCheckOne (b : Bank) (c : Nat) : Check :=
  let meets (j : Nat) : Bool := (List.range c).any fun d => Nat.land (bkO b (nP c) j) (bkO b (nP d) j) ≠ 0
  if meets 1 then some (nP c, 1, 0x06090030)
  else if meets 2 then some (nP c, 2, 0x06090030)
  else if bkO b (nP c) 4 ≤ bkO b 0x3F00 7 then some (nP c, 4, 0x06090032)
  else none

def clustersCheck (b : Bank) : Check := (List.range 8).findSome? (clusterCheckOne b)

/-- DMA gangs (R12, R356): every member of a gang carries its size and kind, and the kind is not 3. -/
def gangCheckOne (b : Bank) (n : Nat) : Check :=
  let g := max 1 (bkO b (dP n) 2)
  let l := List.range' (n / g * g) g
  if g > 1 && (bkO b (dP n) 1 == 3 || l.any fun m => bkO b (dP m) 2 ≠ g || bkO b (dP m) 1 ≠ bkO b (dP n) 1) then
    some (dP n, 2, 0x06090030)
  else none

/-- Leader of channel n in a bank. -/
def bankLeader (b : Bank) (n : Nat) : Nat := let g := max 1 (bkO b (dP n) 2); n / g * g

/-- Two receive channels or gangs on one HP queue (R355). -/
def ringCheckOne (b : Bank) (n : Nat) : Check :=
  let rx (m : Nat) : Bool := bkO b (dP m) 1 == 1 && bankLeader b m == m
  if rx n && (List.range n).any fun m => rx m && bkO b (dP m) 3 == bkO b (dP n) 3 then some (dP n, 3, 0x06090030) else none

def dmaCheck (b : Bank) : Check :=
  match (List.range 64).findSome? (gangCheckOne b) with
  | some c => some c
  | none => (List.range 64).findSome? (ringCheckOne b)

/-- Node-ID of SDO server 0 (R48). -/
def nodeCheck (b : Bank) (s : State) : Check :=
  if bkO b 0x1200 3 + field (reg 0x5050 1 s) 4 4 > 0x7F then some (0x1200, 4, 0x06090031) else none

/-- Classes of fault sources (R399, R407): a fixed class, one below its lowest, and class 3 without a Workshop credential. -/
def classCheckOne (b : Bank) (role n : Nat) : Check :=
  let v := bkO b (0x5900 + n) 2
  let d := dflt (0x5900 + n) 2
  if v == d then none
  else if sourceFixed n then some (0x5900 + n, 2, 0x06090030)
  else if v < field (dflt (0x5900 + n) 3) 0 2 then some (0x5900 + n, 2, 0x06090032)
  else if v == 3 && role < 2 then some (0x5900 + n, 2, 0x06090030)
  else none

def classCheck (b : Bank) (role : Nat) : Check := (List.range 256).findSome? (classCheckOne b role)

/-- All checks of a commit by a session of the given role. -/
def commitChecks (role : Nat) (old b : Bank) (s : State) : List Check :=
  [portsCheck b, fdbCheck old b, gatesCheck b s, streamGatesCheck b s, bushelCheck b s, shaperCheck b s, meterShareCheck b,
    rulesCheck b 0x4010, rulesCheck b 0x4011, actionsCheck b, payloadCheck b, profilesCheck b s, flowsCheck b, routesCheck b,
    streamsCheck b, windowsCheck b, comparatorCheck b s, domainsCheck b, clustersCheck b, dmaCheck b, nodeCheck b s,
    classCheck b role, pairCheck b, keysCheck b s] ++
  (List.range 48).map (canCheck b) ++ (List.range 16).map (linCheck b)

/-- The first offending object, in ascending index and subindex (assumption log 63). -/
def firstOffence (l : List Check) : Check :=
  l.foldl (fun a c =>
    match a, c with
    | none, c => c
    | a, none => a
    | some x, some y => if y.1 * 256 + y.2.1 < x.1 * 256 + x.2.1 then some y else some x) none

/-! ### Effects of the switch (R17) on what the families keep -/

/-- A prefetched value that is dropped: a volatile one that no requester has received is lost (R352). -/
def loseValue (p : Prefetched) (s : State) : State :=
  if p.vol && p.value.isSome && !p.served then
    hostEvent 3 (setReg 0x5C40 6 (p.device + p.index * 256 + p.sub * 2 ^ 24) (count 0x5C40 5 s))
  else s

/-- The values that meet a condition are dropped; one still in flight is dropped when it arrives. -/
def dropPrefetch (f : Prefetched → Bool) (s : State) : State :=
  let l := s.bridge.prefetched
  let s := each (l.filter f) loseValue s
  { s with bridge := { s.bridge with
      prefetched := l.filterMap fun p => if f p then (if p.value.isNone then some { p with stale := true } else none) else some p } }

/-- Scheduler and shapers of port p (R131, R134). -/
def schedulerCommit (old new : Bank) (p : Nat) (s : State) : State :=
  let k0 := bkO old (0x3480 + p) 2
  let k1 := bkO new (0x3480 + p) 2
  let s := if k0 == k1 then s
    else each (List.range 8) (fun q s =>
      let e := egr p s
      if q + k0 ≥ 8 && q + k1 < 8 then
        (if s.buf.copies.any fun c => c.port == p && c.queue == q then
          setEgr p { e with start := tset 0 e.start q (tagMax e.v (tget 0 e.fin q) + 1) } s
        else s)
      else if q + k0 < 8 && q + k1 ≥ 8 then setEgr p { e with start := tdel e.start q, fin := tdel e.fin q } s
      else s) s
  let s := if p < 30 && (List.range' 1 0x11).any fun j => bkO old (0x34C0 + p) j ≠ bkO new (0x34C0 + p) j then
      setEgr p { egr p s with credit := [] } s
    else s
  if portUp p s then scaleSlopes p s else s

/-- Hits of changed rules are cleared (R191). -/
def hitsCommit (old new : Bank) (t : Nat) (s : State) : State :=
  each ((entriesOf old t ++ entriesOf new t).foldl (fun l r => setIns r l) []) (fun r s =>
    if ruleSame old new t r then s else setRegE r t 8 0 s) s

/-- V of a profile whose data ID or key slot changes is set to its floor (R182). -/
def profilesCommit (old new : Bank) (s : State) : State :=
  each ((entriesOf old 0x4020 ++ entriesOf new 0x4020).foldl (fun l r => setIns r l) []) (fun r s =>
    if bkE old r 0x4020 2 ≠ bkE new r 0x4020 2 || bkE old r 0x4020 3 ≠ bkE new r 0x4020 3 then
      setRegE r 0x4020 8 (bkE new r 0x4020 9) s
    else s) s

/-- Running channels with a changed setting are disabled (R370); before the tables switch, so that gangs are those of the old
settings. -/
def dmaCommit (old new : Bank) (s : State) : State :=
  each (List.range 64) (fun n s =>
    if bankLeader old n == n && (chState n s == 2 || chState n s == 3) &&
        (gangMembers n s).any (fun m => [1, 2, 3, 4, 5].any fun j => bkO old (dP m) j ≠ bkO new (dP m) j) then dmaDisable n s
    else s) s

/-- Granted consumers whose permission a commit clears are powered down (R481): ports at once, domains through their drain. -/
def revokeCommit (s : State) : State :=
  each (List.range' 1 61) (fun n s =>
    if !granted n s || peckPermitted n s then s
    else
      match consumerPort n with
      | some p => setPeck n 4 (peckReturn n (setPrt p { prt p s with phase := 0 } (portDown p 0x0A s)))
      | none =>
        match consumerDomain n with
        | some d => if powered d s then drainStart d s else setPeck n 4 (peckReturn n s)
        | none => setPeck n 4 (peckReturn n s)) s

/-- Clusters whose record changes end their withholding (R307). -/
def clustersCommit (old new : Bank) (s : State) : State :=
  each (List.range 8) (fun c s =>
    if (List.range' 1 8).any fun j => bkO old (nP c) j ≠ bkO new (nP c) j then resumeCluster c s else s) s

/-- Prefetch windows that change drop what they fetched (R353). -/
def prefetchCommit (old new : Bank) (s : State) : State :=
  dropPrefetch (fun p => [3, 4, 5, 6].any fun j => bkE old p.window 0x5C30 j ≠ bkE new p.window 0x5C30 j) s

/-- Everything that the switching cycle brings with it. -/
def commitEffects (old new : Bank) (s : State) : State :=
  let s := portsCommit old new s
  let s := fdbCommit old new s
  let s := gatesCommit old new s
  let s := streamGatesCommit old new s
  let s := frerCommit old new s
  let s := metersCommit old new s
  let s := each (List.range 33) (schedulerCommit old new) s
  let s := hitsCommit old new 0x4011 (hitsCommit old new 0x4010 s)
  let s := profilesCommit old new s
  let s := braidCommit old new s
  let s := each (List.range 48) (canCommit old new) s
  let s := each (List.range 16) (linCommit new) s
  let s := busCopy s
  let s := revokeCommit (pecksCommit s)
  let s := plcaCommit old new s
  let s := pairCommit old new s
  let s := timeCommit old new s
  let s := clustersCommit old new s
  prefetchCommit old new s

/-- A new bank is in force (R17, R191): the old one serves what was sampled before, the staged bank is refreshed by a copy, the Sieve is armed
(R187), and the evaluated configuration follows in this cycle (R403). -/
def takeBank (new : Bank) (s : State) : State :=
  refreshEval (setReg 0x4000 1 1 { s with
    cfg := new, old := s.cfg, staged := new, epoch := s.epoch + 1
    sieve := { s.sieve with refreshing := true, waitingWrites := [] } })

/-- The tables switch to a new bank (R17, R39), and replay starts with the first configuration (R263). A switch in Headless leaves the device
there (R440). -/
def switchTables (bank : Bank) (s : State) : State :=
  let old := s.cfg
  let new := fdbTaken old bank
  let first := !s.power.loaded
  let s := takeBank new (dmaCommit old new s)
  let s := if s.dev = .configure || s.dev = .catch_ then setDev .operate s else s
  let s := commitEffects old new s
  let s := { s with power := { s.power with loaded := true } }
  let s := if first then startReplay s else s
  sleepCheck s

/-! ### The lock (R36, R38, R421) -/

/-- The device leaves Safe (R421): outputs are released, the engines integrate, and the time outputs take their committed levels. -/
def leaveSafe (s : State) : State :=
  let s := { s with faults := { s.faults with forced := false } }
  let s := each (List.range 48) (fun n s => if canActive n s || canState n s == 6 || canState n s == 7 then setCanState n 2 s else s) s
  let s := each (List.range 16) (fun m s => if (lin m s).mode == 3 then setLin m { lin m s with mode := 2 } s else s) s
  each (List.range 8) (fun k s => if ttrigIdle k s == 1 then driveTtrig k 1 s else s) s

/-- The lock goes to a session, and the staged copy is opened. -/
def takeLock (ses : Session) (s : State) : State :=
  { s with
    staged := if s.dev = .configure then s.staged else s.cfg
    access := { s.access with holder := some ses, holderSince := wall s } }

/-- 0x02 at 0x1002:01 (R36, R38, R421, R444). -/
def configureRequest (ses : Session) : Svc := notTerminal fun s =>
  match s.dev with
  | .operate => if bit s.update.proof 1 then (s, 0x08000022) else done (setDev .configure (takeLock ses s))
  | .configure =>
    match s.access.holder with
    | none => if bit s.update.proof 1 then (s, 0x08000022) else done (takeLock ses s)
    | some h => if h = ses then done s else (s, 0x08000021)
  | .safe =>
    if highestClass s ≥ 2 || s.faults.reaction ≠ 0 || bit s.update.proof 1 then (s, 0x08000022)
    else done (setDev .configure (takeLock ses (leaveSafe s)))
  | _ => (s, 0x08000022)

/-- A request of the lock holder outside validation. -/
def byHolder (ses : Session) (f : Svc) : Svc := notTerminal fun s =>
  if s.dev ≠ .configure then (s, 0x08000022)
  else if s.access.holder ≠ some ses then (s, 0x08000021)
  else if s.access.validating then (s, 0x08000022) else f s

/-- 0x13 at 0x1002:01 (R39). -/
def discardEdits (ses : Session) : Svc := byHolder ses fun s => done (sleepCheck (setDev .operate s))

/-- Key slots that a configuration names, in order. -/
def keyNames (b : Bank) : List Nat :=
  (entriesOf b 0x4020).map (fun e => bkE b e 0x4020 3) ++ [bkO b 0x5400 9, bkO b 0x5C20 6]

/-- A commit that changes a persistent key slot (R432): the configurations name different ones. -/
def keysMove (s : State) : Bool :=
  let a := keyNames s.cfg
  let b := keyNames s.staged
  let moved := (a.filter fun n => !(b.contains n)) ++ b.filter fun n => !(a.contains n)
  moved.any fun n => (keySlot n s).persistent

/-- 0x03 at 0x1002:01 (R39, R40): validation starts; while an image is being installed no persistent key slot changes (R432). -/
def commitRequest (ses : Session) : Svc := byHolder ses fun s =>
  if reg 0x6800 7 s == 2 && keysMove s then (s, 0x08000022)
  else done { s with access := { s.access with validating := true } }

/-- A command whose answer comes later, unless it is refused. -/
def serveLate (ses : Session) (f : Svc) (s : State) : State :=
  if s.dev = .boot || s.dev = .catch_ || !sessionLive ses s then s
  else
    let r := serveWith ses f s
    if r.2 == 0 then deferCommit ses false [] r.1 else emit (.answer ses r.2 []) r.1

/-- CONFIGURE_REQUEST (R38). -/
def execConfigureRequest (ses : Session) (s : State) : Res := .next (settle 8 (serve ses (configureRequest ses) s))

/-- COMMIT (R39, R40): the answer waits for the end of validation. -/
def execCommit (ses : Session) (s : State) : Res := .next (serveLate ses (commitRequest ses) s)

/-- DISCARD (R39). -/
def execDiscard (ses : Session) (s : State) : Res := .next (settle 8 (serve ses (discardEdits ses) s))

/-- The end of a validation (R39, R40): staged writes that waited for the refresh stand (R191); then the tables switch, or the commit is
refused and 0x1003 names the first offence. -/
def endValidation (h : Session) (s : State) : State :=
  let s := each s.sieve.waitingWrites (fun w s => stageWrite w.1 w.2 s)
    { s with sieve := { s.sieve with waitingWrites := [], refreshing := false } }
  match firstOffence (commitChecks (roleOf h s) s.cfg s.staged s) with
  | some x =>
    let s := recordRefusal 0x080000A4 x.1 x.2.1 x.2.2 { s with access := { s.access with validating := false } }
    answerCommit 0x080000A4 s
  | none => answerCommit 0 (switchTables s.staged s)

/-- COMMIT_VALIDATION_COMPLETE (R39, R40). A validation whose lock has been lost switches nothing, and its commit write is refused. -/
def execCommitValidationComplete (s : State) : Res :=
  .next (
    match s.access.holder with
    | none => answerCommit 0x08000022 s
    | some h => if s.access.validating && s.dev = .configure then settle 8 (endValidation h s) else answerCommit 0x08000022 s)

/-- The lock is lost without a commit, and 0x1003 records 0x0504_0000 (R39). -/
def loseLock (s : State) : State := sleepCheck (setDev .operate (recordRefusal 0x05040000 0 0 0 s))

/-- CONFIGURE_IDLE_RELEASE (R39): the holder has made no access for the limit. -/
def execConfigureIdleRelease (s : State) : Res :=
  .next (
    if s.dev = .configure && s.access.holder.isSome && !s.access.validating &&
        due s.access.holderSince (cfgIdle s * 1000000000) s then settle 8 (loseLock s)
    else s)
where
  /-- The idle limit 0x1002:03 in s. -/
  cfgIdle (s : State) : Nat := reg 0x1002 3 s

/-- A session ends: its credentials go (R45), a PXP session is closed (R51), and the lock is released (R39). -/
def endSession (ses : Session) (s : State) : State :=
  let k := sesCode ses
  let s := { s with crust := { s.crust with
    roles := tdel s.crust.roles k, requested := tdel s.crust.requested k, challenges := tdel s.crust.challenges k } }
  let s := match ses with
    | .pxp n =>
      let t : Tab (Option PxpSession) := tdel s.access.pxp n.val
      setReg 0x1210 5 ((t.filter fun (e : Nat × Option PxpSession) => ((e.2.map PxpSession.phase).getD 0) == 2).length) { s with access := { s.access with pxp := t } }
    | _ => s
  let s := { s with access := { s.access with remote := s.access.remote.filter fun r => r.ses ≠ ses } }
  if s.access.holder = some ses && s.dev = .configure then loseLock s else s

/-- SESSION_LOSS (R39, R45). -/
def execSessionLoss (ses : Session) (s : State) : Res :=
  .next (if s.dev = .boot || s.dev = .catch_ then s else settle 8 (endSession ses s))

end Sys2Proof.Machine
end

