-- ==== Sys2Proof/Machine/Power.lean ====
section
/-!
DEFINITION. Power.lean: rails, clocks and resets (R447–R454, R461–R464, R488), what a reset keeps (R373, R422, R423, R435), and the first
second: the boot ROM's images (R374–R376, R392–R394, R444), the first configuration (R36, R182), and the dictionary (R47).
-/
namespace Sys2Proof.Machine

/-! ### What a reset keeps -/

/-- Objects whose values stand in OTP or in flash (R373, R395, R398, R427, R435). -/
def flashObjects : List (Nat × Nat) :=
  [(0x6000, 1), (0x6000, 2), (0x6000, 6), (0x6000, 7), (0x6802, 9), (0x6040, 5)] ++
    ([0x6801, 0x6802].flatMap fun i => (List.range' 1 8).map fun j => (i, j)) ++
    ((List.range 16).flatMap fun p => (List.range' 1 3).map fun j => (0x6050 + p, j))

/-- Statuses that outlive every start with VDD_AON held: of security sources and of class-3 sources (R422, R423). -/
def keptStatuses (s : State) : List (Nat × Nat) :=
  ((List.range 256).filter fun n => srcSet n s && (srcSecurity n || srcClass n s == 3)).map fun n => (0x5900 + n, 4)

/-- Objects that PD_AON holds: the wake domain's (R288), the reset's (R461, R463), the XTAL amplifier's (R452), the tamper latch, statuses,
and the class-3 first fault (R423). -/
def aonObjects (s : State) : List (Nat × Nat) :=
  [(0x5040, 8), (0x5040, 9), (0x5050, 1), (0x5050, 2), (0x5050, 3), (0x5050, 6), (0x5030, 2), (0x6000, 4)] ++
    ((List.range' 1 6).map fun j => (0x5042, j)) ++ ((List.range' 1 5).map fun j => (0x5043, j)) ++
    [(0x5801, 4), (0x5801, 8)] ++ (if reg 0x5800 6 s == 3 then [(0x5800, 4), (0x5800, 5), (0x5800, 6)] else []) ++ keptStatuses s

/-- Objects of a list keep their values of s. -/
def keepObjs (l : List (Nat × Nat)) (s t : State) : State := each l (fun x t => setReg x.1 x.2 (reg x.1 x.2 s) t) t

/-- The wake domain's copy of the configuration (R288): wake sources, cluster members and wake targets, sleep settings. -/
def aonConfig (b : Bank) : Bank :=
  ⟨b.objs.filter (fun e =>
    let i := e.1 / 256
    let j := e.1 % 256
    e.1 < 2 ^ 24 && (i == 0x5041 || i == 0x5040 || (0x3F10 ≤ i && i ≤ 0x3F17 && [1, 2, 6, 8].contains j))), [], []⟩

def crustKept (aon : Bool) (c : CrustSt) : CrustSt :=
  let f : CrustSt := { crust0 with
    slots := if aon && c.noRestore then [] else c.stored
    stored := c.stored, revoked := c.revoked, flash := c.flash, bound := c.bound }
  if !aon then f
  else { f with
    noRestore := c.noRestore, failures := c.failures, lockLen := c.lockLen, lockEnd := c.lockEnd, counter := c.counter, head := c.head
    sealedDigest := c.sealedDigest, aonTamper := c.aonTamper }

/-- The state that a reset of the given cause leaves while it is asserted (R461, R462): everything at its reset value but for what OTP,
flash, the balls and, unless VDD_AON was lost, PD_AON hold. -/
def resetState (cause : Nat) (s : State) : State :=
  let aon := decide (cause ≠ 1)
  let f := State.reset
  let b : Bank := if aon then aonConfig s.cfg else bank0
  { f with
    cfg := b, old := b, staged := b, fresh := s.fresh, out := s.out, pending := s.pending
    sieve := { f.sieve with flashFreshness := s.sieve.flashFreshness }
    crust := crustKept aon s.crust
    faults := { f.faults with terminal := aon && s.faults.terminal, forced := aon && s.faults.terminal, errInLow := s.faults.errInLow }
    time := { f.time with
      wall := s.time.wall, shadow := if aon then s.time.shadow else none, slept := s.time.slept, kept := if aon then s.time.kept else [] }
    power := { f.power with
      reset := cause, started := s.time.wall, rails := s.power.rails, aonUp := s.power.aonUp, busUp := s.power.busUp }
    pecks := { f.pecks with copy := if aon then s.pecks.copy else none }
    braid := { f.braid with kept := if aon then s.braid.kept else none }
    bridge := { f.bridge with epoch := s.bridge.epoch, perst := s.bridge.perst, perstAt := s.bridge.perstAt }
    wake := if aon then { f.wake with
        latched := s.wake.latched, masked := s.wake.masked, backoff := s.wake.backoff, unrecorded := s.wake.unrecorded, called := s.wake.called }
      else f.wake
    update := { f.update with
      recov := s.update.recov, evaluated := s.update.evaluated, release := s.update.release, flag := s.update.flag, burnDue := s.update.burnDue, owed := s.update.owed }
    pair := { f.pair with epoch := s.pair.epoch, seqs := if aon then s.pair.seqs else [] } }

/-- A reset is asserted (R268, R461, R462). -/
def holdReset (cause : Nat) (s : State) : State :=
  let s := if s.time.tclk then saveTime false s else s
  keepObjs (flashObjects ++ if cause == 1 then [] else aonObjects s) s (resetState cause s)

/-- INH_OUT0–INH_OUT3 go high (R290, R488). -/
def inhHigh (s : State) : State := each (List.range 4) (fun k s => emit (.ball ("INH_OUT" ++ toString k) 1) s) s

/-- The device leaves its internal reset and starts (R465, R470): cause and count, the watchdog of the wake handshake, the epochs of R317
and R344, and the recovery loader where BOOT_SEL asks for it (R446). -/
def startUp (s : State) : State :=
  let c := s.power.reset
  let s := setReg 0x5040 8 2 (setReg 0x5050 2 c (count 0x5050 3 s))
  { s with
    power := { s.power with
      reset := 0, extending := none, started := wall s, digest := c == 7 && s.crust.sealedDigest
      recovery := field (reg 0x5050 1 s) 0 2 == 1 }
    wake := { s.wake with watchdog := wall s }
    pair := { s.pair with epoch := (s.pair.epoch + 1) % 65536 }
    bridge := { s.bridge with epoch := (s.bridge.epoch + 1) % 65536 }
    crust := { s.crust with aonContinuous := decide (c ≠ 1), sealedDigest := false } }

/-- The reset is released; it is extended until XTAL is stable (R452). -/
def release (s : State) : State :=
  if reg 0x5030 2 s == 2 then startUp s else { s with power := { s.power with extending := some (wall s) } }

/-! ### Resets (R461) -/

/-- PORST_N_ASSERT (R461, R462): after a cold sleep the cause stays 7, and after a loss of VDD_AON 1. -/
def execPorstNAssert (s : State) : Res :=
  .next (
    if s.power.reset == 1 || s.power.reset == 7 || (s.power.sleep == 2 && s.power.reset == 0) || !s.power.aonUp then
      { s with power := { s.power with extending := none } }
    else
      let t := holdReset 2 s
      if s.power.sleep == 0 then t else inhHigh t)

/-- Straps as 0x5050:01 shows them (R463): bit 9 notes a BOOT_SEL of 11, which is taken as 00. -/
def strapsShown (v : Nat) : Nat := if v % 4 == 3 then v % 512 - 3 + 512 else v % 512

/-- PORST_N_RELEASE (R447, R448, R463–R465): straps and the level of VDDIO_GEN (bit 9 of the operand) are latched, with every supply
group up. -/
def execPorstNRelease (straps : Fin 1024) (s : State) : Res :=
  .next (
    let c := s.power.reset
    if (c == 1 || c == 2 || c == 7) && s.power.aonUp && s.power.busUp && s.power.extending.isNone then
      release (setReg 0x5050 6 (b2n (bit straps.val 9)) (setReg 0x5050 1 (strapsShown straps.val) s))
    else s)

/-- RST_N_RESET (R461). -/
def execRstNReset (s : State) : Res := .next (if coreOn_ s then holdReset 3 s else s)
where
  /-- PD_CORE has power and no reset is asserted. -/
  coreOn_ (s : State) : Bool := s.power.reset == 0 && s.power.aonUp && s.power.sleep ≠ 2

/-- RST_N_RELEASE (R461). -/
def execRstNRelease (s : State) : Res :=
  .next (if s.power.reset == 3 && s.power.extending.isNone then release s else s)

/-- The software reset is accepted under Workshop (0x5050:05). -/
def softwareReset (ses : Session) : Svc := notTerminal (needRole ses 2 done)

/-- SOFTWARE_RESET (R461). -/
def execSoftwareReset (ses : Session) (s : State) : Res :=
  .next (
    let t := serve ses (softwareReset ses) s
    if (serveWith ses (softwareReset ses) s).2 == 0 && s.dev ≠ .boot && s.dev ≠ .catch_ && sessionLive ses s then release (holdReset 4 t)
    else t)

/-- SUPPLY_RESET (R449): the rails are monitored while the device is awake. -/
def execSupplyReset (s : State) : Res :=
  .next (if s.power.reset == 0 && s.power.aonUp && s.power.sleep == 0 then holdReset 5 s else s)

/-- SUPPLY_RESET_RELEASE (R449). -/
def execSupplyResetRelease (s : State) : Res :=
  .next (if s.power.reset == 5 && s.power.extending.isNone then release s else s)

/-! ### Rails (R447–R450, R488, R504) -/

/-- RAIL_OUT_OF_RANGE (R449): rail 0 is VDD_CORE; VDD_AON (rail 4) is not monitored so. -/
def execRailOutOfRange (rail : Fin 16) (low : Bool) (s : State) : Res :=
  .next (
    let r := rail.val
    if r ≥ 8 || r == 4 || s.power.sleep ≠ 0 || s.power.reset ≠ 0 || !s.power.aonUp then s
    else
      let s := { s with power := { s.power with rails := setIns r s.power.rails } }
      fire (if r == 0 then 0x47 else 0x48) (r + 256 * b2n low) s)

/-- RETENTION_LOST (R450). -/
def execRetentionLost (s : State) : Res :=
  .next (if s.power.sleep == 1 then { s with power := { s.power with retentionLost := true } } else s)

/-- VDD_AON_LOSS (R461, R504): PD_AON is cleared. -/
def execVddAonLoss (s : State) : Res :=
  .next (
    let s := { s with time := { s.time with tclk := false } }
    let s := holdReset 1 s
    { s with power := { s.power with aonUp := false } })

/-- VDD_AON_RETURN (R448, R452): the XTAL amplifier starts; with VDDIO_BUS up the wake domain raises INH_OUT. -/
def execVddAonReturn (s : State) : Res :=
  .next (
    if s.power.aonUp then s
    else
      let s := setReg 0x5030 2 1 { s with power := { s.power with aonUp := true } }
      if s.power.busUp then inhHigh s else s)

/-- VDDIO_BUS_LOSS (R488): a power-down begins; any handshake ends, and the device is held in its internal reset. -/
def execVddioBusLoss (s : State) : Res :=
  .next (
    if !s.power.busUp then s
    else
      let s := { s with power := { s.power with busUp := false } }
      let s := if s.power.reset == 1 then s else holdReset 2 s
      setReg 0x5040 8 0 { s with wake := { s.wake with called := none } })

/-- VDDIO_BUS_RETURN (R488). -/
def execVddioBusReturn (s : State) : Res :=
  .next (
    if s.power.busUp then s
    else
      let s := { s with power := { s.power with busUp := true } }
      if s.power.aonUp then inhHigh s else s)

/-! ### Clocks (R451–R454) -/

/-- XTAL_STABLE (R452, R454): an extended reset ends, or XTAL is back after its loss. -/
def execXtalStable (s : State) : Res :=
  .next (
    if !s.power.aonUp || s.power.sleep == 2 || reg 0x5030 2 s == 2 then s
    else
      let s := setReg 0x5030 2 2 s
      let s := { s with faults := { s.faults with condition := setDel 0x40 s.faults.condition } }
      match s.power.extending with
      | none => s
      | some t => startUp (setReg 0x5050 4 ((wall s - t) / 1000) s))

/-- XTAL_LOSS (R454). -/
def execXtalLoss (s : State) : Res :=
  .next (
    if !s.power.aonUp || s.power.sleep == 2 then s
    else
      let s := setReg 0x5030 2 3 s
      if s.power.reset == 0 && s.power.sleep == 0 then fire 0x40 0 s else s)

/-- The source of a PLL's lock detector (R454), and the data of its firing: the serdes PLLs share 0x46, with their cluster. -/
def pllSource (k : Nat) : Option (Nat × Nat) :=
  if k < 4 then some (0x41 + k, 0) else if k == 4 then some (0x45, 0) else if k ≥ 6 then some (0x46, k - 6) else none

/-- TCLK runs: local time starts, or is restored (R267, R268), and a wake that led to this start is noted with its time (R303, R304). -/
def tclkStart (s : State) : State :=
  if s.time.tclk then s
  else
    let s := restoreTime s
    match s.wake.called with
    | some n => noteWake n 2 { s with wake := { s.wake with called := none } }
    | none => s

/-- PLL_LOCK (R453, R454). -/
def execPllLock (pll : Fin 10) (s : State) : Res :=
  .next (
    let k := pll.val
    if s.power.reset ≠ 0 || s.power.sleep ≠ 0 || !s.power.aonUp then s
    else
      let s := if bit (reg 0x5030 1 s) k then s else setReg 0x5030 1 (reg 0x5030 1 s + 2 ^ k) s
      let s := match pllSource k with
        | some x => { s with faults := { s.faults with condition := setDel x.1 s.faults.condition } }
        | none => s
      if k == 3 then tclkStart s else s)

/-- PLL_UNLOCK (R454). -/
def execPllUnlock (pll : Fin 10) (s : State) : Res :=
  .next (
    let k := pll.val
    if !bit (reg 0x5030 1 s) k then s
    else
      let s := count 0x5030 6 (setReg 0x5030 1 (setField (reg 0x5030 1 s) k 1 0) s)
      match pllSource k with
      | some x => fire x.1 x.2 s
      | none => s)

/-- STRAP_DRIVER_ENABLE (R490): 20 µs after the release the drivers of TTRIG and PPS_OUT drive low. -/
def execStrapDriverEnable (s : State) : Res :=
  .next (
    if s.power.reset == 0 && s.power.sleep == 0 && s.power.extending.isNone && due s.power.started 20000 s then
      { s with time := { s.time with drivers := true } }
    else s)

/-! ### The firmware image (R374–R376, R392–R394, R436, R444) -/

/-- Kinds of an activation go back to their previous slots (R443, R444): the failed slot is invalid, no proofing flag stays. -/
def revertHeader (kinds : Nat) (s : State) : State :=
  let s := each (bitsOf 2 kinds) (fun k s =>
    let a := activeSlot k s
    setSlotState k (1 - a) 1 (setSlotState k a 2 s)) s
  let s := headerSwap kinds { s with update := { s.update with flag := 0, proof := 0 } }
  setReg 0x6808 6 5 (setReg 0x6810 7 (time80 (nowNs s)) (count 0x6810 6 s))

/-- A start while a proofing flag is set boots the previous slots (R444); its record waits for the log. -/
def startRevert (s : State) : State :=
  let k := s.update.flag
  if k == 0 then s
  else
    let s := revertHeader k s
    { s with update := { s.update with owed := s.update.owed ++ [(0x0010, [7, k])] } }

/-- Version rule of firmware (R434, R436): the thermometer's bits and the minor floor. -/
def firmwarePasses (m : ImageInfo) (s : State) : Bool :=
  let t := bitCount (reg 0x6000 6 s)
  decide (t < m.major.val) || (m.major.val == t && decide (reg 0x6000 7 s ≤ m.minor.val))

def configPasses (m : ImageInfo) (s : State) : Bool := decide (reg 0x6802 9 s ≤ m.minor.val)

/-- A slot fails at a start (R375, R397): its record waits for the log. -/
def slotFails (k slot : Nat) (s : State) : State :=
  let s := setSlotState k slot 2 s
  let s := { s with update := { s.update with owed := s.update.owed ++ [(0x0015, [slot, k + 1])] } }
  if k == 0 then fire 0xA0 slot s else s

/-- The TRNG draws the transforms of R196. -/
def drawTransforms (s : State) : State :=
  let r (k : Nat) : Nat := Config.random (s.fresh + k)
  let s := setReg 0x4050 5 (1 + r 2 % 383) (setReg 0x4050 4 (1 + r 1 % 63) (setReg 0x4050 3 (1 + r 0 % 159) (setReg 0x4050 6 (1 + r 3 % 0x3FFF) s)))
  { s with fresh := s.fresh + 4 }

/-- A SHA-256 value in fields of a record. -/
def hashFields (h : Nat) : List Nat := [h / 2 ^ 192, h / 2 ^ 128 % 2 ^ 64, h / 2 ^ 64 % 2 ^ 64, h % 2 ^ 64]

/-- The Crust compares its counter and chain head with the newest record in flash (R392): records lost (R394), or a chain mismatch. -/
def compareLog (s : State) : State :=
  let last := s.crust.flash.getLast?
  let n := (last.map (·.counter)).getD 0
  let h := (last.map fun r => Config.sha256 (recBytes r)).getD 0
  let aon := s.crust.head
  let c := s.crust.counter
  if n < c then sealRecord 2 0 ([n + 1, c] ++ hashFields aon) { s with crust := { s.crust with head := h } }
  else if c < n || (last.isSome && aon ≠ h) then fire 0xA8 0 (sealRecord 0x0012 0 (hashFields aon ++ hashFields h) s)
  else s

/-- The log at a Boot (R394): with VDD_AON lost, the power interruption record takes the counter of the newest record in flash plus 33. -/
def checkLog (s : State) : State :=
  let last := s.crust.flash.getLast?
  let n := (last.map (·.counter)).getD 0
  let h := (last.map fun r => Config.sha256 (recBytes r)).getD 0
  if s.crust.aonContinuous then compareLog s
  else sealRecord 1 0 [n, (last.map (·.time)).getD 0] { s with crust := { s.crust with counter := n + 32, head := h } }

/-- Records that waited for the log. -/
def writeOwed (s : State) : State :=
  let l := s.update.owed
  each l (fun x s => sealRecord x.1 0 x.2 s) { s with update := { s.update with owed := [] } }

/-- A fail-safe sleep and a tamper event of the sleep are taken up at the next wake (R308, R400). -/
def wakeEvents (s : State) : State :=
  let s := if s.wake.unrecorded then
      fire 0x4D (reg 0x5043 3 s) (sealRecord 9 0 [reg 0x5043 3 s] { s with wake := { s.wake with unrecorded := false } })
    else s
  if s.crust.aonTamper then tamper 0 { s with crust := { s.crust with aonTamper := false } } else s

/-- What the header of a slot's image says stands in the slot's objects (R427, R434): the slot is valid, or in its proofing. -/
def noteSlot (k slot : Nat) (m : ImageInfo) (s : State) : State :=
  let v := reg (slotP k) (2 + slot) s
  let s := if v == 3 || v == 4 then s else setSlotState k slot 1 s
  let s := setReg (slotP k) (6 + slot) (m.major.val + 2 ^ 16 * m.minor.val) (setReg (slotP k) (4 + slot) (m.identity % 2 ^ 256) s)
  { s with update := { s.update with
    evaluated := tset 0 s.update.evaluated (2 * k + slot) (b2n m.evaluated)
    release := tset 0 s.update.release (2 * k + slot) m.release.val } }

/-- The running firmware is that of the active slot: its release and its evaluated flag. -/
def noteFirmware (s : State) : State :=
  let a := activeSlot 0 s
  setReg 0x1018 3 (0xB0 * 2 ^ 16 + tget 0 s.update.release a)
    { s with crust := { s.crust with evalFirmware := tget 0 s.update.evaluated a == 1 } }

/-- The management core runs the image of a slot (R465 steps 7 and 8): log, transforms, and requests of the Crust's and PD_PCIE's pecks. -/
def bootFirmware (slot : Nat) (m : ImageInfo) (s : State) : State :=
  let s := { s with access := { s.access with coreUp := true } }
  let s := noteFirmware (noteSlot 0 slot m (setReg (slotP 0) 1 slot s))
  let s := setReg 0x6000 3 (b2n s.power.digest) (setReg 0x5010 3 (if s.power.digest then 0 else sinceStart s) s)
  let s := wakeEvents (writeOwed (checkLog (drawTransforms s)))
  peckRequest 2 (peckRequest 1 s)

/-- No firmware verifies (R375, R469): the device stays in Boot with the recovery loader, and the catch buffer is discarded. -/
def noFirmware (s : State) : State :=
  let s := each s.braid.caught releaseCatch { s with dev := .boot, power := { s.power with recovery := true } }
  fire 0xA2 0 { s with braid := { s.braid with caught := [] } }

/-- FIRMWARE_IMAGE_VERIFIED (R374–R376, R436, R444): the active slot first, then the other. -/
def execFirmwareImageVerified (image : FirmwareLoad) (s : State) : Res :=
  .next (
    if s.access.coreUp || s.power.recovery || s.power.reset ≠ 0 || s.power.extending.isSome || s.power.sleep ≠ 0 || s.power.loaded ||
        reg 0x5010 4 s ≠ 0 then s
    else
      let s := startRevert s
      let a := activeSlot 0 s
      let passes (m : Option ImageInfo) : Option ImageInfo := m.bind fun x => if firmwarePasses x s then some x else none
      match passes image.first, passes image.second with
      | some m, _ => settle 4 (bootFirmware a m s)
      | none, some m => settle 4 (bootFirmware (1 - a) m (slotFails 0 a s))
      | none, none => settle 4 (noFirmware (slotFails 0 (1 - a) (slotFails 0 a s))))

/-! ### The first configuration (R36, R182, R375, R436) -/

/-- The tables that an image holds (R38): its RWC objects, its static FDB entries and its flows; none where an entry finds no place. -/
def bankOf_ (m : ConfigImage) : Option Bank :=
  let objs := m.objs.foldl (fun t x =>
    match subOf x.1 x.2.1 with
    | some r =>
      if r.acc = .rwc then
        sset t (if x.2.2.1 == 0 then okey x.1 x.2.1 else ekey (x.2.2.1 - 1) x.1 x.2.1) (x.2.2.2 % 2 ^ (8 * r.ty.size))
      else t
    | none => t) []
  let b := m.fdb.foldl (fun r x => r.bind fun b => staticPut b (x.1 * 4096 + x.2.1) x.2.2) (some ⟨objs, [], []⟩)
  m.flows.foldl (fun r x => r.bind fun b => flowPut b x.1 x.2) b

/-- Freshness floor of profile r of a loaded image (R182): the larger of the image's and of the flash copy for the same data ID and key
slot. -/
def floorOf (b : Bank) (r : Nat) (s : State) : Nat :=
  let x := tget (0, 0, 0) s.sieve.flashFreshness r
  if x.2.1 == bkE b r 0x4020 2 && x.2.2 == bkE b r 0x4020 3 then max (bkE b r 0x4020 9) x.1 else bkE b r 0x4020 9

def withFloors (b : Bank) (s : State) : Bank :=
  { b with objs := (entriesOf b 0x4020).foldl (fun t r => sset t (ekey r 0x4020 9) (floorOf b r s)) b.objs }

/-- Bus domains with enabled engines outside sleeping clusters that have no power yet, and lane 1, request their pecks (R201, R458). -/
def requestUnits (s : State) : State :=
  let s := each (List.range' 5 7) (fun d s =>
    if powered d s || !((domainEngines d).any fun e => !engAsleep e s && (if e < 48 then cfg (cE e) 1 s == 1 else cfg (lB (e - 48)) 1 s == 1)) then s
    else peckRequest (50 + d) s) s
  peckRequest 3 s

/-- What every start does with its first configuration: comparators, pairing, freshness, NM timeouts, and the evaluated configuration. -/
def configurationReady (s : State) : State :=
  let s := setReg 0x5010 4 (sinceStart s) (pairWake (restoreComparators s))
  let s := each (memberClusters s) (fun c s => if clusterState c s == 2 then toAwake c s else s) s
  let s := each (List.range 8) (fun c s => finishWaking c s) (requestUnits s)
  refreshEval s

/-- The image of a slot is loaded and its tables switch (R36, R182). -/
def loadConfiguration (slot : Nat) (m : ConfigImage) (bank : Bank) (s : State) : State :=
  let b := withFloors bank s
  let s := switchTables b { s with crust := { s.crust with evalConfig := m.info.evaluated } }
  let s := each (entriesOf b 0x4020) (fun r s => setRegE r 0x4020 8 (bkE b r 0x4020 9) s) s
  let s := noteSlot 1 slot m.info (setReg (slotP 1) 1 slot s)
  withInh configurationReady s

/-- No configuration image verifies (R36, R375): Configure on the defaults, the Sieve denies. -/
def noConfiguration (s : State) : State :=
  let s := fire 0xA1 0 s
  setReg 0x5010 4 (sinceStart s) (if s.dev = .catch_ then setDev .configure s else s)

/-- An image is valid: its version passes, its tables are complete and meet the checks of a commit. -/
def validImage (x : Option ConfigImage) (s : State) : Option (ConfigImage × Bank) :=
  x.bind fun m =>
    if !configPasses m.info s then none
    else (bankOf_ m).bind fun b =>
      if (firstOffence (commitChecks 4 s.cfg b s)).isNone then some (m, b) else none

/-- CONFIGURATION_IMAGE_LOADED (R36, R182, R375): the active slot first, then the other. -/
def execConfigurationImageLoaded (image : ConfigLoad) (s : State) : Res :=
  .next (
    if !s.access.coreUp || s.power.loaded || reg 0x5010 4 s ≠ 0 || s.dev = .boot || s.power.sleep ≠ 0 then s
    else
      let a := activeSlot 1 s
      match validImage image.first s, validImage image.second s with
      | some x, _ => settle 8 (loadConfiguration a x.1 x.2 s)
      | none, some x => settle 8 (loadConfiguration (1 - a) x.1 x.2 (writeOwed (slotFails 1 a s)))
      | none, none => settle 8 (noConfiguration (writeOwed (slotFails 1 (1 - a) (slotFails 1 a s)))))

/-- DICTIONARY_AVAILABLE (R47, R303, R304, R465): 15 ms after a cold start, 12 ms on sealed digests, and not before 3 ms after Operate; at
once after a warm wake. -/
def execDictionaryAvailable (s : State) : Res :=
  .next (
    let t := if s.power.warm then 0 else max (if s.power.digest then 12000 else 15000) (reg 0x5010 4 s + 3000)
    if !s.access.available && s.access.coreUp && s.dev ≠ .boot && s.dev ≠ .catch_ && s.power.sleep == 0 && due s.power.started (us t) s then
      setReg 0x5010 5 (sinceStart s) { s with access := { s.access with available := true } }
    else s)

end Sys2Proof.Machine
end

