-- ==== Sys2Proof/Machine/Update.lean ====
section
/-!
DEFINITION. Update.lean: packages and installation (R428–R433), activation (R438–R440), proofing and revert (R442–R445), and the recovery
loader (R446).
-/
namespace Sys2Proof.Machine

/-! ### Images and deltas (R428–R431) -/

def zeros (o n : Nat) (l : Bytes) : Bool := leNat (slice o n l) == 0

/-- The header of a full image of a kind (1 firmware, 2 configuration) has the values of R428. -/
def headerGood (kind : Nat) (l : Bytes) : Bool :=
  let body := leNat (slice 12 4 l)
  beNat (l.take 4) == 0x515A4947 && byteAt l 4 == 1 && byteAt l 5 == kind && byteAt l 6 ≤ 1 && byteAt l 7 == 0 &&
    byteAt l 8 ≤ (if kind == 1 then 64 else 0) && byteAt l 9 == 0 && 1 ≤ body && body ≤ 2096640 && l.length == 512 + body &&
    leNat (slice 16 4 l) == 0x9420 && zeros 22 2 l && byteAt l 24 == 4 && zeros 121 295 l

/-- The signature of an image (R374): the hash of its key is an unrevoked root hash, and the signature verifies under it. -/
def imageSigned (l : Bytes) (s : State) : Bool :=
  let key := slice 24 97 l
  (List.range 4).any (fun i => !bit s.crust.revoked i && Config.rootHash i == Config.sha384 key) &&
    Config.ecdsaVerify (beNat key) (Config.sha384 (l.take 416 ++ l.drop 512)) (beNat (slice 416 96 l))

/-- What the header says. -/
def imageInfo (l : Bytes) : ImageInfo :=
  { major := Fin.ofNat _ (byteAt l 8), minor := Fin.ofNat _ (leNat (slice 10 2 l)), release := Fin.ofNat _ (leNat (slice 20 2 l))
    evaluated := bit (byteAt l 6) 0, identity := leNat (beBytes 32 (Config.sha256 l)) }

def versionPasses (kind : Nat) (m : ImageInfo) (s : State) : Bool := if kind == 1 then firmwarePasses m s else configPasses m s

/-- Verification of a full image (R429): result 1, 5 or 6 (R445). -/
def verifyImage (kind : Nat) (l : Bytes) (s : State) : Nat :=
  if !headerGood kind l || !imageSigned l s then 6 else if !versionPasses kind (imageInfo l) s then 5 else 1

/-- The operations of a patch (R430, R431): the output, none for a COPY beyond the base, output beyond the limit, or a missing END. -/
def patchRun (base : Bytes) (limit : Nat) : Nat → Bytes → Bytes → Option Bytes
  | 0, _, _ => none
  | _ + 1, [], _ => none
  | k + 1, op :: t, out =>
    let a := leNat (t.take 4)
    let n := leNat (slice 4 4 t)
    if op == 0 then some out
    else if op == 1 then
      if t.length < 8 || a + n > base.length || out.length + n > limit then none else patchRun base limit k (t.drop 8) (out ++ slice a n base)
    else if op == 2 then
      if t.length < 4 + a || out.length + a > limit then none else patchRun base limit k (t.drop (4 + a)) (out ++ slice 4 a t)
    else none

/-- The header of a delta for a kind. -/
def deltaGood (kind : Nat) (l : Bytes) : Bool :=
  beNat (l.take 4) == 0x515A4450 && byteAt l 4 == 1 && byteAt l 5 == kind && zeros 6 2 l && l.length == 80 + leNat (slice 76 4 l)

/-- The image that a package gives, and the result where it gives none (R431). -/
def packageImage (kind form : Nat) (l base : Bytes) : Option Bytes :=
  if form == 0 then some l
  else if !deltaGood kind l then none
  else
    let n := leNat (slice 72 4 l)
    (patchRun base n l.length (l.drop 80) []).bind fun x =>
      if x.length == n && leNat (beBytes 32 (Config.sha256 x)) == leNat (slice 40 32 l) then some x else none

/-! ### Packages (R432, R433) -/

/-- Kind of the package, 0 firmware and 1 configuration, and its form. -/
def packageKind (s : State) : Nat := reg 0x6800 1 s - 1

/-- Slot that takes the next image of a kind. -/
def spareSlot (k : Nat) (s : State) : Nat := 1 - activeSlot k s

/-- The delta in staging names another base than the active image (R431). -/
def wrongBase (s : State) : Bool :=
  reg 0x6800 2 s == 1 && leNat (slice 8 32 s.update.package) ≠ reg (slotP (packageKind s)) (4 + activeSlot (packageKind s) s) s

/-- A package command under Owner, with its status at 0x6800:06. -/
def packageCommand (ses : Session) (f : Svc) : Svc := notTerminal (needRole ses 1 fun s =>
  let r := f s
  if r.2 ≠ 0 then (setReg 0x6800 6 3 r.1, r.2) else r)

/-- Command 0x01 (R432, R433). -/
def beginPackage (ses : Session) : Svc := packageCommand ses fun s =>
  if reg 0x6800 7 s == 2 || bit s.update.armed (packageKind s) then deny 0x08000022 s
  else done (setReg 0x6800 6 2 (setReg 0x6800 7 1 (setReg 0x6800 4 0 { s with update := { s.update with package := [] } })))

/-- A piece at 0x6800:05 (R432). -/
def packageData (l : Bytes) : Svc := notTerminal fun s =>
  if l.isEmpty || l.length > 4096 then deny 0x06070010 s
  else if reg 0x6800 7 s ≠ 1 then deny 0x08000022 s
  else if reg 0x6800 4 s + l.length > reg 0x6800 3 s then deny 0x06090031 s
  else done (setReg 0x6800 4 (reg 0x6800 4 s + l.length) { s with update := { s.update with package := s.update.package ++ l } })

/-- Command 0x02 (R431–R433): the spare slot is erased, unless the base is refused first. -/
def installPackage (ses : Session) : Svc := packageCommand ses fun s =>
  if reg 0x6800 7 s ≠ 1 || bit s.update.armed (packageKind s) then deny 0x08000022 s
  else
    let s := setReg 0x6800 6 1 (setReg 0x6800 7 2 s)
    if wrongBase s then done s
    else done (setSlotState (packageKind s) (spareSlot (packageKind s) s) 2 { s with crust := { s.crust with sealedDigest := false } })

/-- Command 0x03 (R433). -/
def discardPackage (ses : Session) : Svc := packageCommand ses fun s =>
  if bit s.update.armed (packageKind s) then deny 0x08000022 s
  else done (setReg 0x6800 6 2 (setReg 0x6800 7 0 (setReg 0x6800 4 0 { s with update := { s.update with package := [] } })))

/-- UPDATE_BEGIN (R432). -/
def execUpdateBegin (ses : Session) (s : State) : Res := .next (serve ses (beginPackage ses) s)

/-- UPDATE_DATA (R432). -/
def execUpdateData (ses : Session) (data : List Byte) (s : State) : Res := .next (serve ses (packageData data) s)

/-- UPDATE_INSTALL (R432). -/
def execUpdateInstall (ses : Session) (s : State) : Res := .next (serve ses (installPackage ses) s)

/-- UPDATE_DISCARD (R433). -/
def execUpdateDiscard (ses : Session) (s : State) : Res := .next (serve ses (discardPackage ses) s)

/-- An install fails with a result (R445). -/
def installFails (r : Nat) (s : State) : State := imageEvent 2 (2 ^ packageKind s) (setReg 0x6800 6 2 (setReg 0x6800 8 r (setReg 0x6800 7 4 s)))

/-- An image stands in the spare slot, installed. -/
def installed (l : Bytes) (s : State) : State :=
  let k := packageKind s
  let m := imageInfo l
  let slot := spareSlot k s
  let s := noteSlot k slot m (setSlotState k slot 3 s)
  let s := setReg 0x6800 0x0A (m.major.val + 2 ^ 16 * m.minor.val) (setReg 0x6800 9 m.identity s)
  imageEvent 1 (2 ^ k) (setReg 0x6800 6 2 (setReg 0x6800 8 1 (setReg 0x6800 7 3 s)))

/-- INSTALL_COMPLETE (R429–R431, R445): `base` is what the active slot holds. -/
def execInstallComplete (base : List Byte) (flashError : Bool) (s : State) : Res :=
  .next (
    if reg 0x6800 7 s ≠ 2 || !s.access.coreUp then s
    else
      let k := packageKind s
      if wrongBase s then installFails 3 s
      else if flashError then installFails 7 s
      else
        match packageImage (k + 1) (reg 0x6800 2 s) s.update.package base with
        | none => installFails 4 s
        | some x =>
          let r := verifyImage (k + 1) x s
          if r == 1 then installed x s else installFails r s)

/-! ### Arming and cancelling (R438, R439) -/

/-- Cause and refusal of an arming for a target, none where it is accepted. -/
def armRefusal (kinds target : Nat) (check : Bool) (s : State) : Option (Nat × Nat) :=
  if kinds == 0 || (bitsOf 2 kinds).any fun k => reg (slotP k) (2 + spareSlot k s) s ≠ 3 then some (0x08000022, 1)
  else if far target (nowNs s) then some (0x080000A2, 2)
  else if target < nowNs s + ms 100 then some (0x06090032, 3)
  else if check && reg 0x3800 6 s ≠ 3 && reg 0x6808 3 s == 0 then some (0x08000022, 4)
  else if s.dev = .safe || s.dev = .terminal || s.dev = .sleepPrep then some (0x08000022, 5)
  else if s.update.proof ≠ 0 then some (0x08000022, 6)
  else none

/-- An activation is armed, in place of the one before. -/
def armAt (target : Nat) (check : Bool) : Svc := fun s =>
  let kinds := reg 0x6808 2 s
  match armRefusal kinds target check s with
  | some x => (setReg 0x6808 7 x.2 (setReg 0x6808 5 3 s), x.1)
  | none =>
    let s := if s.update.flag ≠ 0 then headerSwap s.update.flag s else s
    let s := { s with update := { s.update with armed := kinds, flag := 0, target := target, armedNow := !check } }
    done (imageEvent 3 kinds (setReg 0x6808 7 0 (setReg 0x6808 6 1 (setReg 0x6808 5 2 s))))

def armTarget (ses : Session) : Svc := notTerminal (needRole ses 1 fun s => armAt (ofTime80 (reg 0x6808 1 s)) true s)

def armNow (ses : Session) : Svc := notTerminal (needRole ses 1 fun s => armAt (nowNs s + ms 100) false s)

def cancelArmed (ses : Session) : Svc := notTerminal (needRole ses 1 fun s =>
  if s.update.armed == 0 then deny 0x08000022 (setReg 0x6808 5 3 s) else done (setReg 0x6808 5 2 (cancelActivation 0 s)))

/-- ACTIVATION_ARM (R438). -/
def execActivationArm (ses : Session) (s : State) : Res := .next (serve ses (armTarget ses) s)

/-- ACTIVATION_CANCEL (R438). -/
def execActivationCancel (ses : Session) (s : State) : Res := .next (serve ses (cancelArmed ses) s)

/-- ACTIVATION_ARM_NOW (R438). -/
def execActivationArmNow (ses : Session) (s : State) : Res := .next (serve ses (armNow ses) s)

/-- ACTIVATION_HEADER_DEADLINE (R440): 50 ms before the instant the header has been rewritten with the new slots and the proofing flag, or the
activation is cancelled with cause 9. -/
def execActivationHeaderDeadline (written : Bool) (s : State) : Res :=
  .next (
    if s.update.armed == 0 || s.update.flag ≠ 0 || nowNs s + ms 50 < s.update.target then s
    else if written then headerSwap s.update.armed { s with update := { s.update with flag := s.update.armed } }
    else cancelActivation 9 s)

/-! ### The instant (R439, R440) -/

/-- The target of the armed activation is reached, by the comparators' rule. -/
def activationDue (s : State) : Bool :=
  s.update.armed ≠ 0 && decide ((nowNs s % 2 ^ 40 + 2 ^ 40 - s.update.target % 2 ^ 40) % 2 ^ 40 < 2 ^ 39)

/-- The lanes, ports and engines that work now. -/
def workingLanes (s : State) : List Nat := (List.range 2).filter fun l => reg 0x4050 (l + 1) s == 0
def workingPorts (s : State) : List Nat := (List.range 30).filter fun p => portUp p s
def workingEngines (s : State) : List Nat := (List.range 64).filter fun e => engAble e s

/-- The core restarts, also out of a restart in progress (R440). -/
def restartAgain (s : State) : State :=
  if s.access.coreUp then restartCore s else { s with access := { s.access with headlessSince := wall s } }

/-- Tables of an image switch (R17, R40, R440): a Configure session loses its edits, and its holder's next access is refused. -/
def switchImage (image : ConfigImage) (s : State) : State :=
  match bankOf_ image with
  | none => s
  | some b =>
    let s := if s.dev = .configure then { s with access := { s.access with evicted := s.access.holder } } else s
    switchTables b { s with crust := { s.crust with evalConfig := image.info.evaluated } }

/-- The activation is carried out: tables first, then the core's restart; the proofing window opens (R440, R442). -/
def activate (image : ConfigImage) (s : State) : State :=
  let k := s.update.armed
  let s := { s with
    crust := { s.crust with sealedDigest := false }
    update := { s.update with
      armed := 0, proof := k, openedAt := wall s, servedSince := 0, hostOk := false, wasSync := reg 0x3800 6 s == 3
      lanes := workingLanes s, ports := workingPorts s, engines := workingEngines s } }
  let s := each (bitsOf 2 k) (fun i s => setSlotState i (1 - activeSlot i s) 5 (setSlotState i (activeSlot i s) 4 s)) s
  let s := imageEvent 4 k (count 0x6808 8 (setReg 0x6810 2 0 (setReg 0x6808 7 0 s)))
  let s := if bit k 1 then switchImage image s else s
  let s := if bit k 0 then setReg 0x6808 6 2 (restartAgain s)
    else setReg 0x6808 6 3 { s with update := { s.update with servedSince := if s.access.coreUp then wall s else 0 } }
  refreshEval s

/-- ACTIVATION (R439, R440): `image` is what the spare configuration slot holds. -/
def execActivation (image : ConfigImage) (s : State) : Res :=
  .next (
    if !activationDue s then s
    else if s.dev = .safe || s.dev = .terminal then cancelActivation 5 s
    else if reg 0x3800 6 s == 4 && reg 0x6808 3 s == 0 && !s.update.armedNow then cancelActivation 8 s
    else if s.update.flag == 0 then cancelActivation 9 s
    else settle 8 (activate image s))

/-! ### Proofing (R442–R445) -/

/-- The floors rise to the active images of the given kinds (R437). -/
def raiseFloors (kinds : Nat) (s : State) : State :=
  let v := reg 0x6801 (6 + activeSlot 0 s) s
  let major := v % 256
  let minor := v / 2 ^ 16
  let s := if !bit kinds 0 then s
    else if bitCount (reg 0x6000 6 s) < major then
      setReg 0x6000 7 minor (setReg 0x6000 6 (Nat.lor (reg 0x6000 6 s) (2 ^ major - 1)) s)
    else if bitCount (reg 0x6000 6 s) == major then setReg 0x6000 7 (max minor (reg 0x6000 7 s)) s else s
  if bit kinds 1 then setReg 0x6802 9 (max (reg 0x6802 9 s) (reg 0x6802 (6 + activeSlot 1 s) s / 2 ^ 16)) s else s

/-- The active firmware's major is above the thermometer (R437, R445). -/
def majorAbove (s : State) : Bool := decide (bitCount (reg 0x6000 6 s) < reg 0x6801 (6 + activeSlot 0 s) s % 256)

/-- Both parts of the confirmation are in place (R442, R445). -/
def confirmImages (burned : Bool) (s : State) : State :=
  let k := s.update.proof
  let burn := bit k 0 && majorAbove s
  let s := headerWritten { s with update := { s.update with flag := 0, proof := 0, burnDue := burn && !burned } }
  let s := each (bitsOf 2 k) (fun i s => setSlotState i (activeSlot i s) 1 s) s
  let s := setReg 0x6808 6 4 s
  if burn && !burned then fire 0xB2 0 (imageEvent 2 k (imageEvent 6 k s))
  else
    let s := imageEvent 6 k (raiseFloors k s)
    if burn then imageEvent 8 k s else s

/-- Conditions under which firmware confirms its own health (R442). -/
def firmwareHealthy (s : State) : Bool :=
  (s.dev = .operate || s.dev = .configure) && s.access.coreUp && s.update.servedSince ≠ 0 && due s.update.servedSince (ms 5000) s &&
    highestClass s < 2 && s.update.lanes.all (fun l => (workingLanes s).contains l) && s.update.ports.all (fun p => portUp p s) &&
    s.update.engines.all (fun e => engAble e s) && (!s.update.wasSync || reg 0x3800 6 s == 3)

/-- FIRMWARE_CONFIRM (R442, R445): `burned` says whether the thermometer burns. -/
def execFirmwareConfirm (burned : Bool) (s : State) : Res :=
  .next (
    if s.update.proof == 0 || reg 0x6810 2 s ≠ 0 || !firmwareHealthy s then s
    else
      let s := setReg 0x6810 2 1 s
      if cfg 0x6810 3 s == 0 || s.update.hostOk then confirmImages burned s else s)

/-- Verdict 0x01 (R442). -/
def hostConfirm (ses : Session) (burned : Bool) : Svc := notTerminal (needRole ses 1 fun s =>
  if s.update.proof == 0 then deny 0x08000022 s
  else
    let s := { s with update := { s.update with hostOk := true } }
    done (if reg 0x6810 2 s == 1 then confirmImages burned s else s))

/-- HOST_CONFIRM (R442). -/
def execHostConfirm (ses : Session) (burned : Bool) (s : State) : Res := .next (serve ses (hostConfirm ses burned) s)

/-- The kinds of the activation go back (R443): the header and the failed slots at once, the core by a restart, the tables once the image of
the previous slot has been read. -/
def revertImages (s : State) : State :=
  let k := s.update.proof
  let s := imageEvent 7 k (revertHeader k s)
  let s := if bit k 1 then { s with update := { s.update with revertAt := some (wall s) } } else s
  if bit k 0 then restartAgain s else s

/-- Verdict 0x02 (R443). -/
def hostReject (ses : Session) : Svc := notTerminal (needRole ses 1 fun s =>
  if s.update.proof == 0 then deny 0x08000022 s else done (revertImages s))

/-- HOST_REJECT (R443). -/
def execHostReject (ses : Session) (s : State) : Res := .next (serve ses (hostReject ses) s)

/-- PROOFING_WINDOW_EXPIRY (R443): the window ends unconfirmed. -/
def execProofingWindowExpiry (s : State) : Res :=
  .next (
    if s.update.proof ≠ 0 && due s.update.openedAt (cfg 0x6810 1 s * 1000000000) s then revertImages s else s)

/-- REVERT_CONFIGURATION_SWITCH (R443): `image` is what the previous configuration slot holds. -/
def execRevertConfigurationSwitch (image : ConfigImage) (s : State) : Res :=
  .next (
    if s.update.revertAt.isNone then s
    else
      let s := { s with update := { s.update with revertAt := none } }
      settle 8 (refreshEval (switchImage image s)))

/-- The device has entered Safe in its proofing window (R443). -/
def safeReverts (old s : State) : State :=
  if s.dev = .safe && old.dev ≠ .safe && s.update.proof ≠ 0 then revertImages s else s

/-- Firmware has returned to Operate or Configure in its proofing window (R442): it serves the dictionary from here. -/
def proofReturn (s : State) : State :=
  let s := noteFirmware s
  if s.update.proof == 0 then s
  else
    let s := if reg 0x6808 6 s == 2 then setReg 0x6808 6 3 s else s
    { s with update := { s.update with servedSince := if s.dev = .operate || s.dev = .configure then wall s else 0 } }

/-- THERMOMETER_BURN_RETRY (R445): at a start, whose active images are confirmed ones. -/
def execThermometerBurnRetry (burned : Bool) (s : State) : Res :=
  .next (
    if s.update.burnDue && s.access.coreUp && s.update.proof == 0 && majorAbove s && burned then
      imageEvent 8 1 (raiseFloors 3 { s with update := { s.update with burnDue := false } })
    else s)

/-! ### The recovery loader (R446) -/

/-- The 10 bytes of a loader request. -/
def loaderHeader (op slot offset length : Nat) : Bytes :=
  leBytes 1 op ++ leBytes 1 slot ++ leBytes 1 0 ++ leBytes 4 offset ++ leBytes 2 length ++ leBytes 1 0

/-- A loader request (R54, R55, R446): discarded with a bad CRC, or while a result waits; else its status waits to be fetched. -/
def loaderRequest (op slot offset length : Nat) (data : Bytes) (crc : Nat) (f : Svc) (s : State) : State :=
  if !s.power.recovery || s.power.reset ≠ 0 then s
  else if crc16 0xFFFF (loaderHeader op slot offset length ++ data) ≠ crc then count 0x1230 2 s
  else if s.access.spi.isSome then setReg 0x1230 3 1 s
  else
    let r := if slot > 3 then deny 0x06090030 s else if length > 256 then deny 0x06090031 s else f s
    spiDone r.2 [] r.1

/-- What the loader has put into a slot. -/
def slotBytes (slot : Nat) (s : State) : Option Bytes := tget none s.update.recov slot

/-- A slot's content changes: it is no valid image until it verifies, and the sealed digests are void (R376). -/
def setSlotBytes (slot : Nat) (l : Bytes) (s : State) : State :=
  setSlotState (slot / 2) (slot % 2) 2 { s with
    update := { s.update with recov := tset none s.update.recov slot (some l) }, crust := { s.crust with sealedDigest := false } }

/-- RECOVERY_ERASE (R446): the slot is erased from the offset on. -/
def execRecoveryErase (slot : Byte) (offset : Fin 4294967296) (length crc : Fin 65536) (s : State) : Res :=
  .next (loaderRequest 0x20 slot.toNat offset.val length.val [] crc.val (fun s =>
    if offset.val + length.val > 2097152 then deny 0x06090031 s
    else done (setSlotBytes slot.toNat (((slotBytes slot.toNat s).getD []).take offset.val) s)) s)

/-- RECOVERY_WRITE (R446). -/
def execRecoveryWrite (slot : Byte) (offset : Fin 4294967296) (length : Fin 65536) (data : List Byte) (crc : Fin 65536) (s : State) : Res :=
  .next (loaderRequest 0x21 slot.toNat offset.val length.val data crc.val (fun s =>
    if data.length ≠ length.val then deny 0x06070010 s
    else if offset.val + length.val > 2097152 then deny 0x06090031 s
    else
      let l := (slotBytes slot.toNat s).getD []
      let l := l ++ List.replicate (offset.val - l.length) 0xFF
      done (setSlotBytes slot.toNat (l.take offset.val ++ data ++ l.drop (offset.val + data.length)) s)) s)

/-- RECOVERY_VERIFY (R429, R446): a slot that passes becomes active; `held` is what a slot holds that the loader has not written. -/
def execRecoveryVerify (slot : Byte) (offset : Fin 4294967296) (length crc : Fin 65536) (held : List Byte) (s : State) : Res :=
  .next (loaderRequest 0x22 slot.toNat offset.val length.val [] crc.val (fun s =>
    let k := slot.toNat / 2
    let l := (slotBytes slot.toNat s).getD held
    let l := l.take (512 + leNat (slice 12 4 l))
    if verifyImage (k + 1) l s ≠ 1 then deny 0x08000000 s
    else
      let s := noteSlot k (slot.toNat % 2) (imageInfo l) (setSlotState k (slot.toNat % 2) 1 s)
      let s := headerWritten (setReg (slotP k) 1 (slot.toNat % 2) s)
      done { s with update := { s.update with owed := s.update.owed ++ [(0x0010, [9, 2 ^ k])] } }) s)

/-- RECOVERY_RESTART (R446, R461): the device starts as from PORST_N, with the straps as they were latched. -/
def execRecoveryRestart (slot : Byte) (offset : Fin 4294967296) (length crc : Fin 65536) (s : State) : Res :=
  .next (
    let t := loaderRequest 0x23 slot.toNat offset.val length.val [] crc.val done s
    if s.access.spi.isNone && t.access.spi = some (0, []) then release (holdReset 6 t) else t)

end Sys2Proof.Machine
end

