-- ==== Sys2Proof/Machine/Faults.lean ====
section
/-!
DEFINITION. Faults.lean: the commands and events of the fault collector (R405–R425) and of the management core's restart (R23, R25, R36,
R37).
-/
namespace Sys2Proof.Machine

/-- PD_CORE runs: the device is not asleep, in reset or without VDD_AON. -/
def coreOn (s : State) : Bool := s.power.sleep == 0 && s.power.reset == 0 && s.power.aonUp

/-- The counter of a source whose event has no command of its own (R238, R354). -/
def ownCount (n : Nat) (s : State) : State :=
  if n == 0x87 then count 0x3C00 5 s else if n == 0xF0 then count 0x5C00 6 s else s

/-- SOURCE_FIRE (R405, R408): the hardware reports source n with data; host software sources are only forced. A
slot-integrity failure is counted at 0x3C00:05 (R238), a PCIe uncorrectable error at 0x5C00:06 (R354). -/
def execSourceFire (source : Fin 256) (data : Fin 4294967296) (s : State) : Res :=
  .next (
    let n := source.val
    if !coreOn s || (0xE8 ≤ n && n ≤ 0xEF) then s
    else refreshEval (fire n data.val (ownCount n s)))

/-- REACTION_COMPLETE (R408, R413, R415): the reaction in progress ends; a device that enters Safe in its proofing
window reverts (R443). -/
def execReactionComplete (s : State) : Res :=
  .next (if s.faults.reaction == 0 then s else settle 4 (safeReverts s (reactionDone s)))

/-- Force of source n (R419). -/
def forceSource (ses : Session) (n : Nat) : Svc := notTerminal fun s =>
  if (sourceRow n).isNone then deny 0x06090030 s
  else if roleOf ses s < (if srcClass n s == 3 || srcSecurity n then 2 else 1) then deny 0x080000A1 (setReg (0x5900 + n) 7 3 s)
  else if !srcEnabled n s then deny 0x08000022 (setReg (0x5900 + n) 7 3 s)
  else done (setReg (0x5900 + n) 7 2 (refreshEval (fire n (2 ^ 63) s)))

/-- FORCE_SOURCE (R419). -/
def execForceSource (ses : Session) (source : Fin 256) (s : State) : Res := .next (serve ses (forceSource ses source.val) s)

/-! ### Clearing (R410, R420) -/

/-- A CAN engine that rejoins integrates, or waits for its transceiver (R410, R214). -/
def canRejoin (e : Nat) (s : State) : State :=
  if canState e s ≠ 8 then s else setCanState e (if trans e s == 2 then 2 else 1) s

def linRejoin (m : Nat) (s : State) : State :=
  if linState m s ≠ 6 then s else setLin m { lin m s with mode := if (lin m s).mode == 0 then 0 else 2 } (setLinState m 1 s)

/-- A unit whose source has been cleared rejoins at once, where R410 names no rule of its own for it. -/
def rejoin (u : UnitId) (s : State) : State :=
  match u with
  | .can e => canRejoin e s
  | .lin m => linRejoin m s
  | .canCluster c => each (List.range' (8 * c) 8) canRejoin s
  | .linCluster => each (List.range 16) linRejoin s
  | .pcie => linkTrains s
  | .domain d => { s with power := { s.power with broken := setDel d s.power.broken } }
  | .port _ => s
  | .cluster _ => s
  | .lane _ => s
  | .core => s
  | .trng => s
  | .authUnit => s
  | .keySlot _ => s

/-- A unit that stays withdrawn until a rule of its own takes it back (R410). -/
def rejoinsByRule (u : UnitId) : Bool :=
  match u with
  | .lane _ => true
  | .trng => true
  | .authUnit => true
  | .keySlot _ => true
  | _ => false

/-- The units that source n withdrew rejoin, unless another source still withdraws them. -/
def rejoinUnits (n : Nat) (s : State) : State :=
  let l := s.faults.withdrawn.filter fun w => w.2 == n && !rejoinsByRule w.1
  let s := { s with faults := { s.faults with withdrawn := s.faults.withdrawn.filter fun w => w.2 ≠ n || rejoinsByRule w.1 } }
  each l (fun w s => if s.faults.withdrawn.any (fun x => x.1 == w.1) then s else rejoin w.1 s) s

/-- The shadow disagreement of a member no longer keeps it from a lease (R315, R319). -/
def clearShadow (n : Nat) (s : State) : State :=
  if n == 0xC9 && member s && reg 0x5401 2 s == 0 then setReg 0x5401 1 (restState s) s else s

/-- Clear of source n (R420, R423). -/
def clearSource (ses : Session) (n : Nat) : Svc := fun s =>
  if (sourceRow n).isNone then deny 0x06090030 s
  else if s.dev = .terminal || s.faults.terminal || srcClass n s == 3 then deny 0x08000022 s
  else if roleOf ses s < (if srcSecurity n then 2 else 1) then deny 0x080000A1 s
  else if srcLevel n && s.faults.condition.contains n then deny 0x08000022 s
  else if !srcSet n s then done s
  else
    let s := setReg (0x5900 + n) 4 0 s
    let s := if srcSecurity n then sealRecord 0x000E (roleOf ses s) [n, roleOf ses s] s else s
    done (refreshEval (clearShadow n (rejoinUnits n s)))

/-- CLEAR_SOURCE (R420). -/
def execClearSource (ses : Session) (source : Fin 256) (s : State) : Res := .next (serve ses (clearSource ses source.val) s)

/-- The first-fault captures are cleared (R414). -/
def clearFirst (ses : Session) : Svc := notTerminal (needRole ses 1 fun s =>
  let s := if reg 0x5800 6 s == 3 then s else setReg 0x5800 4 0xFFFF (setReg 0x5800 5 0 (setReg 0x5800 6 0xFF s))
  done (setReg 0x5800 7 2 (each [0, 1, 2] (fun c s => setReg 0x5801 (c + 1) 0xFFFF (setReg 0x5801 (c + 5) 0 s)) s)))

/-- CLEAR_FIRST_FAULTS (R414). -/
def execClearFirstFaults (ses : Session) (s : State) : Res := .next (serve ses (clearFirst ses) s)

/-! ### Balls (R417, R418) and conditions (R406) -/

/-- ERR_IN_N_ASSERT (R418): the ball has been low for its filter. -/
def execErrInNAssert (s : State) : Res :=
  .next (if coreOn s then fire 0xE0 0 { s with faults := { s.faults with errInLow := true } } else s)

/-- SAFE_N_READBACK_MISMATCH (R417): the ball reads high while it is driven low. -/
def execSafeNReadbackMismatch (s : State) : Res :=
  .next (
    if coreOn s && safeNLow s && s.faults.ballLow then fire 0xE3 0 { s with faults := { s.faults with ballLow := false } } else s)

/-- Rails whose return ends a condition: VDD_CORE (0) for 0x47, the others for 0x48 (R449). -/
def railsBack (n : Nat) (s : State) : State :=
  if n == 0x47 then { s with power := { s.power with rails := setDel 0 s.power.rails } }
  else if n == 0x48 then { s with power := { s.power with rails := s.power.rails.filter (· == 0) } }
  else s

/-- LEVEL_CONDITION_END (R406): the condition of a level source ends, and with it what the source reports; XTAL is back (R454). -/
def execLevelConditionEnd (source : Fin 256) (s : State) : Res :=
  .next (
    let n := source.val
    let back := n == 0x40 && s.faults.condition.contains n
    let s := railsBack n { s with faults := { s.faults with
      condition := setDel n s.faults.condition, errInLow := if n == 0xE0 then false else s.faults.errInLow } }
    if back then setReg 0x5030 2 2 s else s)

/-! ### The management core (R23, R25, R36, R37, R409) -/

/-- MANAGEMENT_CORE_WATCHDOG (R409): its source restarts the core. -/
def execManagementCoreWatchdog (s : State) : Res :=
  .next (if coreOn s && s.dev ≠ .boot && s.dev ≠ .catch_ then fire 0xE2 0 s else s)

/-- FIRMWARE_RETURN (R36, R37, R79, R442): the restart ends. -/
def execFirmwareReturn (s : State) : Res :=
  .next (
    if s.access.coreUp || s.dev = .boot || s.dev = .catch_ then s
    else
      let s := { s with access := { s.access with coreUp := true } }
      settle 4 (refreshEval (proofReturn (sleepCheck (if s.dev = .headless then rereadLost (setDev .operate s) else s)))))

/-- HEADLESS_TIMEOUT (R25, R37): the restart has not ended within 1,000 ms. -/
def execHeadlessTimeout (s : State) : Res :=
  .next (
    if !s.access.coreUp && s.dev ≠ .boot && s.dev ≠ .catch_ && due s.access.headlessSince (ms 1000) s && !srcSet 0xE1 s then
      fire 0xE1 0 s
    else s)

end Sys2Proof.Machine
end

