-- ==== Sys2Proof/Machine/Views.lean ====
section
/-!
DEFINITION. Views.lean: what a read of an object shows where the object is a live view of other state (R27, R41 and the cards).
-/
namespace Sys2Proof.Machine

/-! ### Table records -/

/-- The table record of an index. -/
def recordOf (i : Nat) : Option TableRec :=
  [(0x3004, TableRec.vlan), (0x3200, .stream), (0x3210, .filter), (0x3220, .streamGate), (0x3230, .meter), (0x3C10, .route),
   (0x3C11, .program), (0x3C20, .container), (0x3C21, .receiveEntry), (0x3C30, .braiderLimiter), (0x4010, .ternaryRule),
   (0x4011, .canRule), (0x4012, .action), (0x4013, .flow), (0x4014, .check), (0x4015, .rewrite), (0x4020, .profile),
   (0x4021, .limiter), (0x4030, .guard), (0x5001, .peck), (0x5C21, .eventExport), (0x5C30, .prefetch)].lookup i

/-- Live field j of the entry that record i selects: a meter that no frame has met holds full buckets, and a limiter's tokens are those of
now. -/
def viewEntry (i j : Nat) (s : State) : Nat :=
  let e := reg i 1 s
  if i == 0x3230 && j == 7 && (s.meters.lookup e).isNone then cfgE e i 3 s
  else if i == 0x3230 && j == 8 && (s.meters.lookup e).isNone then cfgE e i 5 s
  else if i == 0x4021 && j == 4 then (limiterNow e (cfgE e i 2 s) (cfgE e i 3 s) s).tokens / 1000000000
  else if i == 0x3C30 && j == 4 then (limiterNow (1024 + e) (cfgE e i 2 s) (cfgE e i 3 s) s).tokens / 1000000000
  else if i == 0x5001 && j == 5 then peckState e s
  else regE e i j s

/-! ### Single objects -/

/-- Holder of the Configure lock, as 0x1002:02 shows it. -/
def holderCode (s : State) : Nat := (s.access.holder.map sesCode).getD 0xFF

/-- Whole seconds that remain until an instant. -/
def secondsTo (t : Nat) (s : State) : Nat := ceilDiv (t - wall s) 1000000000

/-- Bit map of the sources that meet a condition. -/
def sourceMap (f : Nat → Bool) : Nat := (List.range 256).foldl (fun a n => if f n then a + 2 ^ n else a) 0

def view1000 (i j : Nat) (s : State) : Option Nat :=
  if i == 0x1001 then some (devCode s.dev)
  else if i == 0x1002 && j == 1 then some (b2n s.access.validating)
  else if i == 0x1002 && j == 2 then some (holderCode s)
  else if i == 0x1018 && j == 4 then some serialNo
  else if 0x1200 ≤ i && i < 0x1204 && j == 4 then some (sdoNode (i - 0x1200) s)
  else none

def view2000 (i j : Nat) (s : State) : Option Nat :=
  if i == pS 30 && j == 1 then some (b2n (powered 12 s))
  else if i == pS 30 && j == 4 then some (if portUp 30 s then 0 else if powered 12 s then 8 else 0x0E)
  else if i == pS 31 && j == 1 then some 1
  else if i == pS 31 && j == 4 then some 0
  else none

def view3000 (i j : Nat) (s : State) : Option Nat :=
  if i == 0x3001 && j == 1 then some s.dyn.length
  else if i == 0x3001 && j == 2 then some s.cfg.fdb.length
  else if i == 0x3001 && j == 8 then some (b2n s.flush.isSome)
  else if i == 0x3400 && j == 2 then some (freeElls s)
  else if i == 0x3400 && j == 4 then some s.buf.catchElls.length
  else if i == 0x3400 && j == 5 then some s.buf.retired.length
  else if i == 0x3400 && j == 0x0A then some (copyPool - s.buf.copies.length)
  else if 0x3408 ≤ i && i < 0x3410 then
    let b := i - 0x3408
    if j == 3 then some (resTotal b s) else if j == 4 then some (bushelUsed b s)
    else if j == 5 then some (headroomUsed b s) else if j == 6 then some (freeShared b s) else none
  else if 0x34C0 ≤ i && i < 0x34DE && 0x12 ≤ j && j ≤ 0x19 then some (ofInt 32 (creditOf (i - 0x34C0) (j - 0x12) s / 1000000))
  else if i == 0x3800 && j == 1 then some (time80 (nowNs s))
  else if i == 0x3800 && j == 2 then some (monoGrains s % 2 ^ 64)
  else if i == 0x3C01 && j == 2 then some ((List.range 64).filter fun k => !(streamSt k s).msgs.isEmpty).length
  else if i == 0x3C90 && j == 1 then some (s.braid.caught.length + s.braid.replay.length)
  else if i == 0x3C90 && j == 6 then
    some ((List.range 64).foldl (fun a e => a + reg (catchObj e).1 (catchObj e).2.1 s * 2 ^ e) 0)
  else if 0x3F10 ≤ i && i < 0x3F18 && j == 0x0B then some ((cluster (i - 0x3F10) s).awake / 1000000000)
  else none

def view4000 (i j : Nat) (s : State) : Option Nat :=
  let rules (t : Nat) : Nat := ((entriesOf s.cfg t).filter fun r => bkE s.cfg r t 2 ≠ 0).length
  if i == 0x4000 && j == 2 then some (s.epoch % 2 ^ 32)
  else if i == 0x4000 && j == 3 then some (rules 0x4010)
  else if i == 0x4000 && j == 4 then some (rules 0x4011)
  else if i == 0x4000 && j == 5 then some s.cfg.flows.length
  else none

def view5000 (i j : Nat) (s : State) : Option Nat :=
  if i == 0x5043 && j == 4 then some (secondsTo s.wake.backoff s)
  else if i == 0x5401 && j == 5 then some (b2n (pairSync (cfg 0x5400 0x0A s) s))
  else if i == 0x5401 && j == 7 then
    some (if s.pair.partnerAt == 0 then 0xFFFF else min 0xFFFF ((wall s - s.pair.partnerAt) / 1000000))
  else if i == 0x5800 then
    if j == 1 then some (highestClass s)
    else if j == 3 then some s.faults.pending.length
    else if j == 8 then some (b2n (safeNLow s) + 2 * b2n (safeNLow s && s.faults.ballLow))
    else if j == 0x0A then some (sourceMap fun n => srcSet n s)
    else if j == 0x0B then some (sourceMap fun n => srcEnabled n s)
    else none
  else if 0x5900 + 0xAC ≤ i && i ≤ 0x5900 + 0xAE && j == 2 then some (srcClass (i - 0x5900) s)
  else if 0x5900 + 0xAC ≤ i && i ≤ 0x5900 + 0xAE && j == 3 then some (dflt i 3 / 4 * 4 + srcClass (i - 0x5900) s)
  else if 0x5900 ≤ i && i < 0x5A00 && j == 1 && (sourceRow (i - 0x5900)).isNone then some 0
  else none

/-- The record of the sealed log that 0x6040:03 selects, zeros where it is not held (R396). -/
def logRecord (s : State) : Nat :=
  match (s.crust.flash ++ s.crust.queue).find? fun r => r.counter == reg 0x6040 3 s with
  | some r => leNat (recBytes r)
  | none => 0

/-- The public key that a slot shows: a public slot's, and that of the attestation key (0x6020:09). -/
def shownKey (n : Nat) (s : State) : Nat :=
  let k := keySlot n s
  if k.type == 3 then leNat (beBytes 65 k.value)
  else if k.type == 4 then leNat (beBytes 97 k.value)
  else if n == 0xE4 && k.type == 5 then leNat (beBytes 97 (Config.publicKey k.value))
  else 0

def view6000 (i j : Nat) (s : State) : Option Nat :=
  let n := reg 0x6020 1 s
  let k := keySlot n s
  if i == 0x6020 then
    if j == 2 then some k.type else if j == 3 then some k.usage else if j == 4 then some k.origin
    else if j == 5 then some (b2n k.persistent) else if j == 6 then some (leNat (checkBytes k))
    else if j == 9 then some (shownKey n s) else none
  else if i == 0x6040 then
    if j == 1 then some s.crust.counter
    else if j == 2 then some ((s.crust.flash.head?.map (·.counter)).getD 0)
    else if j == 4 then some (logRecord s)
    else if j == 6 then some s.crust.overwritten
    else if j == 7 then some s.crust.droppedRecords
    else if j == 0x0C then some (leNat (beBytes 32 s.crust.head))
    else none
  else if 0x6100 ≤ i && i < 0x6110 && j == 0x10 then some (secureState (i - 0x6100) s)
  else if i == 0x6810 && j == 5 then
    some (if s.update.proof == 0 then 0 else (s.update.openedAt + cfg 0x6810 1 s * 1000000000 - wall s) / 1000000)
  else none

/-- What a session sees of its own credential record (R388, R390). -/
def viewCredential (ses : Session) (j : Nat) (s : State) : Nat :=
  let r := requestedRole ses s
  if j == 1 then r
  else if j == 4 then roleOf ses s
  else if j == 5 then secondsTo (tget 0 s.crust.lockEnd r) s
  else if j == 6 then tget 0 s.crust.failures r % 256
  else dflt 0x6010 j

/-- The present value of object i:j for a session: a live view, a live field of the selected table entry, the staged value of an RWC object
in Configure (R30, R38) or its committed one, or the object itself. -/
def viewObj (ses : Session) (i j : Nat) (r : Sub) (s : State) : Nat :=
  if j == 0 && r.acc = .ro then reg i j s
  else if i == 0x6010 then viewCredential ses j s
  else
    let v := if i < 0x2000 then view1000 i j s else if i < 0x3000 then view2000 i j s else if i < 0x4000 then view3000 i j s
      else if i < 0x5000 then view4000 i j s else if i < 0x6000 then view5000 i j s else view6000 i j s
    match v with
    | some x => x
    | none =>
      if r.acc = .ro && (recordOf i).isSome && i ≠ 0x4013 then viewEntry i j s
      else if r.acc = .rwc then (if s.dev = .configure then bkO s.staged i j else cfg i j s)
      else reg i j s

end Sys2Proof.Machine
end

