-- ==== Sys2Proof/Machine/Dictionary.lean ====
section
/-!
DEFINITION. Dictionary.lean: the dictionary service: reads and writes of one object by their access class, length and range (R27–R33), and
the commands behind CMD and SEAL objects.
-/
namespace Sys2Proof.Machine

/-! ### Existence (R27, R44) -/

/-- Refusal of an access to an object that is not there: 0 where it exists. The capability chain holds 12 records. -/
def existCode (i j : Nat) : Nat :=
  if 0x110C < i && i < 0x1200 then 0x06020000
  else
    match cardOf i with
    | none => 0x06020000
    | some c => if (cardSub j c).isSome then 0 else 0x06090011

/-- The row of an object whose existence has been checked. -/
def rowOf (i j : Nat) : Sub := (subOf i j).getD ⟨0, 0, .u 1, .ro, 0, .any, 0⟩

def isOctet : OTy → Bool
  | .octet _ => true
  | _ => false

/-- Length and offset that the type accepts (R29, R347): the whole object, or any part of an OCTET. -/
def lengthFits (t : OTy) (off len : Nat) : Bool :=
  if isOctet t then decide (1 ≤ len) && decide (off + len ≤ t.size) else off == 0 && len == t.size

/-- Objects whose read has a side effect (R351). -/
def volatile (i j : Nat) : Bool := (i == 0x6010 && j == 2) || (0x3850 ≤ i && i < 0x385C && j == 6) || (0x5D00 ≤ i && i < 0x5D40 && j == 0x11)

/-- SEAL objects whose card names a role for reading only (R30). -/
def readRole (i j : Nat) : Nat := if i == 0x6040 && (j == 4 || j == 0x0A) then 1 else 0

/-! ### Reading -/

/-- Code of a read by class (R30). -/
def readCode (ses : Session) (i j : Nat) (s : State) : Nat :=
  let c := existCode i j
  if c ≠ 0 then c
  else if (rowOf i j).acc = .wo then 0x06010001
  else if roleOf ses s < readRole i j then 0x080000A1 else 0

/-- A whole object is read, with the side effect of a pop (R30, R351). -/
def readObj (ses : Session) (i j : Nat) : SvcD := fun s =>
  let c := readCode ses i j s
  if c ≠ 0 then (s, c, [])
  else if i == 0x6010 && j == 2 then readChallenge ses s
  else if 0x3850 ≤ i && i < 0x385C && j == 6 then
    let r := popCapture (i - 0x3850) s
    (r.1, 0, r.2)
  else if 0x5D00 ≤ i && i < 0x5D40 && j == 0x11 then
    let r := popRecord (i - 0x5D00) s
    (r.2, 0, r.1)
  else (s, 0, leBytes (rowOf i j).ty.size (viewObj ses i j (rowOf i j) s))

/-- Part of an object is read (R29, R347): nothing is read where the length does not fit. -/
def readPart (ses : Session) (i j off len : Nat) : SvcD := fun s =>
  let c := readCode ses i j s
  if c ≠ 0 then (s, c, [])
  else if !lengthFits (rowOf i j).ty off len then (s, 0x06070010, [])
  else
    let r := readObj ses i j s
    (r.1, r.2.1, slice off len r.2.2)

/-! ### Commands -/

/-- A table record's command byte (R38, R191). -/
def recordCommand (ses : Session) (t : TableRec) (v : Nat) : Svc :=
  if v == 1 then readCommitted t
  else if v == 2 then writeStaged ses t
  else
    match t with
    | .flow => flowDelete ses
    | .streamGate => streamGateClear
    | .filter => filterClear
    | .meter => meterClear
    | .guard => guardClear ses
    | t => clearCounters ses t

/-- The Configure lock is for sessions; a request from another device takes no lock (R38). -/
def stateRequest (ses : Session) (v : Nat) : Svc :=
  if ses = .bar0 then deny 0x08000022
  else if v == 2 then configureRequest ses else if v == 3 then commitRequest ses else discardEdits ses

/-- A software event leaves (R349): kind 7 with the 8 bytes of :02, and the remote action of the export entry for kind 7 to that device; 0xFF
where there is none. -/
def softwareEvent : Svc := notTerminal fun s =>
  let d := reg 0x5C22 1 s
  if !peerUp d s then done (setReg 0x5C22 3 3 s)
  else
    let e := (List.range 32).find? fun e => cfgE e 0x5C21 2 s == 1 && cfgE e 0x5C21 3 s == 7 && cfgE e 0x5C21 5 s == d
    let act := (e.map fun e => cfgE e 0x5C21 6 s).getD 0xFF
    let arg := (e.map fun e => cfgE e 0x5C21 7 s).getD 0
    let m := { tMsg 0 0x20 7 (leBytes 8 (reg 0x5C22 2 s)) with index := arg, sub := act }
    done (setReg 0x5C22 3 2 (sendMsg d m s))

/-- A CMD or SEAL object is written with a value that its card lists. -/
def command (ses : Session) (i j v : Nat) : Svc :=
  match recordOf i with
  | some t => recordCommand ses t v
  | none =>
    if i == 0x1002 then stateRequest ses v
    else if i < 0x2400 then mdioCommand ((i - 0x2003) / 0x40) v
    else if i < 0x2E00 then (if v == 1 then canRecover ((i - 0x2800) / 0x20) else canClear ((i - 0x2800) / 0x20))
    else if i < 0x3000 then
      let m := (i - 0x2E00) / 0x20
      if v == 1 then linWake m else if v == 2 then linGoToSleep m else linClear m
    else if i == 0x3001 then fun s => flushBegin v (if v == 1 then 0 else if v == 2 then reg 0x3001 9 s else reg 0x3001 0x0A s) s
    else if i == 0x3002 then (if v == 1 then fdbLookUp else if v == 2 then fdbWriteStatic ses else fdbDeleteStatic ses)
    else if i == 0x3540 then (if v == 1 then gateEntryRead else gateEntryWrite ses)
    else if i == 0x3802 then (if v == 1 then cmdStepBy ses else cmdSetAbsolute ses)
    else if 0x3840 ≤ i && i < 0x3850 then (if v == 1 then cmdArm (i - 0x3840) else cmdDisarm (i - 0x3840))
    else if i == 0x4040 then (if v == 1 then zonePairRead else zonePairClear)
    else if i == 0x4050 then restoreLane (v - 1)
    else if i == 0x5050 then softwareReset ses
    else if 0x5440 ≤ i && i < 0x5443 then
      let k := i - 0x5440
      if v == 1 then cmdHandOver k else if v == 2 then cmdReleaseAll k else cmdResume k
    else if i == 0x5800 then clearFirst ses
    else if 0x5900 ≤ i && i < 0x5A00 then
      if j == 7 then forceSource ses (i - 0x5900) else if v == 0 then done else clearSource ses (i - 0x5900)
    else if i == 0x5C22 then softwareEvent
    else if 0x5D00 ≤ i && i < 0x5D40 then
      let n := i - 0x5D00
      if j == 0x0A then notTerminal fun s => done (doorbell n v s)
      else if v == 1 then dmaStart n else if v == 2 then dmaAbort n else if v == 3 then dmaDisableCmd n else dmaReset n
    else if i == 0x6000 then tamperClear ses v
    else if i == 0x6020 then
      if v == 1 then loadBlob ses else if v == 2 then importPublic ses else if v == 3 then unwrapSak ses
      else if v == 4 then eraseKey ses else clearImport ses
    else if i == 0x6030 then (if v == 1 then deriveKeys else computeIcv)
    else if i == 0x6040 then (if j == 5 then acknowledge ses v else exportLog ses)
    else if 0x6050 ≤ i && i < 0x6060 then (if v == 1 then bindModule ses (i - 0x6050) else unbindModule ses (i - 0x6050))
    else if i == 0x6060 then notTerminal (needRole ses 3 fun s => done (refreshEval (setReg 0x6060 j v s)))
    else if i == 0x6180 then (if v == 1 then saRead else saWrite)
    else if i == 0x6800 then (if v == 1 then beginPackage ses else if v == 2 then installPackage ses else discardPackage ses)
    else if i == 0x6808 then (if v == 1 then armTarget ses else if v == 2 then cancelArmed ses else armNow ses)
    else if i == 0x6810 then
      if v == 1 then fun s => hostConfirm ses (bit (freeNow s) 0) (useFree s) else hostReject ses
    else deny 0x08000000

/-! ### Writing -/

/-- A W1C object that counts or marks, and whose section says that any nonzero value clears it; of every other each bit written as 1 is
cleared (R30). -/
def nonzeroClears (i j : Nat) : Bool :=
  (i == 0x1003) || (i ≥ 0x7000) || (i == 0x3060) || (0x3400 ≤ i && i ≤ 0x3460 && j ≠ 0x15 && i ≠ 0x3400) || (i == 0x3400 && j == 3) ||
  (0x2000 ≤ i && i < 0x2800 && i % 0x40 == 1) || (i == 0x4051 || i == 0x4052) || (0x2800 ≤ i && i < 0x2E00) || (0x2E00 ≤ i && i < 0x3000) ||
  (i == 0x3C00) || (0x5D00 ≤ i && i < 0x5D40 && j ≠ 0x10) || (i == 0x4000 && j == 6) || (i == 0x5000 && (j == 6 || j == 0x0C))

/-- Bits of a W1C or RW object that its card leaves reserved (R5). -/
def reservedSet (i j v : Nat) (s : State) : Bool :=
  (i == 0x5C10 && decide (v ≥ 32)) || (0x5D00 ≤ i && i < 0x5D40 && j == 0x10 && decide (v ≥ 32)) ||
  (0x3840 ≤ i && i < 0x3850 && j == 0x0C && decide (v ≥ 8)) ||
  (i == 0x5C30 && (j == 4 || j == 5) &&
    (if reg 0x5C30 1 s == 0 then !(v / 2 ^ 28 == 0 || v / 2 ^ 28 == 2) else decide (v ≥ 2 ^ 19)))

/-- A W1C object is written. -/
def writeClear (i j v : Nat) (s : State) : State :=
  if i == 0x3400 && j == 3 then (if v == 0 then s else setReg i j (freeElls s) s)
  else if nonzeroClears i j then (if v == 0 then s else setReg i j 0 s)
  else setReg i j (reg i j s - Nat.land (reg i j s) v) s

/-- The application's keep-awake of cluster c (R296, R305, R306). -/
def keepAwake (c v : Nat) (s : State) : State :=
  let s := setReg (nP c) 9 v s
  if v == 0 then sleepCheck s
  else
    let s := resumeCluster c s
    let s := if clusterState c s == 3 then toAwake c s else s
    setCluster c { cluster c s with awake := 0 } s

/-- An RW or WO object is written with a value in its range; some act at once. -/
def writePlain (ses : Session) (i j v : Nat) (l : Bytes) : Svc := notTerminal fun s =>
  if 0x3F10 ≤ i && i < 0x3F18 && j == 9 then done (sleepCheck (keepAwake (i - 0x3F10) v s))
  else if i == 0x3803 then latchTime s
  else if i == 0x6010 && j == 1 then
    done { s with crust := { s.crust with requested := tset 1 s.crust.requested (sesCode ses) v } }
  else if i == 0x6010 && j == 3 then respond ses l s
  else if i == 0x6010 then releaseRole ses s
  else if 0x6100 ≤ i && i < 0x6110 && j == 9 then writeAn (i - 0x6100) v s
  else if i == 0x6800 && j == 5 then packageData l s
  else if 0x2E00 ≤ i && i < 0x3000 && i % 0x20 == 1 && j == 1 then linTable ((i - 0x2E00) / 0x20) v s
  else if 0x5D00 ≤ i && i < 0x5D40 && 6 ≤ j && j ≤ 8 && chState (i - 0x5D00) s ≠ 1 && chState (i - 0x5D00) s ≠ 5 then deny 0x08000022 s
  else done (setReg i j v s)

/-- An RWC object is staged (R30, R38, R40); the Sieve's objects wait for its refresh (R191). -/
def writeStage (ses : Session) (i j v : Nat) : Svc := notTerminal (staging ses fun s =>
  done (if 0x4000 ≤ i && i < 0x4050 then sieveStage (okey i j) v s else stage i j v s))

/-- The present bytes of an OCTET object under a partial write. -/
def oldValue (ses : Session) (i j : Nat) (r : Sub) (s : State) : Nat := if r.acc = .wo then reg i j s else viewObj ses i j r s

/-- The value that a write forms (R29). -/
def newValue (ses : Session) (i j : Nat) (r : Sub) (off : Nat) (l : Bytes) (s : State) : Nat :=
  if isOctet r.ty then
    let old := leBytes r.ty.size (oldValue ses i j r s)
    leNat (old.take off ++ l ++ old.drop (off + l.length))
  else leNat l

/-- Class by class (R30). The state, the lock and the role come before the value; a length of its own rule stands for the response and for
the update data. -/
def writeValue (ses : Session) (i j v : Nat) (r : Sub) (l : Bytes) : Svc := fun s =>
  let bad := if reservedSet i j v s then 0x06090030 else checkValue i j v r s
  match r.acc with
  | .ro => deny 0x06010002 s
  | .w1c => if bad ≠ 0 then deny bad s else done (writeClear i j v s)
  | .rwc =>
    let c := if s.dev = .terminal then 0x08000022 else stageCode ses s
    if c ≠ 0 then deny c s else if bad ≠ 0 then deny bad s else writeStage ses i j v s
  | .seal =>
    if s.dev = .terminal then deny 0x08000022 s
    else if roleOf ses s < r.role then deny 0x080000A1 s
    else if bad ≠ 0 then deny bad s else command ses i j v s
  | .cmd => if s.dev = .terminal then deny 0x08000022 s else if bad ≠ 0 then deny bad s else command ses i j v s
  | .rw => if s.dev = .terminal then deny 0x08000022 s else if bad ≠ 0 then deny bad s else writePlain ses i j v l s
  | .wo => if s.dev = .terminal then deny 0x08000022 s else if bad ≠ 0 then deny bad s else writePlain ses i j v l s

/-- The record of a reserved source (R424). -/
def reservedRecord (i : Nat) : Bool := 0x5900 ≤ i && i < 0x5A00 && (sourceRow (i - 0x5900)).isNone

/-- A write to object i:j from byte `off` on (R27–R32); a reserved source's record takes none (R424). -/
def writeObj (ses : Session) (i j off : Nat) (l : Bytes) : Svc := fun s =>
  let c := existCode i j
  let r := rowOf i j
  if c ≠ 0 then deny c s
  else if reservedRecord i then deny 0x06090030 s
  else if r.acc = .ro || readRole i j ≠ 0 then deny 0x06010002 s
  else if !lengthFits r.ty off l.length then deny 0x06070010 s
  else writeValue ses i j (newValue ses i j r off l s) r l s

/-! ### Requests of a session -/

/-- A request that returns data, served as `serveWith` serves a command. -/
def askWith (ses : Session) (f : SvcD) (s : State) : State × Nat × Bytes :=
  if reachable s && s.access.evicted ≠ some ses then
    let r := f (touch ses s)
    (r.1, r.2.1, if r.2.1 == 0 then r.2.2 else [])
  else
    let r := serveWith ses done s
    (r.1, r.2, [])

/-- The write starts a validation, whose end answers it (R40). -/
def isCommit (i j : Nat) (l : Bytes) : Bool := i == 0x1002 && j == 1 && l == [3]

/-- What an accepted write brings after its answer: a software reset (R461). -/
def afterWrite (i j code : Nat) (s : State) : State := if i == 0x5050 && j == 5 && code == 0 then release (holdReset 4 s) else s

/-- A write of a session, answered by `reply` or at the end of a validation. `path` and `head` as in `lateReply`. -/
def writeFor (ses : Session) (path : Bool) (head : Bytes) (i j off : Nat) (l : Bytes) (reply : Nat → State → State) (s : State) : State :=
  let r := serveWith ses (writeObj ses i j off l) s
  if isCommit i j l && r.2 == 0 then deferCommit ses path head r.1
  else afterWrite i j r.2 (settle 8 (reply r.2 r.1))

/-! ### Hot registers (R56, R333, R371) -/

/-- Object and width of a register in the part of BAR0 that apertures show. -/
def apertureReg (x : Nat) : Option (Nat × Nat × Nat) :=
  if x == 0 then some (0x1001, 0, 4) else if x == 8 then some (0x3800, 2, 8) else if x == 0x10 then some (0x3800, 1, 16)
  else if x == 0x20 then some (0x3803, 1, 4) else if x == 0x30 then some (0x3803, 2, 16) else if x == 0x40 then some (0x5C10, 1, 4)
  else if x == 0x44 then some (0x5C10, 2, 4)
  else if 0x100 ≤ x && x < 0x120 && x % 4 == 0 then some (0x3F10 + (x - 0x100) / 4, 9, 4) else none

/-- The object has a hot register. -/
def isHot (i j : Nat) : Bool :=
  (List.range 0x120).any (fun x => (apertureReg x).any fun r => r.1 == i && r.2.1 == j) ||
    (0x5D00 ≤ i && i < 0x5D40 && [0x0A, 0x0B, 0x0C, 0x0D, 0x10, 0x0F, 0x11, 0x13].contains j)

/-- A write through a hot register; none of an RO object, or of an object without one (R56, R333). -/
def hotWrite (i j : Nat) (l : Bytes) (s : State) : State :=
  if s.dev = .boot || s.dev = .catch_ || !bar0Up s then s
  else if !isHot i j then count 0x5C00 4 s
  else settle 8 (serveHot ((rowOf i j).acc = .w1c) (writeObj .bar0 i j 0 l) s)

/-- DICTIONARY_WRITE (R30): by a session, or through a hot register of BAR0. -/
def execDictionaryWrite (ses : Session) (index : Fin 65536) (sub : Fin 256) (offset : Fin 4096) (data : List Byte) (s : State) : Res :=
  .next (
    if ses = .bar0 then hotWrite index.val sub.val data s
    else if s.dev = .boot || s.dev = .catch_ || !sessionLive ses s then s
    else writeFor ses false [] index.val sub.val offset.val data (fun c s => emit (.answer ses c []) s) s)

end Sys2Proof.Machine
end

