-- ==== Sys2Proof/Machine/Remote.lean ====
section
/-!
DEFINITION. Remote.lean: requests to other devices of the backbone (R57, R347, R350–R353), and their answers.
-/
namespace Sys2Proof.Machine

/-! ### Peers -/

/-- Three HELLO intervals in ns (R344). -/
def helloSpan (s : State) : Nat := 3 * ms (cfg 0x5C20 9 s)

/-- Another device of the backbone has announced this device's number within three intervals (R57, R344). -/
def conflict (s : State) : Bool :=
  (peer (ownDev s) s).helloAt ≠ 0 && decide (wall s < (peer (ownDev s) s).helloAt + helloSpan s)

/-- Device d can be asked: it is discovered, and no conflict keeps this device from forwarding. -/
def discovered (d : Nat) (s : State) : Bool := d < 8 && reg (pP d) 1 s == 1 && !conflict s

/-- A fresh tag for a request. -/
def newTag (s : State) : State := { s with bridge := { s.bridge with nextTag := (s.bridge.nextTag + 1) % 65536 } }

/-- A request message (R342). -/
def requestMsg (type role tag i j off len : Nat) (data : Bytes) : TMsg :=
  { tMsg (if type == 0x12 then 0 else 1) type 0 data with
    role := role, tag := tag, index := i, sub := j, off := off, len := len }

/-! ### Prefetch windows (R350, R353) -/

/-- Field j of window w: 0 to 15 of the host bridge, 16 to 31 of the backbone bridge. -/
def win (w j : Nat) (s : State) : Nat := cfgE w 0x5C30 j s

/-- The window of a bridge that covers a place: a BAR0 offset of an aperture, or an index of a device. -/
def windowOf (base place : Nat) (s : State) : Option Nat :=
  (List.range' base 16).find? fun w => win w 3 s == 1 && win w 4 s ≤ place && place ≤ win w 5 s

def backPlace (d i : Nat) : Nat := i + d * 65536

/-- A value that is held and may still be served. -/
def heldValue (base d i j : Nat) (s : State) : Option Prefetched :=
  s.bridge.prefetched.find? fun p => p.window / 16 * 16 == base && p.device == d && p.index == i && p.sub == j && p.value.isSome &&
    decide (wall s < p.since + us (win p.window 6 s))

/-- A held value is delivered. -/
def serveHeld (x : Prefetched) (s : State) : State :=
  count 0x5C40 2 { s with bridge := { s.bridge with
    prefetched := s.bridge.prefetched.map fun p => if p = x then { p with served := true } else p } }

/-- A READ that fills a window's block: the object is marked as in flight. -/
def fetchObj (w d role i j tag : Nat) (s : State) : State :=
  let p : Prefetched := ⟨w, d, i, j, tag, none, false, false, false, wall s⟩
  let s := { s with bridge := { s.bridge with prefetched := s.bridge.prefetched ++ [p] } }
  sendMsg d (requestMsg 0x10 role tag i j 0 (rowOf i j).ty.size []) s

/-- Subindexes of a record from 0 on whose values fit into the room. -/
def recordSubs (i : Nat) : Nat → List Nat → List Nat
  | _, [] => []
  | room, j :: t =>
    match subOf i j with
    | none => recordSubs i room t
    | some r =>
      if r.acc = .wo then recordSubs i room t
      else if r.ty.size ≤ room then j :: recordSubs i (room - r.ty.size) t else []

/-- The objects of a list are fetched beside the one that was asked for. -/
def fetchBeside (w d role : Nat) (l : List (Nat × Nat)) (s : State) : State :=
  each l (fun x s =>
    let s := newTag s
    fetchObj w d role x.1 x.2 s.bridge.nextTag s) s

/-! ### Requests (R57) -/

/-- The request fails at once: the device is not discovered, or its link is down. -/
def remoteFails (r : RemoteReq) (code : Nat) (s : State) : State := lateReply r code [] (count 0x1010 3 s)

/-- A READ or WRITE leaves for the request, and the request waits. -/
def remoteSend (r : RemoteReq) (role : Nat) (data : Bytes) (s : State) : State :=
  let s := newTag s
  let tag := s.bridge.nextTag
  let r := { r with tag := tag, since := wall s }
  let s := { s with access := { s.access with remote := s.access.remote ++ [r] } }
  match windowOf 16 (backPlace r.device r.index) s with
  | some w =>
    if !r.write && existCode r.index r.sub == 0 && lengthFits (rowOf r.index r.sub).ty r.off r.len then
      let top := ((cardOf r.index).map cardTop).getD 0
      let l := (recordSubs r.index (1024 - (rowOf r.index r.sub).ty.size) (List.range (top + 1))).filter (· ≠ r.sub)
      fetchBeside w r.device role (l.map fun j => (r.index, j)) (fetchObj w r.device role r.index r.sub tag (count 0x5C40 1 s))
    else sendMsg r.device (requestMsg (if r.write then 0x11 else 0x10) role tag r.index r.sub r.off r.len data) s
  | none => sendMsg r.device (requestMsg (if r.write then 0x11 else 0x10) role tag r.index r.sub r.off r.len data) s

/-- A request of a dictionary path to another device (R57, R350). -/
def remoteAsk (r : RemoteReq) (role : Nat) (data : Bytes) (s : State) : State :=
  if !discovered r.device s then remoteFails r 0x080000A3 s
  else if !peerUp r.device s then remoteFails r 0x05040000 s
  else if r.write then
    remoteSend r role data (dropPrefetch (fun p => p.window ≥ 16 && p.device == r.device && p.index == r.index) s)
  else
    match heldValue 16 r.device r.index r.sub s with
    | some p =>
      if lengthFits (rowOf r.index r.sub).ty r.off r.len then
        lateReply r 0 (slice r.off r.len (p.value.getD [])) (serveHeld p s)
      else remoteSend r role data s
    | none => remoteSend r role data s

/-! ### Aperture reads of the host (R348) -/

/-- A read of the host completes: with data, as Unsupported Request or as Completer Abort. -/
def hostCompletes (status : Nat) (data : Bytes) (s : State) : State :=
  if status == 0 then emit (.completion true false data) s
  else emit (.completion false false []) (count 0x5C00 (if status == 0x06070010 then 4 else 5) s)

/-- The bytes of a register of len bytes that mirrors an object (R333): the low half of a TIME80 leaves its upper half in the shadow. -/
def registerBytes (len : Nat) (data : Bytes) (s : State) : Bytes × State :=
  if data.length == 10 && len == 8 then
    (data.take 8, { s with bridge := { s.bridge with shadow := leNat (data.drop 8) } })
  else ((data ++ List.replicate (len - data.length) 0).take len, s)

def readCompletes (len status : Nat) (data : Bytes) (s : State) : State :=
  let r := registerBytes len data s
  if status == 0 then hostCompletes 0 r.1 r.2 else hostCompletes status [] s

/-! ### Answers -/

/-- A prefetched value arrives (R350, R352, R353): one that a write has discarded is lost, any other is held. -/
def fetched (tag status : Nat) (vol delivered : Bool) (data : Bytes) (s : State) : State :=
  let here := s.bridge.prefetched.filter fun p => p.tag == tag && p.value.isNone
  let s := { s with bridge := { s.bridge with prefetched := s.bridge.prefetched.filter fun p => !(p.tag == tag && p.value.isNone) } }
  each here (fun p s =>
    let q := { p with value := some data, vol := vol, served := delivered && !p.stale, stale := false, since := wall s }
    if status ≠ 0 then s
    else if p.stale then loseValue q s
    else { s with bridge := { s.bridge with prefetched := s.bridge.prefetched ++ [q] } }) s

/-- A write has discarded the block while the read of this tag was in flight. -/
def staleTag (tag : Nat) (s : State) : Bool := s.bridge.prefetched.any fun p => p.tag == tag && p.value.isNone && p.stale

/-- A read of the host is issued again for the object whose prefetch was discarded. -/
def readAgain (r : Nat × Nat × Nat) (p : Prefetched) (s : State) : State :=
  let s := newTag s
  let tag := s.bridge.nextTag
  let s := { s with bridge := { s.bridge with reads := s.bridge.reads ++ [(tag, r.2.1, r.2.2)] } }
  sendMsg p.device (requestMsg 0x10 0 tag p.index p.sub 0 (rowOf p.index p.sub).ty.size []) s

/-- The COMPLETION of a tag (R57, R347, R348): a waiting read of a discarded block is issued again. -/
def completed (d tag status : Nat) (vol : Bool) (data : Bytes) (s : State) : State :=
  let stale := staleTag tag s
  let asked := s.access.remote.filter fun r => r.device == d && r.tag == tag
  let host := s.bridge.reads.filter fun r => r.1 == tag
  let flight := s.bridge.prefetched.find? fun p => p.tag == tag && p.value.isNone
  let s := fetched tag status vol (!asked.isEmpty || !host.isEmpty) data s
  let s := { s with
    access := { s.access with remote := s.access.remote.filter fun r => !(r.device == d && r.tag == tag) }
    bridge := { s.bridge with reads := s.bridge.reads.filter fun r => r.1 ≠ tag } }
  let s := each asked (fun r s =>
    if stale && !r.write then remoteSend r (roleOf r.ses s) [] s
    else lateReply r status (if flight.isSome then slice r.off r.len data else data) s) s
  each host (fun r s =>
    match flight with
    | some p => if p.stale then readAgain r p s else readCompletes r.2.1 status data s
    | none => readCompletes r.2.1 status data s) s

/-- The requests to device d that are outstanding end without an answer (R343, R353): nothing of what was in flight counts as lost. -/
def requestsFail (d : Nat) (s : State) : State :=
  let asked := s.access.remote.filter fun r => r.device == d
  let tags := (peer d s).tags ++ ((peer d s).waiting.filter fun m => m.cls == 1).map (·.tag)
  let host := s.bridge.reads.filter fun r => tags.contains r.1
  let s := { s with
    access := { s.access with remote := s.access.remote.filter fun r => r.device ≠ d }
    bridge := { s.bridge with
      reads := s.bridge.reads.filter (fun r => !(tags.contains r.1))
      prefetched := s.bridge.prefetched.filter fun p => !(p.device == d && p.value.isNone) } }
  each host (fun _ s => hostCompletes 0x05040000 [] s) (each asked (fun r s => remoteFails r 0x05040000 s) s)

/-- REMOTE_RESPONSE_TIMEOUT (R57, R347): the request, named by its tag, has waited for 0x1010:02. -/
def execRemoteResponseTimeout (request : Nat) (s : State) : Res :=
  .next (
    let late (t : Nat) : Bool := due t (ms (reg 0x1010 2 s)) s
    let asked := s.access.remote.filter fun r => r.device < 8 && r.tag == request && late r.since
    let host := s.bridge.reads.filter fun r => r.1 == request && late r.2.2
    let t := { s with
      access := { s.access with remote := s.access.remote.filter fun r => !(r.device < 8 && r.tag == request && late r.since) }
      bridge := { s.bridge with reads := s.bridge.reads.filter fun r => !(r.1 == request && late r.2.2) } }
    each host (fun _ s => hostCompletes 0x05040000 [] s) (each asked (fun r s => remoteFails r 0x05040000 s) t))

end Sys2Proof.Machine
end

