-- ==== Sys2Proof/Machine/Bridges.lean ====
section
/-!
DEFINITION. Bridges.lean: the receiving side of the backbone register transport and its timers (R341–R349), events, the BAR0 apertures and
the PCIe endpoint (R330–R340, R348–R353, R467).
-/
namespace Sys2Proof.Machine

/-- The bridges work: past Boot and Catch, and not asleep (R340). -/
def bridgeOn (s : State) : Bool := s.dev ≠ .boot && s.dev ≠ .catch_ && s.power.sleep == 0

def transportOn (s : State) : Bool := bridgeOn s && cfg 0x5C20 1 s == 1

/-! ### Frames (R341, R342) -/

/-- What follows the EtherType 0x88B5 of a frame; none of another frame. -/
def transportBody (f : Bytes) : Option Bytes :=
  let o := if beNat (slice 12 2 f) == 0x8100 then 16 else 12
  if beNat (slice o 2 f) == 0x88B5 && decide (o + 38 ≤ f.length) then some (f.drop (o + 2)) else none

def hType (b : Bytes) : Nat := byteAt b 1
def hSource (b : Bytes) : Nat := byteAt b 2 % 8
def hDest (b : Bytes) : Nat := byteAt b 2 / 8 % 8
def hClass (b : Bytes) : Nat := byteAt b 2 / 64
def hRole (b : Bytes) : Nat := byteAt b 3 % 8
def hVol (b : Bytes) : Bool := bit (byteAt b 3) 3
def hEpoch (b : Bytes) : Nat := leNat (slice 4 2 b)
def hSeq (b : Bytes) : Nat := leNat (slice 6 2 b)
def hAck (b : Bytes) : Nat := leNat (slice 8 2 b)
def hTag (b : Bytes) : Nat := leNat (slice 12 2 b)
def hIndex (b : Bytes) : Nat := leNat (slice 14 2 b)
def hSub (b : Bytes) : Nat := byteAt b 16
def hOff (b : Bytes) : Nat := leNat (slice 18 2 b)
def hLen (b : Bytes) : Nat := leNat (slice 20 2 b)
def hStatus (b : Bytes) : Nat := leNat (slice 24 4 b)

/-- Data bytes of a message: a READ carries none, and its length field says what it asks for. -/
def dataLen (b : Bytes) : Nat := if hType b == 0x10 then 0 else hLen b

def hData (b : Bytes) : Bytes := slice 28 (dataLen b) b

/-- The header can be one of this transport, and the frame holds its data and CMAC. -/
def wellTaken (b : Bytes) : Bool :=
  byteAt b 0 == 1 && decide (hLen b ≤ 1024) && decide (36 + dataLen b ≤ b.length)

/-- The CMAC over header and data verifies (R342). -/
def macGood (b : Bytes) (s : State) : Bool :=
  slice (28 + dataLen b) 8 b == macBytes (cfg 0x5C20 6 s) 8 (b.take (28 + dataLen b)) s

/-- A frame whose CMAC fails is counted (R343). -/
def macFails (b : Bytes) (s : State) : State := fire 0xF2 (hSource b) (count 0x5C20 0x0A s)

/-! ### Links (R343, R344) -/

/-- The state of the link to peer d changes (R336). -/
def setLink (d v : Nat) (s : State) : State := if reg (pP d) 3 s == v then s else hostEvent 2 (setReg (pP d) 3 v s)

/-- A link starts anew: both sequence spaces, credits and requests of it. -/
def freshLink (d : Nat) (s : State) : State :=
  let s := requestsFail d s
  setReg (pP d) 4 0 (setPeer d { peerSt0 with helloAt := (peer d s).helloAt } s)

/-- The link to peer d ends, in state v. -/
def endLink (d v : Nat) (s : State) : State := setLink d v (freshLink d s)

/-- The cumulative acknowledgement and the credit limits of a frame from peer d (R343, R345). -/
def takeAck (d : Nat) (b : Bytes) (s : State) : State :=
  let p := peer d s
  let rest := p.unacked.filter fun m => !decide ((hAck b + 65536 - m.seq) % 65536 < 32768)
  let later (old new : Nat) : Nat := if (new + 256 - old) % 256 < 128 then new else old
  let p := { p with unacked := rest, limP := later p.limP (byteAt b 10), limN := later p.limN (byteAt b 11) }
  let p := if rest.length < (peer d s).unacked.length then { p with retries := 0, progressAt := wall s } else p
  pump d (setPeer d p s)

/-- An acknowledgement is owed to peer d. -/
def oweAck (d : Nat) (s : State) : State :=
  let p := peer d s
  setPeer d { p with ackOwed := some (p.ackOwed.getD (wall s)) } s

/-! ### Service of a peer's requests (R57, R340, R347, R352) -/

/-- A request runs with the role of the session that it came from (R57). -/
def asRole (role : Nat) (f : State → State) (s : State) : State :=
  let s := f { s with crust := { s.crust with roles := tset 0 s.crust.roles 0x40 role } }
  { s with crust := { s.crust with roles := tdel s.crust.roles 0x40 } }

/-- The access can be served: with the dictionary service, or by the hardware of a hot register (R340). -/
def servesPeer (i j : Nat) (s : State) : Bool := reachable s || isHot i j

def sendCompletion (d tag status : Nat) (vol : Bool) (data : Bytes) (s : State) : State :=
  sendMsg d { tMsg 2 0x30 status data with tag := tag, vol := vol } s

/-- A READ of peer d is served. -/
def serveRead (d : Nat) (b : Bytes) (s : State) : State :=
  let i := hIndex b
  let j := hSub b
  if servesPeer i j s then
    let r := readPart .bar0 i j (hOff b) (hLen b) s
    settle 8 (sendCompletion d (hTag b) r.2.1 (volatile i j) (if r.2.1 == 0 then r.2.2 else []) r.1)
  else sendCompletion d (hTag b) 0x08000022 false [] s

/-- A WRITE (`answered`) or POSTED WRITE of peer d is served; a refusal of the latter is counted here. -/
def serveWrite (d : Nat) (answered : Bool) (b : Bytes) (s : State) : State :=
  let i := hIndex b
  let j := hSub b
  let reply (c : Nat) (s : State) : State :=
    if answered then sendCompletion d (hTag b) c false [] s else if c == 0 then s else count 0x5C00 4 s
  if servesPeer i j s then
    let r := writeObj .bar0 i j (hOff b) (hData b) s
    afterWrite i j r.2 (settle 8 (reply r.2 r.1))
  else reply 0x08000022 s

/-- An accepted message is acted on (R342). -/
def takeMessage (d : Nat) (b : Bytes) (s : State) : State :=
  let t := hType b
  if t == 0x10 then asRole (hRole b) (serveRead d b) s
  else if t == 0x11 then asRole (hRole b) (serveWrite d true b) s
  else if t == 0x12 then asRole (hRole b) (serveWrite d false b) s
  else if t == 0x20 then emit (.event d (b.take (28 + dataLen b))) s
  else if t == 0x30 then
    let p := peer d s
    let p := { p with tags := p.tags.erase (hTag b) }
    pump d (completed d (hTag b) (hStatus b) (hVol b) (hData b) (setReg (pP d) 4 p.tags.length (setPeer d p s)))
  else s

/-- The next frame in sequence: its buffer is given back as soon as it has been served (R343, R345). -/
def acceptNext (d : Nat) (b : Bytes) (s : State) : State :=
  let p := peer d s
  let p := { p with
    expect := (p.expect + 1) % 65536
    gotP := if hClass b == 0 then (p.gotP + 1) % 256 else p.gotP
    gotN := if hClass b == 1 then (p.gotN + 1) % 256 else p.gotN }
  takeMessage d b (oweAck d (setPeer d p s))

/-- TRANSPORT_FRAME_RECEIVE (R343): a frame of a link; a HELLO has a row of its own. -/
def execTransportFrameReceive (frame : List Byte) (s : State) : Res :=
  .next (
    match transportBody frame with
    | none => s
    | some b =>
      if !transportOn s || !wellTaken b || hType b == 1 || hDest b ≠ ownDev s then s
      else if !macGood b s then settle 8 (macFails b s)
      else
        let d := hSource b
        if !peerUp d s || hEpoch b ≠ reg (pP d) 6 s then s
        else
          let s := takeAck d b s
          if hClass b == 3 then s
          else if hSeq b == (peer d s).expect then acceptNext d b s
          else if (hSeq b + 65536 - (peer d s).expect) % 65536 ≥ 32768 then oweAck d s
          else s)

/-- TRANSPORT_ACK_DUE (R343): nothing else has carried the acknowledgement. -/
def execTransportAckDue (peer : Fin 8) (s : State) : Res :=
  .next (
    let d := peer.val
    if transportOn s && peerUp d s && (Machine.peer d s).ackOwed.isSome then txMsg d (tMsg 3 0 0 []) false s else s)

/-- RETRANSMIT_TIMEOUT (R343): everything unacknowledged goes again, or the link is down. -/
def execRetransmitTimeout (peer : Fin 8) (s : State) : Res :=
  .next (
    let d := peer.val
    let p := Machine.peer d s
    if !transportOn s || !peerUp d s || p.unacked.isEmpty || !due p.progressAt (us (cfg 0x5C20 7 s)) s then s
    else if p.retries ≥ cfg 0x5C20 8 s then settle 8 (fire 0xF1 d (endLink d 2 s))
    else
      let s := setPeer d { p with retries := p.retries + 1, progressAt := wall s } s
      each p.unacked (fun m s => txMsg d m true (count 0x5C20 0x0B s)) s)

/-- The group address of HELLO (R344). -/
def helloMac : Bytes := beBytes 6 0x03C5E088B500

/-- HELLO_SEND (R344). -/
def execHelloSend (s : State) : Res :=
  .next (
    if !transportOn s || s.faults.forced || s.dev = .safe || s.dev = .terminal then s
    else if s.bridge.helloAt ≠ 0 && !due s.bridge.helloAt (ms (cfg 0x5C20 9 s)) s then s
    else
      let body := msgBody 0 (tMsg 3 1 0 []) false { s with bridge := { s.bridge with peers := [] } }
      emit (.hello (msgFrame helloMac body s)) { s with bridge := { s.bridge with helloAt := wall s } })

/-- A HELLO of peer d keeps it discovered; a new epoch restarts its link, and a link that was down starts again (R343, R344). -/
def takeHello (d epoch : Nat) (mac : Bytes) (s : State) : State :=
  let was := reg (pP d) 3 s
  let seen := (peer d s).helloAt ≠ 0
  let news := reg (pP d) 6 s ≠ epoch
  let s := setPeer d { peer d s with helloAt := wall s } s
  let s := setReg (pP d) 7 (time80 (nowNs s)) (setReg (pP d) 2 (leNat mac) (setReg (pP d) 1 1 s))
  if was == 1 && !news then s
  else
    let s := setLink d 1 (setReg (pP d) 6 epoch (freshLink d s))
    if was ≠ 1 && seen then { s with bridge := { s.bridge with epoch := (s.bridge.epoch + 1) % 65536 } } else s

/-- HELLO_RECEIVE (R344, R57). -/
def execHelloReceive (frame : List Byte) (s : State) : Res :=
  .next (
    match transportBody frame with
    | none => s
    | some b =>
      if !transportOn s || !wellTaken b || hType b ≠ 1 then s
      else
        let d := hSource b
        let mac := slice 6 6 frame
        settle 8 (
          if !macGood b s then macFails b s
          else if d ≠ ownDev s then takeHello d (hEpoch b) mac s
          else if leNat mac == cfg 0x3C01 1 s then s
          else fire 0xCD d (setPeer d { peer d s with helloAt := wall s } s)))

/-- PEER_DISCOVERY_TIMEOUT (R344). -/
def execPeerDiscoveryTimeout (peer : Fin 8) (s : State) : Res :=
  .next (
    let d := peer.val
    if reg (pP d) 1 s == 1 && due (Machine.peer d s).helloAt (helloSpan s) s then setReg (pP d) 1 0 (endLink d 0 s) else s)

/-! ### Events (R349) -/

/-- The remote action of an EVENT of peer d. -/
def eventAction (d kind act arg : Nat) (data : Bytes) (s : State) : State :=
  if act == 0 then (if arg < 128 then msix arg s else s)
  else if act == 1 then (if arg < 64 && s.dev ≠ .terminal then doorbell arg (leNat (data.take 4)) s else s)
  else if act == 2 then fire 0xF3 (d + 256 * kind) s
  else s

/-- EVENT_MESSAGE_RECEIVE (R349): `data` is the transport header with its data; pairing messages have rows of their own. -/
def execEventMessageReceive (peer : Fin 8) (data : List Byte) (s : State) : Res :=
  .next (
    let kind := hStatus data % 65536
    if !transportOn s || !wellTaken (data ++ leBytes 8 0) || hType data ≠ 0x20 || kind == 0 || kind == 5 || kind == 6 || kind > 7 then s
    else settle 8 (eventAction peer.val kind (hSub data) (hIndex data) (hData data) (hostEvent 4 s)))

/-- EVENT_EXPORT (R349): the oldest firing of the entry's source. -/
def execEventExport (entry : Fin 32) (s : State) : Res :=
  .next (
    let e := entry.val
    match s.bridge.leaving.find? fun x => x.1 == e with
    | none => s
    | some x =>
      if !bridgeOn s then s
      else
        let s := { s with bridge := { s.bridge with leaving := s.bridge.leaving.erase x } }
        let v (j : Nat) : Nat := cfgE e 0x5C21 j s
        sendMsg (v 5) { tMsg 0 0x20 (v 3 + 65536 * v 4) x.2 with index := v 7, sub := v 6 } s)

/-- SOFTWARE_EVENT_SEND (R349). -/
def execSoftwareEventSend (ses : Session) (s : State) : Res := .next (serve ses softwareEvent s)

/-- PREFETCH_HOLD_END (R350). -/
def execPrefetchHoldEnd (window : Fin 32) (s : State) : Res :=
  .next (dropPrefetch (fun p => p.window == window.val && p.value.isSome && due p.since (us (win window.val 6 s)) s) s)

/-! ### Accesses of the host to BAR0 (R333, R334, R348, R350) -/

/-- An access that the endpoint does not support (R334). -/
def unsupported (isRead : Bool) (s : State) : State :=
  if isRead then hostCompletes 0x06070010 [] s else count 0x5C00 4 s

/-- UNSUPPORTED_ACCESS (R334). -/
def execUnsupportedAccess (isRead : Bool) (s : State) : Res := .next (if bar0Up s then unsupported isRead s else s)

/-- TIME80_LOW_HALF_READ (R333): the register at offset 0x10 or 0x30. -/
def execTime80LowHalfRead (offset : Fin 65536) (s : State) : Res :=
  .next (
    if s.dev = .boot || s.dev = .catch_ || !bar0Up s then s
    else
      match apertureReg offset.val with
      | some (i, j, 16) =>
        let r := registerBytes 8 (leBytes 10 (viewObj .bar0 i j (rowOf i j) s)) s
        hostCompletes 0 r.1 r.2
      | _ => s)

/-- The object that an access of so many bytes at offset y of an aperture means, with the width of its register (R334): the whole register,
or the lower half of a 16-byte one. -/
def apertureObj (y size : Nat) : Option (Nat × Nat × Nat) :=
  (apertureReg y).filter fun r => size == r.2.2 || (r.2.2 == 16 && size == 8)

/-- The upper half of a 16-byte register. -/
def upperHalf (y size : Nat) : Bool := size == 8 && decide (8 ≤ y) && ((apertureReg (y - 8)).any fun r => r.2.2 == 16)

/-- Objects that are mirrored in the aligned 64-byte block of offset y (R350). -/
def blockObjs (y : Nat) : List (Nat × Nat) :=
  (List.range' (y / 64 * 64) 64).filterMap fun x => (apertureReg x).map fun r => (r.1, r.2.1)

/-- A READ of the host leaves toward device d. -/
def apertureAsk (d i j size : Nat) (place : Nat) (y : Nat) (s : State) : State :=
  let s := newTag s
  let tag := s.bridge.nextTag
  let s := { s with bridge := { s.bridge with reads := s.bridge.reads ++ [(tag, size, wall s)] } }
  match windowOf 0 place s with
  | some w => fetchBeside w d 0 ((blockObjs y).filter (· ≠ (i, j))) (fetchObj w d 0 i j tag (count 0x5C40 1 s))
  | none => sendMsg d (requestMsg 0x10 0 tag i j 0 (rowOf i j).ty.size []) s

/-- A read of the aperture of device d. -/
def apertureRead (d y size : Nat) (s : State) : State :=
  if upperHalf y size then hostCompletes 0 (leBytes 8 s.bridge.shadow) s
  else
    match apertureObj y size with
    | none => unsupported true s
    | some (i, j, _) =>
      if d == ownDev s then
        let r := readObj .bar0 i j s
        readCompletes size r.2.1 r.2.2 r.1
      else if !discovered d s || !peerUp d s then hostCompletes 0x080000A3 [] s
      else
        match heldValue 0 d i j s with
        | some p => readCompletes size 0 (p.value.getD []) (serveHeld p s)
        | none => apertureAsk d i j size (0x8000 + 0x1000 * d + y) y s

/-- A write to the aperture of device d: reserved upper bytes must be 0 (R5, R333). -/
def apertureWrite (d y : Nat) (data : Bytes) (s : State) : State :=
  match (apertureReg y).filter fun r => data.length == r.2.2 with
  | none => unsupported false s
  | some (i, j, _) =>
    let n := (rowOf i j).ty.size
    if (data.drop n).any (· ≠ 0) then count 0x5C00 4 s
    else if d == ownDev s then
      let r := writeObj .bar0 i j 0 (data.take n) s
      if (s.dev = .terminal && (rowOf i j).acc ≠ .w1c) || r.2 ≠ 0 then count 0x5C00 4 s else settle 8 r.1
    else if !discovered d s || !peerUp d s then count 0x5C00 5 s
    else
      let gone := blockObjs y
      let s := dropPrefetch (fun p => p.window < 16 && p.device == d && gone.contains (p.index, p.sub)) s
      sendMsg d (requestMsg 0x12 0 0 i j 0 n (data.take n)) s

/-- REMOTE_APERTURE_ACCESS (R348): an access to BAR0 offset 0x8000 or above. -/
def execRemoteApertureAccess (offset : Fin 65536) (access : HostAccess) (s : State) : Res :=
  .next (
    let d := (offset.val - 0x8000) / 0x1000
    let y := offset.val % 0x1000
    if offset.val < 0x8000 || !bridgeOn s || !bar0Up s then s
    else
      match access with
      | .read size => apertureRead d y size s
      | .write data => apertureWrite d y data s)

/-! ### The endpoint (R330, R332, R336, R467) -/

/-- A reset of the PCIe function (R332, R353): MSI-X table, mailboxes, held prefetches and the requests of the mailboxes. -/
def functionReset (s : State) : State :=
  let isMbox (ses : Session) : Bool :=
    match ses with
    | .mailbox _ => true
    | _ => false
  let s := dropPrefetch (fun p => p.window < 16 && p.value.isSome) (linkLost s)
  { s with
    bridge := { s.bridge with msixMask := List.range 128, msixPend := [] }
    access := { s.access with mbox := [], remote := s.access.remote.filter fun r => !(r.path && isMbox r.ses) } }

/-- PE_PERST_N (R332, R467). -/
def execPePerstN (asserted : Bool) (s : State) : Res :=
  .next (
    if asserted == s.bridge.perst then s
    else if asserted then functionReset { s with bridge := { s.bridge with perst := true } }
    else linkTrains { s with bridge := { s.bridge with perst := false, perstAt := wall s } })

/-- FUNCTION_LEVEL_RESET (R332). -/
def execFunctionLevelReset (s : State) : Res :=
  .next (if bar0Up s then linkTrains (functionReset (count 0x5C00 8 s)) else s)

/-- PCIE_CONFIGURATION_REQUEST (R332): retried until the device has been in Operate or Configure, for at most 1.0 s. -/
def execPcieConfigurationRequest (s : State) : Res :=
  .next (
    if !bar0Up s then s
    else if s.bridge.answers || due s.bridge.perstAt 1000000000 s then emit (.completion true false []) s
    else emit (.completion false true []) s)

/-- PME_TURN_OFF (R330, R340, R368): requests in progress end as Completer Abort. -/
def execPmeTurnOff (s : State) : Res :=
  .next (
    if !bar0Up s then s
    else
      let s := each s.bridge.reads (fun _ s => hostCompletes 0x05040000 [] s) s
      setReg 0x5C00 1 4 (linkGoes true true s))

/-- PCIE_LINK_UP (R330, R467): to Gen 1–4 and 1, 2 or 4 lanes. -/
def execPcieLinkUp (gen : Fin 5) (lanes : Fin 5) (s : State) : Res :=
  .next (
    let t := linkTrains s
    if gen.val == 0 || lanes.val == 0 || lanes.val == 3 || bar0Up s || reg 0x5C00 1 t ≠ 1 || s.power.sleep ≠ 0 then s
    else
      let t := setReg 0x5C00 3 lanes.val (setReg 0x5C00 2 gen.val (setReg 0x5C00 1 2 t))
      if reg 0x5010 7 t == 0xFFFFFFFF then setReg 0x5010 7 (sinceStart t) t else t)

/-- PCIE_LINK_DOWN (R368). -/
def execPcieLinkDown (s : State) : Res := .next (if bar0Up s then linkTrains (linkLost s) else s)

/-- MSIX_VECTOR_UNMASK (R336). -/
def execMsixVectorUnmask (vector : Fin 128) (s : State) : Res :=
  .next (
    let v := vector.val
    if !bar0Up s then s
    else
      let pend := s.bridge.msixPend.contains v
      let s := { s with bridge := { s.bridge with msixMask := s.bridge.msixMask.filter (· ≠ v), msixPend := s.bridge.msixPend.filter (· ≠ v) } }
      if pend then emit (.msix v) s else s)

end Sys2Proof.Machine
end

