-- ==== Sys2Proof/Machine/Paths.lean ====
section
/-!
DEFINITION. Paths.lean: the four access paths as their requests arrive (R45–R55, R57): SDO servers, PXP, mailboxes and the SPI slave.
-/
namespace Sys2Proof.Machine

/-! ### A request with a device number (R45, R57) -/

/-- The device number means this device. -/
def ownNumber (device : Nat) (s : State) : Bool := device == 0xFF || device == ownDev s

/-- A request for another device, with at most 1,024 bytes of data (R342). -/
def pathRemote (ses : Session) (head : Bytes) (device : Nat) (write : Bool) (i j off len : Nat) (data : Bytes) (s : State) : State :=
  let t := serveWith ses done s
  if t.2 ≠ 0 then settle 8 (pathReply ses head t.2 [] t.1)
  else if len > 1024 then pathReply ses head 0x06070010 [] t.1
  else remoteAsk ⟨ses, device, write, i, j, off, len, 0, wall s, true, head⟩ (roleOf ses s) data t.1

/-- A READ of a path. `room`: the largest transfer of the path. -/
def pathRead (ses : Session) (room : Nat) (head : Bytes) (device i j off len : Nat) (s : State) : State :=
  if !ownNumber device s && len ≤ room then pathRemote ses head device false i j off len [] s
  else
    let r := askWith ses (if len > room then fun s => (s, 0x06070010, []) else readPart ses i j off len) s
    settle 8 (pathReply ses head r.2.1 r.2.2 r.1)

/-- A WRITE of a path; `len` is the length that its header states. -/
def pathWrite (ses : Session) (room : Nat) (head : Bytes) (device i j off len : Nat) (data : Bytes) (s : State) : State :=
  if data.length ≠ len || len > room then
    let r := serveWith ses (deny 0x06070010) s
    pathReply ses head r.2 [] r.1
  else if ownNumber device s then writeFor ses true head i j off data (fun c s => pathReply ses head c [] s) s
  else pathRemote ses head device true i j off len data s

/-- The paths work: past Boot and Catch, and not asleep (R47). -/
def pathOn (ses : Session) (s : State) : Bool := bridgeOn s && sessionLive ses s

/-! ### CANopen SDO (R48): the server of CiA 301 -/

def sdoOpen (n : Nat) (s : State) : Option SdoTransfer := tget none s.access.sdo n

def setSdo (n : Nat) (x : Option SdoTransfer) (s : State) : State :=
  { s with access := { s.access with sdo := tset none s.access.sdo n x } }

/-- Index and subindex as a frame names them. -/
def muxBytes (i j : Nat) : Bytes := leBytes 2 i ++ leBytes 1 j

/-- A frame filled up to 8 bytes. -/
def pad8 (l : Bytes) : Bytes := (l ++ leBytes 8 0).take 8

/-- An abort ends what is open. -/
def sdoFail (n : Nat) (mux : Bytes) (code : Nat) (s : State) : State := sdoSend n (sdoAbort mux code) (setSdo n none s)

/-- The whole object is written, and the good answer or an abort leaves. -/
def sdoWrite (n : Fin 4) (i j : Nat) (good l : Bytes) (s : State) : State :=
  writeFor (.sdo n) true (good ++ muxBytes i j) i j 0 l
    (fun c s => sdoSend n.val (if c == 0 then good else sdoAbort (muxBytes i j) c) s) (setSdo n.val none s)

/-- Initiate download: expedited, or the start of a segmented one with its size, 0 where none is given. -/
def sdoDownload (n : Fin 4) (f : Bytes) (s : State) : State :=
  let c := byteAt f 0
  let i := leNat (slice 1 2 f)
  let j := byteAt f 3
  let good := pad8 (leBytes 1 0x60 ++ slice 1 3 f)
  if bit c 1 then
    let own := if existCode i j == 0 && (rowOf i j).ty.size ≤ 4 then (rowOf i j).ty.size else 4
    sdoWrite n i j good (slice 4 (if bit c 0 then 4 - c / 4 % 4 else own) f) s
  else
    let size := if bit c 0 then leNat (slice 4 4 f) else 0
    if size > 4096 then sdoFail n.val (slice 1 3 f) 0x06070010 s
    else sdoSend n.val good (setSdo n.val (some ⟨false, false, i, j, [], size, false, 0, 0, false, false, wall s⟩) s)

/-- A segment of a download. -/
def sdoDownSeg (n : Fin 4) (x : SdoTransfer) (f : Bytes) (s : State) : State :=
  let c := byteAt f 0
  let mux := muxBytes x.index x.sub
  if bit c 4 ≠ x.toggle then sdoFail n.val mux 0x05030000 s
  else
    let buf := x.buf ++ slice 1 (7 - c / 2 % 8) f
    let good := pad8 (leBytes 1 (0x20 + 16 * b2n x.toggle))
    if buf.length > 4096 || (bit c 0 && x.size ≠ 0 && buf.length ≠ x.size) then sdoFail n.val mux 0x06070010 s
    else if bit c 0 then sdoWrite n x.index x.sub good buf s
    else sdoSend n.val good (setSdo n.val (some { x with buf := buf, toggle := !x.toggle, since := wall s }) s)

/-- Initiate upload: up to 4 bytes at once, more by segments. -/
def sdoUpload (n : Fin 4) (f : Bytes) (s : State) : State :=
  let i := leNat (slice 1 2 f)
  let j := byteAt f 3
  let r := askWith (.sdo n) (readObj (.sdo n) i j) (setSdo n.val none s)
  let k := r.2.2.length
  settle 8 (
    if r.2.1 ≠ 0 then sdoSend n.val (sdoAbort (slice 1 3 f) r.2.1) r.1
    else if k ≤ 4 then sdoSend n.val (pad8 (leBytes 1 (0x43 + 4 * (4 - k)) ++ slice 1 3 f ++ r.2.2)) r.1
    else
      sdoSend n.val (leBytes 1 0x41 ++ slice 1 3 f ++ leBytes 4 k)
        (setSdo n.val (some ⟨true, false, i, j, r.2.2, k, false, 0, 0, false, false, wall s⟩) r.1))

/-- A segment of an upload is asked for. -/
def sdoUpSeg (n : Nat) (x : SdoTransfer) (f : Bytes) (s : State) : State :=
  if bit (byteAt f 0) 4 ≠ x.toggle then sdoFail n (muxBytes x.index x.sub) 0x05030000 s
  else
    let k := min 7 x.buf.length
    let last := decide (x.buf.length ≤ 7)
    let m := pad8 (leBytes 1 (16 * b2n x.toggle + 2 * (7 - k) + b2n last) ++ x.buf.take 7)
    sdoSend n m (setSdo n (if last then none else some { x with buf := x.buf.drop 7, toggle := !x.toggle, since := wall s }) s)

/-- Initiate block upload. -/
def sdoBlockUpload (n : Fin 4) (f : Bytes) (s : State) : State :=
  let i := leNat (slice 1 2 f)
  let j := byteAt f 3
  let blk := byteAt f 4
  let s := setSdo n.val none s
  if blk == 0 || blk > 127 then sdoFail n.val (slice 1 3 f) 0x05040002 s
  else
    let r := askWith (.sdo n) (readObj (.sdo n) i j) s
    settle 8 (
      if r.2.1 ≠ 0 then sdoSend n.val (sdoAbort (slice 1 3 f) r.2.1) r.1
      else
        sdoSend n.val (leBytes 1 0xC6 ++ slice 1 3 f ++ leBytes 4 r.2.2.length)
          (setSdo n.val (some ⟨true, true, i, j, r.2.2, 0, false, blk, 0, bit (byteAt f 0) 2, false, wall s⟩) r.1))

/-- Segments of a block upload from offset `size` on. -/
def sdoSendBlock (n : Nat) (x : SdoTransfer) (s : State) : State :=
  let k := min x.blkSize (ceilDiv (x.buf.length - x.size) 7)
  let s := setSdo n (some { x with seqNo := k, since := wall s }) s
  each (List.range k) (fun m s =>
    let last := decide (x.buf.length ≤ x.size + 7 * (m + 1))
    sdoSend n (pad8 (leBytes 1 (m + 1 + 128 * b2n last) ++ slice (x.size + 7 * m) 7 x.buf)) s) s

/-- The client answers a block of an upload, starts it, or ends it. -/
def sdoUpBlock (n : Nat) (x : SdoTransfer) (f : Bytes) (s : State) : State :=
  let mux := muxBytes x.index x.sub
  match byteAt f 0 % 4 with
  | 3 => if x.seqNo ≠ 0 || x.ending then sdoFail n mux 0x05040001 s else sdoSendBlock n x s
  | 2 =>
    let ack := byteAt f 1
    let blk := byteAt f 2
    if x.seqNo == 0 || x.ending then sdoFail n mux 0x05040001 s
    else if ack > x.seqNo then sdoFail n mux 0x05040003 s
    else if blk == 0 || blk > 127 then sdoFail n mux 0x05040002 s
    else
      let x := { x with size := min x.buf.length (x.size + 7 * ack), blkSize := blk }
      if x.size == x.buf.length then
        let left := (7 - x.buf.length % 7) % 7
        sdoSend n (pad8 (leBytes 1 (0xC1 + 4 * left) ++ leBytes 2 (if x.crc then crc16 0 x.buf else 0)))
          (setSdo n (some { x with ending := true, since := wall s }) s)
      else sdoSendBlock n x s
  | 1 => if x.ending then setSdo n none s else sdoFail n mux 0x05040001 s
  | _ => sdoFail n mux 0x05040001 s

/-- Initiate block download; blocks have 127 segments. -/
def sdoBlockDownload (n : Nat) (f : Bytes) (s : State) : State :=
  let size := if bit (byteAt f 0) 1 then leNat (slice 4 4 f) else 0
  if size > 4096 then sdoFail n (slice 1 3 f) 0x06070010 s
  else
    sdoSend n (pad8 (leBytes 1 0xA4 ++ slice 1 3 f ++ leBytes 1 127))
      (setSdo n (some ⟨false, true, leNat (slice 1 2 f), byteAt f 3, [], size, false, 127, 0, bit (byteAt f 0) 2, false, wall s⟩) s)

/-- A segment of a block download: one out of sequence is dropped, and the answer to the block names the last good one. -/
def sdoDownBlock (n : Nat) (x : SdoTransfer) (f : Bytes) (s : State) : State :=
  let c := byteAt f 0
  let mux := muxBytes x.index x.sub
  if c == 0x80 then setSdo n none s
  else if c % 128 == 0 then sdoFail n mux 0x05040003 s
  else
    let inOrder := c % 128 == x.seqNo + 1
    let x := if inOrder then { x with buf := x.buf ++ f.drop 1, seqNo := x.seqNo + 1, since := wall s } else x
    if x.buf.length > 4102 then sdoFail n mux 0x06070010 s
    else if c ≥ 128 || c % 128 ≥ x.blkSize then
      sdoSend n (pad8 (leBytes 1 0xA2 ++ leBytes 1 x.seqNo ++ leBytes 1 127))
        (setSdo n (some { x with seqNo := 0, ending := inOrder && decide (c ≥ 128) }) s)
    else setSdo n (some x) s

/-- The end of a block download: unused bytes of the last segment, CRC and size are checked. -/
def sdoDownEnd (n : Fin 4) (x : SdoTransfer) (f : Bytes) (s : State) : State :=
  let l := x.buf.take (x.buf.length - byteAt f 0 / 4 % 8)
  let mux := muxBytes x.index x.sub
  if x.crc && crc16 0 l ≠ leNat (slice 1 2 f) then sdoFail n.val mux 0x05040004 s
  else if l.length > 4096 || (x.size ≠ 0 && l.length ≠ x.size) then sdoFail n.val mux 0x06070010 s
  else sdoWrite n x.index x.sub (pad8 (leBytes 1 0xA1)) l s

/-- A frame outside the segments of a block download, by its command specifier; an initiate ends what is open. -/
def sdoCommand (n : Fin 4) (f : Bytes) (s : State) : State :=
  let c := byteAt f 0
  let bad := sdoFail n.val (match sdoOpen n.val s with
    | some x => muxBytes x.index x.sub
    | none => slice 1 3 f) 0x05040001
  match c / 32, sdoOpen n.val s with
  | 1, _ => sdoDownload n f (setSdo n.val none s)
  | 2, _ => sdoUpload n f s
  | 0, some x => if x.upload || x.block then bad s else sdoDownSeg n x f s
  | 3, some x => if x.upload && !x.block then sdoUpSeg n.val x f s else bad s
  | 4, _ => setSdo n.val none s
  | 5, o =>
    if c % 4 == 0 then sdoBlockUpload n f s
    else
      match o with
      | some x => if x.upload && x.block then sdoUpBlock n.val x f s else bad s
      | none => bad s
  | 6, o =>
    if c % 2 == 0 then sdoBlockDownload n.val f (setSdo n.val none s)
    else
      match o with
      | some x => if !x.upload && x.block && x.ending then sdoDownEnd n x f s else bad s
      | none => bad s
  | _, _ => bad s

/-- SDO_REQUEST (R48): with the dictionary out of reach every request is refused (R47). -/
def execSdoRequest (server : Fin 4) (data : List Byte) (s : State) : Res :=
  .next (
    let n := server.val
    if !pathOn (.sdo server) s || data.length ≠ 8 then s
    else if !reachable s then (if byteAt data 0 == 0x80 then s else sdoSend n (sdoAbort (slice 1 3 data) 0x08000022) s)
    else
      match sdoOpen n s with
      | some x => if x.block && !x.upload && !x.ending then sdoDownBlock n x data (touch (.sdo server) s) else sdoCommand server data (touch (.sdo server) s)
      | none => sdoCommand server data (touch (.sdo server) s))

/-- SDO_SEGMENT_TIMEOUT (R48). -/
def execSdoSegmentTimeout (server : Fin 4) (s : State) : Res :=
  .next (
    let n := server.val
    match sdoOpen n s with
    | none => s
    | some x =>
      if due x.since (ms (reg (0x1200 + n) 5 s)) s then sdoFail n (muxBytes x.index x.sub) 0x05040000 s else s)

/-! ### PXP (R49–R51, R389) -/

/-- A PXP message that is discarded and counted (R51). -/
def pxpDiscard (s : State) : State := count 0x1210 6 s

/-- PXP is served, and the message has a header and a CMAC; `f` runs with a good version (R49). -/
def pxpTake (msg : Bytes) (f : State → State) (s : State) : State :=
  if !bridgeOn s || cfg 0x1210 1 s ≠ 1 || msg.length < 24 then s
  else if byteAt msg 0 ≠ 1 then pxpDiscard s
  else f s

/-- Data of a message: what stands between its header and its CMAC. -/
def pxpData (msg : Bytes) : Bytes := (msg.take (msg.length - 8)).drop 16

/-- A response without a session key: its CMAC is zero. -/
def pxpPlain (dest : PxpSource) (op : Nat) (head : Bytes) (code : Nat) (data : Bytes) (s : State) : State :=
  pxpSend dest (pxpBody op head code data ++ leBytes 8 0) s

/-- Number of sessions that have been accepted (0x1210:05). -/
def countPxp (s : State) : State :=
  setReg 0x1210 5 ((s.access.pxp.filter fun (e : Nat × Option PxpSession) => ((e.2.map PxpSession.phase).getD 0) == 2).length) s

/-- OPENs of one source address within the last second. -/
def recentOpens (addr : Nat) (s : State) : Nat := (s.access.opens.filter fun x => x.1 == addr).length

/-- A session is offered. -/
def pxpOffer (source : PxpSource) (msg : Bytes) (s : State) : State :=
  match (List.range 8).find? fun n => (pxp n s).isNone with
  | none => pxpPlain source 2 msg 0x06090031 [] s
  | some n =>
    let nonce := leBytes 16 (freeNow s)
    let s := useFree s
    let id := 1 + n + 8 * (freeNow s % 8191)
    let s := useFree s
    let d := pxpData msg
    let s := setPxp n ⟨1, id, source, byteAt d 0, d.drop 1, nonce, 0, 0, [], wall s⟩ s
    pxpPlain source 2 (slice 0 2 msg ++ leBytes 2 id ++ msg.drop 4) 0 nonce s

/-- PXP_OPEN (R50, R381). -/
def execPxpOpen (source : PxpSource) (msg : List Byte) (s : State) : Res :=
  .next (pxpTake msg (fun s =>
    let s := { s with access := { s.access with opens := s.access.opens.filter fun x => !due x.2 1000000000 s } }
    if (pxpData msg).length ≠ 17 || recentOpens source.addr.val s ≥ reg 0x1210 4 s then s
    else
      let s := { s with access := { s.access with opens := s.access.opens ++ [(source.addr.val, wall s)] } }
      if !reachable s then pxpPlain source 2 msg 0x08000022 [] s
      else if !trngWorks s then pxpPlain source 2 msg 0x06060000 [] s
      else pxpOffer source msg s) s)

/-- The fields that a PROVE covers (R389). -/
def proveFields (x : PxpSession) : Bytes := x.clientNonce ++ x.deviceNonce ++ leBytes 2 x.id ++ leBytes 1 x.role ++ leBytes 4 serialNo

/-- The session key (R389): "PXP", both nonces and the session ID under the access key of the role. -/
def pxpKey (x : PxpSession) (s : State) : Nat :=
  Config.kdf (slotValue (0xE6 + x.role) s) (beBytes 3 0x505850 ++ x.clientNonce ++ x.deviceNonce ++ leBytes 2 x.id)

/-- The proof of a PROVE: CMAC under the access key, for roles 1–4 also a signature, and the CMAC of the message under the session key. -/
def proveGood (x : PxpSession) (msg : Bytes) (s : State) : Bool :=
  let d := pxpData msg
  let l := proveFields x
  let k := 0xE6 + x.role
  x.role ≤ 4 && bit (Machine.keySlot k s).usage 4 && d.take 16 == beBytes 16 (Config.cmac (slotValue k s) l) &&
    msg.drop (msg.length - 8) == pxpMac (pxpKey x s) (msg.take (msg.length - 8)) &&
    (if x.role == 0 then d.length == 16
     else d.length == 113 && !lockedRole x.role s && lifecycle s ≠ 3 && credentialSigned x.role (byteAt d 16) l (d.drop 17) s)

/-- The PROVE of session n. -/
def pxpProof (n : Fin 8) (x : PxpSession) (source : PxpSource) (msg : Bytes) (s : State) : State :=
  let key := byteAt (pxpData msg) 16
  if proveGood x msg s then
    let s := countPxp (setPxp n.val { x with phase := 2, source := source, key := pxpKey x s, since := wall s } s)
    let s := if x.role == 0 then s else grantRole (sesCode (.pxp n)) x.role key s
    pxpReply n.val (slice 0 1 msg ++ leBytes 1 4 ++ msg.drop 2) 0 [] s
  else
    let s := pxpDiscard { s with access := { s.access with pxp := tset none s.access.pxp n.val none } }
    if x.role == 0 || x.role > 4 then s else credentialFails x.role key 1 s

/-- The session that a message names, in a given phase. -/
def pxpFind (phase : Nat) (msg : Bytes) (s : State) : Option (Fin 8) :=
  [0, 1, 2, 3, 4, 5, 6, 7].find? fun (n : Fin 8) => (pxp n.val s).any fun x => x.phase == phase && x.id == leNat (slice 2 2 msg)

/-- PXP_PROVE (R50, R389, R390). -/
def execPxpProve (source : PxpSource) (msg : List Byte) (s : State) : Res :=
  .next (pxpTake msg (fun s =>
    match pxpFind 1 msg s with
    | none => pxpDiscard s
    | some n =>
      match pxp n.val s with
      | none => s
      | some x => if reachable s then settle 8 (pxpProof n x source msg s) else s) s)

/-- A message of an accepted session (R51): accepted once, answered again from the cache, or discarded. -/
def pxpAccept (source : PxpSource) (msg : Bytes) (f : Fin 8 → State → State) (s : State) : State :=
  match pxpFind 2 msg s with
  | none => pxpDiscard s
  | some n =>
    match pxp n.val s with
    | none => s
    | some x =>
      let q := leNat (slice 4 4 msg)
      if msg.drop (msg.length - 8) ≠ pxpMac x.key (msg.take (msg.length - 8)) then pxpDiscard s
      else if q > x.lastIn then
        let s := f n (setPxp n.val { x with lastIn := q, since := wall s, source := source, cached := [] } s)
        if q == 0xFFFFFFFF then settle 8 (endSession (.pxp n) s) else s
      else if q == x.lastIn && q ≠ 0 then (if x.cached.isEmpty then s else pxpSend source x.cached s)
      else pxpDiscard s

/-- Without the dictionary every request is refused by the access-channel hardware (R37, R47), with no CMAC where no session is known. -/
def pxpServed (source : PxpSource) (msg : Bytes) (f : Fin 8 → State → State) (s : State) : State :=
  pxpTake msg (fun s =>
    if reachable s || (pxpFind 2 msg s).isSome then pxpAccept source msg f s
    else pxpPlain source (byteAt msg 1) msg 0x08000022 [] s) s

/-- PXP_READ (R51). -/
def execPxpRead (source : PxpSource) (msg : List Byte) (s : State) : Res :=
  .next (pxpServed source msg (fun n s =>
    pathRead (.pxp n) 1400 (msg.take 16) (byteAt msg 8) (leNat (slice 10 2 msg)) (byteAt msg 9) (leNat (slice 12 2 msg))
      (leNat (slice 14 2 msg)) s) s)

/-- PXP_WRITE (R51). -/
def execPxpWrite (source : PxpSource) (msg : List Byte) (s : State) : Res :=
  .next (pxpServed source msg (fun n s =>
    pathWrite (.pxp n) 1400 (msg.take 16) (byteAt msg 8) (leNat (slice 10 2 msg)) (byteAt msg 9) (leNat (slice 12 2 msg))
      (leNat (slice 14 2 msg)) (pxpData msg) s) s)

/-- PXP_KEEPALIVE (R51). -/
def execPxpKeepalive (source : PxpSource) (msg : List Byte) (s : State) : Res :=
  .next (pxpTake msg (pxpAccept source msg (fun n s => pxpReply n.val (msg.take 16) 0 [] s)) s)

/-- PXP_CLOSE (R51): the answer leaves, and the session is lost (R39). -/
def execPxpClose (source : PxpSource) (msg : List Byte) (s : State) : Res :=
  .next (pxpTake msg (pxpAccept source msg (fun n s =>
    settle 8 (endSession (.pxp n) (pxpReply n.val (msg.take 16) 0 [] s)))) s)

/-- PXP_IDLE_TIMEOUT (R51). -/
def execPxpIdleTimeout (session : Fin 8) (s : State) : Res :=
  .next (
    match pxp session.val s with
    | none => s
    | some x =>
      if due x.since (reg 0x1210 3 s * 1000000000) s then settle 8 (countPxp (endSession (.pxp session) s)) else s)

/-! ### Mailboxes (R52, R53) -/

/-- A doorbell, after the host has written `clear` to Done (W1C): ignored while a request runs or Done bit 0 is set. -/
def mailboxRing (m : Fin 4) (clear : Nat) (f : State → State) (s : State) : State :=
  if !bridgeOn s || !bar0Up s then s
  else
    let x := mailbox m.val s
    let x := { x with done := x.done && !bit clear 0, overrun := x.overrun && !bit clear 1 }
    if x.busy || x.done then setMailbox m.val { x with overrun := true } s
    else f (setMailbox m.val { x with busy := true } s)

/-- MAILBOX_READ (R53). -/
def execMailboxRead (mbox : Fin 4) (clear : Fin 4) (device : Byte) (index : Fin 65536) (sub : Fin 256) (offset length : Fin 65536)
    (s : State) : Res :=
  .next (mailboxRing mbox clear.val
    (pathRead (.mailbox mbox) 4096 [] device.toNat index.val sub.val offset.val length.val) s)

/-- MAILBOX_WRITE (R53). -/
def execMailboxWrite (mbox : Fin 4) (clear : Fin 4) (device : Byte) (index : Fin 65536) (sub : Fin 256) (offset : Fin 65536)
    (data : List Byte) (s : State) : Res :=
  .next (mailboxRing mbox clear.val
    (pathWrite (.mailbox mbox) 4096 [] device.toNat index.val sub.val offset.val data.length data) s)

/-! ### SPI management slave (R54, R55) -/

/-- The header of a request. -/
def spiHeader (op device i j off len : Nat) : Bytes :=
  leBytes 1 op ++ leBytes 1 device ++ leBytes 2 i ++ leBytes 1 j ++ leBytes 1 0 ++ leBytes 2 off ++ leBytes 2 len

/-- A request is in execution or its result waits. -/
def spiBusy (s : State) : Bool := s.access.spi.isSome || s.access.remote.any fun r => r.ses = .spi && r.path

/-- A request transaction: lost before step 12 (R468), discarded with a bad CRC or while a result waits (R55). -/
def spiRequest (head data : Bytes) (crc : Nat) (f : State → State) (s : State) : State :=
  if !pathOn .spi s then s
  else if crc16 0xFFFF (head ++ data) ≠ crc then count 0x1230 2 s
  else if spiBusy s then setReg 0x1230 3 1 s
  else f s

/-- SPI_READ (R54). -/
def execSpiRead (device : Byte) (index : Fin 65536) (sub : Fin 256) (offset length : Fin 65536) (crc : Fin 65536) (s : State) : Res :=
  .next (spiRequest (spiHeader 0x10 device.toNat index.val sub.val offset.val length.val) [] crc.val
    (pathRead .spi 256 [] device.toNat index.val sub.val offset.val length.val) s)

/-- SPI_WRITE (R54). -/
def execSpiWrite (device : Byte) (index : Fin 65536) (sub : Fin 256) (offset length : Fin 65536) (data : List Byte) (crc : Fin 65536)
    (s : State) : Res :=
  .next (spiRequest (spiHeader 0x11 device.toNat index.val sub.val offset.val length.val) data crc.val
    (pathWrite .spi 256 [] device.toNat index.val sub.val offset.val length.val data) s)

/-- SPI_FETCH (R54, R55), also of a result of the recovery loader (R446). -/
def execSpiFetch (s : State) : Res :=
  .next (
    if !(s.power.recovery && s.power.reset == 0) && !pathOn .spi s then s
    else
      let r := s.access.spi.getD (0x08000022, [])
      let l := leBytes 4 r.1 ++ r.2
      let s := emit (.spi (l ++ beBytes 2 (crc16 0xFFFF l))) s
      if s.access.spi.isSome then emit (.ball "MS_INT_N" 1) { s with access := { s.access with spi := none } } else s)

end Sys2Proof.Machine
end

