-- ==== Sys2Proof/Machine/Copy.lean ====
section
/-!
DEFINITION. Copy.lean: copy channels (R359, R364).
-/
namespace Sys2Proof.Machine

/-- Bytes of a width code (R359). -/
def codeWidth (c : Nat) : Nat := if c == 5 then 64 else 2 ^ c

/-- One end of a copy: a device endpoint with index, subindex and byte offset, or a host address; its element width, and whether its address
stays (R359). -/
structure CopyEnd where
  device : Bool
  index : Nat
  sub : Nat
  addr : Nat
  width : Nat
  fixed : Bool
deriving DecidableEq, Repr

def copySrc (d : Bytes) : CopyEnd :=
  let f := byteAt d 22
  let w := codeWidth (byteAt d 21 % 16)
  if bit f 0 then ⟨true, leNat (slice 0 2 d), byteAt d 2, leNat (slice 3 2 d), w, bit f 2⟩ else ⟨false, 0, 0, leNat (slice 0 8 d), w, bit f 2⟩

def copyDst (d : Bytes) : CopyEnd :=
  let f := byteAt d 22
  let w := codeWidth (byteAt d 21 / 16)
  if bit f 1 then ⟨true, leNat (slice 8 2 d), byteAt d 10, leNat (slice 11 2 d), w, bit f 3⟩
  else ⟨false, 0, 0, leNat (slice 8 8 d), w, bit f 3⟩

/-- Requests of a burst end: up to 128 bytes, split at 4 KiB boundaries. -/
def bursts : Nat → Nat → Nat → List (Nat × Nat)
  | 0, _, _ => []
  | k + 1, a, n => if n == 0 then [] else
      let m := min (min 128 n) (4096 - a % 4096)
      (a, m) :: bursts k (a + m) (n - m)

/-- Accesses that move n bytes at one end, each with its address, or offset, and its length (R364). -/
def pieces (e : CopyEnd) (n : Nat) : List (Nat × Nat) :=
  if !e.device && e.width == 64 && !e.fixed then bursts n e.addr n
  else (List.range (ceilDiv n e.width)).map fun k => (if e.fixed then e.addr else e.addr + k * e.width, min e.width (n - k * e.width))

/-- The accesses of n bytes at a device endpoint that R29, R30 or R364 refuse. -/
def endRefused (e : CopyEnd) (n : Nat) (dst : Bool) (s : State) : Bool :=
  if !e.device then false
  else
    let t := (rowOf e.index e.sub).ty
    let last := if e.fixed then e.addr else e.addr + n - e.width
    !reachable s || n % e.width ≠ 0 || existCode e.index e.sub ≠ 0 || !lengthFits t e.addr e.width || !lengthFits t last e.width ||
      (if dst then [Acc.rwc, Acc.seal, Acc.ro].contains (rowOf e.index e.sub).acc || readRole e.index e.sub ≠ 0
       else readCode .bar0 e.index e.sub s ≠ 0)

/-- A source piece: its bytes, or none where the access is refused. -/
def copyRead (e : CopyEnd) (p : Nat × Nat) (host : Bytes) (s : State) : Option Bytes × State :=
  if e.device then
    let r := readPart .bar0 e.index e.sub p.1 p.2 s
    (if r.2.1 == 0 then some r.2.2 else none, r.1)
  else (some (host.take p.2), emit (.hostRead p.1 p.2) s)

/-- A destination piece: whether the access is accepted. -/
def copyWrite (e : CopyEnd) (p : Nat × Nat) (l : Bytes) (s : State) : Bool × State :=
  if e.device then
    let r := writeObj .bar0 e.index e.sub p.1 l s
    (r.2 == 0, r.1)
  else (true, emit (.hostWrite p.1 l) s)

/-- How a piece of host memory comes: the status that ends the descriptor, 1 for good data (R361). -/
def hostStatus (h : HostRead) (k : Nat) : Nat :=
  match h with
  | .good => 1
  | .poisoned m => if m == k then 5 else 1
  | .failed m => if m == k then 9 else 1

/-- What a copy has done: status, and bytes moved. -/
abbrev CopyDone := Nat × Nat × State

/-- The holding register `buf` is filled piece by piece, and drained as soon as it holds a destination piece (R364). `k`: source pieces read. -/
def copyRun (src dst : CopyEnd) (h : HostRead) :
    Nat → Nat → List (Nat × Nat) → List (Nat × Nat) → Bytes → Bytes → Nat → State → CopyDone
  | 0, _, _, _, _, _, moved, s => (1, moved, s)
  | _ + 1, _, _, [], _, _, moved, s => (1, moved, s)
  | fuel + 1, k, from_, p :: to_, host, buf, moved, s =>
    if p.2 ≤ buf.length then
      let r := copyWrite dst p (buf.take p.2) s
      if r.1 then copyRun src dst h fuel k from_ to_ host (buf.drop p.2) (moved + p.2) r.2 else (8, moved, r.2)
    else
      match from_ with
      | [] => (1, moved, s)
      | q :: rest =>
        let r := copyRead src q host s
        let bad := if src.device then 1 else hostStatus h k
        if bad ≠ 1 then (bad, moved, r.2)
        else
          match r.1 with
          | none => (8, moved, r.2)
          | some l => copyRun src dst h fuel (k + 1) rest (p :: to_) (host.drop q.2) (buf ++ l) moved r.2

/-- COPY_DESCRIPTOR (R364): the descriptor in work of a copy channel. `data`: what host memory holds at its source, `host`: how its reads
end, by the number of the request. -/
def execCopyDescriptor (channel : Fin 64) (data : List Byte) (host : HostRead) (s : State) : Res :=
  .next (
    let n := channel.val
    match (dma n s).fetched with
    | [] => s
    | f :: t =>
      if !dmaRuns n s || dmaKind n s ≠ 3 || endpointGoes n s then s
      else
        let len := dLen f.2
        let a := copySrc f.2
        let b := copyDst f.2
        if !a.device && data.length ≠ len then s
        else
          let s := setDma n { dma n s with fetched := t } s
          let r : CopyDone :=
            if endRefused a len false s || endRefused b len true s then (8, 0, s)
            else
              let x := pieces a len
              let y := pieces b len
              copyRun a b host (x.length + y.length) 0 x y data [] 0 s
          settle 8 (
            let s := dmaEnd n f r.2.1 r.1 false r.2.2
            refuseHeads n (dma n s).fetched.length s))

end Sys2Proof.Machine
end

