-- ==== Sys2Proof/Machine/Wake.lean ====
section
/-!
DEFINITION. Wake.lean: the device's sleep and wake (R88, R124, R288–R293, R301, R303, R304), and the fail-safe path to sleep (R308–R310).
-/
namespace Sys2Proof.Machine

/-! ### Going to sleep (R301) -/

/-- Queued sealed records go to flash. -/
def flushLog (s : State) : State :=
  each s.crust.queue flashRecord { s with crust := { s.crust with queue := [] } }

/-- SLEEP_READY (R301 step 3): firmware's flash writes are done; calibration is stored, and the digests of the images are sealed, for the
depths that need them. -/
def execSleepReady (s : State) : Res :=
  .next (
    if s.wake.committed && !s.wake.ready && reg 0x5040 8 s == 1 && s.access.coreUp then
      let depth := cfg 0x5040 1 s
      let s := flushLog (copyFreshness s)
      setReg 0x5040 8 0 { s with
        wake := { s.wake with ready := true }
        power := { s.power with calibrated := decide (depth ≠ 1) }
        crust := { s.crust with sealedDigest := decide (depth ≠ 0) } }
    else s)

/-- What every sleep entry discards (R88, R124): dynamic FDB entries, frames and queues, and what the Braider holds. The retired ells stay
out of the free list. -/
def sleepDiscard (s : State) : State :=
  let b := s.buf
  { s with
    dyn := [], flush := none, decs := [], egress := []
    buf := { buf0 with
      fresh := b.fresh, freed := (List.range b.fresh).filter fun e => !b.retired.contains e
      retired := b.retired, corrected := b.corrected, doomed := b.doomed.filter fun e => !b.retired.contains e, scanAt := b.scanAt }
    braid := { s.braid with recs := [], routes := [], streams := [], unpack := [], caught := [], replay := [], windows := s.braid.windows
                            can := tmap canSt0 (fun x => { x with slots := [] }) s.braid.can } }

/-- PD_CORE stops (R290, R301 steps 4 and 5): the remaining domains are switched off, PCIe goes to L2, the time counts are copied; the device
sleeps at the given depth, 1 warm and 2 cold. -/
def stopCore (depth : Nat) (s : State) : State :=
  let s := each (List.range 16) switchOff s
  let s := setReg 0x5C00 1 4 (emit (.ball "PE_WAKE_N" 1) (timeLow s))
  let s := sleepDiscard (if s.time.tclk then saveTime true s else s)
  let s := setReg 0x5030 1 0 (setReg 0x5040 9 (depth - 1) s)
  let s := if depth == 2 then setReg 0x5030 2 0 s else s
  let s := emit (.ball "INH_OUT1" 0) s
  let s := if depth == 2 then emit (.ball "INH_OUT0" 0) s else s
  { s with
    dev := .boot
    access := { s.access with
      coreUp := false, available := false, holder := none, validating := false, sdo := [], pxp := [], mbox := [], spi := none, remote := [] }
    crust := { s.crust with roles := [], requested := [], challenges := [] }
    power := { s.power with sleep := depth }
    wake := { s.wake with committed := false, ready := false, sleptAt := wall s, timerDone := false, called := none } }

/-- DEVICE_SLEEP_ENTRY (R292, R301): the last standby point and sleep-ready are both reached. -/
def execDeviceSleepEntry (s : State) : Res :=
  .next (
    if s.dev = .sleepPrep && s.wake.committed && s.wake.ready && (memberClusters s).all (fun c => clusterState c s == 0) then
      settle 4 (withInh (stopCore (if cfg 0x5040 1 s == 1 then 2 else 1)) s)
    else s)

/-- WARM_DWELL_LIMIT (R293): at depth 2 the warm sleep becomes a cold one. -/
def execWarmDwellLimit (s : State) : Res :=
  .next (
    if s.power.sleep == 1 && cfg 0x5040 1 s == 2 && s.wake.called.isNone && due s.wake.sleptAt (cfg 0x5040 2 s * 60000000000) s then
      emit (.ball "INH_OUT0" 0) (setReg 0x5030 2 0 (setReg 0x5040 9 1 { s with power := { s.power with sleep := 2 } }))
    else s)

/-! ### Waking (R303, R304) -/

/-- A cold wake (R304, R450): the wake domain raises INH_OUT, the XTAL amplifier starts, and the device is held in its reset until PORST_N
is released; the clusters that were not woken stay asleep. -/
def coldWake (n : Nat) (s : State) : State :=
  let m := wakeSet n s
  let states := (memberClusters s).map fun c => (c, if bit m c then 1 else 0)
  let xtal := if s.power.sleep == 2 then 1 else reg 0x5030 2 s
  let s := setReg 0x5030 2 xtal (holdReset 7 (inhHigh s))
  each states (fun x s => setClusterState x.1 x.2 s) s

/-- COLD_WAKE (R304). -/
def execColdWake (s : State) : Res :=
  .next (
    match s.wake.called with
    | some n => if s.power.sleep == 2 && s.power.busUp && s.power.aonUp then coldWake n s else s
    | none => s)

/-- A wake draws the values of a new start (R196, R203, R377, R380, R381, R392): transforms, lane and TRNG tests, persistent keys, log. -/
def wakeCrust (s : State) : State :=
  let s := setReg 0x6000 8 0 (setReg 0x6000 3 2 (drawTransforms s))
  let s := setLane 1 { lane 1 s with testing := true, latent := [] } (setLane 0 { lane 0 s with testing := true, latent := [] } s)
  let k := if s.crust.noRestore then s.crust.slots else s.crust.stored.foldl (fun t e => tput t e.1 e.2) s.crust.slots
  wakeEvents (compareLog { s with crust := { s.crust with slots := k, sealedDigest := false } })

/-- Members of woken clusters capture, and their clusters wake (R225, R299, R303). -/
def wakeClusters (m : Nat) (s : State) : State :=
  let l := (bitsOf 8 m).filter fun c => hasMembers c s
  let loose := (List.range 64).filter fun e => (clusterOf e s).isNone
  let s := captureJoin ((l.flatMap fun c => clusterEngines c s) ++ loose) s
  each l (fun c s => startWaking c none s) s

/-- A warm wake (R303): the device is restored from retention. -/
def warmWake (n : Nat) (s : State) : State :=
  let m := wakeSet n s
  let s := emit (.ball "INH_OUT1" 1) s
  let s := { s with
    power := { s.power with sleep := 0, warm := true, digest := false, started := wall s, step := 0, carried := [], issued := [] }
    wake := { s.wake with called := none, watchdog := wall s }
    idScan := [], idWait := [], time := { s.time with acquired := false } }
  let s := setReg 0x5040 8 2 (setReg 0x5030 4 (freeNow s % 2 ^ 32) (setReg 0x5030 1 0x2F (useFree s)))
  let s := noteWake n 1 (restoreComparators (restoreTime s))
  let s := each [1, 3, 4, 5, 6] (fun j s => setReg 0x5010 j 0 s) (setReg 0x5010 7 0xFFFFFFFF (setReg 0x3C90 2 0 s))
  let s := wakeClusters m s
  let s := if cfg 0x5040 5 s == 1 then emit (.ball "PE_WAKE_N" 0) s else s
  let s := { s with access := { s.access with coreUp := true, available := true } }
  let s := wakeCrust s
  let s := setDev (if s.faults.terminal then .terminal else .operate) s
  let s := braidCommit s.cfg s.cfg (plcaWake (pairWake s))
  let s := each (List.range 8) (fun c s => finishWaking c (resumeCluster c s)) s
  let s := each (List.range 48) (canCommit s.cfg s.cfg) s
  let s := startReplay (each (List.range 16) (linCommit s.cfg) s)
  refreshEval (peckRequest 2 (peckRequest 1 (requestUnits s)))

/-- WARM_WAKE (R303, R450): with retention lost it is served as a cold wake. -/
def execWarmWake (s : State) : Res :=
  .next (
    match s.wake.called with
    | some n =>
      if s.power.sleep ≠ 1 || !s.power.aonUp then s
      else if s.power.retentionLost then coldWake n s else settle 8 (withInh (warmWake n) s)
    | none => s)

/-- WAKE_DONE (R308, R309): firmware reports it when the device reaches Operate or Configure. -/
def execWakeDone (s : State) : Res :=
  .next (
    if reg 0x5040 8 s == 2 && s.access.coreUp && (s.dev = .operate || s.dev = .configure) then setReg 0x5043 2 0 (setReg 0x5040 8 0 s)
    else s)

/-! ### The fail-safe path (R308–R310) -/

/-- Backoff in s after the n-th consecutive fail-safe sleep (R309). -/
def backoffTime (n : Nat) : Nat := if n < 3 then 0 else min 960 (60 * 2 ^ min 4 (n - 3))

/-- The wake domain takes the fail-safe path with a cause (R308): the device is in cold sleep. -/
def failSafe (why : Nat) (s : State) : State :=
  let k := min 255 (reg 0x5043 2 s + 1)
  let s := setReg 0x5043 5 (time80 (nowNs s)) (setReg 0x5043 3 why (setReg 0x5043 2 k (count 0x5043 1 s)))
  let s := stopCore 2 s
  let b := backoffTime k
  let s := { s with wake := { s.wake with
    unrecorded := true, backoff := if b == 0 then s.wake.backoff else wall s + b * 1000000000 } }
  setReg 0x5040 8 0 s

/-- The watchdog is held (R470): while no firmware verifies, and while BOOT_SEL asks for the recovery loader. -/
def watchdogHeld (s : State) : Bool := srcSet 0xA2 s || field (reg 0x5050 1 s) 0 2 == 1

/-- WAKE_WATCHDOG_EXPIRY (R308, R470). -/
def execWakeWatchdogExpiry (s : State) : Res :=
  .next (
    if reg 0x5040 8 s ≠ 0 && s.power.reset == 0 && s.power.extending.isNone && s.power.sleep == 0 && s.power.aonUp && !watchdogHeld s &&
        due s.wake.watchdog (ms 500) s then settle 4 (withInh (failSafe (reg 0x5040 8 s)) s)
    else s)

/-- SAFE_SLEEP_TIMEOUT (R310). -/
def execSafeSleepTimeout (s : State) : Res :=
  .next (
    let t := cfg 0x5040 4 s
    if (s.dev = .safe || s.dev = .terminal) && t ≠ 0 && due s.wake.safeAt (t * 1000000000) s && s.power.sleep == 0 && s.power.aonUp then
      settle 4 (withInh (failSafe 3) s)
    else s)

end Sys2Proof.Machine
end

