-- ==== Sys2Proof/Machine/Dispatch.lean ====
section
/-!
DEFINITION. Dispatch.lean: one arm per command.
-/
namespace Sys2Proof.Machine

def exec (i : Instr) (s : State) : Host.Outcome State Fault Refusal :=
  match i with
  | .dictionaryWrite ses index sub offset data => Sys2Proof.Machine.execDictionaryWrite ses index sub offset data s
  | .configureRequest ses => Sys2Proof.Machine.execConfigureRequest ses s
  | .commit ses => Sys2Proof.Machine.execCommit ses s
  | .commitValidationComplete => Sys2Proof.Machine.execCommitValidationComplete s
  | .discard ses => Sys2Proof.Machine.execDiscard ses s
  | .configureIdleRelease => Sys2Proof.Machine.execConfigureIdleRelease s
  | .sessionLoss ses => Sys2Proof.Machine.execSessionLoss ses s
  | .sdoRequest server data => Sys2Proof.Machine.execSdoRequest server data s
  | .sdoSegmentTimeout server => Sys2Proof.Machine.execSdoSegmentTimeout server s
  | .pxpOpen source msg => Sys2Proof.Machine.execPxpOpen source msg s
  | .pxpProve source msg => Sys2Proof.Machine.execPxpProve source msg s
  | .pxpRead source msg => Sys2Proof.Machine.execPxpRead source msg s
  | .pxpWrite source msg => Sys2Proof.Machine.execPxpWrite source msg s
  | .pxpKeepalive source msg => Sys2Proof.Machine.execPxpKeepalive source msg s
  | .pxpClose source msg => Sys2Proof.Machine.execPxpClose source msg s
  | .pxpIdleTimeout session => Sys2Proof.Machine.execPxpIdleTimeout session s
  | .mailboxRead mbox clear device index sub offset length => Sys2Proof.Machine.execMailboxRead mbox clear device index sub offset length s
  | .mailboxWrite mbox clear device index sub offset data => Sys2Proof.Machine.execMailboxWrite mbox clear device index sub offset data s
  | .spiRead device index sub offset length crc => Sys2Proof.Machine.execSpiRead device index sub offset length crc s
  | .spiWrite device index sub offset length data crc => Sys2Proof.Machine.execSpiWrite device index sub offset length data crc s
  | .spiFetch => Sys2Proof.Machine.execSpiFetch s
  | .remoteResponseTimeout request => Sys2Proof.Machine.execRemoteResponseTimeout request s
  | .managementCoreWatchdog => Sys2Proof.Machine.execManagementCoreWatchdog s
  | .firmwareReturn => Sys2Proof.Machine.execFirmwareReturn s
  | .headlessTimeout => Sys2Proof.Machine.execHeadlessTimeout s
  | .portBringUp port phyId => Sys2Proof.Machine.execPortBringUp port phyId s
  | .phyIdentifierRetry port phyId => Sys2Proof.Machine.execPhyIdentifierRetry port phyId s
  | .initEntryDelayEnd port => Sys2Proof.Machine.execInitEntryDelayEnd port s
  | .linkPoll port linkBit => Sys2Proof.Machine.execLinkPoll port linkBit s
  | .pcsLoss port => Sys2Proof.Machine.execPcsLoss port s
  | .linkUp port rate => Sys2Proof.Machine.execLinkUp port rate s
  | .inBandRateChange port rate => Sys2Proof.Machine.execInBandRateChange port rate s
  | .starvedFallback port => Sys2Proof.Machine.execStarvedFallback port s
  | .mdioRead ses port => Sys2Proof.Machine.execMdioRead ses port s
  | .mdioWrite ses port => Sys2Proof.Machine.execMdioWrite ses port s
  | .idRecordRead slot answered record => Sys2Proof.Machine.execIdRecordRead slot answered record s
  | .idBusStretchTimeout slot => Sys2Proof.Machine.execIdBusStretchTimeout slot s
  | .recordSignatureCheck slot => Sys2Proof.Machine.execRecordSignatureCheck slot s
  | .foreignBeacon port => Sys2Proof.Machine.execForeignBeacon port s
  | .tc10SleepEntry port acknowledged => Sys2Proof.Machine.execTc10SleepEntry port acknowledged s
  | .tc10WakePulse port => Sys2Proof.Machine.execTc10WakePulse port s
  | .ethernetFrameReceive port frame => Sys2Proof.Machine.execEthernetFrameReceive port frame s
  | .verdictRelease frame => Sys2Proof.Machine.execVerdictRelease frame s
  | .transmissionSelection port => Sys2Proof.Machine.execTransmissionSelection port s
  | .frameTransmitEnd port seen => Sys2Proof.Machine.execFrameTransmitEnd port seen s
  | .fdbAgeingScan => Sys2Proof.Machine.execFdbAgeingScan s
  | .fdbFlushAll ses => Sys2Proof.Machine.execFdbFlushAll ses s
  | .fdbFlushByPort ses => Sys2Proof.Machine.execFdbFlushByPort ses s
  | .fdbFlushByFid ses => Sys2Proof.Machine.execFdbFlushByFid ses s
  | .fdbFlushComplete => Sys2Proof.Machine.execFdbFlushComplete s
  | .fdbLookUp ses => Sys2Proof.Machine.execFdbLookUp ses s
  | .fdbWriteStatic ses => Sys2Proof.Machine.execFdbWriteStatic ses s
  | .fdbDeleteStatic ses => Sys2Proof.Machine.execFdbDeleteStatic ses s
  | .readCommitted ses table => Sys2Proof.Machine.execReadCommitted ses table s
  | .writeStaged ses table => Sys2Proof.Machine.execWriteStaged ses table s
  | .clearEntryCounters ses table => Sys2Proof.Machine.execClearEntryCounters ses table s
  | .flowDeleteStaged ses => Sys2Proof.Machine.execFlowDeleteStaged ses s
  | .frerResetTimeout stream => Sys2Proof.Machine.execFrerResetTimeout stream s
  | .orphanScan => Sys2Proof.Machine.execOrphanScan s
  | .overloadTick => Sys2Proof.Machine.execOverloadTick s
  | .hostRingDrop queue => Sys2Proof.Machine.execHostRingDrop queue s
  | .streamGateEntryChange gate => Sys2Proof.Machine.execStreamGateEntryChange gate s
  | .streamGateClearLatch ses => Sys2Proof.Machine.execStreamGateClearLatch ses s
  | .filterClearBlocked ses => Sys2Proof.Machine.execFilterClearBlocked ses s
  | .meterClearLatch ses => Sys2Proof.Machine.execMeterClearLatch ses s
  | .gateEntryChange port => Sys2Proof.Machine.execGateEntryChange port s
  | .gateListSwitchOver port => Sys2Proof.Machine.execGateListSwitchOver port s
  | .gateEntryRead ses => Sys2Proof.Machine.execGateEntryRead ses s
  | .gateEntryWriteStaged ses => Sys2Proof.Machine.execGateEntryWriteStaged ses s
  | .holdAssert port => Sys2Proof.Machine.execHoldAssert port s
  | .holdRelease port => Sys2Proof.Machine.execHoldRelease port s
  | .verifyMpacketSend port => Sys2Proof.Machine.execVerifyMpacketSend port s
  | .verifyMpacketReceive port => Sys2Proof.Machine.execVerifyMpacketReceive port s
  | .respondMpacketReceive port => Sys2Proof.Machine.execRespondMpacketReceive port s
  | .passPairOutcome lane pair => Sys2Proof.Machine.execPassPairOutcome lane pair s
  | .laneDrainEnd lane => Sys2Proof.Machine.execLaneDrainEnd lane s
  | .restoreLane ses lane => Sys2Proof.Machine.execRestoreLane ses lane s
  | .laneSelfTestComplete lane passed => Sys2Proof.Machine.execLaneSelfTestComplete lane passed s
  | .seededComparatorTest lane => Sys2Proof.Machine.execSeededComparatorTest lane s
  | .comparatorFault lane => Sys2Proof.Machine.execComparatorFault lane s
  | .guardSpoof engine kind frame => Sys2Proof.Machine.execGuardSpoof engine kind frame s
  | .quarantineEnd engine => Sys2Proof.Machine.execQuarantineEnd engine s
  | .guardClearCounters ses => Sys2Proof.Machine.execGuardClearCounters ses s
  | .zonePairCountersRead ses => Sys2Proof.Machine.execZonePairCountersRead ses s
  | .zonePairCountersClear ses => Sys2Proof.Machine.execZonePairCountersClear ses s
  | .freshnessFlashCopy => Sys2Proof.Machine.execFreshnessFlashCopy s
  | .canFrameReceive engine frame sofAgo => Sys2Proof.Machine.execCanFrameReceive engine frame sofAgo s
  | .protocolException engine => Sys2Proof.Machine.execProtocolException engine s
  | .canBusError engine error => Sys2Proof.Machine.execCanBusError engine error s
  | .busOffHoldOffEnd engine => Sys2Proof.Machine.execBusOffHoldOffEnd engine s
  | .busOffRecoveryComplete engine => Sys2Proof.Machine.execBusOffRecoveryComplete engine s
  | .canRecover ses engine => Sys2Proof.Machine.execCanRecover ses engine s
  | .canClearCounters ses engine => Sys2Proof.Machine.execCanClearCounters ses engine s
  | .transmitSlotSelection engine => Sys2Proof.Machine.execTransmitSlotSelection engine s
  | .transmitConfirmation engine loopDelay => Sys2Proof.Machine.execTransmitConfirmation engine loopDelay s
  | .transmitAttemptFailed engine byArbitration loopDelay => Sys2Proof.Machine.execTransmitAttemptFailed engine byArbitration loopDelay s
  | .busHeldDominant engine => Sys2Proof.Machine.execBusHeldDominant engine s
  | .engineSettingsTakeover engine => Sys2Proof.Machine.execEngineSettingsTakeover engine s
  | .captureJoin => Sys2Proof.Machine.execCaptureJoin s
  | .linSlotStart bus => Sys2Proof.Machine.execLinSlotStart bus s
  | .linHeaderReceive bus ident measured => Sys2Proof.Machine.execLinHeaderReceive bus ident measured s
  | .linResponseReceive bus response => Sys2Proof.Machine.execLinResponseReceive bus response s
  | .linResponseTimeout bus bytesSeen => Sys2Proof.Machine.execLinResponseTimeout bus bytesSeen s
  | .linTableRequest ses bus table => Sys2Proof.Machine.execLinTableRequest ses bus table s
  | .linWakeUp ses bus => Sys2Proof.Machine.execLinWakeUp ses bus s
  | .linGoToSleep ses bus => Sys2Proof.Machine.execLinGoToSleep ses bus s
  | .linClearCounters ses bus => Sys2Proof.Machine.execLinClearCounters ses bus s
  | .goToSleepReceive bus => Sys2Proof.Machine.execGoToSleepReceive bus s
  | .transceiverStandbyRequest engine => Sys2Proof.Machine.execTransceiverStandbyRequest engine s
  | .transceiverModeChangeEnd engine => Sys2Proof.Machine.execTransceiverModeChangeEnd engine s
  | .routeExecute => Sys2Proof.Machine.execRouteExecute s
  | .periodicTransmit route => Sys2Proof.Machine.execPeriodicTransmit route s
  | .minimumIntervalEnd route => Sys2Proof.Machine.execMinimumIntervalEnd route s
  | .limiterTokenRelease limiter => Sys2Proof.Machine.execLimiterTokenRelease limiter s
  | .transmitWindowEdge engine => Sys2Proof.Machine.execTransmitWindowEdge engine s
  | .containerDeadlineClose stream => Sys2Proof.Machine.execContainerDeadlineClose stream s
  | .containerUnpack => Sys2Proof.Machine.execContainerUnpack s
  | .beaconAlignment port => Sys2Proof.Machine.execBeaconAlignment port s
  | .plcaTakeover port => Sys2Proof.Machine.execPlcaTakeover port s
  | .replayRecordSubmit => Sys2Proof.Machine.execReplayRecordSubmit s
  | .replayEnd => Sys2Proof.Machine.execReplayEnd s
  | .ptpMessageReceive port msg => Sys2Proof.Machine.execPtpMessageReceive port msg s
  | .syncReceive msg => Sys2Proof.Machine.execSyncReceive msg s
  | .ppsInEdge => Sys2Proof.Machine.execPpsInEdge s
  | .linkDelayExchange port exchange => Sys2Proof.Machine.execLinkDelayExchange port exchange s
  | .syncReceiptTimeout => Sys2Proof.Machine.execSyncReceiptTimeout s
  | .ppsInTimeout => Sys2Proof.Machine.execPpsInTimeout s
  | .holdoverLimit => Sys2Proof.Machine.execHoldoverLimit s
  | .stepBy ses => Sys2Proof.Machine.execStepBy ses s
  | .setAbsolute ses => Sys2Proof.Machine.execSetAbsolute ses s
  | .comparatorArm ses comp => Sys2Proof.Machine.execComparatorArm ses comp s
  | .comparatorDisarm ses comp => Sys2Proof.Machine.execComparatorDisarm ses comp s
  | .comparatorFire comp => Sys2Proof.Machine.execComparatorFire comp s
  | .captureEdge channel rising => Sys2Proof.Machine.execCaptureEdge channel rising s
  | .capturePop ses channel => Sys2Proof.Machine.execCapturePop ses channel s
  | .crossStampLatch ses => Sys2Proof.Machine.execCrossStampLatch ses s
  | .ppsOutPulse => Sys2Proof.Machine.execPpsOutPulse s
  | .wakeSourceValidated source => Sys2Proof.Machine.execWakeSourceValidated source s
  | .wakeTimerExpiry => Sys2Proof.Machine.execWakeTimerExpiry s
  | .nmPduReceive bus data => Sys2Proof.Machine.execNmPduReceive bus data s
  | .ownNmPduSend cluster => Sys2Proof.Machine.execOwnNmPduSend cluster s
  | .nmTimeout cluster => Sys2Proof.Machine.execNmTimeout cluster s
  | .linResponderHoldEnd bus => Sys2Proof.Machine.execLinResponderHoldEnd bus s
  | .sleepCommit cluster => Sys2Proof.Machine.execSleepCommit cluster s
  | .standbyPoint cluster => Sys2Proof.Machine.execStandbyPoint cluster s
  | .sleepDwellEnd cluster => Sys2Proof.Machine.execSleepDwellEnd cluster s
  | .sleepReady => Sys2Proof.Machine.execSleepReady s
  | .deviceSleepEntry => Sys2Proof.Machine.execDeviceSleepEntry s
  | .warmDwellLimit => Sys2Proof.Machine.execWarmDwellLimit s
  | .warmWake => Sys2Proof.Machine.execWarmWake s
  | .coldWake => Sys2Proof.Machine.execColdWake s
  | .wakeDone => Sys2Proof.Machine.execWakeDone s
  | .awakeTimerExpiry cluster => Sys2Proof.Machine.execAwakeTimerExpiry cluster s
  | .withholdingEnd cluster => Sys2Proof.Machine.execWithholdingEnd cluster s
  | .wakeWatchdogExpiry => Sys2Proof.Machine.execWakeWatchdogExpiry s
  | .wakeBackoffEnd => Sys2Proof.Machine.execWakeBackoffEnd s
  | .safeSleepTimeout => Sys2Proof.Machine.execSafeSleepTimeout s
  | .grantReceive msg => Sys2Proof.Machine.execGrantReceive msg s
  | .releaseReceive msg => Sys2Proof.Machine.execReleaseReceive msg s
  | .leaseYield => Sys2Proof.Machine.execLeaseYield s
  | .leaseEnd => Sys2Proof.Machine.execLeaseEnd s
  | .leaseAckReceive referee msg => Sys2Proof.Machine.execLeaseAckReceive referee msg s
  | .healthReportSend => Sys2Proof.Machine.execHealthReportSend s
  | .healthReportReceive msg => Sys2Proof.Machine.execHealthReportReceive msg s
  | .partnerHealthTimeout => Sys2Proof.Machine.execPartnerHealthTimeout s
  | .refereeGrantRenewal referee => Sys2Proof.Machine.execRefereeGrantRenewal referee s
  | .refereeAckTimeout referee => Sys2Proof.Machine.execRefereeAckTimeout referee s
  | .refereeLeaseLapse referee => Sys2Proof.Machine.execRefereeLeaseLapse referee s
  | .refereeLost => Sys2Proof.Machine.execRefereeLost s
  | .shadowOmission engine => Sys2Proof.Machine.execShadowOmission engine s
  | .transmitWithoutLease engine => Sys2Proof.Machine.execTransmitWithoutLease engine s
  | .handOver ses referee => Sys2Proof.Machine.execHandOver ses referee s
  | .releaseAll ses referee => Sys2Proof.Machine.execReleaseAll ses referee s
  | .resume ses referee => Sys2Proof.Machine.execResume ses referee s
  | .pePerstN asserted => Sys2Proof.Machine.execPePerstN asserted s
  | .functionLevelReset => Sys2Proof.Machine.execFunctionLevelReset s
  | .unsupportedAccess isRead => Sys2Proof.Machine.execUnsupportedAccess isRead s
  | .time80LowHalfRead offset => Sys2Proof.Machine.execTime80LowHalfRead offset s
  | .remoteApertureAccess offset access => Sys2Proof.Machine.execRemoteApertureAccess offset access s
  | .transportFrameReceive frame => Sys2Proof.Machine.execTransportFrameReceive frame s
  | .transportAckDue peer => Sys2Proof.Machine.execTransportAckDue peer s
  | .retransmitTimeout peer => Sys2Proof.Machine.execRetransmitTimeout peer s
  | .helloSend => Sys2Proof.Machine.execHelloSend s
  | .helloReceive frame => Sys2Proof.Machine.execHelloReceive frame s
  | .peerDiscoveryTimeout peer => Sys2Proof.Machine.execPeerDiscoveryTimeout peer s
  | .eventMessageReceive peer data => Sys2Proof.Machine.execEventMessageReceive peer data s
  | .eventExport entry => Sys2Proof.Machine.execEventExport entry s
  | .softwareEventSend ses => Sys2Proof.Machine.execSoftwareEventSend ses s
  | .prefetchHoldEnd window => Sys2Proof.Machine.execPrefetchHoldEnd window s
  | .dmaDoorbell channel value => Sys2Proof.Machine.execDmaDoorbell channel value s
  | .dmaStart ses channel => Sys2Proof.Machine.execDmaStart ses channel s
  | .dmaAbort ses channel => Sys2Proof.Machine.execDmaAbort ses channel s
  | .dmaDisable ses channel => Sys2Proof.Machine.execDmaDisable ses channel s
  | .dmaResetRing ses channel => Sys2Proof.Machine.execDmaResetRing ses channel s
  | .descriptorFetch channel bytes => Sys2Proof.Machine.execDescriptorFetch channel bytes s
  | .phaseReread channel bytes => Sys2Proof.Machine.execPhaseReread channel bytes s
  | .descriptorWriteBack channel => Sys2Proof.Machine.execDescriptorWriteBack channel s
  | .completionPop ses channel => Sys2Proof.Machine.execCompletionPop ses channel s
  | .receiveFrameToHost channel seen => Sys2Proof.Machine.execReceiveFrameToHost channel seen s
  | .transmitFrameFromHost channel frame host => Sys2Proof.Machine.execTransmitFrameFromHost channel frame host s
  | .copyDescriptor channel data host => Sys2Proof.Machine.execCopyDescriptor channel data host s
  | .dmaDomainLoss channel => Sys2Proof.Machine.execDmaDomainLoss channel s
  | .challengeRead ses => Sys2Proof.Machine.execChallengeRead ses s
  | .credentialResponse ses response => Sys2Proof.Machine.execCredentialResponse ses response s
  | .roleRelease ses => Sys2Proof.Machine.execRoleRelease ses s
  | .lockoutEnd role => Sys2Proof.Machine.execLockoutEnd role s
  | .loadWrappedBlob ses => Sys2Proof.Machine.execLoadWrappedBlob ses s
  | .importPublicKey ses => Sys2Proof.Machine.execImportPublicKey ses s
  | .unwrapSak ses => Sys2Proof.Machine.execUnwrapSak ses s
  | .eraseKey ses => Sys2Proof.Machine.execEraseKey ses s
  | .clearImport ses => Sys2Proof.Machine.execClearImport ses s
  | .keyParityError slot => Sys2Proof.Machine.execKeyParityError slot s
  | .trngHealthFailure => Sys2Proof.Machine.execTrngHealthFailure s
  | .trngStartUpTest passed => Sys2Proof.Machine.execTrngStartUpTest passed s
  | .authUnitSelfTest passed => Sys2Proof.Machine.execAuthUnitSelfTest passed s
  | .transmitAnWrite ses port an => Sys2Proof.Machine.execTransmitAnWrite ses port an s
  | .saRead ses => Sys2Proof.Machine.execSaRead ses s
  | .saWrite ses => Sys2Proof.Machine.execSaWrite ses s
  | .pnExhaustion port => Sys2Proof.Machine.execPnExhaustion port s
  | .deriveKekIck ses => Sys2Proof.Machine.execDeriveKekIck ses s
  | .computeIcv ses => Sys2Proof.Machine.execComputeIcv ses s
  | .sealedRecordWrite => Sys2Proof.Machine.execSealedRecordWrite s
  | .logAcknowledge ses through => Sys2Proof.Machine.execLogAcknowledge ses through s
  | .logExport ses => Sys2Proof.Machine.execLogExport ses s
  | .moduleBind ses port => Sys2Proof.Machine.execModuleBind ses port s
  | .moduleUnbind ses port => Sys2Proof.Machine.execModuleUnbind ses port s
  | .tamperEvent sensor => Sys2Proof.Machine.execTamperEvent sensor s
  | .tamperLatchClear ses bits => Sys2Proof.Machine.execTamperLatchClear ses bits s
  | .jtagInstruction instruction => Sys2Proof.Machine.execJtagInstruction instruction s
  | .sourceFire source data => Sys2Proof.Machine.execSourceFire source data s
  | .reactionComplete => Sys2Proof.Machine.execReactionComplete s
  | .forceSource ses source => Sys2Proof.Machine.execForceSource ses source s
  | .clearSource ses source => Sys2Proof.Machine.execClearSource ses source s
  | .clearFirstFaults ses => Sys2Proof.Machine.execClearFirstFaults ses s
  | .errInNAssert => Sys2Proof.Machine.execErrInNAssert s
  | .safeNReadbackMismatch => Sys2Proof.Machine.execSafeNReadbackMismatch s
  | .levelConditionEnd source => Sys2Proof.Machine.execLevelConditionEnd source s
  | .updateBegin ses => Sys2Proof.Machine.execUpdateBegin ses s
  | .updateData ses data => Sys2Proof.Machine.execUpdateData ses data s
  | .updateInstall ses => Sys2Proof.Machine.execUpdateInstall ses s
  | .updateDiscard ses => Sys2Proof.Machine.execUpdateDiscard ses s
  | .installComplete base flashError => Sys2Proof.Machine.execInstallComplete base flashError s
  | .activationArm ses => Sys2Proof.Machine.execActivationArm ses s
  | .activationCancel ses => Sys2Proof.Machine.execActivationCancel ses s
  | .activationArmNow ses => Sys2Proof.Machine.execActivationArmNow ses s
  | .activationHeaderDeadline written => Sys2Proof.Machine.execActivationHeaderDeadline written s
  | .activation image => Sys2Proof.Machine.execActivation image s
  | .firmwareConfirm burned => Sys2Proof.Machine.execFirmwareConfirm burned s
  | .hostConfirm ses burned => Sys2Proof.Machine.execHostConfirm ses burned s
  | .hostReject ses => Sys2Proof.Machine.execHostReject ses s
  | .proofingWindowExpiry => Sys2Proof.Machine.execProofingWindowExpiry s
  | .thermometerBurnRetry burned => Sys2Proof.Machine.execThermometerBurnRetry burned s
  | .recoveryErase slot offset length crc => Sys2Proof.Machine.execRecoveryErase slot offset length crc s
  | .recoveryWrite slot offset length data crc => Sys2Proof.Machine.execRecoveryWrite slot offset length data crc s
  | .recoveryVerify slot offset length crc held => Sys2Proof.Machine.execRecoveryVerify slot offset length crc held s
  | .recoveryRestart slot offset length crc => Sys2Proof.Machine.execRecoveryRestart slot offset length crc s
  | .porstNAssert => Sys2Proof.Machine.execPorstNAssert s
  | .porstNRelease straps => Sys2Proof.Machine.execPorstNRelease straps s
  | .rstNReset => Sys2Proof.Machine.execRstNReset s
  | .softwareReset ses => Sys2Proof.Machine.execSoftwareReset ses s
  | .supplyReset => Sys2Proof.Machine.execSupplyReset s
  | .railOutOfRange rail low => Sys2Proof.Machine.execRailOutOfRange rail low s
  | .retentionLost => Sys2Proof.Machine.execRetentionLost s
  | .vddAonLoss => Sys2Proof.Machine.execVddAonLoss s
  | .vddioBusLoss => Sys2Proof.Machine.execVddioBusLoss s
  | .vddioBusReturn => Sys2Proof.Machine.execVddioBusReturn s
  | .xtalStable => Sys2Proof.Machine.execXtalStable s
  | .xtalLoss => Sys2Proof.Machine.execXtalLoss s
  | .pllLock pll => Sys2Proof.Machine.execPllLock pll s
  | .pllUnlock pll => Sys2Proof.Machine.execPllUnlock pll s
  | .strapDriverEnable => Sys2Proof.Machine.execStrapDriverEnable s
  | .peckRequest consumer => Sys2Proof.Machine.execPeckRequest consumer s
  | .peckGrant consumer => Sys2Proof.Machine.execPeckGrant consumer s
  | .peckReturn consumer => Sys2Proof.Machine.execPeckReturn consumer s
  | .peckStarvation consumer => Sys2Proof.Machine.execPeckStarvation consumer s
  | .deratingUpdate tj => Sys2Proof.Machine.execDeratingUpdate tj s
  | .serdesStep => Sys2Proof.Machine.execSerdesStep s
  | .stepRequestWithdraw consumer => Sys2Proof.Machine.execStepRequestWithdraw consumer s
  | .domainReady domain => Sys2Proof.Machine.execDomainReady domain s
  | .domainPowerDown domain => Sys2Proof.Machine.execDomainPowerDown domain s
  | .domainDrainEnd domain => Sys2Proof.Machine.execDomainDrainEnd domain s
  | .powerSwitchFault domain => Sys2Proof.Machine.execPowerSwitchFault domain s
  | .firmwareImageVerified image => Sys2Proof.Machine.execFirmwareImageVerified image s
  | .configurationImageLoaded image => Sys2Proof.Machine.execConfigurationImageLoaded image s
  | .dictionaryAvailable => Sys2Proof.Machine.execDictionaryAvailable s
  | .stagedBankRefreshComplete => Sys2Proof.Machine.execStagedBankRefreshComplete s
  | .mdioFrameComplete bus result => Sys2Proof.Machine.execMdioFrameComplete bus result s
  | .integrationComplete engine => Sys2Proof.Machine.execIntegrationComplete engine s
  | .grandmasterSyncSend inst port => Sys2Proof.Machine.execGrandmasterSyncSend inst port s
  | .linkDelayRequestSend port => Sys2Proof.Machine.execLinkDelayRequestSend port s
  | .refereeHealthTimeout referee => Sys2Proof.Machine.execRefereeHealthTimeout referee s
  | .refereeFirstGrant referee => Sys2Proof.Machine.execRefereeFirstGrant referee s
  | .pcieConfigurationRequest => Sys2Proof.Machine.execPcieConfigurationRequest s
  | .pmeTurnOff => Sys2Proof.Machine.execPmeTurnOff s
  | .pcieLinkUp gen lanes => Sys2Proof.Machine.execPcieLinkUp gen lanes s
  | .pcieLinkDown => Sys2Proof.Machine.execPcieLinkDown s
  | .msixVectorUnmask vector => Sys2Proof.Machine.execMsixVectorUnmask vector s
  | .lifecycleTransition ses target => Sys2Proof.Machine.execLifecycleTransition ses target s
  | .rootKeyRevocation ses key => Sys2Proof.Machine.execRootKeyRevocation ses key s
  | .rstNRelease => Sys2Proof.Machine.execRstNRelease s
  | .supplyResetRelease => Sys2Proof.Machine.execSupplyResetRelease s
  | .vddAonReturn => Sys2Proof.Machine.execVddAonReturn s
  | .logExportComplete => Sys2Proof.Machine.execLogExportComplete s
  | .revertConfigurationSwitch image => Sys2Proof.Machine.execRevertConfigurationSwitch image s

end Sys2Proof.Machine
end

