-- ==== Sys2Proof/Machine/Tick.lean ====
section
/-!
DEFINITION. Tick.lean: the passing of time (R266, R267; assumption log 2): what runs on by itself between two commands.
-/
namespace Sys2Proof.Machine

/-- One TCLK edge: local time and the monotonic count advance by 8 ns + A·2⁻³² ns (R266), the time that durations are taken from by 8 ns.
Without TCLK both counts stand; the wake domain counts the time that passes (R267). -/
def tickCounts (s : State) : State :=
  let add (v : Nat) : Nat := ((v : Int) + 8 * 2 ^ 32 + rateA s).toNat % 2 ^ 96
  { s with time := { s.time with
      wall := s.time.wall + 8
      loc := if s.time.tclk then add s.time.loc else s.time.loc
      mono := if s.time.tclk then add s.time.mono else s.time.mono } }

/-- Cluster c between two commands: its awake timer (R305), the end of its waking (R302), and a held bus that is heard again (R306). -/
def tickCluster (c : Nat) (s : State) : State :=
  let x := cluster c s
  let st := clusterState c s
  if st == 1 then finishWaking c s
  else if st == 2 || st == 3 then
    let s := if s.time.tclk && reg (nP c) 9 s == 0 then setCluster c { x with awake := x.awake + 8 } s else s
    if st == 3 && x.held.any (fun k => !busSilent k (nmTimeout c s + prepareTime c s) s) then setClusterState c 5 s else s
  else s

/-- What a TCLK edge brings while the block is on: credits of shapers (R133), frames that leave the buffer, pulses that end, clusters. -/
def tick (s : State) : State :=
  let s := tickCounts s
  if s.power.sleep ≠ 0 then s
  else
    let s := pulsesEnd (pulsesDone (sweep (creditsStep 8 s)))
    settle 4 (sleepCheck (each (memberClusters s) tickCluster s))

end Sys2Proof.Machine
end

