-- ==== Sys2Proof/Safety.lean ====
section
/-!
DEFINITION. Safety.lean: what a safe run is.
-/
namespace Sys2Proof.Machine

/-- A request of the session is served (R23, R35, R37, R40, R47): past Boot and Catch, its path in use, the dictionary service within reach, and
no eviction to be told first. -/
abbrev Served (ses : Session) (s : State) : Prop :=
  s.dev ≠ .boot ∧ s.dev ≠ .catch_ ∧ sessionLive ses s = true ∧ reachable s = true ∧ s.access.evicted ≠ some ses

/-- The answer of a session's command that has been carried out (R34). -/
def answered (ses : Session) (s : State) : State := emit (.answer ses 0 []) s

/-- The block is past Boot and Catch. -/
abbrev Past (s : State) : Prop := s.dev ≠ .boot ∧ s.dev ≠ .catch_

/-- A lease message or health report whose CMAC verifies under a key slot (R317). -/
def signed (slot : Nat) (b : Bytes) (s : State) : Bytes := b ++ macBytes slot 4 b s

/-- A transport header with its data, its CMAC after it (R342). -/
def carried (b : Bytes) (s : State) : Bytes := b ++ macBytes (cfg 0x5C20 6 s) 8 b s

/-- Every object store of a state is in canonical form. -/
def Stores.ok (s : State) : Prop :=
  tabWf keyDflt s.regs = true ∧ tabWf keyDflt s.cfg.objs = true ∧ tabWf keyDflt s.old.objs = true ∧
    tabWf keyDflt s.staged.objs = true

end Sys2Proof.Machine
end

