-- ==== Sys2Proof/Certificates/Slice0/Obligations.lean ====
section
/-!
DEFINITION. Obligations.lean: the statements for the provers. Each says in its docstring which rules it rests on.
-/
open Sys2Proof Sys2Proof.Machine

/-- A step with a command at the front of the queue is that command's effect on the state with the rest of the queue; on an empty queue one TCLK
edge passes. That commands wait in a queue, and that the edge comes on an empty one, is the model's choice (assumption log 2). (R33, R266) -/
def Obligations.StepRunsTheFrontCommand : Prop :=
    (∀ (c : Instr) (q : List Instr) (s : State),
      step { s with pending := c :: q } = exec c { s with pending := q }) ∧
    (∀ (s : State),
      s.pending = [] →
      step s = .next (tick s))

/-- After reset the device is in Boot, every object and every field of a table entry reads as its default, the stores are in canonical form and
no command waits. Where a card gives no default, the value is the model's (assumption log 8). (R30, R32, R35, R452) -/
def Obligations.ResetLeavesTheDefaults : Prop :=
    (      State.reset.dev = .boot ∧ State.reset.pending = [] ∧ Stores.ok State.reset) ∧
    (∀ (i : Fin 65536) (j : Fin 256),
      reg i.val j.val State.reset = dflt i.val j.val ∧ cfg i.val j.val State.reset = dflt i.val j.val)

/-- From every state whose object stores are in canonical form, a step answers a next state: no command and no clock edge ends a run in a fault
or a refusal. The stores of that state are in canonical form again, and its queue is the queue before without the command that was taken.
(R30, R33) -/
def Obligations.StepKeepsTheStores : Prop :=
    (∀ (s : State),
      Stores.ok s →
      ∃ t, step s = .next t ∧ Stores.ok t ∧ t.pending = s.pending.tail)

/-- Every one of the commands, on every state whose object stores are in canonical form, answers a next state with canonical stores and with the
same commands waiting: what a command does is on everything but the queue. (R30, R33, R38) -/
def Obligations.CommandsKeepTheStoresAndTheQueue : Prop :=
    (∀ (c : Instr) (s : State),
      Stores.ok s →
      ∃ t, exec c s = .next t ∧ Stores.ok t ∧ t.pending = s.pending)

/-- Two object stores in canonical form that read alike at every key are equal, so that two states whose objects read alike hold the same
stores. (R28, R30) -/
def Obligations.EqualStoresAreEqualData : Prop :=
    (∀ (a b : Tab Nat),
      tabWf keyDflt a = true →
      tabWf keyDflt b = true →
      ∀ k, sget a k = sget b k →
      a = b)

/-- A value that fits n bytes is carried as n bytes of which byte k is its k-th octet from the least significant one, and reads back unchanged;
any bytes are the ones that carry the value they form; the same holds of network order. Nanoseconds of local time below 2^48 seconds read
back unchanged from their TIME80 form. (R4, R28, R266) -/
def Obligations.ValuesAreCarriedAsBytes : Prop :=
    (∀ (n v : Nat),
      v < 256 ^ n →
      (leBytes n v).length = n ∧ leNat (leBytes n v) = v ∧ beNat (beBytes n v) = v ∧
        ∀ k, k < n → byteAt (leBytes n v) k = v / 256 ^ k % 256) ∧
    (∀ (l : List Byte),
      leBytes l.length (leNat l) = l ∧ beBytes l.length (beNat l) = l) ∧
    (∀ (t : Nat),
      t / 1000000000 < 2 ^ 48 →
      ofTime80 (time80 t) = t)

/-- After k events of a 32-bit counter, it reads its earlier value plus k, held at 0xFFFF_FFFF; every other object reads as before, and so do
the configuration, the device state and local time. (R68, R30) -/
def Obligations.CountersSaturate : Prop :=
    (∀ (k i j : Nat) (s : State),
      reg i j s ≤ 0xFFFFFFFF →
      reg i j ((count i j)^[k] s) = min 0xFFFFFFFF (reg i j s + k) ∧
        (∀ i' j', okey i' j' ≠ okey i j → reg i' j' ((count i j)^[k] s) = reg i' j' s) ∧
        ((count i j)^[k] s).cfg = s.cfg ∧ ((count i j)^[k] s).staged = s.staged ∧ ((count i j)^[k] s).dev = s.dev ∧ ((count i j)^[k] s).time = s.time)

/-- At a refill with coupling set, what overflows the committed bucket is added to the excess bucket, up to Eb; without coupling it is
discarded. (R143) -/
def Obligations.CoupledMeterTokens : Prop :=
    (∀ (b : Bank) (m now : Nat) (x : MeterSt),
      bit (bkE b m 0x3230 6) 1 = true →
      let c := x.tc + (x.remC + bkE b m 0x3230 2 * 65536 * (now - x.last)) / 1000000;
        let e := x.te + (x.remE + bkE b m 0x3230 4 * 65536 * (now - x.last)) / 1000000;
        (refill b m x now).tc = min c (bkE b m 0x3230 3 * 65536) ∧
        (refill b m x now).te = min (e + (c - bkE b m 0x3230 3 * 65536)) (bkE b m 0x3230 5 * 65536)) ∧
    (∀ (b : Bank) (m now : Nat) (x : MeterSt),
      bit (bkE b m 0x3230 6) 1 = false →
      let c := x.tc + (x.remC + bkE b m 0x3230 2 * 65536 * (now - x.last)) / 1000000;
        let e := x.te + (x.remE + bkE b m 0x3230 4 * 65536 * (now - x.last)) / 1000000;
        (refill b m x now).tc = min c (bkE b m 0x3230 3 * 65536) ∧ (refill b m x now).te = min e (bkE b m 0x3230 5 * 65536))

/-- A firing of a source that is not listed changes nothing; its enable reads 0 for every session; a session's write to any object of its record
is answered with 0x0609_0030 and changes nothing else. (R424) -/
def Obligations.ReservedSourcesAreInert : Prop :=
    (∀ (n : Fin 256) (d : Nat) (s : State),
      sourceRow n.val = none →
      fireRaw n.val d s = s) ∧
    (∀ (n : Fin 256) (d : Fin 4294967296) (s : State),
      sourceRow n.val = none →
      s.faults.due = [] →
      exec (.sourceFire n d) s = .next (if coreOn s = true then refreshEval s else s)) ∧
    (∀ (ses : Session) (n : Fin 256) (s : State),
      sourceRow n.val = none →
      readObj ses (0x5900 + n.val) 1 s = (s, 0, [0])) ∧
    (∀ (ses : Session) (n : Fin 256) (i : Fin 65536) (j : Fin 256) (o : Fin 4096) (l : List Byte) (s : State),
      Served ses s →
      ses ≠ .bar0 →
      s.faults.due = [] →
      sourceRow n.val = none →
      i.val = 0x5900 + n.val →
      existCode i.val j.val = 0 →
      exec (.dictionaryWrite ses i j o l) s = .next (emit (.answer ses 0x06090030 []) (touch ses s)))

/-- A request of table t, with the entry of its record, replaces whatever request waits. While the slot is in progress no slot starts. At the
slot's end a requested table is served from the requested entry on, and a request of 0xFF stops the schedule. An entry past the table's
length starts at entry 0: that is the model's choice, of which the rule says nothing. (R230) -/
def Obligations.LinTableWritesWaitForTheSlot : Prop :=
    (∀ (ses : Session) (m : Fin 16) (t : Byte) (s : State),
      Served ses s →
      s.dev ≠ .terminal →
      t.toNat ≤ 7 ∨ t.toNat = 0xFF →
      cfg (lB m.val) 2 s = 0 →
      exec (.linTableRequest ses m t) s = .next (answered ses (setReg (lB m.val + 1) 1 t.toNat
        (setLin m.val { lin m.val s with req := some (t.toNat, reg (lB m.val + 1) 2 s) } (touch ses s))))) ∧
    (∀ (m : Fin 16) (s : State),
      nowNs s < (lin m.val s).slotEnd →
      exec (.linSlotStart m) s = .next s) ∧
    (∀ (m : Fin 16) (t e : Nat) (s : State),
      schedulesRun s = true →
      commands m.val s = true →
      nowNs s % max 1 (linBase m.val s) < 1000 →
      (lin m.val s).slotEnd ≤ nowNs s →
      (lin m.val s).notBefore ≤ nowNs s →
      (lin m.val s).own = false →
      (lin m.val s).toSleep = false →
      (lin m.val s).req = some (t, e) →
      t ≤ 7 →
      exec (.linSlotStart m) s = .next (settle 4 (
        let k := if e < linCount s.cfg m.val t then e else 0;
        let w := linEntry s.cfg m.val t k;
        let a := setLin m.val { lin m.val s with ident := none } s;
        let b := setLin m.val { lin m.val a with req := none, collide := none, resume := none } a;
        let c := setLinState m.val 3 (setReg (lB m.val + 1) 4 k (setReg (lB m.val + 1) 3 t b));
        let z := nowNs s / max 1 (linBase m.val s) * max 1 (linBase m.val s) + w.ticks * max 1 (linBase m.val s);
        serveEntry m.val w (setLin m.val { lin m.val c with slotEnd := z } c)))) ∧
    (∀ (m : Fin 16) (e : Nat) (s : State),
      schedulesRun s = true →
      commands m.val s = true →
      nowNs s % max 1 (linBase m.val s) < 1000 →
      (lin m.val s).slotEnd ≤ nowNs s →
      (lin m.val s).notBefore ≤ nowNs s →
      (lin m.val s).own = false →
      (lin m.val s).toSleep = false →
      (lin m.val s).req = some (0xFF, e) →
      exec (.linSlotStart m) s = .next (settle 4 (
        let a := setLin m.val { lin m.val s with ident := none } s;
        setLinState m.val 2 (setReg (lB m.val + 1) 3 0xFF
        (setLin m.val { lin m.val a with req := none, collide := none, resume := none } a)))))

/-- A session's request in Operate puts the device into Configure with a fresh staged copy and the lock in the session's hands; while another
session holds the lock it is refused with 0x0800_0021. The holder's commit starts a validation and is answered at its end: a staged
configuration without an offence switches the tables, one with an offence is refused with 0x0800_00A4, the lock staying. A discard releases
the lock without a commit and the device returns to Operate. An idle limit that is over, and the loss of the holder's session, release the
lock with 0x0504_0000 in the refusal record; the loss of a session takes its credentials. (R36, R38, R39, R40, R45) -/
def Obligations.TheConfigureLockAndItsCommit : Prop :=
    (∀ (ses : Session) (s : State),
      Served ses s →
      s.dev = .operate →
      bit s.update.proof 1 = false →
      exec (.configureRequest ses) s = .next (settle 8 (answered ses (setDev .configure (takeLock ses (touch ses s)))))) ∧
    (∀ (ses h : Session) (s : State),
      Served ses s →
      s.dev = .configure →
      s.access.holder = some h →
      h ≠ ses →
      s.faults.due = [] →
      exec (.configureRequest ses) s = .next (emit (.answer ses 0x08000021 []) (touch ses s))) ∧
    (∀ (ses : Session) (s : State),
      Served ses s →
      s.dev = .configure →
      s.access.holder = some ses →
      s.access.validating = false →
      reg 0x6800 7 s ≠ 2 →
      exec (.commit ses) s = .next (let t := { s with access := { s.access with holderSince := wall s, validating := true } };
        { t with access := { t.access with remote := t.access.remote ++ [⟨ses, 8, true, 0x1002, 1, 0, 1, 0, wall s, false, []⟩] } })) ∧
    (∀ (h : Session) (s : State),
      s.access.holder = some h →
      s.access.validating = true →
      s.dev = .configure →
      s.sieve.waitingWrites = [] →
      firstOffence (commitChecks (roleOf h s) s.cfg s.staged { s with sieve := { s.sieve with waitingWrites := [], refreshing := false } }) = none →
      exec .commitValidationComplete s = .next (settle 8 (answerCommit 0 (switchTables s.staged { s with sieve := { s.sieve with waitingWrites := [], refreshing := false } })))) ∧
    (∀ (h : Session) (x : Nat × Nat × Nat) (s : State),
      s.access.holder = some h →
      s.access.validating = true →
      s.dev = .configure →
      s.sieve.waitingWrites = [] →
      firstOffence (commitChecks (roleOf h s) s.cfg s.staged { s with sieve := { s.sieve with waitingWrites := [], refreshing := false } }) = some x →
      exec .commitValidationComplete s = .next (settle 8 (answerCommit 0x080000A4 (recordRefusal 0x080000A4 x.1 x.2.1 x.2.2
        { s with sieve := { s.sieve with waitingWrites := [], refreshing := false }, access := { s.access with validating := false } })))) ∧
    (∀ (ses : Session) (s : State),
      Served ses s →
      s.dev = .configure →
      s.access.holder = some ses →
      s.access.validating = false →
      exec (.discard ses) s = .next (settle 8 (answered ses (sleepCheck (setDev .operate (touch ses s)))))) ∧
    (∀ (h : Session) (s : State),
      s.dev = .configure →
      s.access.holder = some h →
      s.access.validating = false →
      due s.access.holderSince (reg 0x1002 3 s * 1000000000) s = true →
      exec .configureIdleRelease s = .next (settle 8 (sleepCheck (setDev .operate (recordRefusal 0x05040000 0 0 0 s))))) ∧
    (∀ (n : Fin 4) (s : State),
      Past s →
      s.access.holder ≠ some (.sdo n) →
      s.faults.due = [] →
      exec (.sessionLoss (.sdo n)) s = .next { s with
        crust := { s.crust with roles := tdel s.crust.roles n.val, requested := tdel s.crust.requested n.val, challenges := tdel s.crust.challenges n.val },
        access := { s.access with remote := s.access.remote.filter fun r => r.ses ≠ .sdo n } }) ∧
    (∀ (n : Fin 4) (s : State),
      Past s →
      s.access.holder = some (.sdo n) →
      s.dev = .configure →
      exec (.sessionLoss (.sdo n)) s = .next (settle 8 (sleepCheck (setDev .operate (recordRefusal 0x05040000 0 0 0 { s with
        crust := { s.crust with roles := tdel s.crust.roles n.val, requested := tdel s.crust.requested n.val, challenges := tdel s.crust.challenges n.val },
        access := { s.access with remote := s.access.remote.filter fun r => r.ses ≠ .sdo n } })))))

/-- A session's write of an object that exists, in the length of its type, outside a commit: an RO object refuses it with 0x0601_0002; a W1C
object takes it in every state and loses the bits that it states; an RWC object outside the Sieve is staged when the writer holds the lock
in Configure outside validation, and refuses it else with the code of the state or of the lock; an object that is not there refuses it with
the code of its missing index or subindex, and a wrong length with 0x0607_0010. A write through BAR0 to an object that has no hot register
changes nothing but the count of unsupported accesses. (R5, R27, R29, R30, R32, R35, R38, R40, R56) -/
def Obligations.DictionaryWritesByAccessClass : Prop :=
    (∀ (ses : Session) (i : Fin 65536) (j : Fin 256) (o : Fin 4096) (l : List Byte) (s : State),
      Served ses s →
      ses ≠ .bar0 →
      s.faults.due = [] →
      existCode i.val j.val ≠ 0 →
      i.val ≠ 0x1002 ∧ i.val ≠ 0x5050 →
      exec (.dictionaryWrite ses i j o l) s = .next (emit (.answer ses (existCode i.val j.val) []) (touch ses s))) ∧
    (∀ (ses : Session) (i : Fin 65536) (j : Fin 256) (o : Fin 4096) (l : List Byte) (s : State),
      Served ses s →
      ses ≠ .bar0 →
      s.faults.due = [] →
      existCode i.val j.val = 0 →
      i.val ≠ 0x1002 ∧ i.val ≠ 0x5050 →
      (rowOf i.val j.val).acc = .ro ∨ (readRole i.val j.val = 0 ∧ lengthFits (rowOf i.val j.val).ty o.val l.length = false) →
      reservedRecord i.val = false →
      exec (.dictionaryWrite ses i j o l) s =
        .next (emit (.answer ses (if (rowOf i.val j.val).acc = .ro then 0x06010002 else 0x06070010) []) (touch ses s))) ∧
    (∀ (ses : Session) (i : Fin 65536) (j : Fin 256) (l : List Byte) (s : State),
      Served ses s →
      ses ≠ .bar0 →
      s.faults.due = [] →
      existCode i.val j.val = 0 →
      (rowOf i.val j.val).acc = .w1c →
      readRole i.val j.val = 0 →
      isOctet (rowOf i.val j.val).ty = false →
      l.length = (rowOf i.val j.val).ty.size →
      i.val ≠ 0x1002 ∧ i.val ≠ 0x5050 →
      reservedSet i.val j.val (leNat l) (touch ses s) = false →
      checkValue i.val j.val (leNat l) (rowOf i.val j.val) (touch ses s) = 0 →
      reservedRecord i.val = false →
      exec (.dictionaryWrite ses i j 0 l) s = .next (answered ses (writeClear i.val j.val (leNat l) (touch ses s)))) ∧
    (∀ (ses : Session) (i : Fin 65536) (j : Fin 256) (l : List Byte) (s : State),
      Served ses s →
      ses ≠ .bar0 →
      s.dev = .configure →
      s.access.holder = some ses →
      s.access.validating = false →
      s.faults.due = [] →
      existCode i.val j.val = 0 →
      (rowOf i.val j.val).acc = .rwc →
      readRole i.val j.val = 0 →
      isOctet (rowOf i.val j.val).ty = false →
      l.length = (rowOf i.val j.val).ty.size →
      i.val < 0x4000 ∨ 0x4050 ≤ i.val →
      i.val ≠ 0x1002 ∧ i.val ≠ 0x5050 →
      reservedSet i.val j.val (leNat l) (touch ses s) = false →
      checkValue i.val j.val (leNat l) (rowOf i.val j.val) (touch ses s) = 0 →
      reservedRecord i.val = false →
      exec (.dictionaryWrite ses i j 0 l) s = .next (answered ses (stage i.val j.val (leNat l) (touch ses s)))) ∧
    (∀ (i : Fin 65536) (j : Fin 256) (o : Fin 4096) (l : List Byte) (s : State),
      Past s →
      bar0Up s = true →
      isHot i.val j.val = false →
      exec (.dictionaryWrite .bar0 i j o l) s = .next (count 0x5C00 4 s))

/-- With the dictionary out of reach the channel hardware aborts a request with 0x0800_0022. An initiated download without the expedited bit
opens a segmented transfer and is confirmed; its first segment with the right toggle bit that is not the last is stored and confirmed, and
one with the wrong toggle bit ends the transfer with 0x0503_0000. A transfer that waits longer than the limit of its server ends with
0x0504_0000. (R47, R48) -/
def Obligations.SdoServersAnswer : Prop :=
    (∀ (n : Fin 4) (l : List Byte) (s : State),
      pathOn (.sdo n) s = true →
      l.length = 8 →
      byteAt l 0 ≠ 0x80 →
      reachable s = false →
      exec (.sdoRequest n l) s = .next (sdoSend n.val (leBytes 1 0x80 ++ slice 1 3 l ++ leBytes 4 0x08000022) s)) ∧
    (∀ (n : Fin 4) (l : List Byte) (s : State),
      pathOn (.sdo n) s = true →
      l.length = 8 →
      reachable s = true →
      sdoOpen n.val (touch (.sdo n) s) = none →
      sdoOpen n.val s = none →
      byteAt l 0 = 0x21 →
      leNat (slice 4 4 l) ≤ 4096 →
      exec (.sdoRequest n l) s = .next (sdoSend n.val (pad8 (leBytes 1 0x60 ++ slice 1 3 l))
        (setSdo n.val (some ⟨false, false, leNat (slice 1 2 l), byteAt l 3, [], leNat (slice 4 4 l), false, 0, 0, false, false, wall s⟩) (setSdo n.val none (touch (.sdo n) s))))) ∧
    (∀ (n : Fin 4) (x : SdoTransfer) (l : List Byte) (s : State),
      pathOn (.sdo n) s = true →
      l.length = 8 →
      reachable s = true →
      sdoOpen n.val (touch (.sdo n) s) = some x →
      sdoOpen n.val s = some x →
      x.upload = false →
      x.block = false →
      x.toggle = false →
      x.buf.length ≤ 4089 →
      byteAt l 0 = 0 →
      exec (.sdoRequest n l) s = .next (sdoSend n.val (pad8 (leBytes 1 0x20))
        (setSdo n.val (some { x with buf := x.buf ++ slice 1 7 l, toggle := true, since := wall s }) (touch (.sdo n) s))) ∧
        exec (.sdoRequest n ([16, 0, 0, 0, 0, 0, 0, 0])) s = .next (sdoSend n.val (sdoAbort (muxBytes x.index x.sub) 0x05030000) (setSdo n.val none (touch (.sdo n) s)))) ∧
    (∀ (n : Fin 4) (x : SdoTransfer) (s : State),
      sdoOpen n.val s = some x →
      due x.since (ms (reg (0x1200 + n.val) 5 s)) s = true →
      exec (.sdoSegmentTimeout n) s = .next (sdoSend n.val (leBytes 1 0x80 ++ muxBytes x.index x.sub ++ leBytes 4 0x05040000) (setSdo n.val none s)))

/-- An OPEN with room for a session, a working TRNG and no more OPENs of its source than the limit is answered with a challenge of two free
values (session ID and nonce). A PROVE with a good proof for role 0 opens the session under the derived key and is answered. A message of an
accepted session with a good CMAC and a higher sequence number is taken once and answered; the same sequence number again is answered from
the cache and changes nothing; a lower one, a bad CMAC and an unknown session are discarded and counted. A session idle for its limit is
closed and its credentials go. (R49, R50, R51, R389) -/
def Obligations.PxpSessionsAreServed : Prop :=
    (∀ (src : PxpSource) (msg : List Byte) (n : Nat) (s : State),
      bridgeOn s = true →
      cfg 0x1210 1 s = 1 →
      24 ≤ msg.length →
      byteAt msg 0 = 1 →
      (pxpData msg).length = 17 →
      s.access.opens = [] →
      0 < reg 0x1210 4 s →
      reachable s = true →
      trngWorks s = true →
      ((List.range 8).find? fun n => (pxp n s).isNone) = some n →
      exec (.pxpOpen src msg) s = .next (
        let t := { s with access := { s.access with opens := [(src.addr.val, wall s)] }, fresh := s.fresh + 2 };
        let id := 1 + n + 8 * (Config.freeValue (s.fresh + 1) % 8191);
        pxpPlain src 2 (slice 0 2 msg ++ leBytes 2 id ++ msg.drop 4) 0 (leBytes 16 (Config.freeValue s.fresh))
        (setPxp n ⟨1, id, src, byteAt (pxpData msg) 0, (pxpData msg).drop 1, leBytes 16 (Config.freeValue s.fresh), 0, 0, [], wall s⟩ t))) ∧
    (∀ (src : PxpSource) (msg : List Byte) (n : Fin 8) (x : PxpSession) (s : State),
      bridgeOn s = true →
      cfg 0x1210 1 s = 1 →
      24 ≤ msg.length →
      byteAt msg 0 = 1 →
      pxpFind 1 msg s = some n →
      pxp n.val s = some x →
      x.role = 0 →
      reachable s = true →
      exec (.pxpProve src msg) s = .next (settle 8 (if proveGood x msg s then
        pxpReply n.val (slice 0 1 msg ++ leBytes 1 4 ++ msg.drop 2) 0 [] (countPxp (setPxp n.val { x with phase := 2, source := src, key := pxpKey x s, since := wall s } s))
        else count 0x1210 6 { s with access := { s.access with pxp := tset none s.access.pxp n.val none } }))) ∧
    (∀ (src : PxpSource) (body : List Byte) (n : Fin 8) (x : PxpSession) (s : State),
      bridgeOn s = true →
      cfg 0x1210 1 s = 1 →
      16 ≤ body.length →
      byteAt body 0 = 1 →
      pxpFind 2 body s = some n →
      pxp n.val s = some x →
      x.lastIn < leNat (slice 4 4 body) →
      leNat (slice 4 4 body) < 0xFFFFFFFF →
      exec (.pxpRead src (body ++ pxpMac x.key body)) s = .next (pathRead (.pxp n) 1400 (body.take 16) (byteAt body 8) (leNat (slice 10 2 body)) (byteAt body 9) (leNat (slice 12 2 body))
        (leNat (slice 14 2 body)) (setPxp n.val { x with lastIn := leNat (slice 4 4 body), since := wall s, source := src, cached := [] } s))) ∧
    (∀ (src : PxpSource) (body : List Byte) (n : Fin 8) (x : PxpSession) (s : State),
      bridgeOn s = true →
      cfg 0x1210 1 s = 1 →
      16 ≤ body.length →
      byteAt body 0 = 1 →
      pxpFind 2 body s = some n →
      pxp n.val s = some x →
      x.lastIn < leNat (slice 4 4 body) →
      leNat (slice 4 4 body) < 0xFFFFFFFF →
      exec (.pxpWrite src (body ++ pxpMac x.key body)) s = .next (pathWrite (.pxp n) 1400 (body.take 16) (byteAt body 8) (leNat (slice 10 2 body)) (byteAt body 9) (leNat (slice 12 2 body))
        (leNat (slice 14 2 body)) (body.drop 16) (setPxp n.val { x with lastIn := leNat (slice 4 4 body), since := wall s, source := src, cached := [] } s))) ∧
    (∀ (src : PxpSource) (body : List Byte) (n : Fin 8) (x : PxpSession) (s : State),
      bridgeOn s = true →
      cfg 0x1210 1 s = 1 →
      16 ≤ body.length →
      byteAt body 0 = 1 →
      pxpFind 2 body s = some n →
      pxp n.val s = some x →
      leNat (slice 4 4 body) < 0xFFFFFFFF →
      exec (.pxpKeepalive src (body ++ pxpMac x.key body)) s = .next (
        if x.lastIn < leNat (slice 4 4 body) then
        pxpReply n.val (body.take 16) 0 [] (setPxp n.val { x with lastIn := leNat (slice 4 4 body), since := wall s, source := src, cached := [] } s)
        else if leNat (slice 4 4 body) = x.lastIn ∧ x.lastIn ≠ 0 then (if x.cached = [] then s else pxpSend src x.cached s)
        else count 0x1210 6 s)) ∧
    (∀ (src : PxpSource) (body : List Byte) (n : Fin 8) (x : PxpSession) (s : State),
      bridgeOn s = true →
      cfg 0x1210 1 s = 1 →
      16 ≤ body.length →
      byteAt body 0 = 1 →
      pxpFind 2 body s = some n →
      pxp n.val s = some x →
      x.lastIn < leNat (slice 4 4 body) →
      leNat (slice 4 4 body) < 0xFFFFFFFF →
      exec (.pxpClose src (body ++ pxpMac x.key body)) s = .next (settle 8 (endSession (.pxp n) (pxpReply n.val (body.take 16) 0 []
        (setPxp n.val { x with lastIn := leNat (slice 4 4 body), since := wall s, source := src, cached := [] } s))))) ∧
    (∀ (src : PxpSource) (msg : List Byte) (s : State),
      bridgeOn s = true →
      cfg 0x1210 1 s = 1 →
      24 ≤ msg.length →
      byteAt msg 0 = 1 →
      pxpFind 2 msg s = none →
      reachable s = true →
      exec (.pxpRead src msg) s = .next (count 0x1210 6 s) ∧ exec (.pxpWrite src msg) s = .next (count 0x1210 6 s) ∧
        exec (.pxpKeepalive src msg) s = .next (count 0x1210 6 s) ∧ exec (.pxpClose src msg) s = .next (count 0x1210 6 s)) ∧
    (∀ (n : Fin 8) (x : PxpSession) (s : State),
      pxp n.val s = some x →
      due x.since (reg 0x1210 3 s * 1000000000) s = true →
      exec (.pxpIdleTimeout n) s = .next (settle 8 (countPxp (endSession (.pxp n) s))))

/-- A mailbox whose Done bit is clear takes a request for this device: a read of an object that its session may read completes with status 0 and
the bytes asked for, a write is carried out and completed with its status; while Done is set a doorbell only marks the overrun. The SPI
slave does the same, discards a request with a bad CRC and counts it, and marks an overrun while a result waits; a fetch clocks out status,
data and CRC and raises MS_INT_N. A request that has waited for another device longer than 0x1010:02 ends with 0x0504_0000 and is counted.
(R45, R47, R52, R53, R54, R55, R57) -/
def Obligations.MailboxesAndSpiAreServed : Prop :=
    (∀ (m c : Fin 4) (dev : Byte) (i : Fin 65536) (j : Fin 256) (o n : Fin 65536) (s : State),
      bridgeOn s = true →
      bar0Up s = true →
      mailbox m.val s = mailbox0 →
      ownNumber dev.toNat s = true →
      n.val ≤ 4096 →
      exec (.mailboxRead m c dev i j o n) s = .next (
        let t := setMailbox m.val ⟨0, [], false, false, true⟩ s;
        let r := askWith (.mailbox m) (readPart (.mailbox m) i.val j.val o.val n.val) t;
        settle 8 (mailboxDone m.val r.2.1 r.2.2 r.1))) ∧
    (∀ (m c : Fin 4) (dev : Byte) (i : Fin 65536) (j : Fin 256) (o : Fin 65536) (l : List Byte) (s : State),
      bridgeOn s = true →
      bar0Up s = true →
      mailbox m.val s = mailbox0 →
      ownNumber dev.toNat s = true →
      l.length ≤ 4096 →
      exec (.mailboxWrite m c dev i j o l) s = .next (
        writeFor (.mailbox m) true [] i.val j.val o.val l (fun code t => mailboxDone m.val code [] t) (setMailbox m.val ⟨0, [], false, false, true⟩ s))) ∧
    (∀ (m : Fin 4) (dev : Byte) (i : Fin 65536) (j : Fin 256) (o n : Fin 65536) (l : List Byte) (s : State),
      bridgeOn s = true →
      bar0Up s = true →
      (mailbox m.val s).done = true →
      exec (.mailboxWrite m 0 dev i j o l) s = .next (setMailbox m.val { mailbox m.val s with overrun := true } s) ∧
        exec (.mailboxRead m 0 dev i j o n) s = .next (setMailbox m.val { mailbox m.val s with overrun := true } s)) ∧
    (∀ (dev : Byte) (i : Fin 65536) (j : Fin 256) (o n : Fin 65536) (crc : Fin 65536) (s : State),
      pathOn .spi s = true →
      crc16 0xFFFF (spiHeader 0x10 dev.toNat i.val j.val o.val n.val) = crc.val →
      spiBusy s = false →
      ownNumber dev.toNat s = true →
      n.val ≤ 256 →
      exec (.spiRead dev i j o n crc) s = .next (let r := askWith .spi (readPart .spi i.val j.val o.val n.val) s; settle 8 (spiDone r.2.1 r.2.2 r.1))) ∧
    (∀ (dev : Byte) (i : Fin 65536) (j : Fin 256) (o n : Fin 65536) (l : List Byte) (crc : Fin 65536) (s : State),
      pathOn .spi s = true →
      crc16 0xFFFF (spiHeader 0x11 dev.toNat i.val j.val o.val n.val ++ l) = crc.val →
      spiBusy s = false →
      ownNumber dev.toNat s = true →
      n.val ≤ 256 →
      l.length = n.val →
      exec (.spiWrite dev i j o n l crc) s = .next (writeFor .spi true [] i.val j.val o.val l (fun code t => spiDone code [] t) s)) ∧
    (∀ (dev : Byte) (i : Fin 65536) (j : Fin 256) (o n : Fin 65536) (crc : Fin 65536) (s : State),
      pathOn .spi s = true →
      exec (.spiRead dev i j o n crc) s = .next (if crc16 0xFFFF (spiHeader 0x10 dev.toNat i.val j.val o.val n.val) ≠ crc.val then count 0x1230 2 s
        else if spiBusy s then setReg 0x1230 3 1 s else pathRead .spi 256 [] dev.toNat i.val j.val o.val n.val s)) ∧
    (∀ (r : Nat × Bytes) (s : State),
      pathOn .spi s = true →
      s.access.spi = some r →
      exec .spiFetch s = .next (emit (.ball "MS_INT_N" 1) (emit (.spi (leBytes 4 r.1 ++ r.2 ++ beBytes 2 (crc16 0xFFFF (leBytes 4 r.1 ++ r.2)))) { s with access := { s.access with spi := none } }))) ∧
    (∀ (r : RemoteReq) (s : State),
      s.access.remote = [r] →
      r.device < 8 →
      s.bridge.reads = [] →
      due r.since (ms (reg 0x1010 2 s)) s = true →
      exec (.remoteResponseTimeout r.tag) s = .next (lateReply r 0x05040000 [] (count 0x1010 3 { s with access := { s.access with remote := [] } })))

/-- For the slots 0–7 of IDB0, whose port is the slot: a record of 128 bytes that fits the port and carries no signature is settled as valid and
unsigned (state 2) where unsigned records are accepted; a slot that does not answer leaves no record; a read that the bus stretches past its
limit is counted at the port's record, fires source 0x65 and leaves no record. The Crust's check of a record that waits settles it as signed
(state 3) if the signature verifies and as invalid (state 4) if not. Everything else stays as the settled record leaves it. (R73, R74, R75,
R76, R77, R78) -/
def Obligations.IdentityRecordsAreSettled : Prop :=
    (∀ (slot : Fin 24) (record : List Byte) (s : State),
      slot.val < 8 →
      record.length = 128 →
      recordFits slot.val (leNat record) = true →
      recByte (leNat record) 42 ≠ 1 →
      cfg (pI slot.val) 2 s ≠ 1 →
      exec (.idRecordRead slot true record) s = .next (settleRecord slot.val slot.val (leNat record) 2 s)) ∧
    (∀ (slot : Fin 24) (record : List Byte) (s : State),
      slot.val < 8 →
      exec (.idRecordRead slot false record) s = .next (recordAbsent slot.val s)) ∧
    (∀ (slot : Fin 24) (s : State),
      slot.val < 8 →
      exec (.idBusStretchTimeout slot) s = .next (recordAbsent slot.val (fire 0x65 slot.val (count (pI slot.val) 7 s)))) ∧
    (∀ (slot : Fin 24) (p r : Nat) (s : State),
      tget 0 s.idWait slot.val = r + 1 →
      slotPort slot.val r = some p →
      exec (.recordSignatureCheck slot) s =
        .next (settleRecord slot.val p r (if recordSigned r s then 3 else 4) { s with idWait := tdel s.idWait slot.val }))

/-- A port whose peck charge is granted, whose link is down and which nothing keeps down is brought up: a TP or SP port whose rate is not above
its cap at once (down reason 8, waiting for its link), an Ethernet port with a PHY, no clash of MDIO address or serdes lane and no rate
above its cap after its PHY identifier has been read, whose first initialisation entry is then written. A port held for its PHY identifier
reads it again one second later and goes the same way; an identifier of all ones holds it for another second with down reason 7. The delay
of an entry being over, the next entry is written, or after the last the serdes lane is enabled. (R59, R63, R64, R65, R74, R76) -/
def Obligations.PortsAreBroughtUp : Prop :=
    (∀ (p : Fin 30) (id : Fin 4294967296) (c : PortCfg) (s : State),
      granted (portConsumer p.val) s = true →
      portUp p.val s = false →
      16 ≤ p.val →
      portSettings p.val s = (0, c) →
      (fixedRate c.mode && overCap p.val ((modeRates c.mode).headD 0) c s) = false →
      exec (.portBringUp p id) s =
        .next (settle 4 (let t := setPrt p.val { prt p.val s with inUse := 0, phase := 0 } s;
        setPrt p.val { prt p.val (setReg (pS p.val) 4 8 t) with phase := 3, since := wall s } (setReg (pS p.val) 4 8 t)))) ∧
    (∀ (p : Fin 30) (id : Fin 4294967296) (c : PortCfg) (s : State),
      granted (portConsumer p.val) s = true →
      portUp p.val s = false →
      p.val < 16 →
      portSettings p.val s = (0, c) →
      c.phy = true →
      fixedRate c.mode = false →
      (let t := setPrt p.val { prt p.val s with inUse := (if reg (pI p.val) 4 s == 2 || reg (pI p.val) 4 s == 3 then reg (pI p.val) 5 s else 0), phase := 0 } s;
        mdioClash p.val t = [] ∧ laneClash p.val t = []) →
      id.val ≠ 0xFFFFFFFF →
      c.expected = 0 ∨ c.expected = id.val →
      exec (.portBringUp p id) s =
        .next (settle 4 (
        let t := setPrt p.val { prt p.val s with inUse := (if reg (pI p.val) 4 s == 2 || reg (pI p.val) 4 s == 3 then reg (pI p.val) 5 s else 0), phase := 0 } s;
        let t := setReg (pS p.val) 7 id.val t;
        initNext p.val c (setPrt p.val { prt p.val t with entry := 0 } t)))) ∧
    (∀ (p : Fin 30) (id : Fin 4294967296) (s : State),
      (prt p.val s).phase = 1 →
      due (prt p.val s).since (ms 1000) s = true →
      exec (.phyIdentifierRetry p id) s = .next (settle 4 (bringUp p.val id.val s))) ∧
    (∀ (p : Fin 30) (s : State),
      (prt p.val s).phase = 2 →
      due (prt p.val s).since (ms (initByte p.val ((prt p.val s).entry - 1) 5 s)) s = true →
      (prt p.val s).entry < 40 →
      initByte p.val (prt p.val s).entry 0 s ≠ 0xFF →
      exec (.initEntryDelayEnd p) s =
        .next (let e := (prt p.val s).entry;
        let t := emit (.mdio (mdioBus p.val) true (portSettings p.val s).2.mdio (initByte p.val e 0 s)
        (initByte p.val e 1 s + 256 * initByte p.val e 2 s) (initByte p.val e 3 s + 256 * initByte p.val e 4 s)) s;
        setPrt p.val { prt p.val t with phase := 2, entry := e + 1, since := wall t } t)) ∧
    (∀ (p : Fin 30) (s : State),
      (prt p.val s).phase = 2 →
      due (prt p.val s).since (ms (initByte p.val ((prt p.val s).entry - 1) 5 s)) s = true →
      (prt p.val s).entry = 40 ∨ initByte p.val (prt p.val s).entry 0 s = 0xFF →
      exec (.initEntryDelayEnd p) s =
        .next (let t := setReg (pS p.val) 4 8 s;
        setPrt p.val { prt p.val t with phase := 3, since := wall s } t))

/-- A clear link-status bit of the PHY, and a loss of the PCS, take the link down with reason 8, the latter counting a PCS error; a set bit is
noted and changes nothing else. A link that comes up at a rate which the mode offers and no cap forbids runs at that rate; a rate above a
cap leaves the port down with reason 9. A new rate word of in-band negotiation drops the link and brings it up at the new rate. (R59, R61,
R62, R69, R79, R100) -/
def Obligations.LinksFollowPcsAndPhy : Prop :=
    (∀ (p : Fin 16) (s : State),
      (prt p.val s).phase = 3 →
      exec (.linkPoll p false) s = .next (settle 4 (portDown p.val 8 (setPrt p.val { prt p.val s with phyLink := false } s))) ∧
        exec (.linkPoll p true) s = .next (setPrt p.val { prt p.val s with phyLink := true } s)) ∧
    (∀ (p : Fin 33) (s : State),
      p.val < 30 →
      portUp p.val s = true →
      exec (.pcsLoss p) s =
        .next (settle 4 (portDown p.val 8 (setPrt p.val { prt p.val (count (pC p.val) 6 s) with pcsLock := false } (count (pC p.val) 6 s))))) ∧
    (∀ (p : Fin 33) (rate : Fin 8) (c : PortCfg) (s : State),
      p.val < 30 →
      (prt p.val s).phase = 3 →
      portUp p.val s = false →
      portSettings p.val s = (0, c) →
      (prt p.val s).reread = false →
      granted (portConsumer p.val) s = true →
      fixedRate c.mode = false →
      (modeRates c.mode).contains rate.val = true →
      exec (.linkUp p rate) s =
        .next (if overCap p.val rate.val c s then setReg (pS p.val) 4 9 s
        else linkUpAt p.val c.mode rate.val (setPrt p.val { prt p.val s with phyLink := true, pcsLock := true } s))) ∧
    (∀ (p : Fin 16) (rate : Fin 8) (s : State),
      portUp p.val s = true →
      fixedRate (portSettings p.val s).2.mode = false →
      rate.val ≠ reg (pS p.val) 3 s →
      (modeRates (portSettings p.val s).2.mode).contains rate.val = true →
      (let t := setPrt p.val { prt p.val (portDown p.val 8 s) with reread := false } (portDown p.val 8 s);
        overCap p.val rate.val (portSettings p.val s).2 t = false) →
      exec (.inBandRateChange p rate) s =
        .next (settle 4 (linkUpAt p.val (portSettings p.val s).2.mode rate.val
        (setPrt p.val { prt p.val (portDown p.val 8 s) with reread := false } (portDown p.val 8 s)))))

/-- A pass-through command sends its frame at once on an idle MDIO bus and reads busy; while a frame is in progress on the bus the command waits
behind it. The frame's end leaves the command done, with the value read, and the next waiting command's frame goes out; with none waiting
the bus falls idle. A coordinator counts the BEACON of another one and source 0x61 fires. (R66, R71) -/
def Obligations.MdioFramesAreServedInTurn : Prop :=
    (∀ (ses : Session) (p : Fin 16) (s : State),
      Served ses s →
      s.dev ≠ .terminal →
      reg (pB p.val + 3) 4 s ≠ 1 →
      (mdioSt (mdioBus p.val) s).busy = none →
      exec (.mdioRead ses p) s = .next (answered ses (mdioStart p.val 1 (setReg (pB p.val + 3) 4 1 (touch ses s))))) ∧
    (∀ (ses : Session) (p : Fin 16) (x : Nat × Nat) (s : State),
      Served ses s →
      s.dev ≠ .terminal →
      reg (pB p.val + 3) 4 s ≠ 1 →
      (mdioSt (mdioBus p.val) s).busy = some x →
      exec (.mdioWrite ses p) s =
        .next (answered ses (let t := setReg (pB p.val + 3) 4 1 (touch ses s);
        setMdio (mdioBus p.val) { mdioSt (mdioBus p.val) s with waiting := (mdioSt (mdioBus p.val) s).waiting ++ [(p.val, 2)] } t))) ∧
    (∀ (ses : Session) (p : Fin 16) (s : State),
      Served ses s →
      s.dev ≠ .terminal →
      reg (pB p.val + 3) 4 s ≠ 1 →
      (mdioSt (mdioBus p.val) s).busy = none →
      exec (.mdioWrite ses p) s = .next (answered ses (mdioStart p.val 2 (setReg (pB p.val + 3) 4 1 (touch ses s))))) ∧
    (∀ (bus : Fin 2) (result : Fin 65536) (p : Nat) (s : State),
      (mdioSt bus.val s).busy = some (p, 1) →
      readsIdentifier p s = false →
      (mdioSt bus.val s).waiting = [] →
      exec (.mdioFrameComplete bus result) s =
        .next (setMdio bus.val { mdioSt bus.val s with busy := none } (setReg (pB p + 3) 4 2 (setReg (pB p + 3) 3 result.val s)))) ∧
    (∀ (p : Fin 33) (s : State),
      portUp p.val s = true →
      22 ≤ p.val ∧ p.val < 30 →
      coordinator p.val s = true →
      exec (.foreignBeacon p) s = .next (fire 0x61 p.val (count (pB p.val + 5) 8 s)))

/-- A scan a quarter of the ageing time after the last one adds one to the age of every dynamic entry and removes those whose age reaches 5. A
flush command notes its selector and the entries that exist, and is refused while another runs; its end removes exactly those that the
selector names. A look-up gives the static entry of the selected key, else the dynamic one, else status 3. A static entry is written to the
staged table by the holder of the lock where its bucket or the overflow table has room, and deleted from it. (R84, R86, R87, R88, R89) -/
def Obligations.FdbEntriesAgeAndAreFlushed : Prop :=
    (∀ (s : State),
      cfg 0x3000 2 s ≠ 0 →
      due s.agedAt (ms (250 * cfg 0x3000 2 s)) s = true →
      exec .fdbAgeingScan s = .next (
        let old := s.dyn.map fun e => (e.1, { e.2 with age := e.2.age + 1 });
        let keep := old.filter fun e => e.2.age < 5;
        countBy 4 0x3001 7 (old.length - keep.length) { s with dyn := keep, agedAt := wall s })) ∧
    (∀ (ses : Session) (s : State),
      Served ses s →
      s.dev ≠ .terminal →
      s.flush = none →
      exec (.fdbFlushAll ses) s = .next (answered ses { touch ses s with flush := some (1, 0, s.learned) }) ∧
        exec (.fdbFlushByPort ses) s = .next (answered ses { touch ses s with flush := some (2, reg 0x3001 9 s, s.learned) }) ∧
        exec (.fdbFlushByFid ses) s = .next (answered ses { touch ses s with flush := some (3, reg 0x3001 0x0A s, s.learned) })) ∧
    (∀ (ses : Session) (x : Nat × Nat × Nat) (s : State),
      Served ses s →
      s.dev ≠ .terminal →
      s.flush = some x →
      exec (.fdbFlushAll ses) s = .next (emit (.answer ses 0x08000022 []) (touch ses s))) ∧
    (∀ (sel arg lim : Nat) (s : State),
      s.flush = some (sel, arg, lim) →
      exec .fdbFlushComplete s = .next { s with flush := none, dyn := s.dyn.filter fun e =>
        !(decide (e.2.born < lim) && (if sel == 2 then e.2.port == arg else if sel == 3 then e.1 % 4096 == arg else true)) }) ∧
    (∀ (ses : Session) (x : Nat × Bool) (s : State),
      Served ses s →
      s.dev ≠ .terminal →
      staticGet (touch ses s).cfg (fdbSelected (touch ses s)) = some x →
      exec (.fdbLookUp ses) s = .next (answered ses (setReg 0x3002 6 2 (setReg 0x3002 5 0 (setReg 0x3002 4 (1 + 2 * b2n x.2) (setReg 0x3002 3 x.1 (touch ses s))))))) ∧
    (∀ (ses : Session) (e : DynEntry) (s : State),
      Served ses s →
      s.dev ≠ .terminal →
      staticGet (touch ses s).cfg (fdbSelected (touch ses s)) = none →
      dynGet (fdbSelected (touch ses s)) (touch ses s) = some e →
      exec (.fdbLookUp ses) s = .next (answered ses (setReg 0x3002 6 2 (setReg 0x3002 5 e.age (setReg 0x3002 4 0 (setReg 0x3002 3 (2 ^ e.port) (touch ses s))))))) ∧
    (∀ (ses : Session) (s : State),
      Served ses s →
      stageCode ses s = 0 →
      exec (.fdbWriteStatic ses) s = .next (answered ses (
        let t := touch ses s;
        match staticPut t.staged (fdbSelected t) (reg 0x3002 3 t) with
        | some b => setReg 0x3002 6 2 { t with staged := b }
        | none => setReg 0x3002 6 4 t))) ∧
    (∀ (ses : Session) (s : State),
      Served ses s →
      stageCode ses s = 0 →
      exec (.fdbDeleteStatic ses) s = .next (answered ses (
        let t := touch ses s;
        let k := fdbSelected t;
        if (staticGet t.staged k).isSome then setReg 0x3002 6 2 { t with staged := { t.staged with fdb := tdel t.staged.fdb k } } else setReg 0x3002 6 3 t)))

/-- Command 0x01 puts the committed fields of the selected entry into the record and reads done; command 0x02 stages the record's fields for the
holder of the lock; command 0x03 clears the live counters of the entry, and of the flow record it deletes the staged flow. While the staged
bank is being refreshed, a staged write of the Sieve waits, and the end of the refresh carries the waiting writes out in order. A zone
pair's four counters are read into the record or cleared. Firmware copies the freshness value of a profile to flash with its data ID and key
slot. (R38, R174, R182, R191, R192) -/
def Obligations.TableEntriesAreReadStagedAndCleared : Prop :=
    (∀ (ses : Session) (t : TableRec) (s : State),
      Served ses s →
      s.dev ≠ .terminal →
      t ≠ .flow →
      exec (.readCommitted ses t) s = .next (answered ses (
        let i := (tabRec t).index;
        let e := selected t (touch ses s);
        setReg i (tabRec t).cmd 2 ((tabRec t).fields.foldl (fun u j => setReg i j (cfgE e i j u) u) (touch ses s))))) ∧
    (∀ (ses : Session) (s : State),
      Served ses s →
      s.dev ≠ .terminal →
      exec (.readCommitted ses .flow) s = .next (answered ses (
        let c := tget 0 s.cfg.flows (reg 0x4013 1 s);
        if c = 0 then setReg 0x4013 3 3 (touch ses s) else setReg 0x4013 3 2 (setReg 0x4013 2 c (touch ses s))))) ∧
    (∀ (ses : Session) (t : TableRec) (s : State),
      Served ses s →
      stageCode ses s = 0 →
      t ≠ .flow ∧ t ≠ .peck →
      (tabRec t).sieve = false →
      exec (.writeStaged ses t) s = .next (answered ses (
        let i := (tabRec t).index;
        let e := selected t (touch ses s);
        setReg i (tabRec t).cmd 2 ((tabRec t).fields.foldl (fun u j => stageE e i j (reg i j u) u) (touch ses s))))) ∧
    (∀ (ses : Session) (s : State),
      Served ses s →
      stageCode ses s = 0 →
      s.sieve.refreshing = true →
      exec (.writeStaged ses .flow) s = .next (answered ses { touch ses s with sieve := { s.sieve with waitingWrites := s.sieve.waitingWrites ++ [(flowMark + reg 0x4013 1 s, reg 0x4013 2 s)] } })) ∧
    (∀ (ses : Session) (t : TableRec) (s : State),
      Served ses s →
      s.dev ≠ .terminal →
      t ≠ .flow ∧ t ≠ .guard →
      (tabRec t).clear ≠ [] →
      exec (.clearEntryCounters ses t) s = .next (answered ses (
        let i := (tabRec t).index;
        let e := selected t (touch ses s);
        setReg i (tabRec t).cmd 2 ((tabRec t).clear.foldl (fun u j => setRegE e i j 0 u) (touch ses s))))) ∧
    (∀ (ses : Session) (s : State),
      Served ses s →
      stageCode ses s = 0 →
      s.sieve.refreshing = false →
      exec (.flowDeleteStaged ses) s = .next (answered ses (flowUnstage (reg 0x4013 1 s) (touch ses s)))) ∧
    (∀ (s : State),
      s.sieve.refreshing = true →
      exec .stagedBankRefreshComplete s = .next (s.sieve.waitingWrites.foldl (fun t x => stageWrite x.1 x.2 t)
        { s with sieve := { s.sieve with refreshing := false, waitingWrites := [] } })) ∧
    (∀ (ses : Session) (s : State),
      Served ses s →
      s.dev ≠ .terminal →
      exec (.zonePairCountersRead ses) s = .next (answered ses (setReg 0x4040 7 2 ([3, 4, 5, 6].foldl (fun u j => setReg 0x4040 j (regE (zonePair u) 0x4040 j u) u) (touch ses s))))) ∧
    (∀ (ses : Session) (s : State),
      Served ses s →
      s.dev ≠ .terminal →
      exec (.zonePairCountersClear ses) s = .next (answered ses (setReg 0x4040 7 2 ([3, 4, 5, 6].foldl (fun u j => setRegE (zonePair u) 0x4040 j 0 u) (touch ses s))))) ∧
    (∀ (r : Nat) (s : State),
      s.access.coreUp = true →
      freshProfiles s = [r] →
      exec .freshnessFlashCopy s = .next { s with sieve := { s.sieve with
        flashFreshness := tset (0, 0, 0) s.sieve.flashFreshness r (regE r 0x4020 8 s, cfgE r 0x4020 2 s, cfgE r 0x4020 3 s) } })

/-- A frame that arrives on a port that is down, or in Boot or Catch, leaves no trace. A whole frame with a good FCS on a port without MACsec is
counted with its octets and classified from its bytes; one with fewer than 18 bytes and an error is only counted under what the MAC found.
The verdict of a frame whose pass-pairs are done is released: it decides the copies; a frame whose pass-pairs are open waits. A scan a
second after the last one returns orphaned ells to the free list and counts them. At the end of a millisecond without a refusal and without
a run of drops the overload supervision takes the new tick. (R67, R68, R81, R82, R98, R100, R105, R106, R108, R119, R192, R198) -/
def Obligations.FramesAreReceivedAndReleased : Prop :=
    (∀ (p : Fin 33) (f : EthFrame) (s : State),
      ¬ Past s ∨ portUp p.val s = false →
      exec (.ethernetFrameReceive p f) s = .next s) ∧
    (∀ (p : Fin 33) (f : EthFrame) (s : State),
      Past s →
      portUp p.val s = true →
      30 ≤ p.val →
      f.start = .sfd →
      f.truncated = false →
      f.fcsGood = true →
      60 ≤ f.bytes.length →
      f.bytes.length ≤ 9212 →
      exec (.ethernetFrameReceive p f) s = .next (settle 4 (classifyFrame p.val 0 f.bytes (f.bytes.length + 4) false
        (countBy 8 (pC p.val) 2 (f.bytes.length + 4) (countBy 8 (pC p.val) 1 1 s))))) ∧
    (∀ (p : Fin 33) (f : EthFrame) (s : State),
      Past s →
      portUp p.val s = true →
      p.val < 30 →
      macsecOn p.val s = false →
      f.start = .sfd →
      f.truncated = false →
      f.bytes.length < 18 →
      exec (.ethernetFrameReceive p f) s = .next (count (pC p.val) 4 (setPrt p.val { prt p.val s with lastAt := wall s } s))) ∧
    (∀ (n : Nat) (d : Decision) (f : Frame) (s : State),
      decOf n s = some d →
      d.pairs = [] →
      frameOf n s = some f →
      exec (.verdictRelease n) s = .next (settle 4 (releaseFrame f d s))) ∧
    (∀ (n : Nat) (d : Decision) (r : BusRec) (s : State),
      decOf n s = some d →
      d.pairs = [] →
      frameOf n s = none →
      (s.braid.recs.find? fun r => r.id == n) = some r →
      exec (.verdictRelease n) s = .next (settle 4 (
        let v := finalVerdict d (some r.frame.data) s;
        let t := dropDec d.id (v.1.zones.foldl (fun t e => countPair d.zone e 0 t) v.2);
        let t := if d.trapMP then emit (.toCore r.frame.data) t else t;
        { t with braid := { t.braid with recs := t.braid.recs.map fun x => if x.id == r.id then { x with permitted := v.1.zones, released := true } else x } }))) ∧
    (∀ (n : Nat) (d : Decision) (s : State),
      decOf n s = some d →
      d.pairs ≠ [] →
      exec (.verdictRelease n) s = .next s) ∧
    (∀ (s : State),
      due s.buf.scanAt (ms 1000) s = true →
      s.buf.doomed = [] →
      s.buf.retired = [] →
      exec .orphanScan s = .next (
        let t := countBy 4 0x3400 9 s.buf.orphans.length s;
        { t with buf := { s.buf with orphans := [], scanAt := wall s, freed := s.buf.freed ++ s.buf.orphans } })) ∧
    (∀ (s : State),
      s.buf.tick < nowNs s / 1000000 →
      s.buf.refusedNow = [] →
      s.buf.dropRuns = [] →
      exec .overloadTick s = .next { s with buf := { s.buf with refusedNow := [], tick := nowNs s / 1000000 } })

/-- On a port that is down, or whose outputs are in their safe state, selection drops and counts what is queued. A port that already sends, with
nothing express and no hold waiting, keeps its frame; a free port with no eligible express queue resumes its preempted frame where the gate
allows it, else the eligible queue that strict priority and fair queuing choose begins its head frame. The end of a frame on a switch port
sends it with its FCS, or with the stomp that its copy carries, counts it and frees the port. A head frame for a host receive queue whose
channel has no posted buffer is dropped and counted. (R62, R68, R98, R99, R127, R128, R130, R162, R360, R416) -/
def Obligations.FramesAreSelectedAndSent : Prop :=
    (∀ (p : Fin 33) (s : State),
      portUp p.val s = false ∨ (p.val < 30 ∧ outputsSafe s = true) →
      exec (.transmissionSelection p) s = .next (settle 4 (flushPort p.val (countBy 4 (pC p.val) 0x0A (s.buf.copies.filter fun c => c.port == p.val).length s)))) ∧
    (∀ (p : Fin 33) (s : State),
      portUp p.val s = true →
      30 ≤ p.val →
      exec (.transmissionSelection p) s = .next (settle 4 (
        let t := if (egr p.val s).cur.isSome && (expressEligible p.val s || holdInForce p.val s) then preempt p.val s else s;
        if (egr p.val t).cur.isSome then t
        else
        let t := (List.range 8).foldl (fun u q => dropOversize t.buf.copies.length p.val q u) t;
        if !expressEligible p.val t && resumable p.val t then resumeFrame p.val t
        else selectFrame (t.buf.copies.length + 1) p.val t))) ∧
    (∀ (p : Fin 33) (c : Copy) (seen : TxEnd) (s : State),
      p.val ≠ 30 →
      (egr p.val s).cur = some c →
      exec (.frameTransmitEnd p seen) s = .next (settle 4 (
        let r := closeFrame p.val c seen s;
        let t := deliver p.val c r.1 r.2;
        let t := reap c.frame (setEgr p.val { egr p.val t with cur := none, sent := 0, overrun := false } t);
        if p.val < 30 && (prt p.val t).retrain then dropAtBoundary p.val t else t))) ∧
    (∀ (q : Fin 8) (c : Copy) (s : State),
      (egr 30 s).cur = some c →
      c.queue = q.val →
      receiver q.val s = none →
      exec (.hostRingDrop q) s = .next (reap c.frame (setEgr 30 { egr 30 s with cur := none, sent := 0, overrun := false } (count 0x345E 0x14 s))))

/-- The oldest decision of a lane that waits for a pass-pair gets the outcome. Two passes that agree, without a parity error, let the decision
go on with its next pair and are counted. A consequential divergence without a parity error in a first run denies the decision, is counted,
and withdraws the lane with cause 1. A divergence with a parity error in a first run, which a retry can still serve in time, is run again. A
fault of the comparator denies the decision that it compares and fires its source. (R195, R197, R198, R199, R200, R206) -/
def Obligations.PassPairsAreCompared : Prop :=
    (∀ (n : Fin 2) (d : Decision) (s : State),
      (s.decs.find? fun d => d.lane == n.val && !d.pairs.isEmpty) = some d →
      d.retry = false →
      exec (.passPairOutcome n ⟨0, 0, 0, false, false, false, false⟩) s =
        .next (pairDone d (countBy 8 (0x4051 + n.val) 1 1 s))) ∧
    (∀ (n : Fin 2) (d : Decision) (x : PassPair) (s : State),
      (s.decs.find? fun d => d.lane == n.val && !d.pairs.isEmpty) = some d →
      d.retry = false →
      x.stage4Parity = false →
      x.bufferParity = false →
      x.word0.val ≠ 0 →
      (let b := bankOf d.epoch s;
        let p := d.pairs.headD 0;
        consequential d.zones p (word0 b d p) (word1 b d p) x.word0.val x.word1.val 0 x.word0.val = true) →
      exec (.passPairOutcome n x) s = .next (withdrawLane n.val 1 (denyDecision n.val d (count (0x4051 + n.val) 3 (noteDivergence n.val x true (countBy 8 (0x4051 + n.val) 1 1 s)))))) ∧
    (∀ (n : Fin 2) (d : Decision) (s : State),
      (s.decs.find? fun d => d.lane == n.val && !d.pairs.isEmpty) = some d →
      exec (.comparatorFault n) s = .next (fire (0x26 + n.val) n.val (setDec { d with outcome := 1, pairs := [], retry := false } (count (0x4051 + n.val) 6 s)))) ∧
    (∀ (n : Fin 2) (s : State),
      (s.decs.find? fun d => d.lane == n.val && !d.pairs.isEmpty) = none →
      exec (.comparatorFault n) s = .next (fire (0x26 + n.val) n.val s))

/-- A lane whose withdrawal has been decided is withdrawn when its last accepted decision has run; lane 1 returns its pecks and its domain is
switched off. A restore command for a withdrawn lane whose fault source is clear starts the test, with lane 1 asking for its pecks first;
any other lane refuses it with 0x0800_0022. A passed test puts the lane to work with cause 0; a failed one leaves it withdrawn with cause 5
and fires its fault source. A working lane passes the test of its comparator: it is counted and the seeded position steps on. (R201, R202,
R203, R205) -/
def Obligations.LanesAreWithdrawnAndRestored : Prop :=
    (∀ (s : State),
      reg 0x4050 1 s = 1 →
      (s.decs.any fun d => d.lane == 0 && !d.pairs.isEmpty) = false →
      exec (.laneDrainEnd 0) s = .next (setReg 0x4050 1 2 s)) ∧
    (∀ (s : State),
      reg 0x4050 2 s = 1 →
      (s.decs.any fun d => d.lane == 1 && !d.pairs.isEmpty) = false →
      exec (.laneDrainEnd 1) s = .next (let t := peckReturn 3 (setReg 0x4050 2 2 s); setReg 0x5020 2 (setField (reg 0x5020 2 t) 13 1 0) t)) ∧
    (∀ (ses : Session) (n : Fin 2) (s : State),
      Served ses s →
      s.dev ≠ .terminal →
      reg 0x4050 (n.val + 1) s = 2 →
      srcSet (0x22 + n.val) s = false →
      exec (.restoreLane ses n) s = .next (answered ses (
        let t := setReg 0x4050 7 1 (touch ses s);
        let t := { t with lanes := tset laneSt0 s.lanes n.val { lane n.val s with testing := true, latent := [] } };
        if n.val = 1 then peckRequest 3 t else t))) ∧
    (∀ (ses : Session) (n : Fin 2) (s : State),
      Served ses s →
      reg 0x4050 (n.val + 1) s ≠ 2 ∨ srcSet (0x22 + n.val) s = true →
      exec (.restoreLane ses n) s = .next (emit (.answer ses 0x08000022 []) (touch ses s))) ∧
    (∀ (n : Fin 2) (s : State),
      laneTests n.val s = true →
      reg 0x4050 7 s ≠ 1 →
      exec (.laneSelfTestComplete n true) s = .next (
        let t := { s with lanes := tset laneSt0 s.lanes n.val { lane n.val s with testing := false, latent := [] } };
        let t := setReg (0x4051 + n.val) 0x0B 0 (setReg 0x4050 (n.val + 1) 0 t);
        { t with faults := { s.faults with withdrawn := s.faults.withdrawn.filter fun w => w.1 ≠ .lane n.val } })) ∧
    (∀ (n : Fin 2) (s : State),
      laneTests n.val s = true →
      reg 0x4050 7 s ≠ 1 →
      reg 0x4050 (2 - n.val) s = 0 →
      exec (.laneSelfTestComplete n false) s = .next (
        let t := { s with lanes := tset laneSt0 s.lanes n.val { lane n.val s with testing := false, latent := [] } };
        fire (0x22 + n.val) (n.val + 256 * 5) (setReg (0x4051 + n.val) 0x0B 5 (setReg 0x4050 (n.val + 1) 2 t)))) ∧
    (∀ (n : Fin 2) (s : State),
      reg 0x4050 (n.val + 1) s = 0 →
      (lane n.val s).testing = false →
      exec (.seededComparatorTest n) s = .next (setReg (0x4051 + n.val) 0x0C ((reg (0x4051 + n.val) 0x0C s + 1) % 192) (count (0x4051 + n.val) 7 s)))

/-- At the change time of its pending list a port's list becomes the operational one, its status objects show it, and the change is counted; a
stream gate's list likewise, with its admission time noted. When an entry begins, the number of the entry in force is shown, and a frame
that is not preemptable and still goes out through a gate that is closed is counted once. An entry of a staged list is read into the record,
or staged from it by the holder of the lock; of the operational list it is read only. (R139, R148, R150, R152, R153, R154, R155, R156, R163) -/
def Obligations.GateListsRunAndSwitch : Prop :=
    (∀ (p : Fin 22) (l : GateList) (s : State),
      listsRun s = true →
      gated p.val s = true →
      (gateOf p.val s).oper = some l →
      (egr p.val s).cur = none →
      exec (.gateEntryChange p) s = .next (setReg (0x3500 + p.val) 0x0E (entryAt l (nowNs s)).1 s)) ∧
    (∀ (p : Fin 22) (l : GateList) (c : Copy) (s : State),
      listsRun s = true →
      gated p.val s = true →
      (gateOf p.val s).oper = some l →
      (egr p.val s).cur = some c →
      (egr p.val s).overrun = false →
      (let t := setReg (0x3500 + p.val) 0x0E (entryAt l (nowNs s)).1 s;
        gateOpen p.val c.queue t = false ∧ (p.val < 16 ∧ preemptable p.val c.queue t = true → False)) →
      exec (.gateEntryChange p) s = .next (count (0x3500 + p.val) 0x11 (setEgr p.val { egr p.val s with overrun := true }
        (setReg (0x3500 + p.val) 0x0E (entryAt l (nowNs s)).1 s)))) ∧
    (∀ (p : Fin 22) (a : GateList) (s : State),
      listsRun s = true →
      gated p.val s = true →
      16 ≤ p.val →
      (gateOf p.val s).admin = some a →
      (gateOf p.val s).changeAt ≤ nowNs s →
      exec (.gateListSwitchOver p) s = .next (
        let t := { s with gates := tset gateSt0 s.gates p.val { oper := some a, admin := none, changeAt := (gateOf p.val s).changeAt } };
        let t := setReg (0x3500 + p.val) 0x0D a.entries.length (setReg (0x3500 + p.val) 0x0C (a.cycle / 8)
        (setReg (0x3500 + p.val) 0x0B (time80 a.base) (setReg (0x3500 + p.val) 9 0 t)));
        setReg (0x3500 + p.val) 0x0E (entryAt a (nowNs s)).1 (count (0x3500 + p.val) 0x0F t))) ∧
    (∀ (g : Fin 256) (a : GateList) (s : State),
      (sgateOf g.val s).admin = some a →
      (sgateOf g.val s).changeAt ≤ nowNs s →
      cfgE g.val 0x3220 2 s = 1 →
      exec (.streamGateEntryChange g) s = .next (setRegE g.val 0x3220 9 (time80 a.base) { s with streamGates := tset gateSt0 s.streamGates g.val ⟨some a, none, (sgateOf g.val s).changeAt⟩ })) ∧
    (∀ (ses : Session) (l : GateList) (s : State),
      Served ses s →
      s.dev ≠ .terminal →
      reg 0x3540 2 s = 1 →
      (gateOf (reg 0x3540 1 s) s).oper = some l →
      exec (.gateEntryRead ses) s = .next (answered ses (
        let x := (l.entries.drop (reg 0x3540 3 s)).headD (0, 0, 0);
        setReg 0x3540 7 2 (setReg 0x3540 6 (x.1 / 8) (setReg 0x3540 5 x.2.2 (setReg 0x3540 4 x.2.1 (touch ses s))))))) ∧
    (∀ (ses : Session) (s : State),
      Served ses s →
      stageCode ses s = 0 →
      reg 0x3540 2 s ≠ 1 →
      exec (.gateEntryWriteStaged ses) s = .next (answered ses (
        let k := reg 0x3540 1 s * 1024 + reg 0x3540 3 s;
        setReg 0x3540 7 2 (stageE k 0x3540 6 (reg 0x3540 6 s) (stageE k 0x3540 5 (reg 0x3540 5 s) (stageE k 0x3540 4 (reg 0x3540 4 s) (touch ses s)))))))

/-- A hold begins at a Set-And-Hold-MAC entry, less the hold advance, is counted, and a preemptable frame in progress is preempted; it ends at a
Set-And-Release-MAC entry, less the release advance. Verification sends its mPacket once every verify time, three times at most, after which
it has failed. A received verify mPacket is answered while preemption is enabled and is an SMD error else; a received respond mPacket ends
verification with success and preemption becomes active. (R159, R160, R161, R162, R164) -/
def Obligations.PreemptionHoldsAndIsVerified : Prop :=
    (∀ (p : Fin 16) (s : State),
      listsRun s = true →
      gated p.val s = true →
      reg (0x3580 + p.val) 8 s = 0 →
      holdEntry p.val 1 (cfg (0x3500 + p.val) 7 s) s = true →
      exec (.holdAssert p) s = .next (preempt p.val (count (0x3580 + p.val) 0x0F (setReg (0x3580 + p.val) 8 1 s)))) ∧
    (∀ (p : Fin 16) (s : State),
      listsRun s = true →
      gated p.val s = true →
      holdEntry p.val 2 (cfg (0x3500 + p.val) 8 s) s = true →
      exec (.holdRelease p) s = .next (setReg (0x3580 + p.val) 8 0 s)) ∧
    (∀ (p : Fin 16) (s : State),
      portUp p.val s = true →
      cfg (0x3580 + p.val) 1 s = 1 →
      cfg (0x3580 + p.val) 4 s = 1 →
      reg (0x3580 + p.val) 6 s = 1 ∨ reg (0x3580 + p.val) 6 s = 2 →
      (egr p.val s).verifyTries = 0 ∨ due (egr p.val s).verifyAt (ms (cfg (0x3580 + p.val) 5 s)) s = true →
      exec (.verifyMpacketSend p) s = .next (if 3 ≤ (egr p.val s).verifyTries then setReg (0x3580 + p.val) 6 4 s
        else emit (.mPacket p.val false) (setReg (0x3580 + p.val) 6 2 (setEgr p.val { egr p.val s with verifyTries := (egr p.val s).verifyTries + 1, verifyAt := wall s } s)))) ∧
    (∀ (p : Fin 16) (s : State),
      portUp p.val s = true →
      exec (.verifyMpacketReceive p) s = .next (if cfg (0x3580 + p.val) 1 s = 1 then emit (.mPacket p.val true) s else count (0x3580 + p.val) 0x0E s)) ∧
    (∀ (p : Fin 16) (s : State),
      portUp p.val s = true →
      cfg (0x3580 + p.val) 1 s ≠ 0 →
      reg (0x3580 + p.val) 6 s = 1 ∨ reg (0x3580 + p.val) 6 s = 2 →
      exec (.respondMpacketReceive p) s = .next (setReg (0x3580 + p.val) 7 1 (setReg (0x3580 + p.val) 6 3 s)))

/-- A stream entry that has accepted no frame for its reset timeout forgets its history, so that its next frame is accepted whatever its number.
The clear commands of the filter, stream-gate and meter records set the live latch and counters of the selected entry to 0 and read done;
nothing else of the entry or of any other changes. (R92, R138, R139, R144) -/
def Obligations.StreamLatchesAndRecovery : Prop :=
    (∀ (n : Fin 4096) (r : Nat) (s : State),
      (frerOf n.val s).recent = some r →
      due (frerOf n.val s).last (ms (cfgE n.val 0x3200 0x0B s)) s = true →
      exec (.frerResetTimeout n) s = .next { s with frer := tset frerSt0 s.frer n.val { frerOf n.val s with recent := none, history := 0 } }) ∧
    (∀ (ses : Session) (s : State),
      Served ses s →
      s.dev ≠ .terminal →
      exec (.streamGateClearLatch ses) s = .next (answered ses (setReg 0x3220 0x0A 2 (setRegE (reg 0x3220 1 s) 0x3220 8 0 (touch ses s))))) ∧
    (∀ (ses : Session) (s : State),
      Served ses s →
      s.dev ≠ .terminal →
      exec (.filterClearBlocked ses) s = .next (answered ses (setReg 0x3210 0x0E 2 ([8, 9, 0x0A, 0x0B, 0x0C, 0x0D].foldl (fun t j => setRegE (reg 0x3210 1 s) 0x3210 j 0 t) (touch ses s))))) ∧
    (∀ (ses : Session) (s : State),
      Served ses s →
      s.dev ≠ .terminal →
      exec (.meterClearLatch ses) s = .next (answered ses (setReg 0x3230 0x0D 2 ([9, 0x0A, 0x0B, 0x0C].foldl (fun t j => setRegE (reg 0x3230 1 s) 0x3230 j 0 t) (touch ses s)))))

/-- An engine that does not hear its bus takes no frame. A frame of a format that its mode receives, which finds the staging buffer full, is
dropped and counted and source 0x83 fires; one that finds room is counted and goes to the shadow comparison and the Braider with the time of
its start of frame. A frame of a higher format is counted as a protocol exception where exception handling is on. The clear command sets the
engine's counters to 0 and reads done. (R208, R209, R215, R216, R217) -/
def Obligations.CanFramesAreReceived : Prop :=
    (∀ (n : Fin 48) (f : BusFrame) (d : Fin 4294967296) (s : State),
      canHears n.val s = false ∨ fmtReceived (can n.val s).mode f.fmt = false →
      s.faults.due = [] →
      exec (.canFrameReceive n f d) s = .next s) ∧
    (∀ (n : Fin 48) (f : BusFrame) (d : Fin 4294967296) (s : State),
      canState n.val s = 6 →
      fmtReceived (can n.val s).mode f.fmt = true →
      (staged n.val s).length < 2 →
      exec (.canFrameReceive n f d) s = .next (settle 4 (handOn n.val f (nowNs s - d.val)
        (count (cE n.val + 2) 6 (setCan n.val { can n.val s with recent := staged n.val s ++ [wall s], lastAt := wall s } s))))) ∧
    (∀ (n : Fin 48) (f : BusFrame) (d : Fin 4294967296) (s : State),
      canState n.val s = 6 →
      fmtReceived (can n.val s).mode f.fmt = true →
      (staged n.val s).length = 2 →
      exec (.canFrameReceive n f d) s = .next (settle 4 (fire 0x83 n.val (count (cE n.val + 2) 0x0C
        (setCan n.val { can n.val s with recent := staged n.val s, lastAt := wall s } s))))) ∧
    (∀ (n : Fin 48) (s : State),
      canHears n.val s = true →
      (can n.val s).mode < 2 →
      cfg (cE n.val) 5 s = 1 →
      exec (.protocolException n) s = .next (count (cE n.val + 2) 0x0B s)) ∧
    (∀ (ses : Session) (n : Fin 48) (s : State),
      Served ses s →
      s.dev ≠ .terminal →
      exec (.canClearCounters ses n) s = .next (answered ses (setReg (cE n.val) 0x0D 2
        ([6, 7, 8, 9, 0x0A, 0x0B, 0x0C, 0x0D, 0x0F].foldl (fun t j => setReg (cE n.val + 2) j 0 t) (touch ses s)))))

/-- An engine that may start a frame starts the slot that would win arbitration among those whose window is open, and notes the start in its
route; an engine under a lease that does not hold for the frame's longest time starts nothing and counts it once per frame. A confirmed
transmission is counted, lowers the transmit error counter by one, frees its slot, and tells the route; that of an FD or XL frame with delay
compensation shows the measured delay, held to 255 and counted beyond; a failed attempt with retransmission on keeps the slot pending, and a
lost arbitration is counted. (R218, R219, R220, R245, R253, R313) -/
def Obligations.CanFramesAreSent : Prop :=
    (∀ (n : Fin 48) (x : Slot) (s : State),
      mayStart n.val s = true →
      bestSlot n.val s = some x →
      leased n.val s = false →
      exec (.transmitSlotSelection n) s = .next (
        let t := setCan n.val { can n.val s with sof := nowNs s, slots := (can n.val s).slots.map fun y => if y.route == x.route && y.born == x.born then { y with locked := true } else y } s;
        if x.kept then t else setRoute x.route { route x.route t with lastSof := some (wall s) } t)) ∧
    (∀ (n : Fin 48) (x : Slot) (s : State),
      mayStart n.val s = true →
      bestSlot n.val s = some x →
      leased n.val s = true →
      leaseHolds (worstNs s.cfg n.val x.frame) s = false →
      exec (.transmitSlotSelection n) s = .next (if (can n.val s).gated = x.born + 1 then s else
        count 0x5401 0x0B (setCan n.val { can n.val s with gated := x.born + 1 } s))) ∧
    (∀ (n : Fin 48) (d : Fin 4096) (x : Slot) (s : State),
      lockedSlot n.val s = some x →
      canState n.val s = 6 →
      x.kept = true →
      x.frame.fmt = .classical →
      exec (.transmitConfirmation n d) s = .next (settle 4 (settleStandby n.val (fillSlots n.val
        (let t := setReg (cE n.val + 2) 2 (tec n.val s - 1) (emit (.can n.val x.frame) (count (cE n.val + 2) 7 s));
        setCan n.val { can n.val s with offs := 0, lastAt := wall s, slots := (can n.val s).slots.filter fun y => !y.locked } t))))) ∧
    (∀ (n : Fin 48) (d : Fin 4096) (x : Slot) (s : State),
      lockedSlot n.val s = some x →
      x.frame.fmt ≠ .classical →
      cfg (cE n.val + 1) 9 s = 1 →
      exec (.transmitConfirmation n d) s = .next (settle 4 (confirmSlot n.val x (
        let t := setReg (cE n.val + 2) 5 (min 255 d.val) s;
        if d.val > 255 then count (cE n.val + 2) 0x0F t else t)))) ∧
    (∀ (n : Fin 48) (x : Slot) (b : Bool) (s : State),
      lockedSlot n.val s = some x →
      cfg (cE n.val) 4 s = 1 →
      x.kept = false →
      x.shadow = none →
      exec (.transmitAttemptFailed n b none) s = .next (settleStandby n.val (fillSlots n.val
        (setCan n.val { can n.val s with slots := (can n.val s).slots.filter fun y => !y.locked } (if b then count (cE n.val + 2) 0x0A s else s)))))

/-- An error is counted with its code. The engine that transmits adds 8 to its transmit error counter, and above 255 goes bus-off: its counter
stands at 255, bus-off is counted, source 0x80 fires and recovery begins by the configured mode. An engine that runs listen-only counts no
errors in its error counters. The hold-off being over starts the recovery; when the recovery is complete both counters are 0 and the engine
is error-active again. A manual recovery is taken from a bus-off engine in manual mode and refused with 0x0800_0022 from any other. (R208,
R217, R221, R222) -/
def Obligations.CanErrorsAndBusOff : Prop :=
    (∀ (n : Fin 48) (e : CanError) (s : State),
      canActive n.val s = true →
      shadowed n.val s = false →
      braidStill s = false →
      e.inXlData = false →
      e.transmitter = true →
      e.exempt = false →
      247 < tec n.val s →
      exec (.canBusError n e) s = .next (settle 4 (fire 0x80 n.val (startRecovery n.val (count (cE n.val + 2) 9 (
        let t := emit (.canError n.val) (setReg (cE n.val + 2) 4 (errorCode e.kind) (count (cE n.val + 2) 8 s));
        setCan n.val { can n.val s with offs := (can n.val s).offs + 1 } (setReg (cE n.val + 2) 1 5 (setReg (cE n.val + 2) 2 255 t)))))))) ∧
    (∀ (n : Fin 48) (e : CanError) (s : State),
      canState n.val s = 6 ∨ canState n.val s = 7 →
      exec (.canBusError n e) s = .next (setReg (cE n.val + 2) 4 (errorCode e.kind) (count (cE n.val + 2) 8 s))) ∧
    (∀ (n : Fin 48) (s : State),
      (can n.val s).recov = 1 →
      trans n.val s = 2 →
      due (can n.val s).offAt (ms (holdOff n.val s)) s = true →
      exec (.busOffHoldOffEnd n) s = .next (setCan n.val { can n.val s with recov := 2 } s)) ∧
    (∀ (n : Fin 48) (s : State),
      canState n.val s = 5 →
      (can n.val s).recov = 2 →
      trans n.val s = 2 →
      cfg (cE n.val) 3 s ≠ 1 →
      exec (.busOffRecoveryComplete n) s = .next (fillSlots n.val (errorState n.val (setReg (cE n.val + 2) 1 3
        (setReg (cE n.val + 2) 2 0 (setReg (cE n.val + 2) 3 0 (setCan n.val { can n.val s with recov := 0 } s))))))) ∧
    (∀ (ses : Session) (n : Fin 48) (s : State),
      Served ses s →
      s.dev ≠ .terminal →
      exec (.canRecover ses n) s = .next (
        if canState n.val s = 5 ∧ cfg (cE n.val) 6 s = 2 then answered ses (setReg (cE n.val) 0x0D 2 (setCan n.val { can n.val s with recov := 2 } (touch ses s)))
        else emit (.answer ses 0x08000022 []) (touch ses s)))

/-- Settings that wait are taken over at a bus idle, the engine integrating anew where its timing changed. A standby request takes the
transceiver of an engine with no frame in progress to standby, unless the engine is forced to normal mode. The end of a mode change puts the
transceiver into normal mode and the engine integrates; 11 recessive bits put it on its bus. A bus held dominant fires source 0x82 once. 0.2
ms after the start with the BCLK PLL locked the engines join in capture and the device enters Catch, or Terminal while that is latched.
(R36, R214, R223, R225, R226, R234, R235) -/
def Obligations.EnginesJoinAndLeaveTheirBuses : Prop :=
    (∀ (n : Fin 48) (s : State),
      (can n.val s).takeover = true →
      (can n.val s).retime = true →
      lockedSlot n.val s = none →
      capturing n.val s = false →
      canState n.val s = 3 →
      exec (.engineSettingsTakeover n) s = .next (setReg (cE n.val + 2) 1 2 (setCan n.val { can n.val s with takeover := false, retime := false, mode := cfg (cE n.val) 2 s } s))) ∧
    (∀ (n : Fin 64) (s : State),
      n.val < 48 →
      cfg (cE n.val + 3) 1 s ≠ 1 →
      trans n.val s = 2 →
      lockedSlot n.val s = none →
      canState n.val s = 3 →
      exec (.transceiverStandbyRequest n) s = .next (setReg (cE n.val + 2) 1 1 (setReg (cE n.val + 3) 3 0 (setReg (cE n.val + 3) 3 3 s)))) ∧
    (∀ (n : Fin 64) (s : State),
      n.val < 48 →
      cfg (cE n.val + 3) 1 s = 1 →
      exec (.transceiverStandbyRequest n) s = .next s) ∧
    (∀ (n : Fin 64) (s : State),
      n.val < 48 →
      trans n.val s = 1 →
      due (can n.val s).modeAt (us (cfg (cE n.val + 3) 2 s)) s = true →
      canState n.val s = 1 →
      exec (.transceiverModeChangeEnd n) s = .next (setReg (cE n.val + 2) 1 2 (setReg (cE n.val + 3) 3 2 s))) ∧
    (∀ (n : Fin 64) (s : State),
      48 ≤ n.val →
      (lin (n.val - 48) s).mode = 1 →
      due (lin (n.val - 48) s).modeAt 50000 s = true →
      exec (.transceiverModeChangeEnd n) s = .next (setLin (n.val - 48) { lin (n.val - 48) s with mode := 2 } s)) ∧
    (∀ (n : Fin 64) (s : State),
      n.val < 48 →
      (can n.val s).held = false →
      canState n.val s = 2 →
      trans n.val s = 2 →
      capturing n.val s = true →
      exec (.integrationComplete n) s = .next (fillSlots n.val (setReg (cE n.val + 2) 1 7 s))) ∧
    (∀ (n : Fin 64) (s : State),
      n.val < 48 →
      trans n.val s = 2 →
      (can n.val s).held = false →
      exec (.busHeldDominant n) s = .next (fire 0x82 n.val (setCan n.val { can n.val s with held := true } s))) ∧
    (∀ (s : State),
      s.dev = .boot →
      s.power.reset = 0 →
      s.power.extending = none →
      bit (reg 0x5030 1 s) 2 = true →
      due s.power.started 200000 s = true →
      exec .captureJoin s = .next (let t := setReg 0x5010 1 (sinceStart s) (captureJoin ((List.range 64).filter fun e => !engAsleep e s) s);
        setDev (if t.faults.terminal then .terminal else .catch_) t))

/-- At a tick of its time base, after the slot before, a commander whose go-to-sleep waits sends the go-to-sleep frame; else it serves the next
entry of its schedule, a requested table first, or stops with no table. A table request is noted with its entry and takes effect in the next
slot; a request above 7 other than 0xFF is refused. A wake-up command starts its pulse and holds the schedule for the time after it; it, and
a go-to-sleep command, are refused while a command runs. The clear command sets the counters of the bus to 0. (R208, R229, R230, R231, R233) -/
def Obligations.LinSchedulesRun : Prop :=
    (∀ (m : Fin 16) (s : State),
      schedulesRun s = true →
      commands m.val s = true →
      nowNs s % max 1 (linBase m.val s) < 1000 →
      (lin m.val s).slotEnd ≤ nowNs s →
      (lin m.val s).notBefore ≤ nowNs s →
      (lin m.val s).own = false →
      (lin m.val s).toSleep = false →
      linNext m.val (setLin m.val { lin m.val s with ident := none } s) = (none, none) →
      exec (.linSlotStart m) s = .next (settle 4 (setReg (lB m.val + 3) 1 2 (setReg (lB m.val + 1) 3 0xFF
        (let t := setLin m.val { lin m.val s with ident := none } s;
        setLin m.val { lin m.val t with req := none, collide := none, resume := none } t))))) ∧
    (∀ (m : Fin 16) (s : State),
      schedulesRun s = true →
      commands m.val s = true →
      nowNs s % max 1 (linBase m.val s) < 1000 →
      (lin m.val s).slotEnd ≤ nowNs s →
      (lin m.val s).notBefore ≤ nowNs s →
      exec (.linSlotStart m) s = .next (settle 4 (slotStart m.val s))) ∧
    (∀ (ses : Session) (m : Fin 16) (t : Byte) (s : State),
      Served ses s →
      s.dev ≠ .terminal →
      t.toNat ≤ 7 ∨ t.toNat = 0xFF →
      cfg (lB m.val) 2 s = 0 →
      exec (.linTableRequest ses m t) s = .next (answered ses (setReg (lB m.val + 1) 1 t.toNat
        (setLin m.val { lin m.val s with req := some (t.toNat, reg (lB m.val + 1) 2 s) } (touch ses s))))) ∧
    (∀ (ses : Session) (m : Fin 16) (t : Byte) (s : State),
      Served ses s →
      s.dev ≠ .terminal →
      7 < t.toNat →
      t.toNat ≠ 0xFF →
      exec (.linTableRequest ses m t) s = .next (emit (.answer ses 0x06090031 []) (touch ses s))) ∧
    (∀ (ses : Session) (m : Fin 16) (s : State),
      Served ses s →
      s.dev ≠ .terminal →
      reg (lB m.val) 0x0B s ≠ 1 →
      braidStill s = false →
      shadowed (48 + m.val) s = false →
      engEnabled s.cfg (48 + m.val) s = true →
      exec (.linWakeUp ses m) s = .next (answered ses (emit (.linWake m.val) (setReg (lB m.val) 0x0B 1
        (setLin m.val { lin m.val s with pulseEnd := wall s + us (cfg (lB m.val) 0x0A s), notBefore := nowNs s + us (cfg (lB m.val) 0x0A s) + ms 100 } (touch ses s)))))) ∧
    (∀ (ses : Session) (m : Fin 16) (s : State),
      Served ses s →
      s.dev ≠ .terminal →
      cfg (lB m.val) 2 s ≠ 1 →
      reg (lB m.val) 0x0B s ≠ 1 →
      exec (.linGoToSleep ses m) s = .next (answered ses (setReg (lB m.val) 0x0B 1 (setLin m.val { lin m.val s with toSleep := true } (touch ses s))))) ∧
    (∀ (ses : Session) (m : Fin 16) (s : State),
      Served ses s →
      reg (lB m.val) 0x0B s = 1 →
      cfg (lB m.val) 2 s ≠ 1 →
      exec (.linGoToSleep ses m) s = .next (emit (.answer ses 0x08000022 []) (touch ses s)) ∧
        exec (.linWakeUp ses m) s = .next (emit (.answer ses 0x08000022 []) (touch ses s))) ∧
    (∀ (ses : Session) (m : Fin 16) (s : State),
      Served ses s →
      s.dev ≠ .terminal →
      exec (.linClearCounters ses m) s = .next (answered ses (setReg (lB m.val) 0x0B 2
        ([3, 4, 5, 6, 7, 8, 9, 0x0A, 0x0B, 0x0C].foldl (fun t j => setReg (lB m.val + 3) j 0 t) (touch ses s)))))

/-- A responder whose sync byte is out of its tolerance counts a sync error with code 5. With a good one it notes the measured rate where its
bit rate is automatic, and expects the response of an identifier that its table subscribes. A response that ends with a wrong checksum is
counted with code 2, one of an event-triggered frame that collided runs the collision table next. A subscribed response that has not come at
TFrame_Max is counted as missing with code 1, or as incomplete with code 4 where bytes were seen. A go-to-sleep frame that a responder hears
is counted and reported to the wake logic. (R228, R231, R232, R233) -/
def Obligations.LinHeadersAndResponses : Prop :=
    (∀ (m : Fin 16) (i : Fin 64) (r : Fin 65536) (s : State),
      linHears m.val s = true →
      (lin m.val s).mode = 3 →
      (lin m.val s).own = false →
      syncTaken m.val r.val (setLin m.val { lin m.val s with ident := none, lastAt := wall s } s) = false →
      exec (.linHeaderReceive m i r) s = .next (setReg (lB m.val + 3) 2 5 (count (lB m.val + 3) 9 (setLin m.val { lin m.val s with ident := none, lastAt := wall s } s)))) ∧
    (∀ (m : Fin 16) (i : Fin 64) (r : Fin 65536) (s : State),
      linState m.val s = 5 →
      (lin m.val s).mode = 3 →
      (lin m.val s).own = false →
      syncTaken m.val r.val (setLin m.val { lin m.val s with ident := none, lastAt := wall s } s) = true →
      exec (.linHeaderReceive m i r) s = .next (
        let u := setLin m.val { lin m.val s with ident := none, lastAt := wall s } s;
        let t := if autoRate m.val u then setReg (lB m.val + 3) 0x0E r.val u else u;
        setLin m.val { lin m.val t with ident := some (i.val, 5), own := false, stamp := nowNs s, headerAt := some (wall s) } t)) ∧
    (∀ (m : Fin 16) (i : Nat) (x : LinResponse) (s : State),
      (lin m.val s).ident = some (i, 0) →
      (lin m.val s).own = false →
      x.checksumGood = false →
      exec (.linResponseReceive m x) s = .next (settle 4 (setReg (lB m.val + 3) 2 2 (count (lB m.val + 3) 7 (setLin m.val { lin m.val s with ident := none, lastAt := wall s } s))))) ∧
    (∀ (m : Fin 16) (i : Nat) (x : LinResponse) (s : State),
      (lin m.val s).ident = some (i, 0) →
      (lin m.val s).own = false →
      x.checksumGood = true →
      exec (.linResponseReceive m x) s = .next (settle 4 (
        let t := setLin m.val { lin m.val s with ident := none, lastAt := wall s } s;
        let f : BusFrame := { classicalFrame i x.data with fmt := .lin, enhanced := x.enhanced };
        shadowCompare (48 + m.val) f (handRec (recOf (48 + m.val) 0xFF 0xFF (lin m.val s).stamp f) (foreignGuard (48 + m.val) f t) (count (lB m.val + 3) 5 t))))) ∧
    (∀ (m : Fin 16) (i ty : Nat) (b : Bool) (s : State),
      (lin m.val s).ident = some (i, ty) →
      (lin m.val s).own = false →
      (lin m.val s).stamp + tFrameNs s.cfg m.val (linLen s.cfg m.val i) ≤ nowNs s →
      ty ≠ 1 →
      exec (.linResponseTimeout m b) s = .next (
        let t := setLin m.val { lin m.val s with ident := none } s;
        if b then setReg (lB m.val + 3) 2 4 (count (lB m.val + 3) 9 t) else setReg (lB m.val + 3) 2 1 (count (lB m.val + 3) 6 t))) ∧
    (∀ (m : Fin 16) (s : State),
      linState m.val s = 4 →
      exec (.goToSleepReceive m) s = .next (count (lB m.val + 3) 0x0B (setLin m.val { lin m.val s with sleepSeen := true } s)))

/-- A spoof of an identifier that a guard entry names is counted and dated in the entry, logged, and denied where it is still in flight; the
entry's reactions follow: quarantine of the engine, and source 0x86. A frame that no guard entry names changes nothing. A quarantine whose
time is over ends. The clear command needs a Workshop credential and sets the entry's count and time to 0. (R172, R185, R186) -/
def Obligations.GuardsReactToSpoofs : Prop :=
    (∀ (e : Fin 64) (k : SpoofKind) (f : BusFrame) (g : Nat) (s : State),
      guardOf s.cfg e.val f = some g →
      k ≠ .foreign →
      leased e.val s = false →
      exec (.guardSpoof e k f) s = .next (settle 4 (guardReact g e.val (kindCode k) (logSpoof g e.val (kindCode k) f (denySpoofed e.val f
        (setRegE g 0x4030 0x0B (time80 (nowNs s)) (countE g 0x4030 0x0A s))))))) ∧
    (∀ (e : Fin 64) (k : SpoofKind) (f : BusFrame) (s : State),
      guardOf s.cfg e.val f = none →
      s.faults.due = [] →
      exec (.guardSpoof e k f) s = .next s) ∧
    (∀ (e : Fin 64) (s : State),
      tget 0 s.sieve.quarantine e.val ≤ monoGrains s →
      exec (.quarantineEnd e) s = .next { s with sieve := { s.sieve with quarantine := tdel s.sieve.quarantine e.val } }) ∧
    (∀ (ses : Session) (s : State),
      Served ses s →
      s.dev ≠ .terminal →
      2 ≤ roleOf ses s →
      exec (.guardClearCounters ses) s = .next (answered ses (setReg 0x4030 0x0C 2 (setRegE (reg 0x4030 1 s) 0x4030 0x0A 0 (setRegE (reg 0x4030 1 s) 0x4030 0x0B 0 (touch ses s)))))) ∧
    (∀ (ses : Session) (s : State),
      Served ses s →
      s.dev ≠ .terminal →
      roleOf ses s < 2 →
      exec (.guardClearCounters ses) s = .next (emit (.answer ses 0x080000A1 []) (touch ses s)))

/-- The oldest record whose verdict is released runs its permitted routes in order and then gives its buffer space back; in the safe state it
only gives it back. At a multiple of its period a periodic route whose frame is still pending counts the missed period and repeats nothing;
with nothing pending its value joins the pending set. The end of a minimum interval, and a token of the limiter that holds a frame, offer
the route's value to the pending set. A window's edge offers or withdraws the values of its engine's routes, one route after another. (R240,
R245, R249, R250, R252, R253, R265, R416) -/
def Obligations.RoutesRunByTheirModes : Prop :=
    (∀ (x : BusRec) (s : State),
      (s.braid.recs.find? (·.released)) = some x →
      braidStill s = true →
      exec .routeExecute s = .next (settle 4 (dropRec x s))) ∧
    (∀ (x : BusRec) (s : State),
      (s.braid.recs.find? (·.released)) = some x →
      braidStill s = false →
      exec .routeExecute s = .next (settle 4 (dropRec x (
        (x.routes.filter fun r => x.permitted.contains (zoneOf (bankOf x.epoch s) (rtTarget (bankOf x.epoch s) r))).foldl (fun t r => runRoute (bankOf x.epoch s) x r t) s)))) ∧
    (∀ (r : Fin 12288) (s : State),
      rt s.cfg r.val 2 = 1 →
      rtMode s.cfg r.val = 1 →
      braidStill s = false →
      (route r.val s).perAt < periodNow r.val s →
      rtEgress s.cfg r.val < 48 →
      (route r.val s).ever = true →
      (route r.val s).box ≠ [] →
      (route r.val s).joined = true →
      exec (.periodicTransmit r) s = .next (countRoute r.val 0x17 (setRoute r.val { route r.val s with perAt := periodNow r.val s } s))) ∧
    (∀ (r : Fin 12288) (s : State),
      rt s.cfg r.val 2 = 1 →
      rtMode s.cfg r.val = 1 →
      braidStill s = false →
      (route r.val s).perAt < periodNow r.val s →
      rtEgress s.cfg r.val < 48 →
      (route r.val s).ever = true →
      (route r.val s).box ≠ [] →
      (route r.val s).joined = false →
      (route r.val s).owed = false →
      inTransmission r.val (rtEgress s.cfg r.val) s = false →
      exec (.periodicTransmit r) s = .next (joinNow r.val (setRoute r.val { route r.val s with perAt := periodNow r.val s, owed := true } s))) ∧
    (∀ (r : Fin 12288) (s : State),
      rtMode s.cfg r.val = 3 →
      braidStill s = false →
      (route r.val s).joined = false →
      inTransmission r.val (rtEgress s.cfg r.val) s = false →
      exec (.minimumIntervalEnd r) s = .next (tryJoin r.val s)) ∧
    (∀ (l : Fin 1024) (e : Nat × RouteSt) (s : State),
      (s.braid.routes.find? fun e => e.2.held && rtLimiter s.cfg e.1 == l.val) = some e →
      braidStill s = false →
      exec (.limiterTokenRelease l) s = .next (tryJoin e.1 s)) ∧
    (∀ (n : Fin 48) (s : State),
      windowed n.val s = true →
      braidStill s = false →
      listsRun s = true →
      (windowSt n.val s).admin = none →
      exec (.transmitWindowEdge n) s = .next ((s.braid.routes.map (·.1)).foldl (fun t r => windowEdge n.val r t) s))

/-- A container whose earliest deadline has come is closed for that reason: its sequence number goes on, it is counted, and its frame enters as
one of port 32. A container whose bytes are no stream that a receive entry accepts is counted at 0x3C00:06. A coordinator sends the BEACON
of a new cycle at a grid point and counts the points that the last cycle ran past; a port that has heard no BEACON for the takeover time
becomes coordinator, counts it, and source 0x62 fires. (R256, R258, R259, R260, R261) -/
def Obligations.ContainersCloseAndAreUnpacked : Prop :=
    (∀ (k : Fin 64) (s : State),
      braidStill s = false →
      ((streamSt k.val s).msgs.any fun m => decide (m.2 ≤ monoNs s)) = true →
      exec (.containerDeadlineClose k) s = .next (settle 4 (closeStream s.cfg k.val 0x0E s))) ∧
    (∀ (u : Unpack) (l : List Unpack) (s : State),
      s.braid.unpack = u :: l →
      avtpOf u.data = none →
      exec .containerUnpack s = .next (count 0x3C00 6 { s with braid := { s.braid with unpack := l } })) ∧
    (∀ (u : Unpack) (l : List Unpack) (a : Avtp) (e : Nat) (s : State),
      s.braid.unpack = u :: l →
      avtpOf u.data = some a →
      entryFor s.cfg u.port a.id = some e →
      exec .containerUnpack s = .next (settle 4 (unpackBody e u a (checkSeq e a.seq (countE e 0x3C21 6 { s with braid := { s.braid with unpack := l } }))))) ∧
    (∀ (k : Fin 8) (s : State),
      coordinator (22 + k.val) s = true →
      portUp (22 + k.val) s = true →
      cfg (0x3C80 + k.val) 1 s = 1 →
      tget 0 s.braid.gridAt k.val = 0 →
      exec (.beaconAlignment k) s = .next (emit (.beacon (22 + k.val)) (noteBeacon (22 + k.val)
        { s with braid := { s.braid with gridAt := tset 0 s.braid.gridAt k.val (nowNs s / (8 * max 1 (cfg (0x3C80 + k.val) 2 s)) + 1) } }))) ∧
    (∀ (k : Fin 8) (s : State),
      cfg (0x3C80 + k.val) 3 s = 1 →
      cfg (pB (22 + k.val) + 5) 1 s = 1 →
      coordinator (22 + k.val) s = false →
      portUp (22 + k.val) s = true →
      due (tget 0 s.braid.beaconAt k.val) (ms (cfg (0x3C80 + k.val) 4 s)) s = true →
      exec (.plcaTakeover k) s = .next (fire 0x62 (22 + k.val) (count (0x3C80 + k.val) 6 (setReg (0x3C80 + k.val) 5 1 s))))

/-- While the replay runs, its next record is submitted: its catch space is given back, and a record older than the longest age is counted as
discarded, a younger one as replayed and handed on with its own stamp. The replay with no record left ends, with its duration in
microseconds. (R262, R263, R264) -/
def Obligations.CaughtFramesAreReplayed : Prop :=
    (∀ (x : BusRec) (l : List BusRec) (s : State),
      reg 0x3C90 2 s = 1 →
      s.braid.replay = x :: l →
      exec .replayRecordSubmit s = .next (settle 4 (replayRec x { s with braid := { s.braid with replay := l } }))) ∧
    (∀ (x : BusRec) (s : State),
      reg 0x3C90 2 s = 1 →
      s.braid.replay = [x] →
      (let t := noteHeld x.source (releaseCatch x { s with braid := { s.braid with replay := [] } });
        x.stamp + ms (cfg 0x5010 2 t) < nowNs t) →
      exec .replayRecordSubmit s = .next (settle 4 (count 0x3C90 4 (noteHeld x.source (releaseCatch x { s with braid := { s.braid with replay := [] } }))))) ∧
    (∀ (s : State),
      reg 0x3C90 2 s = 1 →
      s.braid.replay = [] →
      exec .replayEnd s = .next (setReg 0x3C90 5 ((wall s - s.braid.replayAt) / 1000) (setReg 0x3C90 2 2 s)))

/-- A Sync of the steering instance on its capable slave port runs the servo, and the instance has a master; while gPTP messages are not
processed it is only counted. An edge of PPS_IN runs it too, with the edge on its nearest whole second and a rate ratio that is left open.
The master gone for its number of Sync intervals, and the edge missing for two seconds, lead a locked clock into holdover: the flag, its
start time, and the count are set, source 0xC0 fires, and the clock runs on at its last rate ratio. A holdover as long as its limit fires
source 0xC6. (R266, R272, R274, R275, R276) -/
def Obligations.LocalTimeIsSteered : Prop :=
    (∀ (m : SyncInfo) (s : State),
      cfg 0x3800 3 s = 1 →
      cfg (iP (cfg 0x3800 4 s)) 1 s = 1 →
      ptpRuns s = true →
      ((List.range 22).any fun p => steersFrom p s && portUp p s && reg (0x3820 + p) 0x0A s == 1) = true →
      exec (.syncReceive m) s = .next (settle 4 (servo m.offset m.ratio (setReg (iP (cfg 0x3800 4 s)) 9 1
        (setPtpInst (cfg 0x3800 4 s) { lastSync := wall s, assumed := false } s))))) ∧
    (∀ (m : SyncInfo) (s : State),
      cfg 0x3800 3 s = 1 →
      cfg (iP (cfg 0x3800 4 s)) 1 s = 1 →
      ptpRuns s = false →
      exec (.syncReceive m) s = .next (count (iP (cfg 0x3800 4 s)) 0x0D s)) ∧
    (∀ (s : State),
      cfg 0x3800 3 s = 2 →
      ptpRuns s = true →
      exec .ppsInEdge s = .next (settle 4 (
        let f := nowNs s % 1000000000;
        servo (if 500000000 ≤ f then (f : Int) - 1000000000 else f) ((Config.freeValue s.fresh % 34359739 : Nat) - aLimit)
        { s with fresh := s.fresh + 1, time := { s.time with ppsIn := wall s } }))) ∧
    (∀ (s : State),
      cfg 0x3800 3 s = 1 →
      reg (iP (cfg 0x3800 4 s)) 9 s = 1 →
      due (ptpInst (cfg 0x3800 4 s) s).lastSync (cfg (iP (cfg 0x3800 4 s)) 7 s * syncInterval (cfg 0x3800 4 s) s) s = true →
      cfg (iP (cfg 0x3800 4 s)) 3 s = 0 →
      reg 0x3800 6 s = 3 →
      exec .syncReceiptTimeout s = .next (settle 4 (enterHoldover (nowNs s) (setPtpInst (cfg 0x3800 4 s)
        { ptpInst (cfg 0x3800 4 s) s with assumed := false } (setReg (iP (cfg 0x3800 4 s)) 9 0 s))))) ∧
    (∀ (s : State),
      cfg 0x3800 3 s = 2 →
      due s.time.ppsIn 2000000000 s = true →
      reg 0x3800 6 s = 3 →
      exec .ppsInTimeout s = .next (settle 4 (
        let t := setReg 0x3800 5 (ofInt 32 s.time.ratio) (setReg 0x3800 6 4 s);
        let t := count 0x3801 5 (setReg 0x3801 2 (time80 (nowNs s)) (setReg 0x3801 1 1 t));
        owe 0xC0 0 { t with time := { s.time with holdAt := wall s, inLock := 0 } }))) ∧
    (∀ (s : State),
      reg 0x3801 4 s ≠ 0 →
      reg 0x3801 1 s = 1 →
      due s.time.holdAt (ms 1000 * reg 0x3801 4 s) s = true →
      exec .holdoverLimit s = .next (fire 0xC6 0 s))

/-- A link-delay request on a port that is up is answered with both response messages; a Sync, Follow_Up or Announce of an enabled instance is
counted while gPTP messages are not processed, and has its effect on the capable slave port. An exchange that completes notes delay and
neighbour rate ratio; the third within the delay threshold makes the port capable, and one above it ends that. A request is sent once every
interval. An instance in the grandmaster role sends Sync and Follow_Up with its time on its master ports once every Sync interval. (R271,
R272, R273, R274) -/
def Obligations.PtpMessagesAreExchanged : Prop :=
    (∀ (p : Fin 33) (m : PtpMessage) (s : State),
      p.val < 22 →
      portUp p.val s = true →
      m.kind.val = 2 →
      ptpRuns s = true →
      exec (.ptpMessageReceive p m) s = .next (emit (.ptp 10 p.val (nowNs s)) (emit (.ptp 3 p.val (nowNs s)) s))) ∧
    (∀ (p : Fin 33) (m : PtpMessage) (d : Nat) (s : State),
      p.val < 22 →
      portUp p.val s = true →
      m.kind.val = 0 ∨ m.kind.val = 8 →
      instanceOf p.val m.domain.toNat s = some d →
      ptpRuns s = true →
      asCapable p.val s = true →
      ptpRole s.cfg p.val d = 2 →
      exec (.ptpMessageReceive p m) s = .next (ptpSync p.val d m s)) ∧
    (∀ (p : Fin 22) (x : DelayExchange) (s : State),
      portUp p.val s = true →
      x.delay ≤ cfg (0x3820 + p.val) 5 s →
      2 ≤ (ptpPort p.val s).completed →
      exec (.linkDelayExchange p x) s = .next (setReg (0x3820 + p.val) 0x0A 1 (setReg (0x3820 + p.val) 9 (ofInt 32 x.ratio)
        (setReg (0x3820 + p.val) 8 (min 0xFFFFFFFF x.delay) (setPtpPort p.val { ptpPort p.val s with completed := 3, open_ := false } s))))) ∧
    (∀ (p : Fin 22) (s : State),
      portUp p.val s = true →
      Past s →
      due (ptpPort p.val s).lastSent (logNs (toInt 32 (cfg (0x3820 + p.val) 3 s))) s = true →
      (ptpPort p.val s).open_ = false →
      s.faults.due = [] →
      exec (.linkDelayRequestSend p) s = .next (emit (.ptp 2 p.val (nowNs s)) (setPtpPort p.val { completed := (ptpPort p.val s).completed, lastSent := wall s, open_ := true } s))) ∧
    (∀ (d : Fin 4) (p : Fin 33) (s : State),
      cfg (iP d.val) 1 s = 1 →
      cfg (iP d.val) 3 s = 0 →
      (masterPorts d.val s).contains p.val = true →
      ptpRuns s = true →
      timeActs s = true →
      due (tget 0 s.time.sent (32 * d.val + p.val)) (syncInterval d.val s) s = true →
      exec (.grandmasterSyncSend d p) s = .next (emit (.ptp 8 p.val (instTime d.val s)) (emit (.ptp 0 p.val (instTime d.val s))
        { s with time := { s.time with sent := tset 0 s.time.sent (32 * d.val + p.val) (wall s) } })))

/-- A step by a Workshop session within the window changes local time by the signed amount at 0x3802:07, one outside it is refused with
0x0800_00A2; an absolute set needs the OEM role. Arming a comparator takes its target and reads done, a target too far away is refused;
disarming ends it. An armed comparator that has reached its target fires. An edge that a capture channel waits for is stored with its time
less the filter's delay, a seventeenth entry sets the overflow and fires source 0xC4; a pop gives the oldest entry. The cross-stamp latch
keeps local time. PPS_OUT goes high at a whole second. (R277, R279, R280, R283, R284, R285, R286) -/
def Obligations.TimeIsSteppedLatchedAndShown : Prop :=
    (∀ (ses : Session) (s : State),
      Served ses s →
      s.dev ≠ .terminal →
      2 ≤ roleOf ses s →
      exec (.stepBy ses) s = .next (
        let d := toInt 64 (reg 0x3802 7 s);
        if timeWindow < d.natAbs then emit (.answer ses 0x080000A2 []) (touch ses s)
        else answered ses (setReg 0x3802 6 2 (stepTime d 1 (roleOf ses s) (touch ses s))))) ∧
    (∀ (ses : Session) (s : State),
      Served ses s →
      s.dev ≠ .terminal →
      3 ≤ roleOf ses s →
      exec (.setAbsolute ses) s = .next (answered ses (setReg 0x3802 6 2 (stepTime (toInt 64 (reg 0x3802 7 s) - (nowNs s : Int)) 2 (roleOf ses s) (touch ses s))))) ∧
    (∀ (ses : Session) (s : State),
      Served ses s →
      s.dev ≠ .terminal →
      roleOf ses s < 2 →
      exec (.stepBy ses) s = .next (emit (.answer ses 0x080000A1 []) (touch ses s)) ∧
        exec (.setAbsolute ses) s = .next (emit (.answer ses 0x080000A1 []) (touch ses s))) ∧
    (∀ (ses : Session) (k : Fin 16) (s : State),
      Served ses s →
      s.dev ≠ .terminal →
      far (ofTime80 (reg (cP k.val) 1 s)) (nowNs s) = false →
      exec (.comparatorArm ses k) s = .next (answered ses (setReg (cP k.val) 0x0A 2 (keepTargets (setReg (cP k.val) 2 1
        (setTarget k.val (ofTime80 (reg (cP k.val) 1 s)) (touch ses s))))))) ∧
    (∀ (ses : Session) (k : Fin 16) (s : State),
      Served ses s →
      s.dev ≠ .terminal →
      exec (.comparatorDisarm ses k) s = .next (answered ses (setReg (cP k.val) 0x0A 2 (disarm k.val (touch ses s))))) ∧
    (∀ (k : Fin 16) (s : State),
      cmpArmed k.val s = true →
      reached k.val s = true →
      Past s →
      s.power.sleep = 0 →
      exec (.comparatorFire k) s = .next (settle 4 (fireComparator k.val s))) ∧
    (∀ (c : Fin 12) (r : Bool) (s : State),
      c.val < 9 →
      cfg (capP c.val) 1 s = 1 →
      bit (cfg (capP c.val) 2 s) (if r then 0 else 1) = true →
      s.power.sleep = 0 →
      (caps c.val s).length < 16 →
      cfg (capP c.val) 9 s = 0xFF →
      exec (.captureEdge c r) s = .next (
        let x : Capture := ⟨nowNs s - 8 * cfg (capP c.val) 5 s, if r then 1 else 2, reg 0x3802 4 s % 256⟩;
        announce 3 c.val (capBytes x) (setCaps c.val (caps c.val s ++ [x]) s))) ∧
    (∀ (c : Fin 12) (r : Bool) (s : State),
      c.val < 9 →
      cfg (capP c.val) 1 s = 1 →
      bit (cfg (capP c.val) 2 s) (if r then 0 else 1) = true →
      s.power.sleep = 0 →
      16 ≤ (caps c.val s).length →
      exec (.captureEdge c r) s = .next (fire 0xC4 c.val (setReg (capP c.val) 7 1 s))) ∧
    (∀ (ses : Session) (c : Fin 12) (x : Capture) (l : List Capture) (s : State),
      Served ses s →
      caps c.val s = x :: l →
      exec (.capturePop ses c) s = .next (emit (.answer ses 0 (capBytes x)) (setCaps c.val l (touch ses s)))) ∧
    (∀ (ses : Session) (s : State),
      Served ses s →
      ses ≠ .bar0 →
      exec (.crossStampLatch ses) s = .next (answered ses (setReg 0x3803 2 (time80 (nowNs s)) (touch ses s)))) ∧
    (∀ (s : State),
      cfg 0x3860 1 s = 1 →
      s.time.acquired = true →
      timeActs s = true →
      s.time.drivers = true →
      nowNs s % 1000000000 < 16 →
      exec .ppsOutPulse s = .next (emit (.ball "PPS_OUT" 1) { s with time := { s.time with ppsOut := wall s + us (cfg 0x3860 2 s) } }))

/-- An NM PDU of a node that is withheld on its bus is counted at the cluster that withholds it and holds nothing awake; any other counts for
each cluster whose PN mask its vector meets with the PNI bit set, and with the bit clear for each cluster its bus is a member of. A cluster
in state 2 that the device does not keep awake, with no LIN responder hold and its NM timeout over, enters state 3. At the end of the
prepare time it commits: state 4 and its members to standby, or state 5 where a withheld keeper's bus still carries frames. The device's own
PDU leaves once per cycle on every enabled CAN member. A LIN hold ends after 4 s. With every member still, a committed cluster sleeps, its
withholding data cleared. An awake time above its limit withholds the keepers of the moment. A held cluster whose buses have been silent
commits them. (R295, R296, R297, R298, R305, R306, R307) -/
def Obligations.ClustersAgreeToSleep : Prop :=
    (∀ (bus : Fin 94) (d : List Byte) (c : Nat) (s : State),
      s.dev ≠ .boot ∧ s.dev ≠ .catch_ →
      s.power.sleep = 0 →
      withheldBy bus.val (nmNode d s) s = some c →
      exec (.nmPduReceive bus d) s = .next (count (nP c) 0x11 s)) ∧
    (∀ (bus : Fin 94) (d : List Byte) (s : State),
      s.dev ≠ .boot ∧ s.dev ≠ .catch_ →
      s.power.sleep = 0 →
      withheldBy bus.val (nmNode d s) s = none →
      exec (.nmPduReceive bus d) s = .next (withInh (fun t => sleepCheck (each (List.range 8) (fun c t =>
        if (nmPni d s = true ∧ Nat.land (nmVector d s) (cfg (nP c) 3 s) ≠ 0) ∨ (memberOf c bus.val t = true ∧ nmPni d t = false)
        then countPdu c bus.val (nmNode d s) (nmPni d s && decide (Nat.land (nmVector d s) (cfg (nP c) 3 s) ≠ 0)) t else t) t)) s)) ∧
    (∀ (c : Fin 8) (s : State),
      s.dev = .operate ∨ s.dev = .configure ∨ s.dev = .headless ∨ s.dev = .sleepPrep →
      s.power.sleep = 0 →
      ownKeep c.val s = true →
      clusterState c.val s = 2 →
      (cluster c.val s).ownAt + ms (cfg 0x3F00 7 s) ≤ monoNs s →
      exec (.ownNmPduSend c) s = .next (settle 4 (each ((clusterEngines c.val s).filter (· < 48)) (fun e t =>
        if engEnabled t.cfg e t then ownFrame (16384 + 64 * c.val + e)
        (classicalFrame ((cfg 0x3F00 1 s % 2048 + cfg 0x3F00 6 s) % 2048) (ownNmData c.val s)) t else t)
        (setCluster c.val { cluster c.val s with ownAt := monoNs s } s)))) ∧
    (∀ (c : Fin 8) (t : Nat) (s : State),
      s.dev ≠ .boot ∧ s.dev ≠ .catch_ →
      s.power.sleep = 0 →
      clusterState c.val s = 2 →
      ownKeep c.val s = false →
      linHold c.val s = false →
      (cluster c.val s).lastPdu = some t →
      t + nmTimeout c.val s ≤ monoNs s →
      exec (.nmTimeout c) s = .next (withInh (fun s => sleepCheck (setReg (nP c.val) 0x0A 3
        (setCluster c.val { cluster c.val s with prepAt := monoNs s } s))) s)) ∧
    (∀ (m : Fin 16) (t : Nat) (s : State),
      (lin m.val s).headerAt = some t →
      due t (ms 4000) s = true →
      exec (.linResponderHoldEnd m) s = .next (setLin m.val { lin m.val s with headerAt := none } s)) ∧
    (∀ (c : Fin 8) (s : State),
      s.dev = .operate ∨ s.dev = .configure ∨ s.dev = .sleepPrep →
      clusterState c.val s = 3 →
      (cluster c.val s).held = [] →
      (cluster c.val s).prepAt + prepareTime c.val s ≤ monoNs s →
      ownKeep c.val s = false →
      linHold c.val s = false →
      heldBuses c.val s = [] →
      exec (.sleepCommit c) s = .next (settle 4 (withInh (fun s => deviceCommit
        (let t := setReg (nP c.val) 0x0A 4 (setCluster c.val { cluster c.val s with held := [] } (count (nP c.val) 0x0F s));
        each (memberCodes c.val t) commitMember t)) s))) ∧
    (∀ (c : Fin 8) (s : State),
      clusterState c.val s = 4 →
      (memberCodes c.val s).all (fun k => memberStill k s) = true →
      exec (.standbyPoint c) s = .next (withInh (fun s => noteKeepers c.val (setReg (nP c.val) 0x0B 0 (setReg (nP c.val) 0x0A 0
        (setCluster c.val { cluster c.val s with
        standbyAt := wall s, awake := 0, expired := false, withheld := [], keepers := [], held := [], lastPn := none } s)))) s)) ∧
    (∀ (c : Fin 8) (s : State),
      cfg (nP c.val) 7 s ≠ 0 →
      reg (nP c.val) 9 s = 0 →
      clusterState c.val s = 2 ∨ clusterState c.val s = 3 →
      (cluster c.val s).expired = false →
      cfg (nP c.val) 7 s * 1000000000 ≤ (cluster c.val s).awake →
      (cluster c.val s).keepers.filter (fun k => decide (monoNs s < k.2.2 + nmTimeout c.val s)) = [] →
      exec (.awakeTimerExpiry c) s = .next (noteKeepers c.val (count (nP c.val) 0x0E
        (setCluster c.val { cluster c.val s with expired := true, withheld := [] } s)))) ∧
    (∀ (c : Fin 8) (s : State),
      s.dev = .operate ∨ s.dev = .configure ∨ s.dev = .sleepPrep →
      clusterState c.val s = 3 →
      (cluster c.val s).held ≠ [] →
      (cluster c.val s).held.all (fun k => busSilent k (nmTimeout c.val s + prepareTime c.val s) s) = true →
      exec (.withholdingEnd c) s = .next (settle 4 (withInh (fun t => deviceCommit (each (cluster c.val s).held commitMember
        (setReg (nP c.val) 0x0A 4 (endWithholding c.val t)))) s)))

/-- A validated wake whose enable bit is clear is only counted; under the backoff a bus or TC10 wake is latched and counted; another wakes as
R299 says: of a device that sleeps, once its dwell has passed, else it waits. A CAN source is validated only while its transceiver stands in
standby or the device sleeps. The wake timer fires once, as source 83. A latched wake is served at the end of the dwell, of the device or of
the cluster, and those of a backoff at its end. A TC10 port sleeps at its partner's acknowledgement or 16 ms after its request; a wake pulse
at a port whose detector is enabled is its wake source. (R72, R289, R299, R309) -/
def Obligations.WakesAreTaken : Prop :=
    (∀ (n : Fin 96) (s : State),
      s.power.aonUp = true →
      s.power.sleep ≠ 0 →
      64 ≤ n.val ∧ n.val < 68 →
      s.power.busUp = true →
      bit (cfg 0x5041 1 s) n.val = false →
      exec (.wakeSourceValidated n) s = .next (count 0x5042 5 s)) ∧
    (∀ (n : Fin 96) (s : State),
      s.power.aonUp = true →
      s.power.sleep ≠ 0 →
      64 ≤ n.val ∧ n.val < 68 →
      s.power.busUp = true →
      bit (cfg 0x5041 1 s) n.val = true →
      s.wake.called = none →
      due s.wake.sleptAt (deviceDwell (wakeSet n.val s) s) s = true →
      exec (.wakeSourceValidated n) s = .next (settle 4 (withInh (fun t =>
        let u := count 0x5042 4 t; { u with wake := { u.wake with called := some n.val } }) s))) ∧
    (∀ (n : Fin 96) (s : State),
      s.power.aonUp = true →
      n.val < 48 →
      s.power.sleep = 0 →
      s.power.reset = 0 →
      trans n.val s ≠ 0 →
      exec (.wakeSourceValidated n) s = .next s) ∧
    (∀ (s : State),
      s.power.sleep ≠ 0 →
      cfg 0x5041 8 s ≠ 0 →
      due s.wake.sleptAt (cfg 0x5041 8 s * 1000000000) s = true →
      s.wake.timerDone = false →
      bit (cfg 0x5041 1 s) 83 = false →
      exec .wakeTimerExpiry s = .next (count 0x5042 5 { s with wake := { s.wake with timerDone := true } })) ∧
    (∀ (c : Fin 8) (n : Nat) (s : State),
      s.power.sleep ≠ 0 →
      s.wake.called = none →
      s.wake.latched.find? (fun n => due s.wake.sleptAt (deviceDwell (wakeSet n s) s) s) = some n →
      exec (.sleepDwellEnd c) s = .next { s with wake := { s.wake with called := some n } }) ∧
    (∀ (c : Fin 8) (s : State),
      s.power.sleep = 0 →
      clusterState c.val s = 0 →
      (cluster c.val s).latched = true →
      dwelled c.val s = true →
      s.wake.committed = false →
      exec (.sleepDwellEnd c) s = .next (settle 4 (withInh (fun s => sleepCheck (startWaking c.val none (setReg 0x5042 3 4 s))) s))) ∧
    (∀ (s : State),
      s.wake.backoff ≠ 0 →
      s.wake.backoff ≤ wall s →
      exec .wakeBackoffEnd s = .next (settle 4 (withInh (each s.wake.masked takeWake)
        { s with wake := { s.wake with backoff := 0, masked := [] } }))) ∧
    (∀ (p : Fin 33) (a : Bool) (s : State),
      16 ≤ p.val ∧ p.val < 30 →
      reg (pB p.val + 6) 4 s = 1 →
      a = true ∨ due (prt p.val s).tcAt (ms 16) s = true →
      exec (.tc10SleepEntry p a) s = .next (settle 4 (setPrt p.val { prt p.val s with phase := 0 } (portDown p.val 0x0C (setReg (pB p.val + 6) 4 2 s))))) ∧
    (∀ (p : Fin 33) (s : State),
      16 ≤ p.val ∧ p.val < 30 →
      reg (pB p.val + 6) 4 s = 2 →
      cfg (pB p.val + 6) 2 s = 1 →
      bit (cfg 0x5041 1 s) (p.val + 52) = false →
      exec (.tc10WakePulse p) s = .next (count 0x5042 5 (count (pB p.val + 6) 5 s)))

/-- Once committed, the report of sleep-ready flushes the log, copies the freshness and ends the watchdog's kind. With sleep-ready and every
member cluster asleep, PD_CORE stops: warm at depth 0 and 2, cold at depth 1; at depth 2 the warm sleep becomes cold at its dwell limit,
INH_OUT0 low and the XTAL amplifier off. A called wake is served warm from the retention, or as a cold one where the retention is lost; a
cold wake raises the supplies and holds the device in reset with cause 7. Wake-done ends the handshake and clears the consecutive count. The
watchdog takes the fail-safe path 500 ms after a start or a commit with its handshake open, and Safe or Terminal take it with cause 3 after
their limit. (R290, R292, R293, R301, R303, R304, R308, R309, R310, R450) -/
def Obligations.DeviceSleepsAndWakes : Prop :=
    (∀ (s : State),
      s.wake.committed = true →
      s.wake.ready = false →
      reg 0x5040 8 s = 1 →
      s.access.coreUp = true →
      exec .sleepReady s = .next (setReg 0x5040 8 0
        (let t := flushLog (copyFreshness s);
        { t with
        wake := { t.wake with ready := true }
        power := { t.power with calibrated := decide (cfg 0x5040 1 s ≠ 1) }
        crust := { t.crust with sealedDigest := decide (cfg 0x5040 1 s ≠ 0) } }))) ∧
    (∀ (s : State),
      s.dev = .sleepPrep →
      s.wake.committed = true →
      s.wake.ready = true →
      (memberClusters s).all (fun c => clusterState c s == 0) = true →
      exec .deviceSleepEntry s = .next (settle 4 (withInh (stopCore (if cfg 0x5040 1 s = 1 then 2 else 1)) s))) ∧
    (∀ (s : State),
      s.power.sleep = 1 →
      cfg 0x5040 1 s = 2 →
      s.wake.called = none →
      due s.wake.sleptAt (cfg 0x5040 2 s * 60000000000) s = true →
      exec .warmDwellLimit s = .next (emit (.ball "INH_OUT0" 0) (setReg 0x5030 2 0 (setReg 0x5040 9 1
        { s with power := { s.power with sleep := 2 } })))) ∧
    (∀ (n : Nat) (s : State),
      s.wake.called = some n →
      s.power.sleep = 1 →
      s.power.aonUp = true →
      s.power.retentionLost = false →
      exec .warmWake s = .next (settle 8 (withInh (warmWake n) s))) ∧
    (∀ (n : Nat) (s : State),
      s.wake.called = some n →
      s.power.sleep = 1 →
      s.power.aonUp = true →
      s.power.retentionLost = true →
      exec .warmWake s = .next (coldWake n s)) ∧
    (∀ (n : Nat) (s : State),
      s.wake.called = some n →
      s.power.sleep = 2 →
      s.power.busUp = true →
      s.power.aonUp = true →
      exec .coldWake s = .next (
        each ((memberClusters s).map fun c => (c, if bit (wakeSet n s) c then 1 else 0)) (fun x s => setReg (nP x.1) 0x0A x.2 s)
        (setReg 0x5030 2 1 (holdReset 7 (inhHigh s))))) ∧
    (∀ (s : State),
      reg 0x5040 8 s = 2 →
      s.access.coreUp = true →
      s.dev = .operate ∨ s.dev = .configure →
      exec .wakeDone s = .next (setReg 0x5043 2 0 (setReg 0x5040 8 0 s))) ∧
    (∀ (s : State),
      reg 0x5040 8 s ≠ 0 →
      s.power.reset = 0 →
      s.power.extending = none →
      s.power.sleep = 0 →
      s.power.aonUp = true →
      srcSet 0xA2 s = false →
      field (reg 0x5050 1 s) 0 2 ≠ 1 →
      due s.wake.watchdog (ms 500) s = true →
      exec .wakeWatchdogExpiry s = .next (settle 4 (withInh (failSafe (reg 0x5040 8 s)) s))) ∧
    (∀ (s : State),
      s.dev = .safe ∨ s.dev = .terminal →
      cfg 0x5040 4 s ≠ 0 →
      due s.wake.safeAt (cfg 0x5040 4 s * 1000000000) s = true →
      s.power.sleep = 0 →
      s.power.aonUp = true →
      exec .safeSleepTimeout s = .next (settle 4 (withInh (failSafe 3) s)))

/-- Each reset while PD_CORE runs leaves the reset state with its cause: PORST_N 2, RST_N 3, software 4 (under Workshop), a supply supervisor 5,
the loss of VDD_AON 1; VDDIO_BUS lost holds the device in reset. At a release the device starts, or waits with its reset extended until XTAL
is stable; straps are latched at that of PORST_N. A rail out of its range is noted and fires 0x47 for VDD_CORE and 0x48 for the others,
unless it is VDD_AON. The return of VDD_AON starts the XTAL amplifier and raises INH_OUT. (R447, R448, R449, R450, R452, R461, R463, R488) -/
def Obligations.ResetsAndSupplies : Prop :=
    (∀ (s : State),
      s.power.reset ≠ 1 ∧ s.power.reset ≠ 7 →
      s.power.sleep = 0 →
      s.power.aonUp = true →
      exec .porstNAssert s = .next (holdReset 2 s)) ∧
    (∀ (v : Fin 1024) (s : State),
      s.power.reset = 1 ∨ s.power.reset = 2 ∨ s.power.reset = 7 →
      s.power.aonUp = true →
      s.power.busUp = true →
      s.power.extending = none →
      exec (.porstNRelease v) s = .next (release (setReg 0x5050 6 (v.val / 512)
        (setReg 0x5050 1 (if v.val % 4 = 3 then v.val % 512 - 3 + 512 else v.val % 512) s)))) ∧
    (∀ (s : State),
      s.power.reset = 0 →
      s.power.aonUp = true →
      s.power.sleep ≠ 2 →
      exec .rstNReset s = .next (holdReset 3 s)) ∧
    (∀ (s : State),
      s.power.reset = 3 →
      s.power.extending = none →
      reg 0x5030 2 s = 2 →
      exec .rstNRelease s = .next (startUp s)) ∧
    (∀ (s : State),
      s.power.reset = 3 →
      s.power.extending = none →
      reg 0x5030 2 s ≠ 2 →
      exec .rstNRelease s = .next { s with power := { s.power with extending := some (wall s) } }) ∧
    (∀ (ses : Session) (s : State),
      Served ses s →
      sessionLive ses s = true →
      s.dev ≠ .boot ∧ s.dev ≠ .catch_ ∧ s.dev ≠ .terminal →
      2 ≤ roleOf ses s →
      exec (.softwareReset ses) s = .next (release (holdReset 4 (answered ses (touch ses s))))) ∧
    (∀ (s : State),
      s.power.reset = 0 →
      s.power.aonUp = true →
      s.power.sleep = 0 →
      exec .supplyReset s = .next (holdReset 5 s)) ∧
    (∀ (s : State),
      s.power.reset = 5 →
      s.power.extending = none →
      exec .supplyResetRelease s = .next (release s)) ∧
    (∀ (r : Fin 16) (low : Bool) (s : State),
      r.val < 8 →
      r.val ≠ 4 →
      s.power.sleep = 0 →
      s.power.reset = 0 →
      s.power.aonUp = true →
      exec (.railOutOfRange r low) s = .next (fire (if r.val = 0 then 0x47 else 0x48) (if low then r.val + 256 else r.val)
        { s with power := { s.power with rails := setIns r.val s.power.rails } })) ∧
    (∀ (s : State),
      s.power.sleep = 1 →
      exec .retentionLost s = .next { s with power := { s.power with retentionLost := true } }) ∧
    (∀ (s : State),
      exec .vddAonLoss s = .next (let t := holdReset 1 { s with time := { s.time with tclk := false } };
        { t with power := { t.power with aonUp := false } })) ∧
    (∀ (s : State),
      s.power.aonUp = false →
      s.power.busUp = true →
      exec .vddAonReturn s = .next (inhHigh (setReg 0x5030 2 1 { s with power := { s.power with aonUp := true } }))) ∧
    (∀ (s : State),
      s.power.busUp = true →
      s.power.reset ≠ 1 →
      exec .vddioBusLoss s = .next (setReg 0x5040 8 0
        (let t := holdReset 2 { s with power := { s.power with busUp := false } };
        { t with wake := { t.wake with called := none } }))) ∧
    (∀ (s : State),
      s.power.busUp = false →
      s.power.aonUp = true →
      exec .vddioBusReturn s = .next (inhHigh { s with power := { s.power with busUp := true } }))

/-- A stable XTAL ends an extended reset, with its length in µs, or the condition of its loss; its loss while the device runs fires 0x40. A lock
sets the PLL's bit and ends its source's condition, that of PLL 3 starting TCLK; its loss clears the bit, is counted and fires the PLL's
source. 20 µs after the release the drivers of the trigger and PPS balls work. The active slot's firmware runs where it passes, else the
other's, the failed slot recorded; where neither does, source 0xA2 fires. A valid configuration image is loaded and its tables switch. The
dictionary is available after its start-up time. (R36, R47, R375, R452, R453, R454, R465, R490) -/
def Obligations.ClocksAndImages : Prop :=
    (∀ (t : Nat) (s : State),
      s.power.aonUp = true →
      s.power.sleep ≠ 2 →
      reg 0x5030 2 s ≠ 2 →
      s.power.extending = some t →
      exec .xtalStable s = .next (startUp (setReg 0x5050 4 ((wall s - t) / 1000)
        (let u := setReg 0x5030 2 2 s; { u with faults := { u.faults with condition := setDel 0x40 u.faults.condition } })))) ∧
    (∀ (s : State),
      s.power.aonUp = true →
      s.power.sleep = 0 →
      s.power.reset = 0 →
      exec .xtalLoss s = .next (fire 0x40 0 (setReg 0x5030 2 3 s))) ∧
    (∀ (k : Fin 10) (s : State),
      s.power.reset = 0 →
      s.power.sleep = 0 →
      s.power.aonUp = true →
      bit (reg 0x5030 1 s) k.val = false →
      k.val < 3 →
      exec (.pllLock k) s = .next (let t := setReg 0x5030 1 (reg 0x5030 1 s + 2 ^ k.val) s;
        { t with faults := { t.faults with condition := setDel (0x41 + k.val) t.faults.condition } })) ∧
    (∀ (k : Fin 10) (s : State),
      bit (reg 0x5030 1 s) k.val = true →
      6 ≤ k.val →
      exec (.pllUnlock k) s = .next (fire 0x46 (k.val - 6) (count 0x5030 6 (setReg 0x5030 1 (setField (reg 0x5030 1 s) k.val 1 0) s)))) ∧
    (∀ (s : State),
      s.power.reset = 0 →
      s.power.sleep = 0 →
      s.power.extending = none →
      due s.power.started 20000 s = true →
      exec .strapDriverEnable s = .next { s with time := { s.time with drivers := true } }) ∧
    (∀ (image : FirmwareLoad) (m : ImageInfo) (s : State),
      s.access.coreUp = false →
      s.power.recovery = false →
      s.power.reset = 0 →
      s.power.extending = none →
      s.power.sleep = 0 →
      s.power.loaded = false →
      reg 0x5010 4 s = 0 →
      s.update.flag = 0 →
      image.first = some m →
      firmwarePasses m s = true →
      exec (.firmwareImageVerified image) s = .next (settle 4 (bootFirmware (activeSlot 0 s) m s))) ∧
    (∀ (image : FirmwareLoad) (s : State),
      s.access.coreUp = false →
      s.power.recovery = false →
      s.power.reset = 0 →
      s.power.extending = none →
      s.power.sleep = 0 →
      s.power.loaded = false →
      reg 0x5010 4 s = 0 →
      s.update.flag = 0 →
      image.first = none →
      image.second = none →
      exec (.firmwareImageVerified image) s = .next (settle 4 (noFirmware (slotFails 0 (1 - activeSlot 0 s) (slotFails 0 (activeSlot 0 s) s))))) ∧
    (∀ (image : ConfigLoad) (m : ConfigImage) (b : Bank) (s : State),
      s.access.coreUp = true →
      s.power.loaded = false →
      reg 0x5010 4 s = 0 →
      s.dev ≠ .boot →
      s.power.sleep = 0 →
      validImage image.first s = some (m, b) →
      exec (.configurationImageLoaded image) s = .next (settle 8 (loadConfiguration (activeSlot 1 s) m b s))) ∧
    (∀ (s : State),
      s.access.available = false →
      s.access.coreUp = true →
      s.dev ≠ .boot ∧ s.dev ≠ .catch_ →
      s.power.sleep = 0 →
      s.power.warm = false →
      s.power.digest = false →
      due s.power.started (us (max 15000 (reg 0x5010 4 s + 3000))) s = true →
      exec .dictionaryAvailable s = .next (setReg 0x5010 5 (sinceStart s) { s with access := { s.access with available := true } }))

/-- A permitted request of an idle consumer whose base is granted waits with its charge and its time; one that is not permitted is reported as
not permitted; a request during a drain of its domain cancels the drain. A grant is given once the budget, the ramp cap and the ranking
allow it. A charge may go back as the rule says. A request that waits 100 µs is starved, counted, and fires 0x4B; a BB port starved for 1 ms
asks again in its fallback mode. A reading of the temperature sets the derating, the budget and the sources 0x49 and 0x4A. A serdes step
issues its requests up to the allowance, and a port request of it that still waits after 1 ms is withdrawn and carried. A domain is ready
with its grant, drains when its members rest, and is switched off at the end; a switch fault is counted and fires 0x4E. (R457, R459, R460,
R466, R472, R473, R474, R475, R476, R477, R479, R480) -/
def Obligations.PecksAreArbitrated : Prop :=
    (∀ (n : Fin 62) (b : Nat) (s : State),
      n.val ≠ 0 →
      peckState n.val s = 0 →
      consumerDomain n.val = none →
      consumerBase n.val = some b →
      granted b s = true →
      peckPermitted n.val s = true →
      exec (.peckRequest n) s = .next (noteWaiting (setSince n.val
        (setRegE n.val 0x5001 6 (time80 (nowNs s)) (setRegE n.val 0x5001 2 (chargeFor n.val s) (setRegE n.val 0x5001 5 1 s)))))) ∧
    (∀ (n : Fin 62) (s : State),
      n.val ≠ 0 →
      peckState n.val s = 0 →
      peckPermitted n.val s = false →
      exec (.peckRequest n) s = .next (setRegE n.val 0x5001 5 4 s)) ∧
    (∀ (n : Fin 62) (s : State),
      peckState n.val s = 1 ∨ peckState n.val s = 3 →
      fitsBudget (peckOf n.val s) s = true →
      fitsRamp (peckOf n.val s) s = true →
      (waiters s).any (fun m => holdsBack m n.val s) = false →
      exec (.peckGrant n) s = .next (peckGive n.val s)) ∧
    (∀ (n : Fin 62) (s : State),
      n.val ≠ 0 →
      mayReturn n.val s = true →
      peckState n.val s = 2 →
      exec (.peckReturn n) s = .next (settle 4 (leaveFallback (setBudget
        (setReg 0x5000 5 (reg 0x5000 5 s - peckOf n.val s) (setRegE n.val 0x5001 5 0 s)))))) ∧
    (∀ (n : Fin 62) (s : State),
      peckState n.val s = 1 →
      due (waitSince n.val s) (us 100) s = true →
      exec (.peckStarvation n) s = .next (fire 0x4B n.val (fallback n.val 0x0A
        (countE n.val 0x5001 7 (count 0x5000 0x0A (setStarved n.val 1 (setRegE n.val 0x5001 5 3 s))))))) ∧
    (∀ (p : Fin 16) (s : State),
      p.val < 4 →
      peckState (5 + p.val) s = 3 →
      due (waitSince (5 + p.val) s) (ms 1) s = true →
      cfg (pB p.val) 0x0A s ≠ 0 →
      (prt p.val s).fallback = false →
      exec (.starvedFallback p) s = .next (peckRequest (5 + p.val) (peckWithdraw (5 + p.val)
        (setPrt p.val { prt p.val s with fallback := true } s)))) ∧
    (∀ (p : Fin 16) (s : State),
      p.val < 4 →
      peckState (5 + p.val) s = 3 →
      due (waitSince (5 + p.val) s) (ms 1) s = true →
      cfg (pB p.val) 0x0A s = 0 →
      exec (.starvedFallback p) s = .next (setReg (pS p.val) 4 0x0A s)) ∧
    (∀ (tj : Int) (s : State),
      1350 < tj →
      exec (.deratingUpdate tj) s = .next (fire 0x49 0 (endCondition 0x4A
        (setBudget (setReg 0x5000 8 60 (setReg 0x5000 7 (ofInt 16 tj) s)))))) ∧
    (∀ (tj : Int) (s : State),
      tj ≤ 1200 →
      exec (.deratingUpdate tj) s = .next (endCondition 0x4A (endCondition 0x49
        (setBudget (setReg 0x5000 8 100 (setReg 0x5000 7 (ofInt 16 tj) s)))))) ∧
    (∀ (s : State),
      s.power.step < 4 →
      s.power.loaded = true →
      due s.power.started (stepStart s.power.step s) s = true →
      exec .serdesStep s = .next (stepIssue (cfg 0x5000 4 s)
        (stepConsumers (setReg 0x5010 6 ((wall s - s.power.started) / 1000)
        { s with power := { s.power with step := s.power.step + 1, stepAt := wall s, carried := [], issued := [] } })) 0
        (setReg 0x5010 6 ((wall s - s.power.started) / 1000)
        { s with power := { s.power with step := s.power.step + 1, stepAt := wall s, carried := [], issued := [] } }))) ∧
    (∀ (n : Fin 62) (s : State),
      s.power.issued.contains n.val = true →
      (consumerPort n.val).isSome = true →
      peckState n.val s = 1 ∨ peckState n.val s = 3 →
      due s.power.stepAt (ms 1) s = true →
      exec (.stepRequestWithdraw n) s = .next (let t := peckWithdraw n.val s;
        { t with power := { t.power with issued := t.power.issued.filter (· ≠ n.val), carried := setIns n.val t.power.carried } })) ∧
    (∀ (d : Fin 18) (s : State),
      d.val < 16 →
      s.power.reset = 0 →
      s.power.sleep = 0 →
      domainGranted d.val s = true →
      s.power.broken.contains d.val = false →
      tget 0 s.power.offAt d.val = 0 →
      powered d.val s = false →
      exec (.domainReady d) s = .next (settle 4 (unitsOn d.val (setReg 0x5020 2 (reg 0x5020 2 s + 2 ^ d.val) s)))) ∧
    (∀ (d : Fin 18) (s : State),
      domainRests d.val s = true ∨ domainRevoked d.val s = true →
      exec (.domainPowerDown d) s = .next (settle 4 (drainStart d.val s))) ∧
    (∀ (d : Fin 18) (s : State),
      draining d.val s = true →
      drained d.val s = true →
      exec (.domainDrainEnd d) s = .next (settle 4 (switchOff d.val s))) ∧
    (∀ (d : Fin 18) (s : State),
      draining d.val s = true →
      drained d.val s = false →
      due (tget 0 s.power.drainAt d.val) (us (cfg 0x5020 1 s)) s = true →
      exec (.domainDrainEnd d) s = .next (settle 4 (switchOff d.val (count 0x5020 5 s)))) ∧
    (∀ (d : Fin 18) (s : State),
      d.val < 16 →
      exec (.powerSwitchFault d) s = .next (fire 0x4E d.val (count 0x5020 7
        { s with power := { s.power with broken := setIns d.val s.power.broken } })))

/-- A GRANT or RELEASE of the member's pair whose CMAC verifies and whose sequence number is new is taken up once: a GRANT that names it gives
it the lease, where it may hold it and its end is not past; one that names its partner, or a RELEASE, makes it stop its frames, and it
yields once its engines are idle. A message already accepted is discarded. At its end a lease that was not yielding fires 0xC8. The member
reports its health every 10 ms to the referee and the partner; a partner silent for 30 ms fires 0xCA, a referee silent for 3 ms fires 0xCB
and clears 0x5401:06. In shadow an omission is looked for, and a dominant bit fires 0xCE. (R313, R314, R315, R317, R318, R319, R325) -/
def Obligations.MemberHoldsItsLease : Prop :=
    (∀ (b : List Byte) (s : State),
      b.length = 12 →
      memberHears 1 (signed (cfg 0x5400 9 s) b s) s = true →
      s.pair.seen.contains (pmSeq (signed (cfg 0x5400 9 s) b s)) = false →
      tget 0 s.pair.seqs 0 < pmSeq (signed (cfg 0x5400 9 s) b s) →
      pmDev (signed (cfg 0x5400 9 s) b s) = ownDev s →
      mayHold s = true →
      pairSync (cfg 0x5400 0x0A s) s = false →
      reg 0x5401 2 s = 1 →
      exec (.grantReceive (signed (cfg 0x5400 9 s) b s)) s = .next (
        let m := signed (cfg 0x5400 9 s) b s;
        let e := leaseEnd (leNat (slice 6 5 m)) s;
        let t := setReg 0x5401 3 (time80 e) (setReg 0x5401 2 1 (setReg 0x5401 1 2 (heardReferee m (pmAccept 0 m s))));
        let u := { t with pair := { t.pair with endAt := e, monoEnd := monoNs s + 4000000, useEnd := false, grantAt := wall s, yielding := false } };
        sendAck false (each (List.range 48) (fun n s => if leased n s then fillSlots n s else s) u))) ∧
    (∀ (m : List Byte) (s : State),
      m.length = 12 →
      memberHears 1 (signed (cfg 0x5400 9 s) m s) s = true →
      s.pair.seen.contains (pmSeq (signed (cfg 0x5400 9 s) m s)) = true →
      exec (.grantReceive (signed (cfg 0x5400 9 s) m s)) s = .next s) ∧
    (∀ (m : List Byte) (s : State),
      memberHears 1 m s = true →
      m.length ≠ 16 →
      exec (.grantReceive m) s = .next (fire 0xCC 0 (count 0x5401 0x0A s))) ∧
    (∀ (b : List Byte) (s : State),
      b.length = 12 →
      memberHears 3 (signed (cfg 0x5400 9 s) b s) s = true →
      s.pair.seen.contains (pmSeq (signed (cfg 0x5400 9 s) b s)) = false →
      tget 0 s.pair.seqs 0 < pmSeq (signed (cfg 0x5400 9 s) b s) →
      pmDev (signed (cfg 0x5400 9 s) b s) = ownDev s →
      exec (.releaseReceive (signed (cfg 0x5400 9 s) b s)) s = .next (
        stopLease true (heardReferee (signed (cfg 0x5400 9 s) b s) (pmAccept 0 (signed (cfg 0x5400 9 s) b s) s)))) ∧
    (∀ (s : State),
      s.pair.yielding = true →
      leasedIdle s = true →
      reg 0x5401 2 s = 1 →
      exec .leaseYield s = .next (sendAck true (endLease s))) ∧
    (∀ (s : State),
      s.pair.yielding = true →
      leasedIdle s = false →
      exec .leaseYield s = .next s) ∧
    (∀ (s : State),
      reg 0x5401 2 s = 1 →
      leaseHolds 0 s = false →
      s.pair.yielding = false →
      exec .leaseEnd s = .next (fire 0xC8 0 (endLease s))) ∧
    (∀ (s : State),
      member s = true →
      s.dev ≠ .boot ∧ s.dev ≠ .catch_ →
      s.power.sleep = 0 →
      s.pair.healthAt + ms 10 ≤ monoNs s →
      exec .healthReportSend s = .next (
        let t := nextPairSeq { s with pair := { s.pair with healthAt := monoNs s } };
        let u := { t with pair := { t.pair with mism := 0, omis := 0 } };
        sendPairing 6 (cfg 0x5400 2 s) [cfg 0x5400 6 s, cfg 0x5400 5 s] (cfg 0x5400 7 s) (cfg 0x5400 8 s + 2 + reg 0x5400 1 s)
        (healthBody t ++ macBytes (cfg 0x5400 9 s) 4 (healthBody t) u) u)) ∧
    (∀ (b : List Byte) (s : State),
      b.length = 28 →
      memberHears 4 (signed (cfg 0x5400 9 s) b s) s = true →
      pmDev (signed (cfg 0x5400 9 s) b s) = cfg 0x5400 5 s →
      s.pair.seen.contains (2 ^ 32 + pmSeq (signed (cfg 0x5400 9 s) b s)) = false →
      tget 0 s.pair.seqs 1 < pmSeq (signed (cfg 0x5400 9 s) b s) →
      exec (.healthReportReceive (signed (cfg 0x5400 9 s) b s)) s = .next (
        let t := pmAccept 1 (signed (cfg 0x5400 9 s) b s) s;
        { t with pair := { t.pair with partnerAt := wall s } })) ∧
    (∀ (s : State),
      member s = true →
      due s.pair.partnerAt (ms 30) s = true →
      exec .partnerHealthTimeout s = .next (fire 0xCA 0 s)) ∧
    (∀ (s : State),
      member s = true →
      reg 0x5401 6 s = 1 →
      due s.pair.heardAt (ms 3) s = true →
      exec .refereeLost s = .next (fire 0xCB 0 (setReg 0x5401 6 0 s))) ∧
    (∀ (e : Fin 48) (s : State),
      shadowed e.val s = true →
      exec (.shadowOmission e) s = .next (settle 4 (shadowOmission e.val s))) ∧
    (∀ (e : Fin 48) (s : State),
      shadowed e.val s = true →
      exec (.transmitWithoutLease e) s = .next (fire 0xCE e.val s))

/-- The referee renews the holder's GRANT every 1 ms; without an ACK in 0.5 ms, or a report in 30 ms, renewals are withheld and counted. A
withheld lease is over once its end and guard have passed, and an eligible member is granted; with none, source 0xCF fires. An ACK of a
member whose CMAC verifies says that it holds the lease and ends the wait for it. The first grant goes, 30 ms after a first report, to the
only member that reports. Command 0x01 asks the holder to release for an eligible standby and fails otherwise; command 0x02 stops granting;
command 0x03 lets grants go on. (R317, R320, R321, R324, R325, R328) -/
def Obligations.RefereeMovesTheLease : Prop :=
    (∀ (k : Fin 3) (s : State),
      grants k.val s = true →
      holder k.val s ≠ 0 →
      (referee k.val s).withheld = false →
      (referee k.val s).releasing = false →
      (referee k.val s).clash = false →
      eligibleNow k.val (holder k.val s) s = true →
      (referee k.val s).sentAt + 1000000 ≤ monoNs s →
      exec (.refereeGrantRenewal k) s = .next (grant k.val (holder k.val s) s)) ∧
    (∀ (k : Fin 3) (s : State),
      holder k.val s ≠ 0 →
      (referee k.val s).awaiting = true →
      (referee k.val s).sentAt + 500000 ≤ monoNs s →
      (referee k.val s).withheld = false →
      exec (.refereeAckTimeout k) s = .next (count (rP k.val) 0x0D
        (setReferee k.val { referee k.val s with withheld := true, why := 1, awaiting := false } s))) ∧
    (∀ (k : Fin 3) (s : State),
      holder k.val s ≠ 0 →
      reports k.val (holder k.val s) s = false →
      (referee k.val s).withheld = false →
      exec (.refereeHealthTimeout k) s = .next (count (rP k.val) 0x0D (let t := noteEligibility k.val s;
        setReferee k.val { referee k.val t with withheld := true, why := 2, awaiting := false } t))) ∧
    (∀ (k : Fin 3) (s : State),
      grants k.val s = true →
      holder k.val s ≠ 0 →
      (referee k.val s).withheld = true →
      leaseEnded k.val (other (holder k.val s)) s = true →
      exec (.refereeLeaseLapse k) s = .next (regrant k.val (holder k.val s) (holderOut k.val false s))) ∧
    (∀ (k : Fin 3) (b : List Byte) (s : State),
      grants k.val s = true →
      b.length = 12 →
      pmType (signed (cfg (rP k.val) 6 s) b s) = 2 →
      pmPair (signed (cfg (rP k.val) 6 s) b s) = k.val →
      devMember k.val (pmDev (signed (cfg (rP k.val) 6 s) b s)) s = 1 →
      s.pair.seen.contains ((2 * k.val + 2) * 2 ^ 32 + pmSeq (signed (cfg (rP k.val) 6 s) b s)) = false →
      tget 0 s.pair.seqs (2 * k.val + 2) < pmSeq (signed (cfg (rP k.val) 6 s) b s) →
      exec (.leaseAckReceive k (signed (cfg (rP k.val) 6 s) b s)) s = .next (
        ackReceived k.val 1 (signed (cfg (rP k.val) 6 s) b s) (pmAccept (2 * k.val + 2) (signed (cfg (rP k.val) 6 s) b s) s))) ∧
    (∀ (k : Fin 3) (s : State),
      grants k.val s = true →
      (referee k.val s).started = false →
      (referee k.val s).stopped = false →
      (referee k.val s).firstAt ≠ 0 →
      due (referee k.val s).firstAt (ms 30) s = true →
      eligibleNow k.val 1 s = true →
      reports k.val 2 s = false →
      exec (.refereeFirstGrant k) s = .next (moveLease k.val 1 (setReferee k.val { referee k.val s with why := 6 } s))) ∧
    (∀ (ses : Session) (k : Fin 3) (s : State),
      Served ses s →
      s.dev ≠ .terminal →
      grants k.val s = true →
      holder k.val s ≠ 0 →
      eligibleNow k.val (other (holder k.val s)) s = true →
      exec (.handOver ses k) s = .next (answered ses (setReg (rP k.val) 0x0B 1 (releaseFor k.val 5 (touch ses s))))) ∧
    (∀ (ses : Session) (k : Fin 3) (s : State),
      Served ses s →
      s.dev ≠ .terminal →
      holder k.val s = 0 →
      exec (.handOver ses k) s = .next (answered ses (setReg (rP k.val) 0x0B 3 (touch ses s)))) ∧
    (∀ (ses : Session) (k : Fin 3) (s : State),
      Served ses s →
      s.dev ≠ .terminal →
      holder k.val s = 0 →
      exec (.releaseAll ses k) s = .next (answered ses (setReg (rP k.val) 0x0B 2 (let t := touch ses s;
        setReferee k.val { referee k.val t with stopped := true, next := 0, why := 5 } t)))) ∧
    (∀ (ses : Session) (k : Fin 3) (s : State),
      Served ses s →
      s.dev ≠ .terminal →
      holder k.val s ≠ 0 →
      exec (.resume ses k) s = .next (answered ses (setReg (rP k.val) 0x0B 2 (let t := touch ses s;
        setReferee k.val { referee k.val t with stopped := false, next := 0, why := 5 } t))))

/-- A frame of the transport whose CMAC fails is counted; one that verifies, from a peer whose link is up and of its epoch, gives its
acknowledgement and limits, and is taken up when it is the next in sequence; a repeated one is acknowledged again. An owed acknowledgement
leaves alone. After the retransmission time everything unacknowledged goes again; after the last retry the link is down and 0xF1 fires.
HELLO is sent once per interval; one of a peer keeps it discovered; a peer not heard for three intervals is no longer discovered. An EVENT
raises its vector, doorbell or source. An exported event leaves toward its device; a software event reads 2 with a link and 3 without. A
held prefetch is dropped at the end of its time. (R342, R343, R344, R345, R349, R353) -/
def Obligations.TransportCarriesMessages : Prop :=
    (∀ (e b : List Byte) (s : State),
      e.length = 14 →
      beNat (slice 12 2 e) = 0x88B5 →
      b.length = 28 + dataLen b →
      hLen b ≤ 1024 →
      byteAt b 0 = 1 →
      transportOn s = true →
      hType b ≠ 1 →
      hDest b = ownDev s →
      peerUp (hSource b) s = true →
      hEpoch b = reg (pP (hSource b)) 6 s →
      hClass b ≠ 3 →
      hSeq b = (peer (hSource b) (takeAck (hSource b) (carried b s) s)).expect →
      exec (.transportFrameReceive (e ++ carried b s)) s = .next (acceptNext (hSource b) (carried b s) (takeAck (hSource b) (carried b s) s))) ∧
    (∀ (p : Fin 8) (s : State),
      transportOn s = true →
      peerUp p.val s = true →
      (peer p.val s).ackOwed.isSome = true →
      exec (.transportAckDue p) s = .next (txMsg p.val (tMsg 3 0 0 []) false s)) ∧
    (∀ (p : Fin 8) (s : State),
      transportOn s = true →
      peerUp p.val s = true →
      (peer p.val s).unacked ≠ [] →
      due (peer p.val s).progressAt (us (cfg 0x5C20 7 s)) s = true →
      (peer p.val s).retries < cfg 0x5C20 8 s →
      exec (.retransmitTimeout p) s = .next (each (peer p.val s).unacked (fun m t => txMsg p.val m true (count 0x5C20 0x0B t))
        (setPeer p.val { peer p.val s with retries := (peer p.val s).retries + 1, progressAt := wall s } s))) ∧
    (∀ (p : Fin 8) (s : State),
      transportOn s = true →
      peerUp p.val s = true →
      (peer p.val s).unacked ≠ [] →
      due (peer p.val s).progressAt (us (cfg 0x5C20 7 s)) s = true →
      cfg 0x5C20 8 s ≤ (peer p.val s).retries →
      exec (.retransmitTimeout p) s = .next (settle 8 (fire 0xF1 p.val (endLink p.val 2 s)))) ∧
    (∀ (s : State),
      transportOn s = true →
      s.faults.forced = false →
      s.dev ≠ .safe ∧ s.dev ≠ .terminal →
      due s.bridge.helloAt (ms (cfg 0x5C20 9 s)) s = true →
      exec .helloSend s = .next (emit (.hello (msgFrame (beBytes 6 0x03C5E088B500)
        (msgBody 0 (tMsg 3 1 0 []) false { s with bridge := { s.bridge with peers := [] } }) s))
        { s with bridge := { s.bridge with helloAt := wall s } })) ∧
    (∀ (e b : List Byte) (s : State),
      e.length = 14 →
      beNat (slice 12 2 e) = 0x88B5 →
      b.length = 28 + dataLen b →
      hLen b ≤ 1024 →
      byteAt b 0 = 1 →
      transportOn s = true →
      hType b = 1 →
      hSource b ≠ ownDev s →
      exec (.helloReceive (e ++ carried b s)) s = .next (settle 8 (takeHello (hSource b) (hEpoch b) (slice 6 6 e) s))) ∧
    (∀ (p : Fin 8) (s : State),
      reg (pP p.val) 1 s = 1 →
      due (peer p.val s).helloAt (helloSpan s) s = true →
      exec (.peerDiscoveryTimeout p) s = .next (setReg (pP p.val) 1 0 (endLink p.val 0 s))) ∧
    (∀ (p : Fin 8) (d : List Byte) (s : State),
      transportOn s = true →
      wellTaken (d ++ leBytes 8 0) = true →
      hType d = 0x20 →
      hStatus d % 65536 = 3 ∨ hStatus d % 65536 = 7 →
      hSub d = 2 →
      exec (.eventMessageReceive p d) s = .next (settle 8 (fire 0xF3 (p.val + 256 * (hStatus d % 65536)) (hostEvent 4 s)))) ∧
    (∀ (e : Fin 32) (x : Nat × Bytes) (s : State),
      s.bridge.leaving.find? (fun x => x.1 == e.val) = some x →
      bridgeOn s = true →
      exec (.eventExport e) s = .next (let t := { s with bridge := { s.bridge with leaving := s.bridge.leaving.erase x } };
        sendMsg (cfgE e.val 0x5C21 5 s)
        { tMsg 0 0x20 (cfgE e.val 0x5C21 3 s + 65536 * cfgE e.val 0x5C21 4 s) x.2 with index := cfgE e.val 0x5C21 7 s, sub := cfgE e.val 0x5C21 6 s } t)) ∧
    (∀ (ses : Session) (s : State),
      Served ses s →
      s.dev ≠ .terminal →
      peerUp (reg 0x5C22 1 s) s = false →
      exec (.softwareEventSend ses) s = .next (answered ses (setReg 0x5C22 3 3 (touch ses s)))) ∧
    (∀ (ses : Session) (e : Nat) (s : State),
      Served ses s →
      s.dev ≠ .terminal →
      peerUp (reg 0x5C22 1 s) s = true →
      (List.range 32).find? (fun e => cfgE e 0x5C21 2 s == 1 && cfgE e 0x5C21 3 s == 7 && cfgE e 0x5C21 5 s == reg 0x5C22 1 s) = some e →
      exec (.softwareEventSend ses) s = .next (answered ses (setReg 0x5C22 3 2 (sendMsg (reg 0x5C22 1 s)
        { tMsg 0 0x20 7 (leBytes 8 (reg 0x5C22 2 s)) with index := cfgE e 0x5C21 7 s, sub := cfgE e 0x5C21 6 s } (touch ses s))))) ∧
    (∀ (w : Fin 32) (s : State),
      s.bridge.prefetched.any (fun p => p.window == w.val && p.value.isSome && due p.since (us (win w.val 6 s)) s) = false →
      exec (.prefetchHoldEnd w) s = .next s) ∧
    (∀ (w : Fin 32) (p : Prefetched) (s : State),
      s.bridge.prefetched = [p] →
      p.window = w.val →
      p.value.isSome = true →
      p.served = true →
      due p.since (us (win w.val 6 s)) s = true →
      exec (.prefetchHoldEnd w) s = .next { s with bridge := { s.bridge with prefetched := [] } })

/-- PE_PERST_N asserted resets the function; released, the link trains. A function level reset is counted and trains again. An access that the
endpoint does not support completes as an Unsupported Request, counted, or is counted alone. A read of the low half of a TIME80 register
completes with it and leaves the upper half in the shadow. A read of the aperture of a device that is not reached completes as an abort.
Configuration requests complete once the device has been in Operate or Configure, and are retried before. A turn-off message ends the reads
that wait and the link. A link comes up at its generation and width, and goes down. An unmasked vector that is pending is sent. (R330, R332,
R333, R334, R336, R340, R348, R467) -/
def Obligations.HostBridgeAnswers : Prop :=
    (∀ (s : State),
      s.bridge.perst = false →
      exec (.pePerstN true) s = .next (functionReset { s with bridge := { s.bridge with perst := true } })) ∧
    (∀ (s : State),
      s.bridge.perst = true →
      exec (.pePerstN false) s = .next (linkTrains { s with bridge := { s.bridge with perst := false, perstAt := wall s } })) ∧
    (∀ (s : State),
      bar0Up s = true →
      exec .functionLevelReset s = .next (linkTrains (functionReset (count 0x5C00 8 s)))) ∧
    (∀ (s : State),
      bar0Up s = true →
      exec (.unsupportedAccess true) s = .next (emit (.completion false false []) (count 0x5C00 4 s))) ∧
    (∀ (s : State),
      bar0Up s = true →
      exec (.unsupportedAccess false) s = .next (count 0x5C00 4 s)) ∧
    (∀ (s : State),
      Past s →
      bar0Up s = true →
      exec (.time80LowHalfRead 0x10) s = .next (
        let r := registerBytes 8 (leBytes 10 (viewObj .bar0 0x3800 1 (rowOf 0x3800 1) s)) s;
        emit (.completion true false r.1) r.2)) ∧
    (∀ (o : Fin 65536) (n : Nat) (r : Nat × Nat × Nat) (s : State),
      0x8000 ≤ o.val →
      bridgeOn s = true →
      bar0Up s = true →
      upperHalf (o.val % 0x1000) n = false →
      apertureObj (o.val % 0x1000) n = some r →
      (o.val - 0x8000) / 0x1000 ≠ ownDev s →
      discovered ((o.val - 0x8000) / 0x1000) s = false →
      exec (.remoteApertureAccess o (.read n)) s = .next (emit (.completion false false []) (count 0x5C00 5 s))) ∧
    (∀ (o : Fin 65536) (n : Nat) (i j w : Nat) (s : State),
      0x8000 ≤ o.val →
      bridgeOn s = true →
      bar0Up s = true →
      upperHalf (o.val % 0x1000) n = false →
      apertureObj (o.val % 0x1000) n = some (i, j, w) →
      (o.val - 0x8000) / 0x1000 = ownDev s →
      exec (.remoteApertureAccess o (.read n)) s = .next (let r := readObj .bar0 i j s; readCompletes n r.2.1 r.2.2 r.1)) ∧
    (∀ (s : State),
      bar0Up s = true →
      s.bridge.answers = true →
      exec .pcieConfigurationRequest s = .next (emit (.completion true false []) s)) ∧
    (∀ (s : State),
      bar0Up s = true →
      s.bridge.answers = false →
      due s.bridge.perstAt 1000000000 s = false →
      exec .pcieConfigurationRequest s = .next (emit (.completion false true []) s)) ∧
    (∀ (s : State),
      bar0Up s = true →
      s.bridge.reads = [] →
      exec .pmeTurnOff s = .next (setReg 0x5C00 1 4 (linkGoes true true s))) ∧
    (∀ (g l : Fin 5) (s : State),
      g.val ≠ 0 →
      l.val = 1 ∨ l.val = 2 ∨ l.val = 4 →
      bar0Up s = false →
      s.power.sleep = 0 →
      reg 0x5C00 1 (linkTrains s) = 1 →
      reg 0x5010 7 s ≠ 0xFFFFFFFF →
      exec (.pcieLinkUp g l) s = .next (setReg 0x5C00 3 l.val (setReg 0x5C00 2 g.val (setReg 0x5C00 1 2 (linkTrains s))))) ∧
    (∀ (s : State),
      bar0Up s = true →
      exec .pcieLinkDown s = .next (linkTrains (linkLost s))) ∧
    (∀ (v : Fin 128) (s : State),
      bar0Up s = true →
      s.bridge.msixPend.contains v.val = true →
      exec (.msixVectorUnmask v) s = .next (emit (.msix v.val) { s with bridge := { s.bridge with
        msixMask := s.bridge.msixMask.filter (· ≠ v.val), msixPend := s.bridge.msixPend.filter (· ≠ v.val) } }))

/-- A doorbell through BAR0 sets the producer index of a leader, and one out of range, or at a channel that is no leader, sets bit 3 of the
cause. A start runs a stopped channel, and one that runs already answers; an abort of a solo channel with work waits for it in state 3; a
disable leaves its gang in state 5; a ring reset sets the indexes to 0 and the state to 1. Up to 8 posted descriptors are read at a time;
one whose phase is not ready is read again, and the fifth read that differs stops the channel with status 4. An ended descriptor is written
back. A completion record is popped, zeros where none is held. A channel whose domain or link goes stops. (R355, R356, R357, R360, R361,
R366, R367, R368) -/
def Obligations.DmaRingsAreServed : Prop :=
    (∀ (c : Fin 64) (v : Fin 4294967296) (s : State),
      Past s →
      s.dev ≠ .terminal →
      bar0Up s = true →
      leader c.val s = c.val →
      v.val < ringSize c.val s →
      v.val < 65536 →
      exec (.dmaDoorbell c v) s = .next (announce 4 c.val (leBytes 4 v.val) (setReg (dP c.val) 0x0A v.val s))) ∧
    (∀ (c : Fin 64) (v : Fin 4294967296) (s : State),
      Past s →
      s.dev ≠ .terminal →
      bar0Up s = true →
      v.val < 65536 →
      leader c.val s ≠ c.val ∨ ringSize c.val s ≤ v.val →
      exec (.dmaDoorbell c v) s = .next (setReg (dP c.val) 0x10 (setField (reg (dP c.val) 0x10 s) 3 1 1) s)) ∧
    (∀ (ses : Session) (c : Fin 64) (s : State),
      ses ≠ .bar0 →
      Served ses s →
      s.dev ≠ .terminal ∧ s.dev ≠ .safe →
      leader c.val s = c.val →
      chState c.val s = 1 →
      dmaKind c.val s ≠ 0 →
      exec (.dmaStart ses c) s = .next (answered ses (setReg (dP c.val) 0x0C 2 (each (gangMembers c.val s) (fun m s => setReg (dP m) 0x0D 2 s) (touch ses s))))) ∧
    (∀ (ses : Session) (c : Fin 64) (s : State),
      ses ≠ .bar0 →
      Served ses s →
      s.dev ≠ .terminal →
      gangSize c.val s = 1 →
      chState c.val s = 2 →
      inHand c.val s ≠ 0 →
      exec (.dmaAbort ses c) s = .next (answered ses (setReg (dP c.val) 0x0C 2 (setReg (dP c.val) 0x0D 3 (touch ses s))))) ∧
    (∀ (ses : Session) (c : Fin 64) (s : State),
      ses ≠ .bar0 →
      Served ses s →
      s.dev ≠ .terminal →
      leader c.val s = c.val →
      exec (.dmaDisable ses c) s = .next (answered ses (setReg (dP c.val) 0x0C 2 (dmaDisable c.val (touch ses s))))) ∧
    (∀ (ses : Session) (c : Fin 64) (s : State),
      ses ≠ .bar0 →
      Served ses s →
      s.dev ≠ .terminal →
      leader c.val s = c.val →
      chState c.val s = 1 ∨ chState c.val s = 5 →
      exec (.dmaResetRing ses c) s = .next (answered ses (setReg (dP c.val) 0x0C 2 (
        let t := setReg (dP c.val) 0x0B 0 (setReg (dP c.val) 0x0A 0 (
        setDma c.val { dma c.val s with phase := true, fetched := [], ended := [], rereads := 0 } (touch ses s)));
        each (gangMembers c.val s) (fun m s => setReg (dP m) 0x0D 1 s) t)))) ∧
    (∀ (c : Fin 64) (b : List Byte) (s : State),
      dmaRuns c.val s = true →
      (dma c.val s).rereads = 0 →
      b.length % 32 = 0 →
      32 ≤ b.length ∧ b.length ≤ 256 →
      b.length / 32 + inHand c.val s ≤ posted c.val s →
      readIdx c.val s + b.length / 32 ≤ ringSize c.val s →
      exec (.descriptorFetch c b) s = .next (
        let t := takeDescs c.val (pieces32 8 b) (emit (.hostRead (reg (dP c.val) 6 s + 32 * readIdx c.val s) b.length) s);
        refuseHeads c.val (dma c.val t).fetched.length t)) ∧
    (∀ (c : Fin 64) (b : List Byte) (s : State),
      dmaRuns c.val s = true →
      (dma c.val s).rereads ≠ 0 →
      b.length = 32 →
      due (dma c.val s).readAt 1000 s = true →
      bit (byteAt b 20) 0 = phaseAt c.val 0 s →
      exec (.phaseReread c b) s = .next (
        let t := takeDescs c.val [b] (emit (.hostRead (reg (dP c.val) 6 s + 32 * readIdx c.val s) 32) s);
        refuseHeads c.val (dma c.val t).fetched.length t)) ∧
    (∀ (c : Fin 64) (b : List Byte) (s : State),
      dmaRuns c.val s = true →
      (dma c.val s).rereads = 4 →
      inHand c.val s = 0 →
      b.length = 32 →
      due (dma c.val s).readAt 1000 s = true →
      bit (byteAt b 20) 0 ≠ phaseAt c.val 0 s →
      exec (.phaseReread c b) s = .next (let t := emit (.hostRead (reg (dP c.val) 6 s + 32 * readIdx c.val s) 32) s;
        dmaStop c.val 4 true (cause c.val 2 (count (dP c.val) 0x14 (setDma c.val { dma c.val s with rereads := 0 } t))))) ∧
    (∀ (c : Fin 64) (e : DmaEnd) (s : State),
      leader c.val s = c.val →
      bar0Up s = true →
      chState c.val s = 2 →
      (dma c.val s).ended.head? = some e →
      e.status ≠ 9 ∧ e.status ≠ 5 →
      exec (.descriptorWriteBack c) s = .next (writeBack c.val e (consume c.val 1
        (setDma c.val { dma c.val s with ended := (dma c.val s).ended.tail } s)))) ∧
    (∀ (ses : Session) (c : Fin 64) (r : Bytes) (t : List Bytes) (s : State),
      ses ≠ .bar0 →
      Served ses s →
      (dma c.val s).fifo = r :: t →
      exec (.completionPop ses c) s = .next (emit (.answer ses 0 r) (setDma c.val { dma c.val s with fifo := t } (touch ses s)))) ∧
    (∀ (c : Fin 64) (s : State),
      Past s →
      bar0Up s = true →
      (dma c.val s).fifo = [] →
      exec (.completionPop .bar0 c) s = .next (emit (.completion true false [0, 0, 0, 0, 0, 0, 0, 0]) s)) ∧
    (∀ (c : Fin 64) (s : State),
      leader c.val s = c.val →
      chState c.val s = 2 ∨ chState c.val s = 3 →
      domainGoes 12 s = true ∨ bar0Up s = false →
      gangSize c.val s = 1 →
      exec (.dmaDomainLoss c) s = .next (if domainGoes 12 s then setReg (dP c.val) 0x0D 5 (dmaHalt c.val 3 (powered 12 s && bar0Up s) s)
        else dmaHalt c.val 3 (powered 12 s && bar0Up s) s))

/-- The frame that port 30 has dequeued, its ells good, goes into the buffers in hand that take it, behind its header, ends them with status 1
and leaves the device; one that the buffers do not hold fills them, and a solo channel goes on with it later. A transmit frame is read from
its buffers and enters as a frame of port 30; one above 9212 bytes ends with status 7. A copy descriptor whose accesses are allowed is run
piece by piece and ends with its status and bytes moved; one with a refused access ends with status 8 and moves nothing. (R359, R361, R362,
R363, R364) -/
def Obligations.DmaMovesData : Prop :=
    (∀ (n : Fin 64) (seen : TxEnd) (c : Copy) (s t : State),
      (egr 30 s).cur = some c →
      dmaRuns n.val s = true →
      dmaKind n.val s = 1 →
      cfg (dP n.val) 3 s = c.queue →
      (dma n.val s).fetched ≠ [] →
      closeFrame 30 c seen s = (false, t) →
      (max 1 ((receivedBytes c seen false s).drop (dma n.val s).taken).length ≤
        (frameBuffers n.val (max 1 ((receivedBytes c seen false s).drop (dma n.val s).taken).length) s).foldl (fun a x => a + x.2) 0) →
      exec (.receiveFrameToHost n seen) s = .next (
        let d := (receivedBytes c seen false s).drop (dma n.val s).taken;
        let u := fillBuffers n.val 1 true (frameBuffers n.val (max 1 d.length) s) d (setDma n.val { dma n.val t with taken := 0 } t);
        let v := refuseHeads n.val (dma n.val u).fetched.length u;
        settle 4 (reap c.frame (setEgr 30 { egr 30 v with cur := none, sent := 0, overrun := false } v)))) ∧
    (∀ (n : Fin 64) (seen : TxEnd) (c : Copy) (s t : State),
      (egr 30 s).cur = some c →
      dmaRuns n.val s = true →
      dmaKind n.val s = 1 →
      gangSize n.val s = 1 →
      cfg (dP n.val) 3 s = c.queue →
      (dma n.val s).fetched ≠ [] →
      closeFrame 30 c seen s = (false, t) →
      ((frameBuffers n.val (max 1 ((receivedBytes c seen false s).drop (dma n.val s).taken).length) s).foldl (fun a x => a + x.2) 0 <
        max 1 ((receivedBytes c seen false s).drop (dma n.val s).taken).length) →
      exec (.receiveFrameToHost n seen) s = .next (
        let d := (receivedBytes c seen false s).drop (dma n.val s).taken;
        let l := frameBuffers n.val (max 1 d.length) s;
        let u := fillBuffers n.val 1 false l d (setDma n.val { dma n.val s with taken := (dma n.val s).taken + l.foldl (fun a x => a + x.2) 0 } s);
        refuseHeads n.val (dma n.val u).fetched.length u)) ∧
    (∀ (n : Fin 64) (l : List Byte) (d : Nat × Bytes) (s : State),
      dmaRuns n.val s = true →
      dmaKind n.val s = 2 →
      (dma n.val s).fetched = [d] →
      dEof d.2 = true →
      dRefused 2 d.2 = false →
      l.length = dLen d.2 →
      l.length ≤ 9212 →
      exec (.transmitFrameFromHost n l .good) s = .next (
        let r := hostFrame l (emit (.hostRead (leNat (slice 0 8 d.2)) (dLen d.2)) s);
        let t := endAll n.val (fun j => if r.1 && j + 1 == 1 then 6 else 1) 0 [d] r.2;
        refuseHeads n.val (dma n.val t).fetched.length t)) ∧
    (∀ (n : Fin 64) (data : List Byte) (h : HostRead) (f : Nat × Bytes) (t : List (Nat × Bytes)) (s : State),
      (dma n.val s).fetched = f :: t →
      dmaRuns n.val s = true →
      dmaKind n.val s = 3 →
      endpointGoes n.val s = false →
      (copySrc f.2).device = true ∨ data.length = dLen f.2 →
      endRefused (copySrc f.2) (dLen f.2) false (setDma n.val { dma n.val s with fetched := t } s) = false →
      endRefused (copyDst f.2) (dLen f.2) true (setDma n.val { dma n.val s with fetched := t } s) = false →
      exec (.copyDescriptor n data h) s = .next (
        let x := pieces (copySrc f.2) (dLen f.2);
        let y := pieces (copyDst f.2) (dLen f.2);
        let r := copyRun (copySrc f.2) (copyDst f.2) h (x.length + y.length) 0 x y data [] 0 (setDma n.val { dma n.val s with fetched := t } s);
        settle 8 (let u := dmaEnd n.val f r.2.1 r.1 false r.2.2; refuseHeads n.val (dma n.val u).fetched.length u))) ∧
    (∀ (n : Fin 64) (data : List Byte) (h : HostRead) (f : Nat × Bytes) (t : List (Nat × Bytes)) (s : State),
      (dma n.val s).fetched = f :: t →
      dmaRuns n.val s = true →
      dmaKind n.val s = 3 →
      endpointGoes n.val s = false →
      (copySrc f.2).device = true ∨ data.length = dLen f.2 →
      endRefused (copyDst f.2) (dLen f.2) true (setDma n.val { dma n.val s with fetched := t } s) = true →
      exec (.copyDescriptor n data h) s = .next (settle 8 (
        let u := dmaEnd n.val f 0 8 false (setDma n.val { dma n.val s with fetched := t } s);
        refuseHeads n.val (dma n.val u).fetched.length u)))

/-- A challenge read gives its 64 bytes and binds them to the session. A response ends the challenge: a good one grants the role, any other is
refused and counted as a failure. A session gives its role back; a lockout ends at its time. The oldest queued record goes to flash once
firmware runs; a Workshop role acknowledges through a counter, and a session with a role exports a held range, which is then signed. A
tamper event is counted, latched, recorded and fired; in sleep only VDD_AON's is latched; latched bits are cleared bit by bit. IDCODE shifts
out, BYPASS does nothing, and any other instruction is an event while JTAG is locked. The lifecycle moves by one under its role and is
recorded; a root key is revoked under Supplier. (R373, R387, R388, R390, R393, R395, R396, R399, R492) -/
def Obligations.CrustGrantsRoles : Prop :=
    (∀ (ses : Session) (s : State),
      Served ses s →
      trngWorks s = true →
      lockedRole (requestedRole ses s) s = false →
      exec (.challengeRead ses) s = .next (emit (.answer ses 0 (challengeBytes ses (touch ses s))) (let t := touch ses s;
        let c : Challenge := ⟨challengeBytes ses t, requestedRole ses t, wall t⟩;
        useFree { t with crust := { t.crust with challenges := tset none t.crust.challenges (sesCode ses) (some c) } }))) ∧
    (∀ (ses : Session) (l : List Byte) (c : Challenge) (s : State),
      Served ses s →
      s.dev ≠ .terminal →
      l.length = 97 →
      tget none s.crust.challenges (sesCode ses) = some c →
      wall s ≤ c.since + 60000000000 →
      lockedRole c.role s = false →
      lifecycle s ≠ 3 →
      exec (.credentialResponse ses l) s = .next (
        let t := touch ses s;
        let u := { t with crust := { t.crust with challenges := tset none t.crust.challenges (sesCode ses) none } };
        if credentialSigned c.role (byteAt l 0) c.bytes (l.drop 1) s then answered ses (grantRole (sesCode ses) c.role (byteAt l 0) u)
        else emit (.answer ses 0x080000A1 []) (credentialFails c.role (byteAt l 0) (sesCode ses / 16) u))) ∧
    (∀ (ses : Session) (s : State),
      Served ses s →
      s.dev ≠ .terminal →
      exec (.roleRelease ses) s = .next (answered ses (let t := touch ses s;
        { t with crust := { t.crust with roles := tset 0 t.crust.roles (sesCode ses) 0 } }))) ∧
    (∀ (r : Fin 4) (s : State),
      tget 0 s.crust.lockEnd (r.val + 1) ≠ 0 →
      tget 0 s.crust.lockEnd (r.val + 1) ≤ wall s →
      exec (.lockoutEnd r) s = .next { s with crust := { s.crust with lockEnd := tset 0 s.crust.lockEnd (r.val + 1) 0 } }) ∧
    (∀ (r : SealedRec) (t : List SealedRec) (s : State),
      s.crust.queue = r :: t →
      s.access.coreUp = true →
      s.crust.flash.length < 4096 →
      exec .sealedRecordWrite s = .next { s with crust := { s.crust with queue := t, flash := s.crust.flash ++ [r] } }) ∧
    (∀ (ses : Session) (n : Fin 18446744073709551616) (s : State),
      Served ses s →
      s.dev ≠ .terminal →
      2 ≤ roleOf ses s →
      reg 0x6040 5 s ≤ n.val →
      exec (.logAcknowledge ses n) s = .next (answered ses (
        let t := setReg 0x6040 5 n.val (touch ses s);
        sealRecord 0x0011 (roleOf ses s) [n.val, s.crust.overwritten] { t with crust := { t.crust with overwritten := 0 } }))) ∧
    (∀ (ses : Session) (s : State),
      Served ses s →
      s.dev ≠ .terminal →
      1 ≤ roleOf ses s →
      s.crust.exporting = none →
      rangeHeld (reg 0x6040 8 s) (reg 0x6040 9 s) s = true →
      exec (.logExport ses) s = .next (answered ses (setReg 0x6040 0x0B 1 (let t := touch ses s;
        { t with crust := { t.crust with exporting := some (reg 0x6040 8 s, reg 0x6040 9 s) } })))) ∧
    (∀ (a b : Nat) (s : State),
      s.crust.exporting = some (a, b) →
      rangeHeld a b s = true →
      exec .logExportComplete s = .next (
        let d := Config.sha384 ((s.crust.flash.filter fun r => decide (a ≤ r.counter) && decide (r.counter ≤ b)).flatMap recBytes);
        setReg 0x6040 0x0B 2 (setReg 0x6040 0x0A (leNat (beBytes 48 d ++ beBytes 96 (Config.ecdsaSign (slotValue 0xE4 s) d)))
        { s with crust := { s.crust with exporting := none } }))) ∧
    (∀ (k : Fin 4) (s : State),
      s.power.sleep = 0 →
      tamperResponse k.val s ≠ 2 →
      exec (.tamperEvent k) s = .next (
        let t := setReg 0x6060 5 (time80 (nowNs s)) (count 0x6060 4 s);
        refreshEval (fire (0xAC + k.val) k.val (sealRecord 0x000A 0 [k.val, tamperResponse k.val s]
        (setReg 0x6000 4 (setField (reg 0x6000 4 t) k.val 1 1) t))))) ∧
    (∀ (s : State),
      s.power.sleep ≠ 0 →
      exec (.tamperEvent 0) s = .next { s with crust := { s.crust with aonTamper := true } }) ∧
    (∀ (ses : Session) (v : Byte) (s : State),
      Served ses s →
      s.dev ≠ .terminal →
      2 ≤ roleOf ses s →
      v.toNat < 16 →
      exec (.tamperLatchClear ses v) s = .next (answered ses (setReg 0x6000 4 (Nat.land (reg 0x6000 4 s) (15 - v.toNat)) (touch ses s)))) ∧
    (∀ (s : State),
      exec (.jtagInstruction .bypass) s = .next s) ∧
    (∀ (s : State),
      reg 0x6000 2 s = 1 →
      exec (.jtagInstruction .other) s = .next (fire 0xB0 0 (sealRecord 0x0014 0 [] s))) ∧
    (∀ (ses : Session) (s : State),
      Served ses s →
      s.dev ≠ .terminal →
      lifecycle s = 1 →
      4 ≤ roleOf ses s →
      exec (.lifecycleTransition ses 2) s = .next (answered ses (refreshEval (setReg 0x6000 2 1 (setReg 0x6000 1 2
        (sealRecord 0x0013 (roleOf ses s) [1, 2] (touch ses s))))))) ∧
    (∀ (ses : Session) (k : Fin 4) (s : State),
      Served ses s →
      s.dev ≠ .terminal →
      3 ≤ roleOf ses s →
      lifecycle s ≠ 0 →
      exec (.rootKeyRevocation ses k) s = .next (answered ses (let t := touch ses s;
        { t with crust := { t.crust with revoked := setField t.crust.revoked k.val 1 1 } })))

/-- A key command erases its input and reads 2 or 3. A wrapped blob that opens, a public key, a clear import in Provisioned whose check value
fits, and an unwrapped SAK fill the selected slot; an erase empties it; each is recorded. A parity error erases the slot and fires 0xA6. A
failed TRNG test fires 0xA3 or 0xA4, a passed start-up test brings it to work; a failed self-test of the authentication unit fires 0xA5. The
transmit AN, and an association read or written through its window, take their values; an SA near its last PN tells the host. KEK and ICK
are derived, and an ICV computed, from keys of usage MKA. A valid module is bound or unbound under Workshop, and recorded. (R377, R378,
R379, R380, R381, R383, R384, R385, R386, R398) -/
def Obligations.CrustHoldsKeys : Prop :=
    (∀ (ses : Session) (s : State),
      Served ses s →
      s.dev ≠ .terminal →
      lifecycle s ≠ 3 →
      keySelect s = byteAt (keyInput s) 0 →
      byteAt (keyInput s) 1 = 1 ∨ byteAt (keyInput s) 1 = 2 →
      symmetricFits (keySelect s) (leNat (slice 2 2 (keyInput s))) = true →
      leNat (slice 5 3 (keyInput s)) = 0 ∧ byteAt (keyInput s) 4 = 0 →
      usageRole (keySelect s) (leNat (slice 2 2 (keyInput s))) ≤ roleOf ses s →
      slotInUse (keySelect s) s = false →
      exec (.loadWrappedBlob ses) s = .next (
        let l := keyInput s;
        match Config.gcmOpen (slotValue 0xE1 s) (beNat (slice 8 12 l)) (l.take 8 ++ leBytes 4 serialNo ++ slice 20 48 l) with
        | none => emit (.answer ses 0x06090030 []) (setReg 0x6020 8 3 (setReg 0x6020 7 0 (touch ses s)))
        | some k => answered ses (setReg 0x6020 8 2 (setReg 0x6020 7 0 (putKey (keySelect s)
        ⟨byteAt l 1, leNat (slice 2 2 l), 1, false, keyOf (byteAt l 1) k⟩ (roleOf ses s) (touch ses s)))))) ∧
    (∀ (ses : Session) (s : State),
      Served ses s →
      s.dev ≠ .terminal →
      lifecycle s ≠ 3 →
      keySelect s = 0xE5 →
      byteAt (keyInput s) 0 = 4 →
      3 ≤ roleOf ses s →
      exec (.importPublicKey ses) s = .next (answered ses (setReg 0x6020 8 2 (setReg 0x6020 7 0
        (putKey 0xE5 ⟨3, 0x20, 3, true, beNat ((keyInput s).take 65)⟩ (roleOf ses s) (touch ses s)))))) ∧
    (∀ (ses : Session) (s : State),
      Served ses s →
      s.dev ≠ .terminal →
      lifecycle s ≠ 3 →
      keySelect s < 0xE0 →
      trngWorks s = true →
      slotInUse (keySelect s) s = false ∧ saUses (keySelect s) s = false →
      bit (keySlot (reg 0x6030 1 s) s).usage 1 = true →
      leNat (slice 24 16 (keyInput s)) = 0 →
      exec (.unwrapSak ses) s = .next (
        match Config.unwrap (keySlot (reg 0x6030 1 s) s).value ((keyInput s).take 24) with
        | none => emit (.answer ses 0x06090030 []) (setReg 0x6020 8 3 (setReg 0x6020 7 0 (touch ses s)))
        | some v => answered ses (setReg 0x6020 8 2 (setReg 0x6020 7 0
        (putKey (keySelect s) ⟨1, 1, 2, false, v⟩ (roleOf ses s) (touch ses s)))))) ∧
    (∀ (ses : Session) (s : State),
      Served ses s →
      s.dev ≠ .terminal →
      lifecycle s ≠ 3 →
      keySelect s < 0xE0 →
      usageRole (keySelect s) (keySlot (keySelect s) s).usage ≤ roleOf ses s →
      slotInUse (keySelect s) s = false →
      exec (.eraseKey ses) s = .next (answered ses (setReg 0x6020 8 2 (setReg 0x6020 7 0 (let t := touch ses s;
        let k := keySlot (keySelect s) s;
        refreshEval (sealRecord 0x000C (roleOf ses s) [keySelect s, k.usage, k.origin, leNat (checkBytes k)]
        { t with crust := { t.crust with slots := tdel t.crust.slots (keySelect s), stored := tdel t.crust.stored (keySelect s) } })))))) ∧
    (∀ (ses : Session) (s : State),
      Served ses s →
      s.dev ≠ .terminal →
      lifecycle s = 1 →
      4 ≤ roleOf ses s →
      keySelect s = byteAt (keyInput s) 0 →
      byteAt (keyInput s) 1 = 2 →
      symmetricFits (keySelect s) (leNat (slice 2 2 (keyInput s))) = true →
      leNat (slice 5 3 (keyInput s)) = 0 ∧ byteAt (keyInput s) 4 = 0 →
      leNat (slice 44 84 (keyInput s)) = 0 →
      slotInUse (keySelect s) s = false →
      exec (.clearImport ses) s = .next (
        let l := keyInput s;
        let k : KeySlot := ⟨2, leNat (slice 2 2 l), 5, false, keyOf 2 (slice 8 32 l)⟩;
        if checkBytes k = slice 40 4 l then answered ses (setReg 0x6020 8 2 (setReg 0x6020 7 0 (putKey (keySelect s) k 4 (touch ses s))))
        else emit (.answer ses 0x06090030 []) (setReg 0x6020 8 3 (setReg 0x6020 7 0 (touch ses s))))) ∧
    (∀ (n : Fin 256) (s : State),
      keySlot n.val s ≠ keySlot0 →
      exec (.keyParityError n) s = .next (refreshEval (fire 0xA6 n.val { s with crust := { s.crust with slots := tdel s.crust.slots n.val } }))) ∧
    (∀ (s : State),
      trngWorks s = true →
      exec .trngHealthFailure s = .next (fire 0xA3 0 s)) ∧
    (∀ (s : State),
      reg 0x6000 8 s = 0 →
      exec (.trngStartUpTest true) s = .next (refreshEval (setReg 0x6000 8 1 s))) ∧
    (∀ (s : State),
      reg 0x6000 8 s = 0 →
      exec (.trngStartUpTest false) s = .next (fire 0xA4 0 (setReg 0x6000 8 2 s))) ∧
    (∀ (s : State),
      s.crust.authWorking = true →
      exec (.authUnitSelfTest false) s = .next (fire 0xA5 0 s)) ∧
    (∀ (s : State),
      s.dev = .boot ∨ s.dev = .catch_ →
      exec (.authUnitSelfTest true) s = .next { s with crust := { s.crust with authWorking := true } }) ∧
    (∀ (ses : Session) (p : Fin 16) (an : Byte) (s : State),
      Served ses s →
      s.dev ≠ .terminal →
      an.toNat ≤ 3 →
      exec (.transmitAnWrite ses p an) s = .next (answered ses (setReg (pM p.val) 9 an.toNat (touch ses s)))) ∧
    (∀ (ses : Session) (s : State),
      Served ses s →
      s.dev = .configure ∨ s.dev = .operate ∨ s.dev = .safe →
      exec (.saRead ses) s = .next (answered ses (setReg 0x6180 0x0C 2 (let x := sa (saSelect s) s;
        setReg 0x6180 4 x.sci (setReg 0x6180 6 x.slot (setReg 0x6180 7 x.nextPn (setReg 0x6180 8 x.ssci (setReg 0x6180 9 x.salt
        (setReg 0x6180 0x0A (b2n x.enabled) (setReg 0x6180 0x0B x.lowest (touch ses s))))))))))) ∧
    (∀ (ses : Session) (s : State),
      Served ses s →
      s.dev = .configure ∨ s.dev = .operate ∨ s.dev = .safe →
      reg 0x6180 0x0A s = 0 →
      reg 0x6180 7 s ≤ pnMax (reg 0x6180 1 s) s →
      exec (.saWrite ses) s = .next (answered ses (setReg 0x6180 0x0C 2 (setSa (saSelect s)
        ⟨reg 0x6180 4 s, reg 0x6180 6 s, reg 0x6180 7 s, reg 0x6180 8 s, reg 0x6180 9 s, false, reg 0x6180 7 s⟩ (touch ses s))))) ∧
    (∀ (p : Fin 16) (s : State),
      macsecOn p.val s = true →
      isXpn p.val s = false →
      0xC0000000 ≤ (sa (txSa p.val s) s).nextPn →
      exec (.pnExhaustion p) s = .next (hostEvent 4 s)) ∧
    (∀ (ses : Session) (s : State),
      Served ses s →
      s.dev ≠ .terminal →
      bit (keySlot (reg 0x6030 3 s) s).usage 1 = true →
      (keySlot (reg 0x6030 3 s) s).type = 1 →
      slotInUse (reg 0x6030 1 s) s = false ∧ slotInUse (reg 0x6030 2 s) s = false →
      saUses (reg 0x6030 1 s) s = false ∧ saUses (reg 0x6030 2 s) s = false →
      exec (.deriveKekIck ses) s = .next (answered ses (setReg 0x6030 6 2 (
        let key (l : Nat) : KeySlot := ⟨1, 2, 0, false, Config.kdf (keySlot (reg 0x6030 3 s) s).value (leBytes 1 l ++ leBytes 1500 (reg 0x6030 4 s))⟩;
        let t := touch ses s;
        { t with crust := { t.crust with slots := tset keySlot0 (tset keySlot0 t.crust.slots (reg 0x6030 1 s) (key 0)) (reg 0x6030 2 s) (key 1) } })))) ∧
    (∀ (ses : Session) (s : State),
      Served ses s →
      s.dev ≠ .terminal →
      bit (keySlot (reg 0x6030 2 s) s).usage 1 = true →
      exec (.computeIcv ses) s = .next (answered ses (setReg 0x6030 6 2 (setReg 0x6030 5
        (leNat (macBytes (reg 0x6030 2 s) 16 (leBytes 1500 (reg 0x6030 4 s)) s)) (touch ses s))))) ∧
    (∀ (ses : Session) (p : Fin 16) (s : State),
      Served ses s →
      s.dev ≠ .terminal →
      2 ≤ roleOf ses s →
      reg (pI p.val) 4 s = 2 →
      exec (.moduleBind ses p) s = .next (answered ses (
        let d := recDigest (reg (pI p.val) 5 s);
        let t := touch ses s;
        let t := setReg (0x6050 + p.val) 3 (time80 (nowNs s)) (setReg (0x6050 + p.val) 2 (leNat (beBytes 32 d)) (setReg (0x6050 + p.val) 1 1
        { t with crust := { t.crust with bound := tset 0 t.crust.bound p.val (d + 1) } }));
        setReg (pI p.val) 6 1 (sealRecord 0x000F (roleOf ses s) [p.val, d / 2 ^ 192, d / 2 ^ 128 % 2 ^ 64, d / 2 ^ 64 % 2 ^ 64, d % 2 ^ 64] t)))) ∧
    (∀ (ses : Session) (p : Fin 16) (s : State),
      Served ses s →
      s.dev ≠ .terminal →
      2 ≤ roleOf ses s →
      reg (pI p.val) 4 s = 2 →
      exec (.moduleUnbind ses p) s = .next (answered ses (
        let d := tget 0 s.crust.bound p.val - 1;
        let t := touch ses s;
        let t := setReg (0x6050 + p.val) 3 0 (setReg (0x6050 + p.val) 2 0 (setReg (0x6050 + p.val) 1 0
        { t with crust := { t.crust with bound := tset 0 t.crust.bound p.val 0 } }));
        setReg (pI p.val) 6 0 (sealRecord 0x000F (roleOf ses s) [p.val, d / 2 ^ 192, d / 2 ^ 128 % 2 ^ 64, d / 2 ^ 64 % 2 ^ 64, d % 2 ^ 64] t))))

/-- Under Owner a begin empties the staging area; a piece is appended behind the write offset and moves it; an install marks the spare slot and
state 2; a discard empties it again. A verified image is installed in the spare slot, another gives its result, and a flash error result 7.
An activation that meets every rule is armed for its target, in place of the one before, and its cause is 0; armed without the state check,
100 ms ahead; one without an armed activation cannot be cancelled. At the header deadline the rewritten header is noted with the proofing
flag, or the activation is cancelled with cause 9. At its instant it is carried out, or cancelled with cause 5 in Safe or Terminal. (R429,
R431, R432, R433, R438, R440, R445) -/
def Obligations.PackagesAreInstalled : Prop :=
    (∀ (ses : Session) (s : State),
      Served ses s →
      s.dev ≠ .terminal →
      1 ≤ roleOf ses s →
      reg 0x6800 7 s ≠ 2 →
      bit s.update.armed (packageKind s) = false →
      exec (.updateBegin ses) s = .next (answered ses (let t := touch ses s;
        setReg 0x6800 6 2 (setReg 0x6800 7 1 (setReg 0x6800 4 0 { t with update := { t.update with package := [] } }))))) ∧
    (∀ (ses : Session) (l : List Byte) (s : State),
      Served ses s →
      s.dev ≠ .terminal →
      l ≠ [] →
      l.length ≤ 4096 →
      reg 0x6800 7 s = 1 →
      reg 0x6800 4 s + l.length ≤ reg 0x6800 3 s →
      exec (.updateData ses l) s = .next (answered ses (let t := touch ses s;
        setReg 0x6800 4 (reg 0x6800 4 s + l.length) { t with update := { t.update with package := t.update.package ++ l } }))) ∧
    (∀ (ses : Session) (s : State),
      Served ses s →
      s.dev ≠ .terminal →
      1 ≤ roleOf ses s →
      reg 0x6800 7 s = 1 →
      bit s.update.armed (packageKind s) = false →
      reg 0x6800 2 s = 0 →
      exec (.updateInstall ses) s = .next (answered ses (let t := setReg 0x6800 6 1 (setReg 0x6800 7 2 (touch ses s));
        setSlotState (packageKind s) (spareSlot (packageKind s) s) 2 { t with crust := { t.crust with sealedDigest := false } }))) ∧
    (∀ (ses : Session) (s : State),
      Served ses s →
      s.dev ≠ .terminal →
      1 ≤ roleOf ses s →
      bit s.update.armed (packageKind s) = false →
      exec (.updateDiscard ses) s = .next (answered ses (let t := touch ses s;
        setReg 0x6800 6 2 (setReg 0x6800 7 0 (setReg 0x6800 4 0 { t with update := { t.update with package := [] } }))))) ∧
    (∀ (base : List Byte) (s : State),
      reg 0x6800 7 s = 2 →
      s.access.coreUp = true →
      reg 0x6800 2 s = 0 →
      exec (.installComplete base false) s = .next (
        let r := verifyImage (packageKind s + 1) s.update.package s;
        if r = 1 then installed s.update.package s else installFails r s)) ∧
    (∀ (base : List Byte) (s : State),
      reg 0x6800 7 s = 2 →
      s.access.coreUp = true →
      wrongBase s = false →
      exec (.installComplete base true) s = .next (installFails 7 s)) ∧
    (∀ (ses : Session) (s : State),
      Served ses s →
      s.dev ≠ .terminal →
      1 ≤ roleOf ses s →
      armRefusal (reg 0x6808 2 s) (ofTime80 (reg 0x6808 1 s)) true s = none →
      s.update.flag = 0 →
      exec (.activationArm ses) s = .next (answered ses (let t := touch ses s;
        imageEvent 3 (reg 0x6808 2 s) (setReg 0x6808 7 0 (setReg 0x6808 6 1 (setReg 0x6808 5 2
        { t with update := { t.update with armed := reg 0x6808 2 s, flag := 0, target := ofTime80 (reg 0x6808 1 s), armedNow := false } })))))) ∧
    (∀ (ses : Session) (s : State),
      Served ses s →
      s.dev ≠ .terminal →
      1 ≤ roleOf ses s →
      armRefusal (reg 0x6808 2 s) (nowNs s + ms 100) false s = none →
      s.update.flag = 0 →
      exec (.activationArmNow ses) s = .next (answered ses (let t := touch ses s;
        imageEvent 3 (reg 0x6808 2 s) (setReg 0x6808 7 0 (setReg 0x6808 6 1 (setReg 0x6808 5 2
        { t with update := { t.update with armed := reg 0x6808 2 s, flag := 0, target := nowNs s + ms 100, armedNow := true } })))))) ∧
    (∀ (ses : Session) (s : State),
      Served ses s →
      s.dev ≠ .terminal →
      1 ≤ roleOf ses s →
      s.update.armed ≠ 0 →
      exec (.activationCancel ses) s = .next (answered ses (setReg 0x6808 5 2 (cancelActivation 0 (touch ses s))))) ∧
    (∀ (ses : Session) (s : State),
      Served ses s →
      s.dev ≠ .terminal →
      1 ≤ roleOf ses s →
      s.update.armed = 0 →
      exec (.activationCancel ses) s = .next (emit (.answer ses 0x08000022 []) (setReg 0x6808 5 3 (touch ses s)))) ∧
    (∀ (s : State),
      s.update.armed ≠ 0 →
      s.update.flag = 0 →
      s.update.target ≤ nowNs s + ms 50 →
      exec (.activationHeaderDeadline true) s = .next (headerSwap s.update.armed { s with update := { s.update with flag := s.update.armed } })) ∧
    (∀ (s : State),
      s.update.armed ≠ 0 →
      s.update.flag = 0 →
      s.update.target ≤ nowNs s + ms 50 →
      exec (.activationHeaderDeadline false) s = .next (cancelActivation 9 s)) ∧
    (∀ (m : ConfigImage) (s : State),
      activationDue s = true →
      s.dev ≠ .safe ∧ s.dev ≠ .terminal →
      reg 0x3800 6 s ≠ 4 →
      s.update.flag ≠ 0 →
      exec (.activation m) s = .next (settle 8 (activate m s))) ∧
    (∀ (m : ConfigImage) (s : State),
      activationDue s = true →
      s.dev = .safe ∨ s.dev = .terminal →
      exec (.activation m) s = .next (cancelActivation 5 s))

/-- In its proofing window, healthy firmware confirms, and the images with it where no host verdict is asked for; a host confirms or rejects
under Owner; the window that ends unconfirmed reverts them, and a reverted configuration switches to the tables of its previous slot. A
thermometer burn that failed is tried again. The loader erases a slot from the offset on, writes its bytes, makes a slot active whose image
verifies, and restarts the device as from a reset of cause 6; a request with a bad CRC is counted, and a result waits to be fetched. (R440,
R442, R443, R444, R445, R446, R461) -/
def Obligations.ImagesAreProofed : Prop :=
    (∀ (b : Bool) (s : State),
      s.update.proof ≠ 0 →
      reg 0x6810 2 s = 0 →
      firmwareHealthy s = true →
      cfg 0x6810 3 s = 0 →
      exec (.firmwareConfirm b) s = .next (confirmImages b (setReg 0x6810 2 1 s))) ∧
    (∀ (ses : Session) (b : Bool) (s : State),
      Served ses s →
      s.dev ≠ .terminal →
      1 ≤ roleOf ses s →
      s.update.proof ≠ 0 →
      reg 0x6810 2 s ≠ 1 →
      exec (.hostConfirm ses b) s = .next (answered ses (let t := touch ses s;
        { t with update := { t.update with hostOk := true } }))) ∧
    (∀ (ses : Session) (b : Bool) (s : State),
      Served ses s →
      s.dev ≠ .terminal →
      1 ≤ roleOf ses s →
      s.update.proof ≠ 0 →
      reg 0x6810 2 s = 1 →
      exec (.hostConfirm ses b) s = .next (answered ses (confirmImages b (let t := touch ses s;
        { t with update := { t.update with hostOk := true } })))) ∧
    (∀ (ses : Session) (s : State),
      Served ses s →
      s.dev ≠ .terminal →
      1 ≤ roleOf ses s →
      s.update.proof ≠ 0 →
      exec (.hostReject ses) s = .next (answered ses (revertImages (touch ses s)))) ∧
    (∀ (s : State),
      s.update.proof ≠ 0 →
      due s.update.openedAt (cfg 0x6810 1 s * 1000000000) s = true →
      exec .proofingWindowExpiry s = .next (revertImages s)) ∧
    (∀ (m : ConfigImage) (s : State),
      s.update.revertAt ≠ none →
      exec (.revertConfigurationSwitch m) s = .next (settle 8 (refreshEval (switchImage m
        { s with update := { s.update with revertAt := none } })))) ∧
    (∀ (s : State),
      s.update.burnDue = true →
      s.access.coreUp = true →
      s.update.proof = 0 →
      majorAbove s = true →
      exec (.thermometerBurnRetry true) s = .next (imageEvent 8 1 (raiseFloors 3 { s with update := { s.update with burnDue := false } }))) ∧
    (∀ (k : Byte) (o : Fin 4294967296) (n c : Fin 65536) (s : State),
      s.power.recovery = true →
      s.power.reset = 0 →
      crc16 0xFFFF (loaderHeader 0x20 k.toNat o.val n.val) = c.val →
      s.access.spi = none →
      k.toNat ≤ 3 →
      n.val ≤ 256 →
      o.val + n.val ≤ 2097152 →
      exec (.recoveryErase k o n c) s = .next (spiDone 0 [] (setSlotBytes k.toNat (((slotBytes k.toNat s).getD []).take o.val) s))) ∧
    (∀ (k : Byte) (o : Fin 4294967296) (n c : Fin 65536) (s : State),
      s.power.recovery = true →
      s.power.reset = 0 →
      crc16 0xFFFF (loaderHeader 0x20 k.toNat o.val n.val) ≠ c.val →
      exec (.recoveryErase k o n c) s = .next (count 0x1230 2 s)) ∧
    (∀ (k : Byte) (o : Fin 4294967296) (n : Fin 65536) (l : List Byte) (c : Fin 65536) (s : State),
      s.power.recovery = true →
      s.power.reset = 0 →
      crc16 0xFFFF (loaderHeader 0x21 k.toNat o.val n.val ++ l) = c.val →
      s.access.spi = none →
      k.toNat ≤ 3 →
      n.val ≤ 256 →
      l.length = n.val →
      o.val + n.val ≤ 2097152 →
      ((slotBytes k.toNat s).getD []).length = o.val →
      exec (.recoveryWrite k o n l c) s = .next (spiDone 0 [] (setSlotBytes k.toNat ((slotBytes k.toNat s).getD [] ++ l) s))) ∧
    (∀ (k : Byte) (o : Fin 4294967296) (n c : Fin 65536) (l : List Byte) (s : State),
      s.power.recovery = true →
      s.power.reset = 0 →
      crc16 0xFFFF (loaderHeader 0x22 k.toNat o.val n.val) = c.val →
      s.access.spi = none →
      k.toNat ≤ 3 →
      n.val ≤ 256 →
      slotBytes k.toNat s = some l →
      l.length = 512 + leNat (slice 12 4 l) →
      exec (.recoveryVerify k o n c []) s = .next (
        if verifyImage (k.toNat / 2 + 1) l s = 1 then
        spiDone 0 [] (let t := headerWritten (setReg (slotP (k.toNat / 2)) 1 (k.toNat % 2)
        (noteSlot (k.toNat / 2) (k.toNat % 2) (imageInfo l) (setSlotState (k.toNat / 2) (k.toNat % 2) 1 s)));
        { t with update := { t.update with owed := t.update.owed ++ [(0x0010, [9, 2 ^ (k.toNat / 2)])] } })
        else spiDone 0x08000000 [] s)) ∧
    (∀ (k : Byte) (o : Fin 4294967296) (n c : Fin 65536) (s : State),
      s.power.recovery = true →
      s.power.reset = 0 →
      crc16 0xFFFF (loaderHeader 0x23 k.toNat o.val n.val) = c.val →
      s.access.spi = none →
      k.toNat ≤ 3 →
      n.val ≤ 256 →
      exec (.recoveryRestart k o n c) s = .next (release (holdReset 6 (spiDone 0 [] s))))

/-- The clauses about reports are of sources other than 0x87 and 0xF0, which have a counter of their own. A report of an enabled edge source of
class 0 is recorded in its source record, captured where it is the first, announced to the event export table, and its Notice is complete at
once; the evaluated configuration is then judged again. A firing of equal or lower class than the reaction in progress of another source is
recorded and its source enters the pending set. A firing of the source whose reaction runs sets its overrun flag. A report of a disabled
source, of a level source whose condition persists, or of a source that only host software forces, changes nothing. A forced firing is one
with bit 63 of its data. ERR_IN_N low for its filter fires source 0xE0. (R405, R406, R411, R413, R414, R418, R419) -/
def Obligations.FiringsAreRecorded : Prop :=
    (∀ (n : Fin 256) (d : Fin 4294967296) (s : State),
      coreOn s = true →
      n.val < 0xE8 ∨ 0xEF < n.val →
      n.val ≠ 0x87 ∧ n.val ≠ 0xF0 →
      n.val ≠ 0x05 ∧ n.val ≠ 0xE2 ∧ n.val ≠ 0xA3 ∧ n.val ≠ 0xA4 ∧ n.val ≠ 0xA7 →
      srcEnabled n.val s = true →
      srcLevel n.val = false →
      srcClass n.val s = 0 →
      s.faults.due = [] →
      s.faults.reaction ≠ 0 →
      s.faults.source ≠ n.val →
      exec (.sourceFire n d) s = .next (refreshEval
        (let t := announce 1 n.val (leBytes 1 0 ++ leBytes 10 (time80 (nowNs s))) (captureFirst n.val 0 (recordFiring n.val d.val s));
        { t with faults := { t.faults with pending := setIns n.val t.faults.pending } }))) ∧
    (∀ (n : Fin 256) (d : Fin 4294967296) (s : State),
      coreOn s = true →
      n.val < 0xE8 ∨ 0xEF < n.val →
      n.val ≠ 0x87 ∧ n.val ≠ 0xF0 ∧ n.val ≠ 0xA3 ∧ n.val ≠ 0xA4 ∧ n.val ≠ 0xA7 →
      srcEnabled n.val s = true →
      srcLevel n.val = false →
      s.faults.due = [] →
      s.faults.reaction ≠ 0 →
      s.faults.source = n.val →
      exec (.sourceFire n d) s = .next (refreshEval (setReg (0x5900 + n.val) 6 1
        (announce 1 n.val (leBytes 1 (srcClass n.val s) ++ leBytes 10 (time80 (nowNs s))) (captureFirst n.val (srcClass n.val s) (recordFiring n.val d.val s)))))) ∧
    (∀ (n : Fin 256) (d : Fin 4294967296) (s : State),
      coreOn s = true →
      n.val ≠ 0x87 ∧ n.val ≠ 0xF0 ∧ n.val ≠ 0xA3 ∧ n.val ≠ 0xA4 ∧ n.val ≠ 0xA7 →
      srcEnabled n.val s = false →
      s.faults.due = [] →
      exec (.sourceFire n d) s = .next (if 0xE8 ≤ n.val ∧ n.val ≤ 0xEF then s else refreshEval s)) ∧
    (∀ (n : Fin 256) (d : Fin 4294967296) (s : State),
      coreOn s = true →
      n.val = 0x87 ∨ n.val = 0xF0 →
      exec (.sourceFire n d) s = .next (refreshEval (fire n.val d.val (if n.val = 0x87 then count 0x3C00 5 s else count 0x5C00 6 s)))) ∧
    (∀ (s : State),
      coreOn s = true →
      srcEnabled 0xE0 s = true →
      s.faults.condition.contains 0xE0 = true →
      s.faults.due = [] →
      exec .errInNAssert s = .next { s with faults := { s.faults with errInLow := true } }) ∧
    (∀ (ses : Session) (n : Fin 256) (s : State),
      Served ses s →
      s.dev ≠ .terminal →
      sourceRow n.val ≠ none →
      srcEnabled n.val s = true →
      srcClass n.val s < 3 →
      srcSecurity n.val = false →
      1 ≤ roleOf ses s →
      exec (.forceSource ses n) s = .next (answered ses (setReg (0x5900 + n.val) 7 2 (refreshEval (fire n.val (2 ^ 63) (touch ses s)))))) ∧
    (∀ (ses : Session) (n : Fin 256) (s : State),
      Served ses s →
      s.dev ≠ .terminal →
      sourceRow n.val ≠ none →
      srcClass n.val s = 3 ∨ srcSecurity n.val = true →
      roleOf ses s < 2 →
      exec (.forceSource ses n) s = .next (emit (.answer ses 0x080000A1 []) (setReg (0x5900 + n.val) 7 3 (touch ses s))))

/-- The end of the Safe-State reaction of a device that is not in Terminal puts it into Safe, yields its lease, and runs the pending reactions.
The end of a Degrade reaction with nothing pending leaves the collector idle. A clear by an Owner of a set status of class 0–2 that is not
security clears it, its units rejoin and the evaluated configuration is judged again; a clear of a level source whose condition persists,
and any clear while Terminal is latched, is refused with 0x0800_0022. The command at 0x5800:07 clears the captures below class 3. SAFE_N
read high while driven low fires source 0xE3 once. The end of a level source's condition lets it fire again. (R406, R408, R410, R413, R414,
R415, R417, R420, R423) -/
def Obligations.ReactionsEndAndSourcesClear : Prop :=
    (∀ (s : State),
      s.faults.reaction = 2 →
      s.dev ≠ .terminal →
      s.power.recovery = false →
      exec .reactionComplete s = .next (settle 4 (safeReverts s
        (let t := yieldLease (setDev .safe s);
        let u := { t with faults := { t.faults with reaction := 0, source := 0 } };
        runPending (u.faults.pending.length + 1) u)))) ∧
    (∀ (s : State),
      s.faults.reaction = 1 →
      s.faults.pending = [] →
      s.faults.due = [] →
      s.dev ≠ .safe →
      exec .reactionComplete s = .next { s with faults := { s.faults with reaction := 0, source := 0 } }) ∧
    (∀ (ses : Session) (n : Fin 256) (s : State),
      Served ses s →
      sourceRow n.val ≠ none →
      s.dev ≠ .terminal →
      s.faults.terminal = false →
      srcClass n.val s < 3 →
      srcSecurity n.val = false →
      1 ≤ roleOf ses s →
      srcLevel n.val = false →
      srcSet n.val s = true →
      exec (.clearSource ses n) s = .next (answered ses (refreshEval (clearShadow n.val (rejoinUnits n.val (setReg (0x5900 + n.val) 4 0 (touch ses s))))))) ∧
    (∀ (ses : Session) (n : Fin 256) (s : State),
      Served ses s →
      sourceRow n.val ≠ none →
      s.dev = .terminal ∨ s.faults.terminal = true ∨ srcClass n.val s = 3 ∨ (srcLevel n.val = true ∧ s.faults.condition.contains n.val = true ∧ 2 ≤ roleOf ses s) →
      exec (.clearSource ses n) s = .next (emit (.answer ses 0x08000022 []) (touch ses s))) ∧
    (∀ (ses : Session) (s : State),
      Served ses s →
      s.dev ≠ .terminal →
      1 ≤ roleOf ses s →
      exec (.clearFirstFaults ses) s = .next (answered ses
        (let t := touch ses s;
        let t := if reg 0x5800 6 s = 3 then t else setReg 0x5800 4 0xFFFF (setReg 0x5800 5 0 (setReg 0x5800 6 0xFF t));
        setReg 0x5800 7 2 (setReg 0x5801 3 0xFFFF (setReg 0x5801 7 0 (setReg 0x5801 2 0xFFFF (setReg 0x5801 6 0 (setReg 0x5801 1 0xFFFF (setReg 0x5801 5 0 t))))))))) ∧
    (∀ (s : State),
      coreOn s = true →
      safeNLow s = true →
      s.faults.ballLow = true →
      exec .safeNReadbackMismatch s = .next (fire 0xE3 0 { s with faults := { s.faults with ballLow := false } })) ∧
    (∀ (n : Fin 256) (s : State),
      s.faults.condition.contains n.val = true →
      n.val ≠ 0x40 ∧ n.val ≠ 0x47 ∧ n.val ≠ 0x48 →
      exec (.levelConditionEnd n) s = .next { s with faults := { s.faults with condition := setDel n.val s.faults.condition, errInLow := if n.val = 0xE0 then false else s.faults.errInLow } })

/-- The watchdog of the management core fires source 0xE2 in every state past Boot and Catch. The return of the firmware lets the dictionary be
reached again and takes a device in Headless back to Operate, where ports that lost their link in Headless have their identity records read
again; in any other state the device state stays. A restart that has lasted 1,000 ms fires source 0xE1 once. (R23, R25, R36, R37, R79, R409) -/
def Obligations.ManagementCoreRestarts : Prop :=
    (∀ (s : State),
      coreOn s = true →
      Past s →
      exec .managementCoreWatchdog s = .next (fire 0xE2 0 s)) ∧
    (∀ (s : State),
      s.access.coreUp = false →
      Past s →
      exec .firmwareReturn s = .next (settle 4 (refreshEval (proofReturn (sleepCheck
        (let t := { s with access := { s.access with coreUp := true } };
        if s.dev = .headless then rereadLost (setDev .operate t) else t)))))) ∧
    (∀ (s : State),
      s.access.coreUp = false →
      Past s →
      due s.access.headlessSince (ms 1000) s = true →
      srcSet 0xE1 s = false →
      exec .headlessTimeout s = .next (fire 0xE1 0 s))
end

