-- ==== Sys2Proof/Laws/State.lean ====
section
/-!
SUPPORT. Laws/State.lean: what each shared update of the state leaves as it is, field by field. The proofs are
`id rfl`, not `rfl`: simp then rewrites with the equation, and the kernel is not asked to compare two whole states by unfolding them.
-/

-- One declaration after the other: it keeps the memory of the package as one text within bounds.
set_option Elab.async false

namespace Sys2Proof.Machine

/-! ### setReg -/

@[simp] theorem setReg_dev (i j v : Nat) (s : State) : (setReg i j v s).dev = s.dev := id rfl
@[simp] theorem setReg_cfg (i j v : Nat) (s : State) : (setReg i j v s).cfg = s.cfg := id rfl
@[simp] theorem setReg_old (i j v : Nat) (s : State) : (setReg i j v s).old = s.old := id rfl
@[simp] theorem setReg_staged (i j v : Nat) (s : State) : (setReg i j v s).staged = s.staged := id rfl
@[simp] theorem setReg_epoch (i j v : Nat) (s : State) : (setReg i j v s).epoch = s.epoch := id rfl
@[simp] theorem setReg_fresh (i j v : Nat) (s : State) : (setReg i j v s).fresh = s.fresh := id rfl
@[simp] theorem setReg_out (i j v : Nat) (s : State) : (setReg i j v s).out = s.out := id rfl
@[simp] theorem setReg_access (i j v : Nat) (s : State) : (setReg i j v s).access = s.access := id rfl
@[simp] theorem setReg_ports (i j v : Nat) (s : State) : (setReg i j v s).ports = s.ports := id rfl
@[simp] theorem setReg_mdio (i j v : Nat) (s : State) : (setReg i j v s).mdio = s.mdio := id rfl
@[simp] theorem setReg_idScan (i j v : Nat) (s : State) : (setReg i j v s).idScan = s.idScan := id rfl
@[simp] theorem setReg_idWait (i j v : Nat) (s : State) : (setReg i j v s).idWait = s.idWait := id rfl
@[simp] theorem setReg_dyn (i j v : Nat) (s : State) : (setReg i j v s).dyn = s.dyn := id rfl
@[simp] theorem setReg_flush (i j v : Nat) (s : State) : (setReg i j v s).flush = s.flush := id rfl
@[simp] theorem setReg_learned (i j v : Nat) (s : State) : (setReg i j v s).learned = s.learned := id rfl
@[simp] theorem setReg_agedAt (i j v : Nat) (s : State) : (setReg i j v s).agedAt = s.agedAt := id rfl
@[simp] theorem setReg_decs (i j v : Nat) (s : State) : (setReg i j v s).decs = s.decs := id rfl
@[simp] theorem setReg_buf (i j v : Nat) (s : State) : (setReg i j v s).buf = s.buf := id rfl
@[simp] theorem setReg_egress (i j v : Nat) (s : State) : (setReg i j v s).egress = s.egress := id rfl
@[simp] theorem setReg_gates (i j v : Nat) (s : State) : (setReg i j v s).gates = s.gates := id rfl
@[simp] theorem setReg_streamGates (i j v : Nat) (s : State) : (setReg i j v s).streamGates = s.streamGates := id rfl
@[simp] theorem setReg_meters (i j v : Nat) (s : State) : (setReg i j v s).meters = s.meters := id rfl
@[simp] theorem setReg_frer (i j v : Nat) (s : State) : (setReg i j v s).frer = s.frer := id rfl
@[simp] theorem setReg_sieve (i j v : Nat) (s : State) : (setReg i j v s).sieve = s.sieve := id rfl
@[simp] theorem setReg_lanes (i j v : Nat) (s : State) : (setReg i j v s).lanes = s.lanes := id rfl
@[simp] theorem setReg_limiters (i j v : Nat) (s : State) : (setReg i j v s).limiters = s.limiters := id rfl
@[simp] theorem setReg_faults (i j v : Nat) (s : State) : (setReg i j v s).faults = s.faults := id rfl
@[simp] theorem setReg_crust (i j v : Nat) (s : State) : (setReg i j v s).crust = s.crust := id rfl
@[simp] theorem setReg_time (i j v : Nat) (s : State) : (setReg i j v s).time = s.time := id rfl
@[simp] theorem setReg_power (i j v : Nat) (s : State) : (setReg i j v s).power = s.power := id rfl
@[simp] theorem setReg_pecks (i j v : Nat) (s : State) : (setReg i j v s).pecks = s.pecks := id rfl
@[simp] theorem setReg_bridge (i j v : Nat) (s : State) : (setReg i j v s).bridge = s.bridge := id rfl
@[simp] theorem setReg_dma (i j v : Nat) (s : State) : (setReg i j v s).dma = s.dma := id rfl
@[simp] theorem setReg_braid (i j v : Nat) (s : State) : (setReg i j v s).braid = s.braid := id rfl
@[simp] theorem setReg_wake (i j v : Nat) (s : State) : (setReg i j v s).wake = s.wake := id rfl
@[simp] theorem setReg_update (i j v : Nat) (s : State) : (setReg i j v s).update = s.update := id rfl
@[simp] theorem setReg_pair (i j v : Nat) (s : State) : (setReg i j v s).pair = s.pair := id rfl
@[simp] theorem setReg_referee (i j v : Nat) (s : State) : (setReg i j v s).referee = s.referee := id rfl
@[simp] theorem setReg_pending (i j v : Nat) (s : State) : (setReg i j v s).pending = s.pending := id rfl

/-! ### setRegE -/

@[simp] theorem setRegE_dev (e i j v : Nat) (s : State) : (setRegE e i j v s).dev = s.dev := id rfl
@[simp] theorem setRegE_cfg (e i j v : Nat) (s : State) : (setRegE e i j v s).cfg = s.cfg := id rfl
@[simp] theorem setRegE_old (e i j v : Nat) (s : State) : (setRegE e i j v s).old = s.old := id rfl
@[simp] theorem setRegE_staged (e i j v : Nat) (s : State) : (setRegE e i j v s).staged = s.staged := id rfl
@[simp] theorem setRegE_epoch (e i j v : Nat) (s : State) : (setRegE e i j v s).epoch = s.epoch := id rfl
@[simp] theorem setRegE_fresh (e i j v : Nat) (s : State) : (setRegE e i j v s).fresh = s.fresh := id rfl
@[simp] theorem setRegE_out (e i j v : Nat) (s : State) : (setRegE e i j v s).out = s.out := id rfl
@[simp] theorem setRegE_access (e i j v : Nat) (s : State) : (setRegE e i j v s).access = s.access := id rfl
@[simp] theorem setRegE_ports (e i j v : Nat) (s : State) : (setRegE e i j v s).ports = s.ports := id rfl
@[simp] theorem setRegE_mdio (e i j v : Nat) (s : State) : (setRegE e i j v s).mdio = s.mdio := id rfl
@[simp] theorem setRegE_idScan (e i j v : Nat) (s : State) : (setRegE e i j v s).idScan = s.idScan := id rfl
@[simp] theorem setRegE_idWait (e i j v : Nat) (s : State) : (setRegE e i j v s).idWait = s.idWait := id rfl
@[simp] theorem setRegE_dyn (e i j v : Nat) (s : State) : (setRegE e i j v s).dyn = s.dyn := id rfl
@[simp] theorem setRegE_flush (e i j v : Nat) (s : State) : (setRegE e i j v s).flush = s.flush := id rfl
@[simp] theorem setRegE_learned (e i j v : Nat) (s : State) : (setRegE e i j v s).learned = s.learned := id rfl
@[simp] theorem setRegE_agedAt (e i j v : Nat) (s : State) : (setRegE e i j v s).agedAt = s.agedAt := id rfl
@[simp] theorem setRegE_decs (e i j v : Nat) (s : State) : (setRegE e i j v s).decs = s.decs := id rfl
@[simp] theorem setRegE_buf (e i j v : Nat) (s : State) : (setRegE e i j v s).buf = s.buf := id rfl
@[simp] theorem setRegE_egress (e i j v : Nat) (s : State) : (setRegE e i j v s).egress = s.egress := id rfl
@[simp] theorem setRegE_gates (e i j v : Nat) (s : State) : (setRegE e i j v s).gates = s.gates := id rfl
@[simp] theorem setRegE_streamGates (e i j v : Nat) (s : State) : (setRegE e i j v s).streamGates = s.streamGates := id rfl
@[simp] theorem setRegE_meters (e i j v : Nat) (s : State) : (setRegE e i j v s).meters = s.meters := id rfl
@[simp] theorem setRegE_frer (e i j v : Nat) (s : State) : (setRegE e i j v s).frer = s.frer := id rfl
@[simp] theorem setRegE_sieve (e i j v : Nat) (s : State) : (setRegE e i j v s).sieve = s.sieve := id rfl
@[simp] theorem setRegE_lanes (e i j v : Nat) (s : State) : (setRegE e i j v s).lanes = s.lanes := id rfl
@[simp] theorem setRegE_limiters (e i j v : Nat) (s : State) : (setRegE e i j v s).limiters = s.limiters := id rfl
@[simp] theorem setRegE_faults (e i j v : Nat) (s : State) : (setRegE e i j v s).faults = s.faults := id rfl
@[simp] theorem setRegE_crust (e i j v : Nat) (s : State) : (setRegE e i j v s).crust = s.crust := id rfl
@[simp] theorem setRegE_time (e i j v : Nat) (s : State) : (setRegE e i j v s).time = s.time := id rfl
@[simp] theorem setRegE_power (e i j v : Nat) (s : State) : (setRegE e i j v s).power = s.power := id rfl
@[simp] theorem setRegE_pecks (e i j v : Nat) (s : State) : (setRegE e i j v s).pecks = s.pecks := id rfl
@[simp] theorem setRegE_bridge (e i j v : Nat) (s : State) : (setRegE e i j v s).bridge = s.bridge := id rfl
@[simp] theorem setRegE_dma (e i j v : Nat) (s : State) : (setRegE e i j v s).dma = s.dma := id rfl
@[simp] theorem setRegE_braid (e i j v : Nat) (s : State) : (setRegE e i j v s).braid = s.braid := id rfl
@[simp] theorem setRegE_wake (e i j v : Nat) (s : State) : (setRegE e i j v s).wake = s.wake := id rfl
@[simp] theorem setRegE_update (e i j v : Nat) (s : State) : (setRegE e i j v s).update = s.update := id rfl
@[simp] theorem setRegE_pair (e i j v : Nat) (s : State) : (setRegE e i j v s).pair = s.pair := id rfl
@[simp] theorem setRegE_referee (e i j v : Nat) (s : State) : (setRegE e i j v s).referee = s.referee := id rfl
@[simp] theorem setRegE_pending (e i j v : Nat) (s : State) : (setRegE e i j v s).pending = s.pending := id rfl

/-! ### stage -/

@[simp] theorem stage_dev (i j v : Nat) (s : State) : (stage i j v s).dev = s.dev := id rfl
@[simp] theorem stage_regs (i j v : Nat) (s : State) : (stage i j v s).regs = s.regs := id rfl
@[simp] theorem stage_cfg (i j v : Nat) (s : State) : (stage i j v s).cfg = s.cfg := id rfl
@[simp] theorem stage_old (i j v : Nat) (s : State) : (stage i j v s).old = s.old := id rfl
@[simp] theorem stage_epoch (i j v : Nat) (s : State) : (stage i j v s).epoch = s.epoch := id rfl
@[simp] theorem stage_fresh (i j v : Nat) (s : State) : (stage i j v s).fresh = s.fresh := id rfl
@[simp] theorem stage_out (i j v : Nat) (s : State) : (stage i j v s).out = s.out := id rfl
@[simp] theorem stage_access (i j v : Nat) (s : State) : (stage i j v s).access = s.access := id rfl
@[simp] theorem stage_ports (i j v : Nat) (s : State) : (stage i j v s).ports = s.ports := id rfl
@[simp] theorem stage_mdio (i j v : Nat) (s : State) : (stage i j v s).mdio = s.mdio := id rfl
@[simp] theorem stage_idScan (i j v : Nat) (s : State) : (stage i j v s).idScan = s.idScan := id rfl
@[simp] theorem stage_idWait (i j v : Nat) (s : State) : (stage i j v s).idWait = s.idWait := id rfl
@[simp] theorem stage_dyn (i j v : Nat) (s : State) : (stage i j v s).dyn = s.dyn := id rfl
@[simp] theorem stage_flush (i j v : Nat) (s : State) : (stage i j v s).flush = s.flush := id rfl
@[simp] theorem stage_learned (i j v : Nat) (s : State) : (stage i j v s).learned = s.learned := id rfl
@[simp] theorem stage_agedAt (i j v : Nat) (s : State) : (stage i j v s).agedAt = s.agedAt := id rfl
@[simp] theorem stage_decs (i j v : Nat) (s : State) : (stage i j v s).decs = s.decs := id rfl
@[simp] theorem stage_buf (i j v : Nat) (s : State) : (stage i j v s).buf = s.buf := id rfl
@[simp] theorem stage_egress (i j v : Nat) (s : State) : (stage i j v s).egress = s.egress := id rfl
@[simp] theorem stage_gates (i j v : Nat) (s : State) : (stage i j v s).gates = s.gates := id rfl
@[simp] theorem stage_streamGates (i j v : Nat) (s : State) : (stage i j v s).streamGates = s.streamGates := id rfl
@[simp] theorem stage_meters (i j v : Nat) (s : State) : (stage i j v s).meters = s.meters := id rfl
@[simp] theorem stage_frer (i j v : Nat) (s : State) : (stage i j v s).frer = s.frer := id rfl
@[simp] theorem stage_sieve (i j v : Nat) (s : State) : (stage i j v s).sieve = s.sieve := id rfl
@[simp] theorem stage_lanes (i j v : Nat) (s : State) : (stage i j v s).lanes = s.lanes := id rfl
@[simp] theorem stage_limiters (i j v : Nat) (s : State) : (stage i j v s).limiters = s.limiters := id rfl
@[simp] theorem stage_faults (i j v : Nat) (s : State) : (stage i j v s).faults = s.faults := id rfl
@[simp] theorem stage_crust (i j v : Nat) (s : State) : (stage i j v s).crust = s.crust := id rfl
@[simp] theorem stage_time (i j v : Nat) (s : State) : (stage i j v s).time = s.time := id rfl
@[simp] theorem stage_power (i j v : Nat) (s : State) : (stage i j v s).power = s.power := id rfl
@[simp] theorem stage_pecks (i j v : Nat) (s : State) : (stage i j v s).pecks = s.pecks := id rfl
@[simp] theorem stage_bridge (i j v : Nat) (s : State) : (stage i j v s).bridge = s.bridge := id rfl
@[simp] theorem stage_dma (i j v : Nat) (s : State) : (stage i j v s).dma = s.dma := id rfl
@[simp] theorem stage_braid (i j v : Nat) (s : State) : (stage i j v s).braid = s.braid := id rfl
@[simp] theorem stage_wake (i j v : Nat) (s : State) : (stage i j v s).wake = s.wake := id rfl
@[simp] theorem stage_update (i j v : Nat) (s : State) : (stage i j v s).update = s.update := id rfl
@[simp] theorem stage_pair (i j v : Nat) (s : State) : (stage i j v s).pair = s.pair := id rfl
@[simp] theorem stage_referee (i j v : Nat) (s : State) : (stage i j v s).referee = s.referee := id rfl
@[simp] theorem stage_pending (i j v : Nat) (s : State) : (stage i j v s).pending = s.pending := id rfl

/-! ### stageE -/

@[simp] theorem stageE_dev (e i j v : Nat) (s : State) : (stageE e i j v s).dev = s.dev := id rfl
@[simp] theorem stageE_regs (e i j v : Nat) (s : State) : (stageE e i j v s).regs = s.regs := id rfl
@[simp] theorem stageE_cfg (e i j v : Nat) (s : State) : (stageE e i j v s).cfg = s.cfg := id rfl
@[simp] theorem stageE_old (e i j v : Nat) (s : State) : (stageE e i j v s).old = s.old := id rfl
@[simp] theorem stageE_epoch (e i j v : Nat) (s : State) : (stageE e i j v s).epoch = s.epoch := id rfl
@[simp] theorem stageE_fresh (e i j v : Nat) (s : State) : (stageE e i j v s).fresh = s.fresh := id rfl
@[simp] theorem stageE_out (e i j v : Nat) (s : State) : (stageE e i j v s).out = s.out := id rfl
@[simp] theorem stageE_access (e i j v : Nat) (s : State) : (stageE e i j v s).access = s.access := id rfl
@[simp] theorem stageE_ports (e i j v : Nat) (s : State) : (stageE e i j v s).ports = s.ports := id rfl
@[simp] theorem stageE_mdio (e i j v : Nat) (s : State) : (stageE e i j v s).mdio = s.mdio := id rfl
@[simp] theorem stageE_idScan (e i j v : Nat) (s : State) : (stageE e i j v s).idScan = s.idScan := id rfl
@[simp] theorem stageE_idWait (e i j v : Nat) (s : State) : (stageE e i j v s).idWait = s.idWait := id rfl
@[simp] theorem stageE_dyn (e i j v : Nat) (s : State) : (stageE e i j v s).dyn = s.dyn := id rfl
@[simp] theorem stageE_flush (e i j v : Nat) (s : State) : (stageE e i j v s).flush = s.flush := id rfl
@[simp] theorem stageE_learned (e i j v : Nat) (s : State) : (stageE e i j v s).learned = s.learned := id rfl
@[simp] theorem stageE_agedAt (e i j v : Nat) (s : State) : (stageE e i j v s).agedAt = s.agedAt := id rfl
@[simp] theorem stageE_decs (e i j v : Nat) (s : State) : (stageE e i j v s).decs = s.decs := id rfl
@[simp] theorem stageE_buf (e i j v : Nat) (s : State) : (stageE e i j v s).buf = s.buf := id rfl
@[simp] theorem stageE_egress (e i j v : Nat) (s : State) : (stageE e i j v s).egress = s.egress := id rfl
@[simp] theorem stageE_gates (e i j v : Nat) (s : State) : (stageE e i j v s).gates = s.gates := id rfl
@[simp] theorem stageE_streamGates (e i j v : Nat) (s : State) : (stageE e i j v s).streamGates = s.streamGates := id rfl
@[simp] theorem stageE_meters (e i j v : Nat) (s : State) : (stageE e i j v s).meters = s.meters := id rfl
@[simp] theorem stageE_frer (e i j v : Nat) (s : State) : (stageE e i j v s).frer = s.frer := id rfl
@[simp] theorem stageE_sieve (e i j v : Nat) (s : State) : (stageE e i j v s).sieve = s.sieve := id rfl
@[simp] theorem stageE_lanes (e i j v : Nat) (s : State) : (stageE e i j v s).lanes = s.lanes := id rfl
@[simp] theorem stageE_limiters (e i j v : Nat) (s : State) : (stageE e i j v s).limiters = s.limiters := id rfl
@[simp] theorem stageE_faults (e i j v : Nat) (s : State) : (stageE e i j v s).faults = s.faults := id rfl
@[simp] theorem stageE_crust (e i j v : Nat) (s : State) : (stageE e i j v s).crust = s.crust := id rfl
@[simp] theorem stageE_time (e i j v : Nat) (s : State) : (stageE e i j v s).time = s.time := id rfl
@[simp] theorem stageE_power (e i j v : Nat) (s : State) : (stageE e i j v s).power = s.power := id rfl
@[simp] theorem stageE_pecks (e i j v : Nat) (s : State) : (stageE e i j v s).pecks = s.pecks := id rfl
@[simp] theorem stageE_bridge (e i j v : Nat) (s : State) : (stageE e i j v s).bridge = s.bridge := id rfl
@[simp] theorem stageE_dma (e i j v : Nat) (s : State) : (stageE e i j v s).dma = s.dma := id rfl
@[simp] theorem stageE_braid (e i j v : Nat) (s : State) : (stageE e i j v s).braid = s.braid := id rfl
@[simp] theorem stageE_wake (e i j v : Nat) (s : State) : (stageE e i j v s).wake = s.wake := id rfl
@[simp] theorem stageE_update (e i j v : Nat) (s : State) : (stageE e i j v s).update = s.update := id rfl
@[simp] theorem stageE_pair (e i j v : Nat) (s : State) : (stageE e i j v s).pair = s.pair := id rfl
@[simp] theorem stageE_referee (e i j v : Nat) (s : State) : (stageE e i j v s).referee = s.referee := id rfl
@[simp] theorem stageE_pending (e i j v : Nat) (s : State) : (stageE e i j v s).pending = s.pending := id rfl

/-! ### emit -/

@[simp] theorem emit_dev (o : Out) (s : State) : (emit o s).dev = s.dev := id rfl
@[simp] theorem emit_regs (o : Out) (s : State) : (emit o s).regs = s.regs := id rfl
@[simp] theorem emit_cfg (o : Out) (s : State) : (emit o s).cfg = s.cfg := id rfl
@[simp] theorem emit_old (o : Out) (s : State) : (emit o s).old = s.old := id rfl
@[simp] theorem emit_staged (o : Out) (s : State) : (emit o s).staged = s.staged := id rfl
@[simp] theorem emit_epoch (o : Out) (s : State) : (emit o s).epoch = s.epoch := id rfl
@[simp] theorem emit_fresh (o : Out) (s : State) : (emit o s).fresh = s.fresh := id rfl
@[simp] theorem emit_access (o : Out) (s : State) : (emit o s).access = s.access := id rfl
@[simp] theorem emit_ports (o : Out) (s : State) : (emit o s).ports = s.ports := id rfl
@[simp] theorem emit_mdio (o : Out) (s : State) : (emit o s).mdio = s.mdio := id rfl
@[simp] theorem emit_idScan (o : Out) (s : State) : (emit o s).idScan = s.idScan := id rfl
@[simp] theorem emit_idWait (o : Out) (s : State) : (emit o s).idWait = s.idWait := id rfl
@[simp] theorem emit_dyn (o : Out) (s : State) : (emit o s).dyn = s.dyn := id rfl
@[simp] theorem emit_flush (o : Out) (s : State) : (emit o s).flush = s.flush := id rfl
@[simp] theorem emit_learned (o : Out) (s : State) : (emit o s).learned = s.learned := id rfl
@[simp] theorem emit_agedAt (o : Out) (s : State) : (emit o s).agedAt = s.agedAt := id rfl
@[simp] theorem emit_decs (o : Out) (s : State) : (emit o s).decs = s.decs := id rfl
@[simp] theorem emit_buf (o : Out) (s : State) : (emit o s).buf = s.buf := id rfl
@[simp] theorem emit_egress (o : Out) (s : State) : (emit o s).egress = s.egress := id rfl
@[simp] theorem emit_gates (o : Out) (s : State) : (emit o s).gates = s.gates := id rfl
@[simp] theorem emit_streamGates (o : Out) (s : State) : (emit o s).streamGates = s.streamGates := id rfl
@[simp] theorem emit_meters (o : Out) (s : State) : (emit o s).meters = s.meters := id rfl
@[simp] theorem emit_frer (o : Out) (s : State) : (emit o s).frer = s.frer := id rfl
@[simp] theorem emit_sieve (o : Out) (s : State) : (emit o s).sieve = s.sieve := id rfl
@[simp] theorem emit_lanes (o : Out) (s : State) : (emit o s).lanes = s.lanes := id rfl
@[simp] theorem emit_limiters (o : Out) (s : State) : (emit o s).limiters = s.limiters := id rfl
@[simp] theorem emit_faults (o : Out) (s : State) : (emit o s).faults = s.faults := id rfl
@[simp] theorem emit_crust (o : Out) (s : State) : (emit o s).crust = s.crust := id rfl
@[simp] theorem emit_time (o : Out) (s : State) : (emit o s).time = s.time := id rfl
@[simp] theorem emit_power (o : Out) (s : State) : (emit o s).power = s.power := id rfl
@[simp] theorem emit_pecks (o : Out) (s : State) : (emit o s).pecks = s.pecks := id rfl
@[simp] theorem emit_bridge (o : Out) (s : State) : (emit o s).bridge = s.bridge := id rfl
@[simp] theorem emit_dma (o : Out) (s : State) : (emit o s).dma = s.dma := id rfl
@[simp] theorem emit_braid (o : Out) (s : State) : (emit o s).braid = s.braid := id rfl
@[simp] theorem emit_wake (o : Out) (s : State) : (emit o s).wake = s.wake := id rfl
@[simp] theorem emit_update (o : Out) (s : State) : (emit o s).update = s.update := id rfl
@[simp] theorem emit_pair (o : Out) (s : State) : (emit o s).pair = s.pair := id rfl
@[simp] theorem emit_referee (o : Out) (s : State) : (emit o s).referee = s.referee := id rfl
@[simp] theorem emit_pending (o : Out) (s : State) : (emit o s).pending = s.pending := id rfl

/-! ### useFree -/

@[simp] theorem useFree_dev (s : State) : (useFree s).dev = s.dev := id rfl
@[simp] theorem useFree_regs (s : State) : (useFree s).regs = s.regs := id rfl
@[simp] theorem useFree_cfg (s : State) : (useFree s).cfg = s.cfg := id rfl
@[simp] theorem useFree_old (s : State) : (useFree s).old = s.old := id rfl
@[simp] theorem useFree_staged (s : State) : (useFree s).staged = s.staged := id rfl
@[simp] theorem useFree_epoch (s : State) : (useFree s).epoch = s.epoch := id rfl
@[simp] theorem useFree_out (s : State) : (useFree s).out = s.out := id rfl
@[simp] theorem useFree_access (s : State) : (useFree s).access = s.access := id rfl
@[simp] theorem useFree_ports (s : State) : (useFree s).ports = s.ports := id rfl
@[simp] theorem useFree_mdio (s : State) : (useFree s).mdio = s.mdio := id rfl
@[simp] theorem useFree_idScan (s : State) : (useFree s).idScan = s.idScan := id rfl
@[simp] theorem useFree_idWait (s : State) : (useFree s).idWait = s.idWait := id rfl
@[simp] theorem useFree_dyn (s : State) : (useFree s).dyn = s.dyn := id rfl
@[simp] theorem useFree_flush (s : State) : (useFree s).flush = s.flush := id rfl
@[simp] theorem useFree_learned (s : State) : (useFree s).learned = s.learned := id rfl
@[simp] theorem useFree_agedAt (s : State) : (useFree s).agedAt = s.agedAt := id rfl
@[simp] theorem useFree_decs (s : State) : (useFree s).decs = s.decs := id rfl
@[simp] theorem useFree_buf (s : State) : (useFree s).buf = s.buf := id rfl
@[simp] theorem useFree_egress (s : State) : (useFree s).egress = s.egress := id rfl
@[simp] theorem useFree_gates (s : State) : (useFree s).gates = s.gates := id rfl
@[simp] theorem useFree_streamGates (s : State) : (useFree s).streamGates = s.streamGates := id rfl
@[simp] theorem useFree_meters (s : State) : (useFree s).meters = s.meters := id rfl
@[simp] theorem useFree_frer (s : State) : (useFree s).frer = s.frer := id rfl
@[simp] theorem useFree_sieve (s : State) : (useFree s).sieve = s.sieve := id rfl
@[simp] theorem useFree_lanes (s : State) : (useFree s).lanes = s.lanes := id rfl
@[simp] theorem useFree_limiters (s : State) : (useFree s).limiters = s.limiters := id rfl
@[simp] theorem useFree_faults (s : State) : (useFree s).faults = s.faults := id rfl
@[simp] theorem useFree_crust (s : State) : (useFree s).crust = s.crust := id rfl
@[simp] theorem useFree_time (s : State) : (useFree s).time = s.time := id rfl
@[simp] theorem useFree_power (s : State) : (useFree s).power = s.power := id rfl
@[simp] theorem useFree_pecks (s : State) : (useFree s).pecks = s.pecks := id rfl
@[simp] theorem useFree_bridge (s : State) : (useFree s).bridge = s.bridge := id rfl
@[simp] theorem useFree_dma (s : State) : (useFree s).dma = s.dma := id rfl
@[simp] theorem useFree_braid (s : State) : (useFree s).braid = s.braid := id rfl
@[simp] theorem useFree_wake (s : State) : (useFree s).wake = s.wake := id rfl
@[simp] theorem useFree_update (s : State) : (useFree s).update = s.update := id rfl
@[simp] theorem useFree_pair (s : State) : (useFree s).pair = s.pair := id rfl
@[simp] theorem useFree_referee (s : State) : (useFree s).referee = s.referee := id rfl
@[simp] theorem useFree_pending (s : State) : (useFree s).pending = s.pending := id rfl

/-! ### owe -/

@[simp] theorem owe_dev (n d : Nat) (s : State) : (owe n d s).dev = s.dev := id rfl
@[simp] theorem owe_regs (n d : Nat) (s : State) : (owe n d s).regs = s.regs := id rfl
@[simp] theorem owe_cfg (n d : Nat) (s : State) : (owe n d s).cfg = s.cfg := id rfl
@[simp] theorem owe_old (n d : Nat) (s : State) : (owe n d s).old = s.old := id rfl
@[simp] theorem owe_staged (n d : Nat) (s : State) : (owe n d s).staged = s.staged := id rfl
@[simp] theorem owe_epoch (n d : Nat) (s : State) : (owe n d s).epoch = s.epoch := id rfl
@[simp] theorem owe_fresh (n d : Nat) (s : State) : (owe n d s).fresh = s.fresh := id rfl
@[simp] theorem owe_out (n d : Nat) (s : State) : (owe n d s).out = s.out := id rfl
@[simp] theorem owe_access (n d : Nat) (s : State) : (owe n d s).access = s.access := id rfl
@[simp] theorem owe_ports (n d : Nat) (s : State) : (owe n d s).ports = s.ports := id rfl
@[simp] theorem owe_mdio (n d : Nat) (s : State) : (owe n d s).mdio = s.mdio := id rfl
@[simp] theorem owe_idScan (n d : Nat) (s : State) : (owe n d s).idScan = s.idScan := id rfl
@[simp] theorem owe_idWait (n d : Nat) (s : State) : (owe n d s).idWait = s.idWait := id rfl
@[simp] theorem owe_dyn (n d : Nat) (s : State) : (owe n d s).dyn = s.dyn := id rfl
@[simp] theorem owe_flush (n d : Nat) (s : State) : (owe n d s).flush = s.flush := id rfl
@[simp] theorem owe_learned (n d : Nat) (s : State) : (owe n d s).learned = s.learned := id rfl
@[simp] theorem owe_agedAt (n d : Nat) (s : State) : (owe n d s).agedAt = s.agedAt := id rfl
@[simp] theorem owe_decs (n d : Nat) (s : State) : (owe n d s).decs = s.decs := id rfl
@[simp] theorem owe_buf (n d : Nat) (s : State) : (owe n d s).buf = s.buf := id rfl
@[simp] theorem owe_egress (n d : Nat) (s : State) : (owe n d s).egress = s.egress := id rfl
@[simp] theorem owe_gates (n d : Nat) (s : State) : (owe n d s).gates = s.gates := id rfl
@[simp] theorem owe_streamGates (n d : Nat) (s : State) : (owe n d s).streamGates = s.streamGates := id rfl
@[simp] theorem owe_meters (n d : Nat) (s : State) : (owe n d s).meters = s.meters := id rfl
@[simp] theorem owe_frer (n d : Nat) (s : State) : (owe n d s).frer = s.frer := id rfl
@[simp] theorem owe_sieve (n d : Nat) (s : State) : (owe n d s).sieve = s.sieve := id rfl
@[simp] theorem owe_lanes (n d : Nat) (s : State) : (owe n d s).lanes = s.lanes := id rfl
@[simp] theorem owe_limiters (n d : Nat) (s : State) : (owe n d s).limiters = s.limiters := id rfl
@[simp] theorem owe_crust (n d : Nat) (s : State) : (owe n d s).crust = s.crust := id rfl
@[simp] theorem owe_time (n d : Nat) (s : State) : (owe n d s).time = s.time := id rfl
@[simp] theorem owe_power (n d : Nat) (s : State) : (owe n d s).power = s.power := id rfl
@[simp] theorem owe_pecks (n d : Nat) (s : State) : (owe n d s).pecks = s.pecks := id rfl
@[simp] theorem owe_bridge (n d : Nat) (s : State) : (owe n d s).bridge = s.bridge := id rfl
@[simp] theorem owe_dma (n d : Nat) (s : State) : (owe n d s).dma = s.dma := id rfl
@[simp] theorem owe_braid (n d : Nat) (s : State) : (owe n d s).braid = s.braid := id rfl
@[simp] theorem owe_wake (n d : Nat) (s : State) : (owe n d s).wake = s.wake := id rfl
@[simp] theorem owe_update (n d : Nat) (s : State) : (owe n d s).update = s.update := id rfl
@[simp] theorem owe_pair (n d : Nat) (s : State) : (owe n d s).pair = s.pair := id rfl
@[simp] theorem owe_referee (n d : Nat) (s : State) : (owe n d s).referee = s.referee := id rfl
@[simp] theorem owe_pending (n d : Nat) (s : State) : (owe n d s).pending = s.pending := id rfl

/-! ### countBy -/

@[simp] theorem countBy_dev (w i j n : Nat) (s : State) : (countBy w i j n s).dev = s.dev := id rfl
@[simp] theorem countBy_cfg (w i j n : Nat) (s : State) : (countBy w i j n s).cfg = s.cfg := id rfl
@[simp] theorem countBy_old (w i j n : Nat) (s : State) : (countBy w i j n s).old = s.old := id rfl
@[simp] theorem countBy_staged (w i j n : Nat) (s : State) : (countBy w i j n s).staged = s.staged := id rfl
@[simp] theorem countBy_epoch (w i j n : Nat) (s : State) : (countBy w i j n s).epoch = s.epoch := id rfl
@[simp] theorem countBy_fresh (w i j n : Nat) (s : State) : (countBy w i j n s).fresh = s.fresh := id rfl
@[simp] theorem countBy_out (w i j n : Nat) (s : State) : (countBy w i j n s).out = s.out := id rfl
@[simp] theorem countBy_access (w i j n : Nat) (s : State) : (countBy w i j n s).access = s.access := id rfl
@[simp] theorem countBy_ports (w i j n : Nat) (s : State) : (countBy w i j n s).ports = s.ports := id rfl
@[simp] theorem countBy_mdio (w i j n : Nat) (s : State) : (countBy w i j n s).mdio = s.mdio := id rfl
@[simp] theorem countBy_idScan (w i j n : Nat) (s : State) : (countBy w i j n s).idScan = s.idScan := id rfl
@[simp] theorem countBy_idWait (w i j n : Nat) (s : State) : (countBy w i j n s).idWait = s.idWait := id rfl
@[simp] theorem countBy_dyn (w i j n : Nat) (s : State) : (countBy w i j n s).dyn = s.dyn := id rfl
@[simp] theorem countBy_flush (w i j n : Nat) (s : State) : (countBy w i j n s).flush = s.flush := id rfl
@[simp] theorem countBy_learned (w i j n : Nat) (s : State) : (countBy w i j n s).learned = s.learned := id rfl
@[simp] theorem countBy_agedAt (w i j n : Nat) (s : State) : (countBy w i j n s).agedAt = s.agedAt := id rfl
@[simp] theorem countBy_decs (w i j n : Nat) (s : State) : (countBy w i j n s).decs = s.decs := id rfl
@[simp] theorem countBy_buf (w i j n : Nat) (s : State) : (countBy w i j n s).buf = s.buf := id rfl
@[simp] theorem countBy_egress (w i j n : Nat) (s : State) : (countBy w i j n s).egress = s.egress := id rfl
@[simp] theorem countBy_gates (w i j n : Nat) (s : State) : (countBy w i j n s).gates = s.gates := id rfl
@[simp] theorem countBy_streamGates (w i j n : Nat) (s : State) : (countBy w i j n s).streamGates = s.streamGates := id rfl
@[simp] theorem countBy_meters (w i j n : Nat) (s : State) : (countBy w i j n s).meters = s.meters := id rfl
@[simp] theorem countBy_frer (w i j n : Nat) (s : State) : (countBy w i j n s).frer = s.frer := id rfl
@[simp] theorem countBy_sieve (w i j n : Nat) (s : State) : (countBy w i j n s).sieve = s.sieve := id rfl
@[simp] theorem countBy_lanes (w i j n : Nat) (s : State) : (countBy w i j n s).lanes = s.lanes := id rfl
@[simp] theorem countBy_limiters (w i j n : Nat) (s : State) : (countBy w i j n s).limiters = s.limiters := id rfl
@[simp] theorem countBy_faults (w i j n : Nat) (s : State) : (countBy w i j n s).faults = s.faults := id rfl
@[simp] theorem countBy_crust (w i j n : Nat) (s : State) : (countBy w i j n s).crust = s.crust := id rfl
@[simp] theorem countBy_time (w i j n : Nat) (s : State) : (countBy w i j n s).time = s.time := id rfl
@[simp] theorem countBy_power (w i j n : Nat) (s : State) : (countBy w i j n s).power = s.power := id rfl
@[simp] theorem countBy_pecks (w i j n : Nat) (s : State) : (countBy w i j n s).pecks = s.pecks := id rfl
@[simp] theorem countBy_bridge (w i j n : Nat) (s : State) : (countBy w i j n s).bridge = s.bridge := id rfl
@[simp] theorem countBy_dma (w i j n : Nat) (s : State) : (countBy w i j n s).dma = s.dma := id rfl
@[simp] theorem countBy_braid (w i j n : Nat) (s : State) : (countBy w i j n s).braid = s.braid := id rfl
@[simp] theorem countBy_wake (w i j n : Nat) (s : State) : (countBy w i j n s).wake = s.wake := id rfl
@[simp] theorem countBy_update (w i j n : Nat) (s : State) : (countBy w i j n s).update = s.update := id rfl
@[simp] theorem countBy_pair (w i j n : Nat) (s : State) : (countBy w i j n s).pair = s.pair := id rfl
@[simp] theorem countBy_referee (w i j n : Nat) (s : State) : (countBy w i j n s).referee = s.referee := id rfl
@[simp] theorem countBy_pending (w i j n : Nat) (s : State) : (countBy w i j n s).pending = s.pending := id rfl

/-! ### count -/

@[simp] theorem count_dev (i j : Nat) (s : State) : (count i j s).dev = s.dev := id rfl
@[simp] theorem count_cfg (i j : Nat) (s : State) : (count i j s).cfg = s.cfg := id rfl
@[simp] theorem count_old (i j : Nat) (s : State) : (count i j s).old = s.old := id rfl
@[simp] theorem count_staged (i j : Nat) (s : State) : (count i j s).staged = s.staged := id rfl
@[simp] theorem count_epoch (i j : Nat) (s : State) : (count i j s).epoch = s.epoch := id rfl
@[simp] theorem count_fresh (i j : Nat) (s : State) : (count i j s).fresh = s.fresh := id rfl
@[simp] theorem count_out (i j : Nat) (s : State) : (count i j s).out = s.out := id rfl
@[simp] theorem count_access (i j : Nat) (s : State) : (count i j s).access = s.access := id rfl
@[simp] theorem count_ports (i j : Nat) (s : State) : (count i j s).ports = s.ports := id rfl
@[simp] theorem count_mdio (i j : Nat) (s : State) : (count i j s).mdio = s.mdio := id rfl
@[simp] theorem count_idScan (i j : Nat) (s : State) : (count i j s).idScan = s.idScan := id rfl
@[simp] theorem count_idWait (i j : Nat) (s : State) : (count i j s).idWait = s.idWait := id rfl
@[simp] theorem count_dyn (i j : Nat) (s : State) : (count i j s).dyn = s.dyn := id rfl
@[simp] theorem count_flush (i j : Nat) (s : State) : (count i j s).flush = s.flush := id rfl
@[simp] theorem count_learned (i j : Nat) (s : State) : (count i j s).learned = s.learned := id rfl
@[simp] theorem count_agedAt (i j : Nat) (s : State) : (count i j s).agedAt = s.agedAt := id rfl
@[simp] theorem count_decs (i j : Nat) (s : State) : (count i j s).decs = s.decs := id rfl
@[simp] theorem count_buf (i j : Nat) (s : State) : (count i j s).buf = s.buf := id rfl
@[simp] theorem count_egress (i j : Nat) (s : State) : (count i j s).egress = s.egress := id rfl
@[simp] theorem count_gates (i j : Nat) (s : State) : (count i j s).gates = s.gates := id rfl
@[simp] theorem count_streamGates (i j : Nat) (s : State) : (count i j s).streamGates = s.streamGates := id rfl
@[simp] theorem count_meters (i j : Nat) (s : State) : (count i j s).meters = s.meters := id rfl
@[simp] theorem count_frer (i j : Nat) (s : State) : (count i j s).frer = s.frer := id rfl
@[simp] theorem count_sieve (i j : Nat) (s : State) : (count i j s).sieve = s.sieve := id rfl
@[simp] theorem count_lanes (i j : Nat) (s : State) : (count i j s).lanes = s.lanes := id rfl
@[simp] theorem count_limiters (i j : Nat) (s : State) : (count i j s).limiters = s.limiters := id rfl
@[simp] theorem count_faults (i j : Nat) (s : State) : (count i j s).faults = s.faults := id rfl
@[simp] theorem count_crust (i j : Nat) (s : State) : (count i j s).crust = s.crust := id rfl
@[simp] theorem count_time (i j : Nat) (s : State) : (count i j s).time = s.time := id rfl
@[simp] theorem count_power (i j : Nat) (s : State) : (count i j s).power = s.power := id rfl
@[simp] theorem count_pecks (i j : Nat) (s : State) : (count i j s).pecks = s.pecks := id rfl
@[simp] theorem count_bridge (i j : Nat) (s : State) : (count i j s).bridge = s.bridge := id rfl
@[simp] theorem count_dma (i j : Nat) (s : State) : (count i j s).dma = s.dma := id rfl
@[simp] theorem count_braid (i j : Nat) (s : State) : (count i j s).braid = s.braid := id rfl
@[simp] theorem count_wake (i j : Nat) (s : State) : (count i j s).wake = s.wake := id rfl
@[simp] theorem count_update (i j : Nat) (s : State) : (count i j s).update = s.update := id rfl
@[simp] theorem count_pair (i j : Nat) (s : State) : (count i j s).pair = s.pair := id rfl
@[simp] theorem count_referee (i j : Nat) (s : State) : (count i j s).referee = s.referee := id rfl
@[simp] theorem count_pending (i j : Nat) (s : State) : (count i j s).pending = s.pending := id rfl

/-! ### countE -/

@[simp] theorem countE_dev (e i j : Nat) (s : State) : (countE e i j s).dev = s.dev := id rfl
@[simp] theorem countE_cfg (e i j : Nat) (s : State) : (countE e i j s).cfg = s.cfg := id rfl
@[simp] theorem countE_old (e i j : Nat) (s : State) : (countE e i j s).old = s.old := id rfl
@[simp] theorem countE_staged (e i j : Nat) (s : State) : (countE e i j s).staged = s.staged := id rfl
@[simp] theorem countE_epoch (e i j : Nat) (s : State) : (countE e i j s).epoch = s.epoch := id rfl
@[simp] theorem countE_fresh (e i j : Nat) (s : State) : (countE e i j s).fresh = s.fresh := id rfl
@[simp] theorem countE_out (e i j : Nat) (s : State) : (countE e i j s).out = s.out := id rfl
@[simp] theorem countE_access (e i j : Nat) (s : State) : (countE e i j s).access = s.access := id rfl
@[simp] theorem countE_ports (e i j : Nat) (s : State) : (countE e i j s).ports = s.ports := id rfl
@[simp] theorem countE_mdio (e i j : Nat) (s : State) : (countE e i j s).mdio = s.mdio := id rfl
@[simp] theorem countE_idScan (e i j : Nat) (s : State) : (countE e i j s).idScan = s.idScan := id rfl
@[simp] theorem countE_idWait (e i j : Nat) (s : State) : (countE e i j s).idWait = s.idWait := id rfl
@[simp] theorem countE_dyn (e i j : Nat) (s : State) : (countE e i j s).dyn = s.dyn := id rfl
@[simp] theorem countE_flush (e i j : Nat) (s : State) : (countE e i j s).flush = s.flush := id rfl
@[simp] theorem countE_learned (e i j : Nat) (s : State) : (countE e i j s).learned = s.learned := id rfl
@[simp] theorem countE_agedAt (e i j : Nat) (s : State) : (countE e i j s).agedAt = s.agedAt := id rfl
@[simp] theorem countE_decs (e i j : Nat) (s : State) : (countE e i j s).decs = s.decs := id rfl
@[simp] theorem countE_buf (e i j : Nat) (s : State) : (countE e i j s).buf = s.buf := id rfl
@[simp] theorem countE_egress (e i j : Nat) (s : State) : (countE e i j s).egress = s.egress := id rfl
@[simp] theorem countE_gates (e i j : Nat) (s : State) : (countE e i j s).gates = s.gates := id rfl
@[simp] theorem countE_streamGates (e i j : Nat) (s : State) : (countE e i j s).streamGates = s.streamGates := id rfl
@[simp] theorem countE_meters (e i j : Nat) (s : State) : (countE e i j s).meters = s.meters := id rfl
@[simp] theorem countE_frer (e i j : Nat) (s : State) : (countE e i j s).frer = s.frer := id rfl
@[simp] theorem countE_sieve (e i j : Nat) (s : State) : (countE e i j s).sieve = s.sieve := id rfl
@[simp] theorem countE_lanes (e i j : Nat) (s : State) : (countE e i j s).lanes = s.lanes := id rfl
@[simp] theorem countE_limiters (e i j : Nat) (s : State) : (countE e i j s).limiters = s.limiters := id rfl
@[simp] theorem countE_faults (e i j : Nat) (s : State) : (countE e i j s).faults = s.faults := id rfl
@[simp] theorem countE_crust (e i j : Nat) (s : State) : (countE e i j s).crust = s.crust := id rfl
@[simp] theorem countE_time (e i j : Nat) (s : State) : (countE e i j s).time = s.time := id rfl
@[simp] theorem countE_power (e i j : Nat) (s : State) : (countE e i j s).power = s.power := id rfl
@[simp] theorem countE_pecks (e i j : Nat) (s : State) : (countE e i j s).pecks = s.pecks := id rfl
@[simp] theorem countE_bridge (e i j : Nat) (s : State) : (countE e i j s).bridge = s.bridge := id rfl
@[simp] theorem countE_dma (e i j : Nat) (s : State) : (countE e i j s).dma = s.dma := id rfl
@[simp] theorem countE_braid (e i j : Nat) (s : State) : (countE e i j s).braid = s.braid := id rfl
@[simp] theorem countE_wake (e i j : Nat) (s : State) : (countE e i j s).wake = s.wake := id rfl
@[simp] theorem countE_update (e i j : Nat) (s : State) : (countE e i j s).update = s.update := id rfl
@[simp] theorem countE_pair (e i j : Nat) (s : State) : (countE e i j s).pair = s.pair := id rfl
@[simp] theorem countE_referee (e i j : Nat) (s : State) : (countE e i j s).referee = s.referee := id rfl
@[simp] theorem countE_pending (e i j : Nat) (s : State) : (countE e i j s).pending = s.pending := id rfl

/-! ### countE8 -/

@[simp] theorem countE8_dev (e i j : Nat) (s : State) : (countE8 e i j s).dev = s.dev := id rfl
@[simp] theorem countE8_cfg (e i j : Nat) (s : State) : (countE8 e i j s).cfg = s.cfg := id rfl
@[simp] theorem countE8_old (e i j : Nat) (s : State) : (countE8 e i j s).old = s.old := id rfl
@[simp] theorem countE8_staged (e i j : Nat) (s : State) : (countE8 e i j s).staged = s.staged := id rfl
@[simp] theorem countE8_epoch (e i j : Nat) (s : State) : (countE8 e i j s).epoch = s.epoch := id rfl
@[simp] theorem countE8_fresh (e i j : Nat) (s : State) : (countE8 e i j s).fresh = s.fresh := id rfl
@[simp] theorem countE8_out (e i j : Nat) (s : State) : (countE8 e i j s).out = s.out := id rfl
@[simp] theorem countE8_access (e i j : Nat) (s : State) : (countE8 e i j s).access = s.access := id rfl
@[simp] theorem countE8_ports (e i j : Nat) (s : State) : (countE8 e i j s).ports = s.ports := id rfl
@[simp] theorem countE8_mdio (e i j : Nat) (s : State) : (countE8 e i j s).mdio = s.mdio := id rfl
@[simp] theorem countE8_idScan (e i j : Nat) (s : State) : (countE8 e i j s).idScan = s.idScan := id rfl
@[simp] theorem countE8_idWait (e i j : Nat) (s : State) : (countE8 e i j s).idWait = s.idWait := id rfl
@[simp] theorem countE8_dyn (e i j : Nat) (s : State) : (countE8 e i j s).dyn = s.dyn := id rfl
@[simp] theorem countE8_flush (e i j : Nat) (s : State) : (countE8 e i j s).flush = s.flush := id rfl
@[simp] theorem countE8_learned (e i j : Nat) (s : State) : (countE8 e i j s).learned = s.learned := id rfl
@[simp] theorem countE8_agedAt (e i j : Nat) (s : State) : (countE8 e i j s).agedAt = s.agedAt := id rfl
@[simp] theorem countE8_decs (e i j : Nat) (s : State) : (countE8 e i j s).decs = s.decs := id rfl
@[simp] theorem countE8_buf (e i j : Nat) (s : State) : (countE8 e i j s).buf = s.buf := id rfl
@[simp] theorem countE8_egress (e i j : Nat) (s : State) : (countE8 e i j s).egress = s.egress := id rfl
@[simp] theorem countE8_gates (e i j : Nat) (s : State) : (countE8 e i j s).gates = s.gates := id rfl
@[simp] theorem countE8_streamGates (e i j : Nat) (s : State) : (countE8 e i j s).streamGates = s.streamGates := id rfl
@[simp] theorem countE8_meters (e i j : Nat) (s : State) : (countE8 e i j s).meters = s.meters := id rfl
@[simp] theorem countE8_frer (e i j : Nat) (s : State) : (countE8 e i j s).frer = s.frer := id rfl
@[simp] theorem countE8_sieve (e i j : Nat) (s : State) : (countE8 e i j s).sieve = s.sieve := id rfl
@[simp] theorem countE8_lanes (e i j : Nat) (s : State) : (countE8 e i j s).lanes = s.lanes := id rfl
@[simp] theorem countE8_limiters (e i j : Nat) (s : State) : (countE8 e i j s).limiters = s.limiters := id rfl
@[simp] theorem countE8_faults (e i j : Nat) (s : State) : (countE8 e i j s).faults = s.faults := id rfl
@[simp] theorem countE8_crust (e i j : Nat) (s : State) : (countE8 e i j s).crust = s.crust := id rfl
@[simp] theorem countE8_time (e i j : Nat) (s : State) : (countE8 e i j s).time = s.time := id rfl
@[simp] theorem countE8_power (e i j : Nat) (s : State) : (countE8 e i j s).power = s.power := id rfl
@[simp] theorem countE8_pecks (e i j : Nat) (s : State) : (countE8 e i j s).pecks = s.pecks := id rfl
@[simp] theorem countE8_bridge (e i j : Nat) (s : State) : (countE8 e i j s).bridge = s.bridge := id rfl
@[simp] theorem countE8_dma (e i j : Nat) (s : State) : (countE8 e i j s).dma = s.dma := id rfl
@[simp] theorem countE8_braid (e i j : Nat) (s : State) : (countE8 e i j s).braid = s.braid := id rfl
@[simp] theorem countE8_wake (e i j : Nat) (s : State) : (countE8 e i j s).wake = s.wake := id rfl
@[simp] theorem countE8_update (e i j : Nat) (s : State) : (countE8 e i j s).update = s.update := id rfl
@[simp] theorem countE8_pair (e i j : Nat) (s : State) : (countE8 e i j s).pair = s.pair := id rfl
@[simp] theorem countE8_referee (e i j : Nat) (s : State) : (countE8 e i j s).referee = s.referee := id rfl
@[simp] theorem countE8_pending (e i j : Nat) (s : State) : (countE8 e i j s).pending = s.pending := id rfl

/-! ### announce -/

@[simp] theorem announce_dev (k n : Nat) (b : Bytes) (s : State) : (announce k n b s).dev = s.dev := id rfl
@[simp] theorem announce_regs (k n : Nat) (b : Bytes) (s : State) : (announce k n b s).regs = s.regs := id rfl
@[simp] theorem announce_cfg (k n : Nat) (b : Bytes) (s : State) : (announce k n b s).cfg = s.cfg := id rfl
@[simp] theorem announce_old (k n : Nat) (b : Bytes) (s : State) : (announce k n b s).old = s.old := id rfl
@[simp] theorem announce_staged (k n : Nat) (b : Bytes) (s : State) : (announce k n b s).staged = s.staged := id rfl
@[simp] theorem announce_epoch (k n : Nat) (b : Bytes) (s : State) : (announce k n b s).epoch = s.epoch := id rfl
@[simp] theorem announce_fresh (k n : Nat) (b : Bytes) (s : State) : (announce k n b s).fresh = s.fresh := id rfl
@[simp] theorem announce_out (k n : Nat) (b : Bytes) (s : State) : (announce k n b s).out = s.out := id rfl
@[simp] theorem announce_access (k n : Nat) (b : Bytes) (s : State) : (announce k n b s).access = s.access := id rfl
@[simp] theorem announce_ports (k n : Nat) (b : Bytes) (s : State) : (announce k n b s).ports = s.ports := id rfl
@[simp] theorem announce_mdio (k n : Nat) (b : Bytes) (s : State) : (announce k n b s).mdio = s.mdio := id rfl
@[simp] theorem announce_idScan (k n : Nat) (b : Bytes) (s : State) : (announce k n b s).idScan = s.idScan := id rfl
@[simp] theorem announce_idWait (k n : Nat) (b : Bytes) (s : State) : (announce k n b s).idWait = s.idWait := id rfl
@[simp] theorem announce_dyn (k n : Nat) (b : Bytes) (s : State) : (announce k n b s).dyn = s.dyn := id rfl
@[simp] theorem announce_flush (k n : Nat) (b : Bytes) (s : State) : (announce k n b s).flush = s.flush := id rfl
@[simp] theorem announce_learned (k n : Nat) (b : Bytes) (s : State) : (announce k n b s).learned = s.learned := id rfl
@[simp] theorem announce_agedAt (k n : Nat) (b : Bytes) (s : State) : (announce k n b s).agedAt = s.agedAt := id rfl
@[simp] theorem announce_decs (k n : Nat) (b : Bytes) (s : State) : (announce k n b s).decs = s.decs := id rfl
@[simp] theorem announce_buf (k n : Nat) (b : Bytes) (s : State) : (announce k n b s).buf = s.buf := id rfl
@[simp] theorem announce_egress (k n : Nat) (b : Bytes) (s : State) : (announce k n b s).egress = s.egress := id rfl
@[simp] theorem announce_gates (k n : Nat) (b : Bytes) (s : State) : (announce k n b s).gates = s.gates := id rfl
@[simp] theorem announce_streamGates (k n : Nat) (b : Bytes) (s : State) : (announce k n b s).streamGates = s.streamGates := id rfl
@[simp] theorem announce_meters (k n : Nat) (b : Bytes) (s : State) : (announce k n b s).meters = s.meters := id rfl
@[simp] theorem announce_frer (k n : Nat) (b : Bytes) (s : State) : (announce k n b s).frer = s.frer := id rfl
@[simp] theorem announce_sieve (k n : Nat) (b : Bytes) (s : State) : (announce k n b s).sieve = s.sieve := id rfl
@[simp] theorem announce_lanes (k n : Nat) (b : Bytes) (s : State) : (announce k n b s).lanes = s.lanes := id rfl
@[simp] theorem announce_limiters (k n : Nat) (b : Bytes) (s : State) : (announce k n b s).limiters = s.limiters := id rfl
@[simp] theorem announce_faults (k n : Nat) (b : Bytes) (s : State) : (announce k n b s).faults = s.faults := id rfl
@[simp] theorem announce_crust (k n : Nat) (b : Bytes) (s : State) : (announce k n b s).crust = s.crust := id rfl
@[simp] theorem announce_time (k n : Nat) (b : Bytes) (s : State) : (announce k n b s).time = s.time := id rfl
@[simp] theorem announce_power (k n : Nat) (b : Bytes) (s : State) : (announce k n b s).power = s.power := id rfl
@[simp] theorem announce_pecks (k n : Nat) (b : Bytes) (s : State) : (announce k n b s).pecks = s.pecks := id rfl
@[simp] theorem announce_dma (k n : Nat) (b : Bytes) (s : State) : (announce k n b s).dma = s.dma := id rfl
@[simp] theorem announce_braid (k n : Nat) (b : Bytes) (s : State) : (announce k n b s).braid = s.braid := id rfl
@[simp] theorem announce_wake (k n : Nat) (b : Bytes) (s : State) : (announce k n b s).wake = s.wake := id rfl
@[simp] theorem announce_update (k n : Nat) (b : Bytes) (s : State) : (announce k n b s).update = s.update := id rfl
@[simp] theorem announce_pair (k n : Nat) (b : Bytes) (s : State) : (announce k n b s).pair = s.pair := id rfl
@[simp] theorem announce_referee (k n : Nat) (b : Bytes) (s : State) : (announce k n b s).referee = s.referee := id rfl
@[simp] theorem announce_pending (k n : Nat) (b : Bytes) (s : State) : (announce k n b s).pending = s.pending := id rfl

/-! ### setPrt -/

@[simp] theorem setPrt_dev (p : Nat) (x : PortSt) (s : State) : (setPrt p x s).dev = s.dev := id rfl
@[simp] theorem setPrt_regs (p : Nat) (x : PortSt) (s : State) : (setPrt p x s).regs = s.regs := id rfl
@[simp] theorem setPrt_cfg (p : Nat) (x : PortSt) (s : State) : (setPrt p x s).cfg = s.cfg := id rfl
@[simp] theorem setPrt_old (p : Nat) (x : PortSt) (s : State) : (setPrt p x s).old = s.old := id rfl
@[simp] theorem setPrt_staged (p : Nat) (x : PortSt) (s : State) : (setPrt p x s).staged = s.staged := id rfl
@[simp] theorem setPrt_epoch (p : Nat) (x : PortSt) (s : State) : (setPrt p x s).epoch = s.epoch := id rfl
@[simp] theorem setPrt_fresh (p : Nat) (x : PortSt) (s : State) : (setPrt p x s).fresh = s.fresh := id rfl
@[simp] theorem setPrt_out (p : Nat) (x : PortSt) (s : State) : (setPrt p x s).out = s.out := id rfl
@[simp] theorem setPrt_access (p : Nat) (x : PortSt) (s : State) : (setPrt p x s).access = s.access := id rfl
@[simp] theorem setPrt_mdio (p : Nat) (x : PortSt) (s : State) : (setPrt p x s).mdio = s.mdio := id rfl
@[simp] theorem setPrt_idScan (p : Nat) (x : PortSt) (s : State) : (setPrt p x s).idScan = s.idScan := id rfl
@[simp] theorem setPrt_idWait (p : Nat) (x : PortSt) (s : State) : (setPrt p x s).idWait = s.idWait := id rfl
@[simp] theorem setPrt_dyn (p : Nat) (x : PortSt) (s : State) : (setPrt p x s).dyn = s.dyn := id rfl
@[simp] theorem setPrt_flush (p : Nat) (x : PortSt) (s : State) : (setPrt p x s).flush = s.flush := id rfl
@[simp] theorem setPrt_learned (p : Nat) (x : PortSt) (s : State) : (setPrt p x s).learned = s.learned := id rfl
@[simp] theorem setPrt_agedAt (p : Nat) (x : PortSt) (s : State) : (setPrt p x s).agedAt = s.agedAt := id rfl
@[simp] theorem setPrt_decs (p : Nat) (x : PortSt) (s : State) : (setPrt p x s).decs = s.decs := id rfl
@[simp] theorem setPrt_buf (p : Nat) (x : PortSt) (s : State) : (setPrt p x s).buf = s.buf := id rfl
@[simp] theorem setPrt_egress (p : Nat) (x : PortSt) (s : State) : (setPrt p x s).egress = s.egress := id rfl
@[simp] theorem setPrt_gates (p : Nat) (x : PortSt) (s : State) : (setPrt p x s).gates = s.gates := id rfl
@[simp] theorem setPrt_streamGates (p : Nat) (x : PortSt) (s : State) : (setPrt p x s).streamGates = s.streamGates := id rfl
@[simp] theorem setPrt_meters (p : Nat) (x : PortSt) (s : State) : (setPrt p x s).meters = s.meters := id rfl
@[simp] theorem setPrt_frer (p : Nat) (x : PortSt) (s : State) : (setPrt p x s).frer = s.frer := id rfl
@[simp] theorem setPrt_sieve (p : Nat) (x : PortSt) (s : State) : (setPrt p x s).sieve = s.sieve := id rfl
@[simp] theorem setPrt_lanes (p : Nat) (x : PortSt) (s : State) : (setPrt p x s).lanes = s.lanes := id rfl
@[simp] theorem setPrt_limiters (p : Nat) (x : PortSt) (s : State) : (setPrt p x s).limiters = s.limiters := id rfl
@[simp] theorem setPrt_faults (p : Nat) (x : PortSt) (s : State) : (setPrt p x s).faults = s.faults := id rfl
@[simp] theorem setPrt_crust (p : Nat) (x : PortSt) (s : State) : (setPrt p x s).crust = s.crust := id rfl
@[simp] theorem setPrt_time (p : Nat) (x : PortSt) (s : State) : (setPrt p x s).time = s.time := id rfl
@[simp] theorem setPrt_power (p : Nat) (x : PortSt) (s : State) : (setPrt p x s).power = s.power := id rfl
@[simp] theorem setPrt_pecks (p : Nat) (x : PortSt) (s : State) : (setPrt p x s).pecks = s.pecks := id rfl
@[simp] theorem setPrt_bridge (p : Nat) (x : PortSt) (s : State) : (setPrt p x s).bridge = s.bridge := id rfl
@[simp] theorem setPrt_dma (p : Nat) (x : PortSt) (s : State) : (setPrt p x s).dma = s.dma := id rfl
@[simp] theorem setPrt_braid (p : Nat) (x : PortSt) (s : State) : (setPrt p x s).braid = s.braid := id rfl
@[simp] theorem setPrt_wake (p : Nat) (x : PortSt) (s : State) : (setPrt p x s).wake = s.wake := id rfl
@[simp] theorem setPrt_update (p : Nat) (x : PortSt) (s : State) : (setPrt p x s).update = s.update := id rfl
@[simp] theorem setPrt_pair (p : Nat) (x : PortSt) (s : State) : (setPrt p x s).pair = s.pair := id rfl
@[simp] theorem setPrt_referee (p : Nat) (x : PortSt) (s : State) : (setPrt p x s).referee = s.referee := id rfl
@[simp] theorem setPrt_pending (p : Nat) (x : PortSt) (s : State) : (setPrt p x s).pending = s.pending := id rfl

/-! ### setEgr -/

@[simp] theorem setEgr_dev (p : Nat) (x : EgressSt) (s : State) : (setEgr p x s).dev = s.dev := id rfl
@[simp] theorem setEgr_regs (p : Nat) (x : EgressSt) (s : State) : (setEgr p x s).regs = s.regs := id rfl
@[simp] theorem setEgr_cfg (p : Nat) (x : EgressSt) (s : State) : (setEgr p x s).cfg = s.cfg := id rfl
@[simp] theorem setEgr_old (p : Nat) (x : EgressSt) (s : State) : (setEgr p x s).old = s.old := id rfl
@[simp] theorem setEgr_staged (p : Nat) (x : EgressSt) (s : State) : (setEgr p x s).staged = s.staged := id rfl
@[simp] theorem setEgr_epoch (p : Nat) (x : EgressSt) (s : State) : (setEgr p x s).epoch = s.epoch := id rfl
@[simp] theorem setEgr_fresh (p : Nat) (x : EgressSt) (s : State) : (setEgr p x s).fresh = s.fresh := id rfl
@[simp] theorem setEgr_out (p : Nat) (x : EgressSt) (s : State) : (setEgr p x s).out = s.out := id rfl
@[simp] theorem setEgr_access (p : Nat) (x : EgressSt) (s : State) : (setEgr p x s).access = s.access := id rfl
@[simp] theorem setEgr_ports (p : Nat) (x : EgressSt) (s : State) : (setEgr p x s).ports = s.ports := id rfl
@[simp] theorem setEgr_mdio (p : Nat) (x : EgressSt) (s : State) : (setEgr p x s).mdio = s.mdio := id rfl
@[simp] theorem setEgr_idScan (p : Nat) (x : EgressSt) (s : State) : (setEgr p x s).idScan = s.idScan := id rfl
@[simp] theorem setEgr_idWait (p : Nat) (x : EgressSt) (s : State) : (setEgr p x s).idWait = s.idWait := id rfl
@[simp] theorem setEgr_dyn (p : Nat) (x : EgressSt) (s : State) : (setEgr p x s).dyn = s.dyn := id rfl
@[simp] theorem setEgr_flush (p : Nat) (x : EgressSt) (s : State) : (setEgr p x s).flush = s.flush := id rfl
@[simp] theorem setEgr_learned (p : Nat) (x : EgressSt) (s : State) : (setEgr p x s).learned = s.learned := id rfl
@[simp] theorem setEgr_agedAt (p : Nat) (x : EgressSt) (s : State) : (setEgr p x s).agedAt = s.agedAt := id rfl
@[simp] theorem setEgr_decs (p : Nat) (x : EgressSt) (s : State) : (setEgr p x s).decs = s.decs := id rfl
@[simp] theorem setEgr_buf (p : Nat) (x : EgressSt) (s : State) : (setEgr p x s).buf = s.buf := id rfl
@[simp] theorem setEgr_gates (p : Nat) (x : EgressSt) (s : State) : (setEgr p x s).gates = s.gates := id rfl
@[simp] theorem setEgr_streamGates (p : Nat) (x : EgressSt) (s : State) : (setEgr p x s).streamGates = s.streamGates := id rfl
@[simp] theorem setEgr_meters (p : Nat) (x : EgressSt) (s : State) : (setEgr p x s).meters = s.meters := id rfl
@[simp] theorem setEgr_frer (p : Nat) (x : EgressSt) (s : State) : (setEgr p x s).frer = s.frer := id rfl
@[simp] theorem setEgr_sieve (p : Nat) (x : EgressSt) (s : State) : (setEgr p x s).sieve = s.sieve := id rfl
@[simp] theorem setEgr_lanes (p : Nat) (x : EgressSt) (s : State) : (setEgr p x s).lanes = s.lanes := id rfl
@[simp] theorem setEgr_limiters (p : Nat) (x : EgressSt) (s : State) : (setEgr p x s).limiters = s.limiters := id rfl
@[simp] theorem setEgr_faults (p : Nat) (x : EgressSt) (s : State) : (setEgr p x s).faults = s.faults := id rfl
@[simp] theorem setEgr_crust (p : Nat) (x : EgressSt) (s : State) : (setEgr p x s).crust = s.crust := id rfl
@[simp] theorem setEgr_time (p : Nat) (x : EgressSt) (s : State) : (setEgr p x s).time = s.time := id rfl
@[simp] theorem setEgr_power (p : Nat) (x : EgressSt) (s : State) : (setEgr p x s).power = s.power := id rfl
@[simp] theorem setEgr_pecks (p : Nat) (x : EgressSt) (s : State) : (setEgr p x s).pecks = s.pecks := id rfl
@[simp] theorem setEgr_bridge (p : Nat) (x : EgressSt) (s : State) : (setEgr p x s).bridge = s.bridge := id rfl
@[simp] theorem setEgr_dma (p : Nat) (x : EgressSt) (s : State) : (setEgr p x s).dma = s.dma := id rfl
@[simp] theorem setEgr_braid (p : Nat) (x : EgressSt) (s : State) : (setEgr p x s).braid = s.braid := id rfl
@[simp] theorem setEgr_wake (p : Nat) (x : EgressSt) (s : State) : (setEgr p x s).wake = s.wake := id rfl
@[simp] theorem setEgr_update (p : Nat) (x : EgressSt) (s : State) : (setEgr p x s).update = s.update := id rfl
@[simp] theorem setEgr_pair (p : Nat) (x : EgressSt) (s : State) : (setEgr p x s).pair = s.pair := id rfl
@[simp] theorem setEgr_referee (p : Nat) (x : EgressSt) (s : State) : (setEgr p x s).referee = s.referee := id rfl
@[simp] theorem setEgr_pending (p : Nat) (x : EgressSt) (s : State) : (setEgr p x s).pending = s.pending := id rfl

/-! ### setPtpPort -/

@[simp] theorem setPtpPort_dev (p : Nat) (x : PtpPort) (s : State) : (setPtpPort p x s).dev = s.dev := id rfl
@[simp] theorem setPtpPort_regs (p : Nat) (x : PtpPort) (s : State) : (setPtpPort p x s).regs = s.regs := id rfl
@[simp] theorem setPtpPort_cfg (p : Nat) (x : PtpPort) (s : State) : (setPtpPort p x s).cfg = s.cfg := id rfl
@[simp] theorem setPtpPort_old (p : Nat) (x : PtpPort) (s : State) : (setPtpPort p x s).old = s.old := id rfl
@[simp] theorem setPtpPort_staged (p : Nat) (x : PtpPort) (s : State) : (setPtpPort p x s).staged = s.staged := id rfl
@[simp] theorem setPtpPort_epoch (p : Nat) (x : PtpPort) (s : State) : (setPtpPort p x s).epoch = s.epoch := id rfl
@[simp] theorem setPtpPort_fresh (p : Nat) (x : PtpPort) (s : State) : (setPtpPort p x s).fresh = s.fresh := id rfl
@[simp] theorem setPtpPort_out (p : Nat) (x : PtpPort) (s : State) : (setPtpPort p x s).out = s.out := id rfl
@[simp] theorem setPtpPort_access (p : Nat) (x : PtpPort) (s : State) : (setPtpPort p x s).access = s.access := id rfl
@[simp] theorem setPtpPort_ports (p : Nat) (x : PtpPort) (s : State) : (setPtpPort p x s).ports = s.ports := id rfl
@[simp] theorem setPtpPort_mdio (p : Nat) (x : PtpPort) (s : State) : (setPtpPort p x s).mdio = s.mdio := id rfl
@[simp] theorem setPtpPort_idScan (p : Nat) (x : PtpPort) (s : State) : (setPtpPort p x s).idScan = s.idScan := id rfl
@[simp] theorem setPtpPort_idWait (p : Nat) (x : PtpPort) (s : State) : (setPtpPort p x s).idWait = s.idWait := id rfl
@[simp] theorem setPtpPort_dyn (p : Nat) (x : PtpPort) (s : State) : (setPtpPort p x s).dyn = s.dyn := id rfl
@[simp] theorem setPtpPort_flush (p : Nat) (x : PtpPort) (s : State) : (setPtpPort p x s).flush = s.flush := id rfl
@[simp] theorem setPtpPort_learned (p : Nat) (x : PtpPort) (s : State) : (setPtpPort p x s).learned = s.learned := id rfl
@[simp] theorem setPtpPort_agedAt (p : Nat) (x : PtpPort) (s : State) : (setPtpPort p x s).agedAt = s.agedAt := id rfl
@[simp] theorem setPtpPort_decs (p : Nat) (x : PtpPort) (s : State) : (setPtpPort p x s).decs = s.decs := id rfl
@[simp] theorem setPtpPort_buf (p : Nat) (x : PtpPort) (s : State) : (setPtpPort p x s).buf = s.buf := id rfl
@[simp] theorem setPtpPort_egress (p : Nat) (x : PtpPort) (s : State) : (setPtpPort p x s).egress = s.egress := id rfl
@[simp] theorem setPtpPort_gates (p : Nat) (x : PtpPort) (s : State) : (setPtpPort p x s).gates = s.gates := id rfl
@[simp] theorem setPtpPort_streamGates (p : Nat) (x : PtpPort) (s : State) : (setPtpPort p x s).streamGates = s.streamGates := id rfl
@[simp] theorem setPtpPort_meters (p : Nat) (x : PtpPort) (s : State) : (setPtpPort p x s).meters = s.meters := id rfl
@[simp] theorem setPtpPort_frer (p : Nat) (x : PtpPort) (s : State) : (setPtpPort p x s).frer = s.frer := id rfl
@[simp] theorem setPtpPort_sieve (p : Nat) (x : PtpPort) (s : State) : (setPtpPort p x s).sieve = s.sieve := id rfl
@[simp] theorem setPtpPort_lanes (p : Nat) (x : PtpPort) (s : State) : (setPtpPort p x s).lanes = s.lanes := id rfl
@[simp] theorem setPtpPort_limiters (p : Nat) (x : PtpPort) (s : State) : (setPtpPort p x s).limiters = s.limiters := id rfl
@[simp] theorem setPtpPort_faults (p : Nat) (x : PtpPort) (s : State) : (setPtpPort p x s).faults = s.faults := id rfl
@[simp] theorem setPtpPort_crust (p : Nat) (x : PtpPort) (s : State) : (setPtpPort p x s).crust = s.crust := id rfl
@[simp] theorem setPtpPort_power (p : Nat) (x : PtpPort) (s : State) : (setPtpPort p x s).power = s.power := id rfl
@[simp] theorem setPtpPort_pecks (p : Nat) (x : PtpPort) (s : State) : (setPtpPort p x s).pecks = s.pecks := id rfl
@[simp] theorem setPtpPort_bridge (p : Nat) (x : PtpPort) (s : State) : (setPtpPort p x s).bridge = s.bridge := id rfl
@[simp] theorem setPtpPort_dma (p : Nat) (x : PtpPort) (s : State) : (setPtpPort p x s).dma = s.dma := id rfl
@[simp] theorem setPtpPort_braid (p : Nat) (x : PtpPort) (s : State) : (setPtpPort p x s).braid = s.braid := id rfl
@[simp] theorem setPtpPort_wake (p : Nat) (x : PtpPort) (s : State) : (setPtpPort p x s).wake = s.wake := id rfl
@[simp] theorem setPtpPort_update (p : Nat) (x : PtpPort) (s : State) : (setPtpPort p x s).update = s.update := id rfl
@[simp] theorem setPtpPort_pair (p : Nat) (x : PtpPort) (s : State) : (setPtpPort p x s).pair = s.pair := id rfl
@[simp] theorem setPtpPort_referee (p : Nat) (x : PtpPort) (s : State) : (setPtpPort p x s).referee = s.referee := id rfl
@[simp] theorem setPtpPort_pending (p : Nat) (x : PtpPort) (s : State) : (setPtpPort p x s).pending = s.pending := id rfl

/-! ### setMdio -/

@[simp] theorem setMdio_dev (p : Nat) (x : MdioSt) (s : State) : (setMdio p x s).dev = s.dev := id rfl
@[simp] theorem setMdio_regs (p : Nat) (x : MdioSt) (s : State) : (setMdio p x s).regs = s.regs := id rfl
@[simp] theorem setMdio_cfg (p : Nat) (x : MdioSt) (s : State) : (setMdio p x s).cfg = s.cfg := id rfl
@[simp] theorem setMdio_old (p : Nat) (x : MdioSt) (s : State) : (setMdio p x s).old = s.old := id rfl
@[simp] theorem setMdio_staged (p : Nat) (x : MdioSt) (s : State) : (setMdio p x s).staged = s.staged := id rfl
@[simp] theorem setMdio_epoch (p : Nat) (x : MdioSt) (s : State) : (setMdio p x s).epoch = s.epoch := id rfl
@[simp] theorem setMdio_fresh (p : Nat) (x : MdioSt) (s : State) : (setMdio p x s).fresh = s.fresh := id rfl
@[simp] theorem setMdio_out (p : Nat) (x : MdioSt) (s : State) : (setMdio p x s).out = s.out := id rfl
@[simp] theorem setMdio_access (p : Nat) (x : MdioSt) (s : State) : (setMdio p x s).access = s.access := id rfl
@[simp] theorem setMdio_ports (p : Nat) (x : MdioSt) (s : State) : (setMdio p x s).ports = s.ports := id rfl
@[simp] theorem setMdio_idScan (p : Nat) (x : MdioSt) (s : State) : (setMdio p x s).idScan = s.idScan := id rfl
@[simp] theorem setMdio_idWait (p : Nat) (x : MdioSt) (s : State) : (setMdio p x s).idWait = s.idWait := id rfl
@[simp] theorem setMdio_dyn (p : Nat) (x : MdioSt) (s : State) : (setMdio p x s).dyn = s.dyn := id rfl
@[simp] theorem setMdio_flush (p : Nat) (x : MdioSt) (s : State) : (setMdio p x s).flush = s.flush := id rfl
@[simp] theorem setMdio_learned (p : Nat) (x : MdioSt) (s : State) : (setMdio p x s).learned = s.learned := id rfl
@[simp] theorem setMdio_agedAt (p : Nat) (x : MdioSt) (s : State) : (setMdio p x s).agedAt = s.agedAt := id rfl
@[simp] theorem setMdio_decs (p : Nat) (x : MdioSt) (s : State) : (setMdio p x s).decs = s.decs := id rfl
@[simp] theorem setMdio_buf (p : Nat) (x : MdioSt) (s : State) : (setMdio p x s).buf = s.buf := id rfl
@[simp] theorem setMdio_egress (p : Nat) (x : MdioSt) (s : State) : (setMdio p x s).egress = s.egress := id rfl
@[simp] theorem setMdio_gates (p : Nat) (x : MdioSt) (s : State) : (setMdio p x s).gates = s.gates := id rfl
@[simp] theorem setMdio_streamGates (p : Nat) (x : MdioSt) (s : State) : (setMdio p x s).streamGates = s.streamGates := id rfl
@[simp] theorem setMdio_meters (p : Nat) (x : MdioSt) (s : State) : (setMdio p x s).meters = s.meters := id rfl
@[simp] theorem setMdio_frer (p : Nat) (x : MdioSt) (s : State) : (setMdio p x s).frer = s.frer := id rfl
@[simp] theorem setMdio_sieve (p : Nat) (x : MdioSt) (s : State) : (setMdio p x s).sieve = s.sieve := id rfl
@[simp] theorem setMdio_lanes (p : Nat) (x : MdioSt) (s : State) : (setMdio p x s).lanes = s.lanes := id rfl
@[simp] theorem setMdio_limiters (p : Nat) (x : MdioSt) (s : State) : (setMdio p x s).limiters = s.limiters := id rfl
@[simp] theorem setMdio_faults (p : Nat) (x : MdioSt) (s : State) : (setMdio p x s).faults = s.faults := id rfl
@[simp] theorem setMdio_crust (p : Nat) (x : MdioSt) (s : State) : (setMdio p x s).crust = s.crust := id rfl
@[simp] theorem setMdio_time (p : Nat) (x : MdioSt) (s : State) : (setMdio p x s).time = s.time := id rfl
@[simp] theorem setMdio_power (p : Nat) (x : MdioSt) (s : State) : (setMdio p x s).power = s.power := id rfl
@[simp] theorem setMdio_pecks (p : Nat) (x : MdioSt) (s : State) : (setMdio p x s).pecks = s.pecks := id rfl
@[simp] theorem setMdio_bridge (p : Nat) (x : MdioSt) (s : State) : (setMdio p x s).bridge = s.bridge := id rfl
@[simp] theorem setMdio_dma (p : Nat) (x : MdioSt) (s : State) : (setMdio p x s).dma = s.dma := id rfl
@[simp] theorem setMdio_braid (p : Nat) (x : MdioSt) (s : State) : (setMdio p x s).braid = s.braid := id rfl
@[simp] theorem setMdio_wake (p : Nat) (x : MdioSt) (s : State) : (setMdio p x s).wake = s.wake := id rfl
@[simp] theorem setMdio_update (p : Nat) (x : MdioSt) (s : State) : (setMdio p x s).update = s.update := id rfl
@[simp] theorem setMdio_pair (p : Nat) (x : MdioSt) (s : State) : (setMdio p x s).pair = s.pair := id rfl
@[simp] theorem setMdio_referee (p : Nat) (x : MdioSt) (s : State) : (setMdio p x s).referee = s.referee := id rfl
@[simp] theorem setMdio_pending (p : Nat) (x : MdioSt) (s : State) : (setMdio p x s).pending = s.pending := id rfl

/-! ### raise -/

@[simp] theorem raise_dev (i j v : Nat) (s : State) : (raise i j v s).dev = s.dev := by unfold raise; split <;> rfl
@[simp] theorem raise_cfg (i j v : Nat) (s : State) : (raise i j v s).cfg = s.cfg := by unfold raise; split <;> rfl
@[simp] theorem raise_old (i j v : Nat) (s : State) : (raise i j v s).old = s.old := by unfold raise; split <;> rfl
@[simp] theorem raise_staged (i j v : Nat) (s : State) : (raise i j v s).staged = s.staged := by unfold raise; split <;> rfl
@[simp] theorem raise_epoch (i j v : Nat) (s : State) : (raise i j v s).epoch = s.epoch := by unfold raise; split <;> rfl
@[simp] theorem raise_fresh (i j v : Nat) (s : State) : (raise i j v s).fresh = s.fresh := by unfold raise; split <;> rfl
@[simp] theorem raise_out (i j v : Nat) (s : State) : (raise i j v s).out = s.out := by unfold raise; split <;> rfl
@[simp] theorem raise_access (i j v : Nat) (s : State) : (raise i j v s).access = s.access := by unfold raise; split <;> rfl
@[simp] theorem raise_ports (i j v : Nat) (s : State) : (raise i j v s).ports = s.ports := by unfold raise; split <;> rfl
@[simp] theorem raise_mdio (i j v : Nat) (s : State) : (raise i j v s).mdio = s.mdio := by unfold raise; split <;> rfl
@[simp] theorem raise_idScan (i j v : Nat) (s : State) : (raise i j v s).idScan = s.idScan := by unfold raise; split <;> rfl
@[simp] theorem raise_idWait (i j v : Nat) (s : State) : (raise i j v s).idWait = s.idWait := by unfold raise; split <;> rfl
@[simp] theorem raise_dyn (i j v : Nat) (s : State) : (raise i j v s).dyn = s.dyn := by unfold raise; split <;> rfl
@[simp] theorem raise_flush (i j v : Nat) (s : State) : (raise i j v s).flush = s.flush := by unfold raise; split <;> rfl
@[simp] theorem raise_learned (i j v : Nat) (s : State) : (raise i j v s).learned = s.learned := by unfold raise; split <;> rfl
@[simp] theorem raise_agedAt (i j v : Nat) (s : State) : (raise i j v s).agedAt = s.agedAt := by unfold raise; split <;> rfl
@[simp] theorem raise_decs (i j v : Nat) (s : State) : (raise i j v s).decs = s.decs := by unfold raise; split <;> rfl
@[simp] theorem raise_buf (i j v : Nat) (s : State) : (raise i j v s).buf = s.buf := by unfold raise; split <;> rfl
@[simp] theorem raise_egress (i j v : Nat) (s : State) : (raise i j v s).egress = s.egress := by unfold raise; split <;> rfl
@[simp] theorem raise_gates (i j v : Nat) (s : State) : (raise i j v s).gates = s.gates := by unfold raise; split <;> rfl
@[simp] theorem raise_streamGates (i j v : Nat) (s : State) : (raise i j v s).streamGates = s.streamGates := by unfold raise; split <;> rfl
@[simp] theorem raise_meters (i j v : Nat) (s : State) : (raise i j v s).meters = s.meters := by unfold raise; split <;> rfl
@[simp] theorem raise_frer (i j v : Nat) (s : State) : (raise i j v s).frer = s.frer := by unfold raise; split <;> rfl
@[simp] theorem raise_sieve (i j v : Nat) (s : State) : (raise i j v s).sieve = s.sieve := by unfold raise; split <;> rfl
@[simp] theorem raise_lanes (i j v : Nat) (s : State) : (raise i j v s).lanes = s.lanes := by unfold raise; split <;> rfl
@[simp] theorem raise_limiters (i j v : Nat) (s : State) : (raise i j v s).limiters = s.limiters := by unfold raise; split <;> rfl
@[simp] theorem raise_faults (i j v : Nat) (s : State) : (raise i j v s).faults = s.faults := by unfold raise; split <;> rfl
@[simp] theorem raise_crust (i j v : Nat) (s : State) : (raise i j v s).crust = s.crust := by unfold raise; split <;> rfl
@[simp] theorem raise_time (i j v : Nat) (s : State) : (raise i j v s).time = s.time := by unfold raise; split <;> rfl
@[simp] theorem raise_power (i j v : Nat) (s : State) : (raise i j v s).power = s.power := by unfold raise; split <;> rfl
@[simp] theorem raise_pecks (i j v : Nat) (s : State) : (raise i j v s).pecks = s.pecks := by unfold raise; split <;> rfl
@[simp] theorem raise_bridge (i j v : Nat) (s : State) : (raise i j v s).bridge = s.bridge := by unfold raise; split <;> rfl
@[simp] theorem raise_dma (i j v : Nat) (s : State) : (raise i j v s).dma = s.dma := by unfold raise; split <;> rfl
@[simp] theorem raise_braid (i j v : Nat) (s : State) : (raise i j v s).braid = s.braid := by unfold raise; split <;> rfl
@[simp] theorem raise_wake (i j v : Nat) (s : State) : (raise i j v s).wake = s.wake := by unfold raise; split <;> rfl
@[simp] theorem raise_update (i j v : Nat) (s : State) : (raise i j v s).update = s.update := by unfold raise; split <;> rfl
@[simp] theorem raise_pair (i j v : Nat) (s : State) : (raise i j v s).pair = s.pair := by unfold raise; split <;> rfl
@[simp] theorem raise_referee (i j v : Nat) (s : State) : (raise i j v s).referee = s.referee := by unfold raise; split <;> rfl
@[simp] theorem raise_pending (i j v : Nat) (s : State) : (raise i j v s).pending = s.pending := by unfold raise; split <;> rfl

/-! ### msix -/

@[simp] theorem msix_dev (v : Nat) (s : State) : (msix v s).dev = s.dev := by unfold msix; split <;> rfl
@[simp] theorem msix_regs (v : Nat) (s : State) : (msix v s).regs = s.regs := by unfold msix; split <;> rfl
@[simp] theorem msix_cfg (v : Nat) (s : State) : (msix v s).cfg = s.cfg := by unfold msix; split <;> rfl
@[simp] theorem msix_old (v : Nat) (s : State) : (msix v s).old = s.old := by unfold msix; split <;> rfl
@[simp] theorem msix_staged (v : Nat) (s : State) : (msix v s).staged = s.staged := by unfold msix; split <;> rfl
@[simp] theorem msix_epoch (v : Nat) (s : State) : (msix v s).epoch = s.epoch := by unfold msix; split <;> rfl
@[simp] theorem msix_fresh (v : Nat) (s : State) : (msix v s).fresh = s.fresh := by unfold msix; split <;> rfl
@[simp] theorem msix_access (v : Nat) (s : State) : (msix v s).access = s.access := by unfold msix; split <;> rfl
@[simp] theorem msix_ports (v : Nat) (s : State) : (msix v s).ports = s.ports := by unfold msix; split <;> rfl
@[simp] theorem msix_mdio (v : Nat) (s : State) : (msix v s).mdio = s.mdio := by unfold msix; split <;> rfl
@[simp] theorem msix_idScan (v : Nat) (s : State) : (msix v s).idScan = s.idScan := by unfold msix; split <;> rfl
@[simp] theorem msix_idWait (v : Nat) (s : State) : (msix v s).idWait = s.idWait := by unfold msix; split <;> rfl
@[simp] theorem msix_dyn (v : Nat) (s : State) : (msix v s).dyn = s.dyn := by unfold msix; split <;> rfl
@[simp] theorem msix_flush (v : Nat) (s : State) : (msix v s).flush = s.flush := by unfold msix; split <;> rfl
@[simp] theorem msix_learned (v : Nat) (s : State) : (msix v s).learned = s.learned := by unfold msix; split <;> rfl
@[simp] theorem msix_agedAt (v : Nat) (s : State) : (msix v s).agedAt = s.agedAt := by unfold msix; split <;> rfl
@[simp] theorem msix_decs (v : Nat) (s : State) : (msix v s).decs = s.decs := by unfold msix; split <;> rfl
@[simp] theorem msix_buf (v : Nat) (s : State) : (msix v s).buf = s.buf := by unfold msix; split <;> rfl
@[simp] theorem msix_egress (v : Nat) (s : State) : (msix v s).egress = s.egress := by unfold msix; split <;> rfl
@[simp] theorem msix_gates (v : Nat) (s : State) : (msix v s).gates = s.gates := by unfold msix; split <;> rfl
@[simp] theorem msix_streamGates (v : Nat) (s : State) : (msix v s).streamGates = s.streamGates := by unfold msix; split <;> rfl
@[simp] theorem msix_meters (v : Nat) (s : State) : (msix v s).meters = s.meters := by unfold msix; split <;> rfl
@[simp] theorem msix_frer (v : Nat) (s : State) : (msix v s).frer = s.frer := by unfold msix; split <;> rfl
@[simp] theorem msix_sieve (v : Nat) (s : State) : (msix v s).sieve = s.sieve := by unfold msix; split <;> rfl
@[simp] theorem msix_lanes (v : Nat) (s : State) : (msix v s).lanes = s.lanes := by unfold msix; split <;> rfl
@[simp] theorem msix_limiters (v : Nat) (s : State) : (msix v s).limiters = s.limiters := by unfold msix; split <;> rfl
@[simp] theorem msix_faults (v : Nat) (s : State) : (msix v s).faults = s.faults := by unfold msix; split <;> rfl
@[simp] theorem msix_crust (v : Nat) (s : State) : (msix v s).crust = s.crust := by unfold msix; split <;> rfl
@[simp] theorem msix_time (v : Nat) (s : State) : (msix v s).time = s.time := by unfold msix; split <;> rfl
@[simp] theorem msix_power (v : Nat) (s : State) : (msix v s).power = s.power := by unfold msix; split <;> rfl
@[simp] theorem msix_pecks (v : Nat) (s : State) : (msix v s).pecks = s.pecks := by unfold msix; split <;> rfl
@[simp] theorem msix_dma (v : Nat) (s : State) : (msix v s).dma = s.dma := by unfold msix; split <;> rfl
@[simp] theorem msix_braid (v : Nat) (s : State) : (msix v s).braid = s.braid := by unfold msix; split <;> rfl
@[simp] theorem msix_wake (v : Nat) (s : State) : (msix v s).wake = s.wake := by unfold msix; split <;> rfl
@[simp] theorem msix_update (v : Nat) (s : State) : (msix v s).update = s.update := by unfold msix; split <;> rfl
@[simp] theorem msix_pair (v : Nat) (s : State) : (msix v s).pair = s.pair := by unfold msix; split <;> rfl
@[simp] theorem msix_referee (v : Nat) (s : State) : (msix v s).referee = s.referee := by unfold msix; split <;> rfl
@[simp] theorem msix_pending (v : Nat) (s : State) : (msix v s).pending = s.pending := by unfold msix; split <;> rfl

/-! ### touch -/

@[simp] theorem touch_dev (ses : Session) (s : State) : (touch ses s).dev = s.dev := by unfold touch; split <;> rfl
@[simp] theorem touch_regs (ses : Session) (s : State) : (touch ses s).regs = s.regs := by unfold touch; split <;> rfl
@[simp] theorem touch_cfg (ses : Session) (s : State) : (touch ses s).cfg = s.cfg := by unfold touch; split <;> rfl
@[simp] theorem touch_old (ses : Session) (s : State) : (touch ses s).old = s.old := by unfold touch; split <;> rfl
@[simp] theorem touch_staged (ses : Session) (s : State) : (touch ses s).staged = s.staged := by unfold touch; split <;> rfl
@[simp] theorem touch_epoch (ses : Session) (s : State) : (touch ses s).epoch = s.epoch := by unfold touch; split <;> rfl
@[simp] theorem touch_fresh (ses : Session) (s : State) : (touch ses s).fresh = s.fresh := by unfold touch; split <;> rfl
@[simp] theorem touch_out (ses : Session) (s : State) : (touch ses s).out = s.out := by unfold touch; split <;> rfl
@[simp] theorem touch_ports (ses : Session) (s : State) : (touch ses s).ports = s.ports := by unfold touch; split <;> rfl
@[simp] theorem touch_mdio (ses : Session) (s : State) : (touch ses s).mdio = s.mdio := by unfold touch; split <;> rfl
@[simp] theorem touch_idScan (ses : Session) (s : State) : (touch ses s).idScan = s.idScan := by unfold touch; split <;> rfl
@[simp] theorem touch_idWait (ses : Session) (s : State) : (touch ses s).idWait = s.idWait := by unfold touch; split <;> rfl
@[simp] theorem touch_dyn (ses : Session) (s : State) : (touch ses s).dyn = s.dyn := by unfold touch; split <;> rfl
@[simp] theorem touch_flush (ses : Session) (s : State) : (touch ses s).flush = s.flush := by unfold touch; split <;> rfl
@[simp] theorem touch_learned (ses : Session) (s : State) : (touch ses s).learned = s.learned := by unfold touch; split <;> rfl
@[simp] theorem touch_agedAt (ses : Session) (s : State) : (touch ses s).agedAt = s.agedAt := by unfold touch; split <;> rfl
@[simp] theorem touch_decs (ses : Session) (s : State) : (touch ses s).decs = s.decs := by unfold touch; split <;> rfl
@[simp] theorem touch_buf (ses : Session) (s : State) : (touch ses s).buf = s.buf := by unfold touch; split <;> rfl
@[simp] theorem touch_egress (ses : Session) (s : State) : (touch ses s).egress = s.egress := by unfold touch; split <;> rfl
@[simp] theorem touch_gates (ses : Session) (s : State) : (touch ses s).gates = s.gates := by unfold touch; split <;> rfl
@[simp] theorem touch_streamGates (ses : Session) (s : State) : (touch ses s).streamGates = s.streamGates := by unfold touch; split <;> rfl
@[simp] theorem touch_meters (ses : Session) (s : State) : (touch ses s).meters = s.meters := by unfold touch; split <;> rfl
@[simp] theorem touch_frer (ses : Session) (s : State) : (touch ses s).frer = s.frer := by unfold touch; split <;> rfl
@[simp] theorem touch_sieve (ses : Session) (s : State) : (touch ses s).sieve = s.sieve := by unfold touch; split <;> rfl
@[simp] theorem touch_lanes (ses : Session) (s : State) : (touch ses s).lanes = s.lanes := by unfold touch; split <;> rfl
@[simp] theorem touch_limiters (ses : Session) (s : State) : (touch ses s).limiters = s.limiters := by unfold touch; split <;> rfl
@[simp] theorem touch_faults (ses : Session) (s : State) : (touch ses s).faults = s.faults := by unfold touch; split <;> rfl
@[simp] theorem touch_crust (ses : Session) (s : State) : (touch ses s).crust = s.crust := by unfold touch; split <;> rfl
@[simp] theorem touch_time (ses : Session) (s : State) : (touch ses s).time = s.time := by unfold touch; split <;> rfl
@[simp] theorem touch_power (ses : Session) (s : State) : (touch ses s).power = s.power := by unfold touch; split <;> rfl
@[simp] theorem touch_pecks (ses : Session) (s : State) : (touch ses s).pecks = s.pecks := by unfold touch; split <;> rfl
@[simp] theorem touch_bridge (ses : Session) (s : State) : (touch ses s).bridge = s.bridge := by unfold touch; split <;> rfl
@[simp] theorem touch_dma (ses : Session) (s : State) : (touch ses s).dma = s.dma := by unfold touch; split <;> rfl
@[simp] theorem touch_braid (ses : Session) (s : State) : (touch ses s).braid = s.braid := by unfold touch; split <;> rfl
@[simp] theorem touch_wake (ses : Session) (s : State) : (touch ses s).wake = s.wake := by unfold touch; split <;> rfl
@[simp] theorem touch_update (ses : Session) (s : State) : (touch ses s).update = s.update := by unfold touch; split <;> rfl
@[simp] theorem touch_pair (ses : Session) (s : State) : (touch ses s).pair = s.pair := by unfold touch; split <;> rfl
@[simp] theorem touch_referee (ses : Session) (s : State) : (touch ses s).referee = s.referee := by unfold touch; split <;> rfl
@[simp] theorem touch_pending (ses : Session) (s : State) : (touch ses s).pending = s.pending := by unfold touch; split <;> rfl

/-! ### hostEvent -/

@[simp] theorem hostEvent_dev (b : Nat) (s : State) : (hostEvent b s).dev = s.dev := by unfold hostEvent; split; rfl; split <;> simp
@[simp] theorem hostEvent_cfg (b : Nat) (s : State) : (hostEvent b s).cfg = s.cfg := by unfold hostEvent; split; rfl; split <;> simp
@[simp] theorem hostEvent_old (b : Nat) (s : State) : (hostEvent b s).old = s.old := by unfold hostEvent; split; rfl; split <;> simp
@[simp] theorem hostEvent_staged (b : Nat) (s : State) : (hostEvent b s).staged = s.staged := by unfold hostEvent; split; rfl; split <;> simp
@[simp] theorem hostEvent_epoch (b : Nat) (s : State) : (hostEvent b s).epoch = s.epoch := by unfold hostEvent; split; rfl; split <;> simp
@[simp] theorem hostEvent_fresh (b : Nat) (s : State) : (hostEvent b s).fresh = s.fresh := by unfold hostEvent; split; rfl; split <;> simp
@[simp] theorem hostEvent_access (b : Nat) (s : State) : (hostEvent b s).access = s.access := by unfold hostEvent; split; rfl; split <;> simp
@[simp] theorem hostEvent_ports (b : Nat) (s : State) : (hostEvent b s).ports = s.ports := by unfold hostEvent; split; rfl; split <;> simp
@[simp] theorem hostEvent_mdio (b : Nat) (s : State) : (hostEvent b s).mdio = s.mdio := by unfold hostEvent; split; rfl; split <;> simp
@[simp] theorem hostEvent_idScan (b : Nat) (s : State) : (hostEvent b s).idScan = s.idScan := by unfold hostEvent; split; rfl; split <;> simp
@[simp] theorem hostEvent_idWait (b : Nat) (s : State) : (hostEvent b s).idWait = s.idWait := by unfold hostEvent; split; rfl; split <;> simp
@[simp] theorem hostEvent_dyn (b : Nat) (s : State) : (hostEvent b s).dyn = s.dyn := by unfold hostEvent; split; rfl; split <;> simp
@[simp] theorem hostEvent_flush (b : Nat) (s : State) : (hostEvent b s).flush = s.flush := by unfold hostEvent; split; rfl; split <;> simp
@[simp] theorem hostEvent_learned (b : Nat) (s : State) : (hostEvent b s).learned = s.learned := by unfold hostEvent; split; rfl; split <;> simp
@[simp] theorem hostEvent_agedAt (b : Nat) (s : State) : (hostEvent b s).agedAt = s.agedAt := by unfold hostEvent; split; rfl; split <;> simp
@[simp] theorem hostEvent_decs (b : Nat) (s : State) : (hostEvent b s).decs = s.decs := by unfold hostEvent; split; rfl; split <;> simp
@[simp] theorem hostEvent_buf (b : Nat) (s : State) : (hostEvent b s).buf = s.buf := by unfold hostEvent; split; rfl; split <;> simp
@[simp] theorem hostEvent_egress (b : Nat) (s : State) : (hostEvent b s).egress = s.egress := by unfold hostEvent; split; rfl; split <;> simp
@[simp] theorem hostEvent_gates (b : Nat) (s : State) : (hostEvent b s).gates = s.gates := by unfold hostEvent; split; rfl; split <;> simp
@[simp] theorem hostEvent_streamGates (b : Nat) (s : State) : (hostEvent b s).streamGates = s.streamGates := by unfold hostEvent; split; rfl; split <;> simp
@[simp] theorem hostEvent_meters (b : Nat) (s : State) : (hostEvent b s).meters = s.meters := by unfold hostEvent; split; rfl; split <;> simp
@[simp] theorem hostEvent_frer (b : Nat) (s : State) : (hostEvent b s).frer = s.frer := by unfold hostEvent; split; rfl; split <;> simp
@[simp] theorem hostEvent_sieve (b : Nat) (s : State) : (hostEvent b s).sieve = s.sieve := by unfold hostEvent; split; rfl; split <;> simp
@[simp] theorem hostEvent_lanes (b : Nat) (s : State) : (hostEvent b s).lanes = s.lanes := by unfold hostEvent; split; rfl; split <;> simp
@[simp] theorem hostEvent_limiters (b : Nat) (s : State) : (hostEvent b s).limiters = s.limiters := by unfold hostEvent; split; rfl; split <;> simp
@[simp] theorem hostEvent_faults (b : Nat) (s : State) : (hostEvent b s).faults = s.faults := by unfold hostEvent; split; rfl; split <;> simp
@[simp] theorem hostEvent_crust (b : Nat) (s : State) : (hostEvent b s).crust = s.crust := by unfold hostEvent; split; rfl; split <;> simp
@[simp] theorem hostEvent_time (b : Nat) (s : State) : (hostEvent b s).time = s.time := by unfold hostEvent; split; rfl; split <;> simp
@[simp] theorem hostEvent_power (b : Nat) (s : State) : (hostEvent b s).power = s.power := by unfold hostEvent; split; rfl; split <;> simp
@[simp] theorem hostEvent_pecks (b : Nat) (s : State) : (hostEvent b s).pecks = s.pecks := by unfold hostEvent; split; rfl; split <;> simp
@[simp] theorem hostEvent_dma (b : Nat) (s : State) : (hostEvent b s).dma = s.dma := by unfold hostEvent; split; rfl; split <;> simp
@[simp] theorem hostEvent_braid (b : Nat) (s : State) : (hostEvent b s).braid = s.braid := by unfold hostEvent; split; rfl; split <;> simp
@[simp] theorem hostEvent_wake (b : Nat) (s : State) : (hostEvent b s).wake = s.wake := by unfold hostEvent; split; rfl; split <;> simp
@[simp] theorem hostEvent_update (b : Nat) (s : State) : (hostEvent b s).update = s.update := by unfold hostEvent; split; rfl; split <;> simp
@[simp] theorem hostEvent_pair (b : Nat) (s : State) : (hostEvent b s).pair = s.pair := by unfold hostEvent; split; rfl; split <;> simp
@[simp] theorem hostEvent_referee (b : Nat) (s : State) : (hostEvent b s).referee = s.referee := by unfold hostEvent; split; rfl; split <;> simp
@[simp] theorem hostEvent_pending (b : Nat) (s : State) : (hostEvent b s).pending = s.pending := by unfold hostEvent; split; rfl; split <;> simp

/-! ### Reads past an update of another store -/

@[simp] theorem setReg_cfg' (i j v : Nat) (s : State) (i' j' : Nat) : cfg i' j' (setReg i j v s) = cfg i' j' s := id rfl
@[simp] theorem setReg_cfgE' (i j v : Nat) (s : State) (e' i' j' : Nat) : cfgE e' i' j' (setReg i j v s) = cfgE e' i' j' s := id rfl
@[simp] theorem setReg_wall' (i j v : Nat) (s : State) : wall (setReg i j v s) = wall s := id rfl
@[simp] theorem setReg_nowNs' (i j v : Nat) (s : State) : nowNs (setReg i j v s) = nowNs s := id rfl
@[simp] theorem setReg_monoNs' (i j v : Nat) (s : State) : monoNs (setReg i j v s) = monoNs s := id rfl
@[simp] theorem setReg_freeNow' (i j v : Nat) (s : State) : freeNow (setReg i j v s) = freeNow s := id rfl
@[simp] theorem setReg_roleOf' (i j v : Nat) (s : State) (q : Session) : roleOf q (setReg i j v s) = roleOf q s := id rfl
@[simp] theorem setReg_prt' (i j v : Nat) (s : State) (q : Nat) : prt q (setReg i j v s) = prt q s := id rfl
@[simp] theorem setReg_egr' (i j v : Nat) (s : State) (q : Nat) : egr q (setReg i j v s) = egr q s := id rfl
@[simp] theorem setRegE_cfg' (e i j v : Nat) (s : State) (i' j' : Nat) : cfg i' j' (setRegE e i j v s) = cfg i' j' s := id rfl
@[simp] theorem setRegE_cfgE' (e i j v : Nat) (s : State) (e' i' j' : Nat) : cfgE e' i' j' (setRegE e i j v s) = cfgE e' i' j' s := id rfl
@[simp] theorem setRegE_wall' (e i j v : Nat) (s : State) : wall (setRegE e i j v s) = wall s := id rfl
@[simp] theorem setRegE_nowNs' (e i j v : Nat) (s : State) : nowNs (setRegE e i j v s) = nowNs s := id rfl
@[simp] theorem setRegE_monoNs' (e i j v : Nat) (s : State) : monoNs (setRegE e i j v s) = monoNs s := id rfl
@[simp] theorem setRegE_freeNow' (e i j v : Nat) (s : State) : freeNow (setRegE e i j v s) = freeNow s := id rfl
@[simp] theorem setRegE_roleOf' (e i j v : Nat) (s : State) (q : Session) : roleOf q (setRegE e i j v s) = roleOf q s := id rfl
@[simp] theorem setRegE_prt' (e i j v : Nat) (s : State) (q : Nat) : prt q (setRegE e i j v s) = prt q s := id rfl
@[simp] theorem setRegE_egr' (e i j v : Nat) (s : State) (q : Nat) : egr q (setRegE e i j v s) = egr q s := id rfl
@[simp] theorem stage_reg' (i j v : Nat) (s : State) (i' j' : Nat) : reg i' j' (stage i j v s) = reg i' j' s := id rfl
@[simp] theorem stage_regE' (i j v : Nat) (s : State) (e' i' j' : Nat) : regE e' i' j' (stage i j v s) = regE e' i' j' s := id rfl
@[simp] theorem stage_cfg' (i j v : Nat) (s : State) (i' j' : Nat) : cfg i' j' (stage i j v s) = cfg i' j' s := id rfl
@[simp] theorem stage_cfgE' (i j v : Nat) (s : State) (e' i' j' : Nat) : cfgE e' i' j' (stage i j v s) = cfgE e' i' j' s := id rfl
@[simp] theorem stage_wall' (i j v : Nat) (s : State) : wall (stage i j v s) = wall s := id rfl
@[simp] theorem stage_nowNs' (i j v : Nat) (s : State) : nowNs (stage i j v s) = nowNs s := id rfl
@[simp] theorem stage_monoNs' (i j v : Nat) (s : State) : monoNs (stage i j v s) = monoNs s := id rfl
@[simp] theorem stage_freeNow' (i j v : Nat) (s : State) : freeNow (stage i j v s) = freeNow s := id rfl
@[simp] theorem stage_roleOf' (i j v : Nat) (s : State) (q : Session) : roleOf q (stage i j v s) = roleOf q s := id rfl
@[simp] theorem stage_prt' (i j v : Nat) (s : State) (q : Nat) : prt q (stage i j v s) = prt q s := id rfl
@[simp] theorem stage_egr' (i j v : Nat) (s : State) (q : Nat) : egr q (stage i j v s) = egr q s := id rfl
@[simp] theorem stageE_reg' (e i j v : Nat) (s : State) (i' j' : Nat) : reg i' j' (stageE e i j v s) = reg i' j' s := id rfl
@[simp] theorem stageE_regE' (e i j v : Nat) (s : State) (e' i' j' : Nat) : regE e' i' j' (stageE e i j v s) = regE e' i' j' s := id rfl
@[simp] theorem stageE_cfg' (e i j v : Nat) (s : State) (i' j' : Nat) : cfg i' j' (stageE e i j v s) = cfg i' j' s := id rfl
@[simp] theorem stageE_cfgE' (e i j v : Nat) (s : State) (e' i' j' : Nat) : cfgE e' i' j' (stageE e i j v s) = cfgE e' i' j' s := id rfl
@[simp] theorem stageE_wall' (e i j v : Nat) (s : State) : wall (stageE e i j v s) = wall s := id rfl
@[simp] theorem stageE_nowNs' (e i j v : Nat) (s : State) : nowNs (stageE e i j v s) = nowNs s := id rfl
@[simp] theorem stageE_monoNs' (e i j v : Nat) (s : State) : monoNs (stageE e i j v s) = monoNs s := id rfl
@[simp] theorem stageE_freeNow' (e i j v : Nat) (s : State) : freeNow (stageE e i j v s) = freeNow s := id rfl
@[simp] theorem stageE_roleOf' (e i j v : Nat) (s : State) (q : Session) : roleOf q (stageE e i j v s) = roleOf q s := id rfl
@[simp] theorem stageE_prt' (e i j v : Nat) (s : State) (q : Nat) : prt q (stageE e i j v s) = prt q s := id rfl
@[simp] theorem stageE_egr' (e i j v : Nat) (s : State) (q : Nat) : egr q (stageE e i j v s) = egr q s := id rfl
@[simp] theorem emit_reg' (o : Out) (s : State) (i' j' : Nat) : reg i' j' (emit o s) = reg i' j' s := id rfl
@[simp] theorem emit_regE' (o : Out) (s : State) (e' i' j' : Nat) : regE e' i' j' (emit o s) = regE e' i' j' s := id rfl
@[simp] theorem emit_cfg' (o : Out) (s : State) (i' j' : Nat) : cfg i' j' (emit o s) = cfg i' j' s := id rfl
@[simp] theorem emit_cfgE' (o : Out) (s : State) (e' i' j' : Nat) : cfgE e' i' j' (emit o s) = cfgE e' i' j' s := id rfl
@[simp] theorem emit_wall' (o : Out) (s : State) : wall (emit o s) = wall s := id rfl
@[simp] theorem emit_nowNs' (o : Out) (s : State) : nowNs (emit o s) = nowNs s := id rfl
@[simp] theorem emit_monoNs' (o : Out) (s : State) : monoNs (emit o s) = monoNs s := id rfl
@[simp] theorem emit_freeNow' (o : Out) (s : State) : freeNow (emit o s) = freeNow s := id rfl
@[simp] theorem emit_roleOf' (o : Out) (s : State) (q : Session) : roleOf q (emit o s) = roleOf q s := id rfl
@[simp] theorem emit_prt' (o : Out) (s : State) (q : Nat) : prt q (emit o s) = prt q s := id rfl
@[simp] theorem emit_egr' (o : Out) (s : State) (q : Nat) : egr q (emit o s) = egr q s := id rfl
@[simp] theorem useFree_reg' (s : State) (i' j' : Nat) : reg i' j' (useFree s) = reg i' j' s := id rfl
@[simp] theorem useFree_regE' (s : State) (e' i' j' : Nat) : regE e' i' j' (useFree s) = regE e' i' j' s := id rfl
@[simp] theorem useFree_cfg' (s : State) (i' j' : Nat) : cfg i' j' (useFree s) = cfg i' j' s := id rfl
@[simp] theorem useFree_cfgE' (s : State) (e' i' j' : Nat) : cfgE e' i' j' (useFree s) = cfgE e' i' j' s := id rfl
@[simp] theorem useFree_wall' (s : State) : wall (useFree s) = wall s := id rfl
@[simp] theorem useFree_nowNs' (s : State) : nowNs (useFree s) = nowNs s := id rfl
@[simp] theorem useFree_monoNs' (s : State) : monoNs (useFree s) = monoNs s := id rfl
@[simp] theorem useFree_roleOf' (s : State) (q : Session) : roleOf q (useFree s) = roleOf q s := id rfl
@[simp] theorem useFree_prt' (s : State) (q : Nat) : prt q (useFree s) = prt q s := id rfl
@[simp] theorem useFree_egr' (s : State) (q : Nat) : egr q (useFree s) = egr q s := id rfl
@[simp] theorem owe_reg' (n d : Nat) (s : State) (i' j' : Nat) : reg i' j' (owe n d s) = reg i' j' s := id rfl
@[simp] theorem owe_regE' (n d : Nat) (s : State) (e' i' j' : Nat) : regE e' i' j' (owe n d s) = regE e' i' j' s := id rfl
@[simp] theorem owe_cfg' (n d : Nat) (s : State) (i' j' : Nat) : cfg i' j' (owe n d s) = cfg i' j' s := id rfl
@[simp] theorem owe_cfgE' (n d : Nat) (s : State) (e' i' j' : Nat) : cfgE e' i' j' (owe n d s) = cfgE e' i' j' s := id rfl
@[simp] theorem owe_wall' (n d : Nat) (s : State) : wall (owe n d s) = wall s := id rfl
@[simp] theorem owe_nowNs' (n d : Nat) (s : State) : nowNs (owe n d s) = nowNs s := id rfl
@[simp] theorem owe_monoNs' (n d : Nat) (s : State) : monoNs (owe n d s) = monoNs s := id rfl
@[simp] theorem owe_freeNow' (n d : Nat) (s : State) : freeNow (owe n d s) = freeNow s := id rfl
@[simp] theorem owe_roleOf' (n d : Nat) (s : State) (q : Session) : roleOf q (owe n d s) = roleOf q s := id rfl
@[simp] theorem owe_prt' (n d : Nat) (s : State) (q : Nat) : prt q (owe n d s) = prt q s := id rfl
@[simp] theorem owe_egr' (n d : Nat) (s : State) (q : Nat) : egr q (owe n d s) = egr q s := id rfl
@[simp] theorem countBy_cfg' (w i j n : Nat) (s : State) (i' j' : Nat) : cfg i' j' (countBy w i j n s) = cfg i' j' s := id rfl
@[simp] theorem countBy_cfgE' (w i j n : Nat) (s : State) (e' i' j' : Nat) : cfgE e' i' j' (countBy w i j n s) = cfgE e' i' j' s := id rfl
@[simp] theorem countBy_wall' (w i j n : Nat) (s : State) : wall (countBy w i j n s) = wall s := id rfl
@[simp] theorem countBy_nowNs' (w i j n : Nat) (s : State) : nowNs (countBy w i j n s) = nowNs s := id rfl
@[simp] theorem countBy_monoNs' (w i j n : Nat) (s : State) : monoNs (countBy w i j n s) = monoNs s := id rfl
@[simp] theorem countBy_freeNow' (w i j n : Nat) (s : State) : freeNow (countBy w i j n s) = freeNow s := id rfl
@[simp] theorem countBy_roleOf' (w i j n : Nat) (s : State) (q : Session) : roleOf q (countBy w i j n s) = roleOf q s := id rfl
@[simp] theorem countBy_prt' (w i j n : Nat) (s : State) (q : Nat) : prt q (countBy w i j n s) = prt q s := id rfl
@[simp] theorem countBy_egr' (w i j n : Nat) (s : State) (q : Nat) : egr q (countBy w i j n s) = egr q s := id rfl
@[simp] theorem count_cfg' (i j : Nat) (s : State) (i' j' : Nat) : cfg i' j' (count i j s) = cfg i' j' s := id rfl
@[simp] theorem count_cfgE' (i j : Nat) (s : State) (e' i' j' : Nat) : cfgE e' i' j' (count i j s) = cfgE e' i' j' s := id rfl
@[simp] theorem count_wall' (i j : Nat) (s : State) : wall (count i j s) = wall s := id rfl
@[simp] theorem count_nowNs' (i j : Nat) (s : State) : nowNs (count i j s) = nowNs s := id rfl
@[simp] theorem count_monoNs' (i j : Nat) (s : State) : monoNs (count i j s) = monoNs s := id rfl
@[simp] theorem count_freeNow' (i j : Nat) (s : State) : freeNow (count i j s) = freeNow s := id rfl
@[simp] theorem count_roleOf' (i j : Nat) (s : State) (q : Session) : roleOf q (count i j s) = roleOf q s := id rfl
@[simp] theorem count_prt' (i j : Nat) (s : State) (q : Nat) : prt q (count i j s) = prt q s := id rfl
@[simp] theorem count_egr' (i j : Nat) (s : State) (q : Nat) : egr q (count i j s) = egr q s := id rfl
@[simp] theorem countE_cfg' (e i j : Nat) (s : State) (i' j' : Nat) : cfg i' j' (countE e i j s) = cfg i' j' s := id rfl
@[simp] theorem countE_cfgE' (e i j : Nat) (s : State) (e' i' j' : Nat) : cfgE e' i' j' (countE e i j s) = cfgE e' i' j' s := id rfl
@[simp] theorem countE_wall' (e i j : Nat) (s : State) : wall (countE e i j s) = wall s := id rfl
@[simp] theorem countE_nowNs' (e i j : Nat) (s : State) : nowNs (countE e i j s) = nowNs s := id rfl
@[simp] theorem countE_monoNs' (e i j : Nat) (s : State) : monoNs (countE e i j s) = monoNs s := id rfl
@[simp] theorem countE_freeNow' (e i j : Nat) (s : State) : freeNow (countE e i j s) = freeNow s := id rfl
@[simp] theorem countE_roleOf' (e i j : Nat) (s : State) (q : Session) : roleOf q (countE e i j s) = roleOf q s := id rfl
@[simp] theorem countE_prt' (e i j : Nat) (s : State) (q : Nat) : prt q (countE e i j s) = prt q s := id rfl
@[simp] theorem countE_egr' (e i j : Nat) (s : State) (q : Nat) : egr q (countE e i j s) = egr q s := id rfl
@[simp] theorem countE8_cfg' (e i j : Nat) (s : State) (i' j' : Nat) : cfg i' j' (countE8 e i j s) = cfg i' j' s := id rfl
@[simp] theorem countE8_cfgE' (e i j : Nat) (s : State) (e' i' j' : Nat) : cfgE e' i' j' (countE8 e i j s) = cfgE e' i' j' s := id rfl
@[simp] theorem countE8_wall' (e i j : Nat) (s : State) : wall (countE8 e i j s) = wall s := id rfl
@[simp] theorem countE8_nowNs' (e i j : Nat) (s : State) : nowNs (countE8 e i j s) = nowNs s := id rfl
@[simp] theorem countE8_monoNs' (e i j : Nat) (s : State) : monoNs (countE8 e i j s) = monoNs s := id rfl
@[simp] theorem countE8_freeNow' (e i j : Nat) (s : State) : freeNow (countE8 e i j s) = freeNow s := id rfl
@[simp] theorem countE8_roleOf' (e i j : Nat) (s : State) (q : Session) : roleOf q (countE8 e i j s) = roleOf q s := id rfl
@[simp] theorem countE8_prt' (e i j : Nat) (s : State) (q : Nat) : prt q (countE8 e i j s) = prt q s := id rfl
@[simp] theorem countE8_egr' (e i j : Nat) (s : State) (q : Nat) : egr q (countE8 e i j s) = egr q s := id rfl
@[simp] theorem announce_reg' (k n : Nat) (b : Bytes) (s : State) (i' j' : Nat) : reg i' j' (announce k n b s) = reg i' j' s := id rfl
@[simp] theorem announce_regE' (k n : Nat) (b : Bytes) (s : State) (e' i' j' : Nat) : regE e' i' j' (announce k n b s) = regE e' i' j' s := id rfl
@[simp] theorem announce_cfg' (k n : Nat) (b : Bytes) (s : State) (i' j' : Nat) : cfg i' j' (announce k n b s) = cfg i' j' s := id rfl
@[simp] theorem announce_cfgE' (k n : Nat) (b : Bytes) (s : State) (e' i' j' : Nat) : cfgE e' i' j' (announce k n b s) = cfgE e' i' j' s := id rfl
@[simp] theorem announce_wall' (k n : Nat) (b : Bytes) (s : State) : wall (announce k n b s) = wall s := id rfl
@[simp] theorem announce_nowNs' (k n : Nat) (b : Bytes) (s : State) : nowNs (announce k n b s) = nowNs s := id rfl
@[simp] theorem announce_monoNs' (k n : Nat) (b : Bytes) (s : State) : monoNs (announce k n b s) = monoNs s := id rfl
@[simp] theorem announce_freeNow' (k n : Nat) (b : Bytes) (s : State) : freeNow (announce k n b s) = freeNow s := id rfl
@[simp] theorem announce_roleOf' (k n : Nat) (b : Bytes) (s : State) (q : Session) : roleOf q (announce k n b s) = roleOf q s := id rfl
@[simp] theorem announce_prt' (k n : Nat) (b : Bytes) (s : State) (q : Nat) : prt q (announce k n b s) = prt q s := id rfl
@[simp] theorem announce_egr' (k n : Nat) (b : Bytes) (s : State) (q : Nat) : egr q (announce k n b s) = egr q s := id rfl
@[simp] theorem setPrt_reg' (p : Nat) (x : PortSt) (s : State) (i' j' : Nat) : reg i' j' (setPrt p x s) = reg i' j' s := id rfl
@[simp] theorem setPrt_regE' (p : Nat) (x : PortSt) (s : State) (e' i' j' : Nat) : regE e' i' j' (setPrt p x s) = regE e' i' j' s := id rfl
@[simp] theorem setPrt_cfg' (p : Nat) (x : PortSt) (s : State) (i' j' : Nat) : cfg i' j' (setPrt p x s) = cfg i' j' s := id rfl
@[simp] theorem setPrt_cfgE' (p : Nat) (x : PortSt) (s : State) (e' i' j' : Nat) : cfgE e' i' j' (setPrt p x s) = cfgE e' i' j' s := id rfl
@[simp] theorem setPrt_wall' (p : Nat) (x : PortSt) (s : State) : wall (setPrt p x s) = wall s := id rfl
@[simp] theorem setPrt_nowNs' (p : Nat) (x : PortSt) (s : State) : nowNs (setPrt p x s) = nowNs s := id rfl
@[simp] theorem setPrt_monoNs' (p : Nat) (x : PortSt) (s : State) : monoNs (setPrt p x s) = monoNs s := id rfl
@[simp] theorem setPrt_freeNow' (p : Nat) (x : PortSt) (s : State) : freeNow (setPrt p x s) = freeNow s := id rfl
@[simp] theorem setPrt_roleOf' (p : Nat) (x : PortSt) (s : State) (q : Session) : roleOf q (setPrt p x s) = roleOf q s := id rfl
@[simp] theorem setPrt_egr' (p : Nat) (x : PortSt) (s : State) (q : Nat) : egr q (setPrt p x s) = egr q s := id rfl
@[simp] theorem setEgr_reg' (p : Nat) (x : EgressSt) (s : State) (i' j' : Nat) : reg i' j' (setEgr p x s) = reg i' j' s := id rfl
@[simp] theorem setEgr_regE' (p : Nat) (x : EgressSt) (s : State) (e' i' j' : Nat) : regE e' i' j' (setEgr p x s) = regE e' i' j' s := id rfl
@[simp] theorem setEgr_cfg' (p : Nat) (x : EgressSt) (s : State) (i' j' : Nat) : cfg i' j' (setEgr p x s) = cfg i' j' s := id rfl
@[simp] theorem setEgr_cfgE' (p : Nat) (x : EgressSt) (s : State) (e' i' j' : Nat) : cfgE e' i' j' (setEgr p x s) = cfgE e' i' j' s := id rfl
@[simp] theorem setEgr_wall' (p : Nat) (x : EgressSt) (s : State) : wall (setEgr p x s) = wall s := id rfl
@[simp] theorem setEgr_nowNs' (p : Nat) (x : EgressSt) (s : State) : nowNs (setEgr p x s) = nowNs s := id rfl
@[simp] theorem setEgr_monoNs' (p : Nat) (x : EgressSt) (s : State) : monoNs (setEgr p x s) = monoNs s := id rfl
@[simp] theorem setEgr_freeNow' (p : Nat) (x : EgressSt) (s : State) : freeNow (setEgr p x s) = freeNow s := id rfl
@[simp] theorem setEgr_roleOf' (p : Nat) (x : EgressSt) (s : State) (q : Session) : roleOf q (setEgr p x s) = roleOf q s := id rfl
@[simp] theorem setEgr_prt' (p : Nat) (x : EgressSt) (s : State) (q : Nat) : prt q (setEgr p x s) = prt q s := id rfl
@[simp] theorem setPtpPort_reg' (p : Nat) (x : PtpPort) (s : State) (i' j' : Nat) : reg i' j' (setPtpPort p x s) = reg i' j' s := id rfl
@[simp] theorem setPtpPort_regE' (p : Nat) (x : PtpPort) (s : State) (e' i' j' : Nat) : regE e' i' j' (setPtpPort p x s) = regE e' i' j' s := id rfl
@[simp] theorem setPtpPort_cfg' (p : Nat) (x : PtpPort) (s : State) (i' j' : Nat) : cfg i' j' (setPtpPort p x s) = cfg i' j' s := id rfl
@[simp] theorem setPtpPort_cfgE' (p : Nat) (x : PtpPort) (s : State) (e' i' j' : Nat) : cfgE e' i' j' (setPtpPort p x s) = cfgE e' i' j' s := id rfl
@[simp] theorem setPtpPort_freeNow' (p : Nat) (x : PtpPort) (s : State) : freeNow (setPtpPort p x s) = freeNow s := id rfl
@[simp] theorem setPtpPort_roleOf' (p : Nat) (x : PtpPort) (s : State) (q : Session) : roleOf q (setPtpPort p x s) = roleOf q s := id rfl
@[simp] theorem setPtpPort_prt' (p : Nat) (x : PtpPort) (s : State) (q : Nat) : prt q (setPtpPort p x s) = prt q s := id rfl
@[simp] theorem setPtpPort_egr' (p : Nat) (x : PtpPort) (s : State) (q : Nat) : egr q (setPtpPort p x s) = egr q s := id rfl
@[simp] theorem setMdio_reg' (p : Nat) (x : MdioSt) (s : State) (i' j' : Nat) : reg i' j' (setMdio p x s) = reg i' j' s := id rfl
@[simp] theorem setMdio_regE' (p : Nat) (x : MdioSt) (s : State) (e' i' j' : Nat) : regE e' i' j' (setMdio p x s) = regE e' i' j' s := id rfl
@[simp] theorem setMdio_cfg' (p : Nat) (x : MdioSt) (s : State) (i' j' : Nat) : cfg i' j' (setMdio p x s) = cfg i' j' s := id rfl
@[simp] theorem setMdio_cfgE' (p : Nat) (x : MdioSt) (s : State) (e' i' j' : Nat) : cfgE e' i' j' (setMdio p x s) = cfgE e' i' j' s := id rfl
@[simp] theorem setMdio_wall' (p : Nat) (x : MdioSt) (s : State) : wall (setMdio p x s) = wall s := id rfl
@[simp] theorem setMdio_nowNs' (p : Nat) (x : MdioSt) (s : State) : nowNs (setMdio p x s) = nowNs s := id rfl
@[simp] theorem setMdio_monoNs' (p : Nat) (x : MdioSt) (s : State) : monoNs (setMdio p x s) = monoNs s := id rfl
@[simp] theorem setMdio_freeNow' (p : Nat) (x : MdioSt) (s : State) : freeNow (setMdio p x s) = freeNow s := id rfl
@[simp] theorem setMdio_roleOf' (p : Nat) (x : MdioSt) (s : State) (q : Session) : roleOf q (setMdio p x s) = roleOf q s := id rfl
@[simp] theorem setMdio_prt' (p : Nat) (x : MdioSt) (s : State) (q : Nat) : prt q (setMdio p x s) = prt q s := id rfl
@[simp] theorem setMdio_egr' (p : Nat) (x : MdioSt) (s : State) (q : Nat) : egr q (setMdio p x s) = egr q s := id rfl
@[simp] theorem raise_cfg' (i j v : Nat) (s : State) (i' j' : Nat) : cfg i' j' (raise i j v s) = cfg i' j' s := by unfold raise; split <;> rfl
@[simp] theorem raise_cfgE' (i j v : Nat) (s : State) (e' i' j' : Nat) : cfgE e' i' j' (raise i j v s) = cfgE e' i' j' s := by unfold raise; split <;> rfl
@[simp] theorem raise_wall' (i j v : Nat) (s : State) : wall (raise i j v s) = wall s := by unfold raise; split <;> rfl
@[simp] theorem raise_nowNs' (i j v : Nat) (s : State) : nowNs (raise i j v s) = nowNs s := by unfold raise; split <;> rfl
@[simp] theorem raise_monoNs' (i j v : Nat) (s : State) : monoNs (raise i j v s) = monoNs s := by unfold raise; split <;> rfl
@[simp] theorem raise_freeNow' (i j v : Nat) (s : State) : freeNow (raise i j v s) = freeNow s := by unfold raise; split <;> rfl
@[simp] theorem raise_roleOf' (i j v : Nat) (s : State) (q : Session) : roleOf q (raise i j v s) = roleOf q s := by unfold raise; split <;> rfl
@[simp] theorem raise_prt' (i j v : Nat) (s : State) (q : Nat) : prt q (raise i j v s) = prt q s := by unfold raise; split <;> rfl
@[simp] theorem raise_egr' (i j v : Nat) (s : State) (q : Nat) : egr q (raise i j v s) = egr q s := by unfold raise; split <;> rfl
@[simp] theorem msix_reg' (v : Nat) (s : State) (i' j' : Nat) : reg i' j' (msix v s) = reg i' j' s := by unfold msix; split <;> rfl
@[simp] theorem msix_regE' (v : Nat) (s : State) (e' i' j' : Nat) : regE e' i' j' (msix v s) = regE e' i' j' s := by unfold msix; split <;> rfl
@[simp] theorem msix_cfg' (v : Nat) (s : State) (i' j' : Nat) : cfg i' j' (msix v s) = cfg i' j' s := by unfold msix; split <;> rfl
@[simp] theorem msix_cfgE' (v : Nat) (s : State) (e' i' j' : Nat) : cfgE e' i' j' (msix v s) = cfgE e' i' j' s := by unfold msix; split <;> rfl
@[simp] theorem msix_wall' (v : Nat) (s : State) : wall (msix v s) = wall s := by unfold msix; split <;> rfl
@[simp] theorem msix_nowNs' (v : Nat) (s : State) : nowNs (msix v s) = nowNs s := by unfold msix; split <;> rfl
@[simp] theorem msix_monoNs' (v : Nat) (s : State) : monoNs (msix v s) = monoNs s := by unfold msix; split <;> rfl
@[simp] theorem msix_freeNow' (v : Nat) (s : State) : freeNow (msix v s) = freeNow s := by unfold msix; split <;> rfl
@[simp] theorem msix_roleOf' (v : Nat) (s : State) (q : Session) : roleOf q (msix v s) = roleOf q s := by unfold msix; split <;> rfl
@[simp] theorem msix_prt' (v : Nat) (s : State) (q : Nat) : prt q (msix v s) = prt q s := by unfold msix; split <;> rfl
@[simp] theorem msix_egr' (v : Nat) (s : State) (q : Nat) : egr q (msix v s) = egr q s := by unfold msix; split <;> rfl
@[simp] theorem touch_reg' (ses : Session) (s : State) (i' j' : Nat) : reg i' j' (touch ses s) = reg i' j' s := by unfold touch; split <;> rfl
@[simp] theorem touch_regE' (ses : Session) (s : State) (e' i' j' : Nat) : regE e' i' j' (touch ses s) = regE e' i' j' s := by unfold touch; split <;> rfl
@[simp] theorem touch_cfg' (ses : Session) (s : State) (i' j' : Nat) : cfg i' j' (touch ses s) = cfg i' j' s := by unfold touch; split <;> rfl
@[simp] theorem touch_cfgE' (ses : Session) (s : State) (e' i' j' : Nat) : cfgE e' i' j' (touch ses s) = cfgE e' i' j' s := by unfold touch; split <;> rfl
@[simp] theorem touch_wall' (ses : Session) (s : State) : wall (touch ses s) = wall s := by unfold touch; split <;> rfl
@[simp] theorem touch_nowNs' (ses : Session) (s : State) : nowNs (touch ses s) = nowNs s := by unfold touch; split <;> rfl
@[simp] theorem touch_monoNs' (ses : Session) (s : State) : monoNs (touch ses s) = monoNs s := by unfold touch; split <;> rfl
@[simp] theorem touch_freeNow' (ses : Session) (s : State) : freeNow (touch ses s) = freeNow s := by unfold touch; split <;> rfl
@[simp] theorem touch_roleOf' (ses : Session) (s : State) (q : Session) : roleOf q (touch ses s) = roleOf q s := by unfold touch; split <;> rfl
@[simp] theorem touch_prt' (ses : Session) (s : State) (q : Nat) : prt q (touch ses s) = prt q s := by unfold touch; split <;> rfl
@[simp] theorem touch_egr' (ses : Session) (s : State) (q : Nat) : egr q (touch ses s) = egr q s := by unfold touch; split <;> rfl
@[simp] theorem hostEvent_cfg' (b : Nat) (s : State) (i' j' : Nat) : cfg i' j' (hostEvent b s) = cfg i' j' s := by simp only [cfg, hostEvent_cfg]
@[simp] theorem hostEvent_cfgE' (b : Nat) (s : State) (e' i' j' : Nat) : cfgE e' i' j' (hostEvent b s) = cfgE e' i' j' s := by simp only [cfgE, hostEvent_cfg]
@[simp] theorem hostEvent_wall' (b : Nat) (s : State) : wall (hostEvent b s) = wall s := by simp only [wall, hostEvent_time]
@[simp] theorem hostEvent_nowNs' (b : Nat) (s : State) : nowNs (hostEvent b s) = nowNs s := by simp only [nowNs, hostEvent_time]
@[simp] theorem hostEvent_monoNs' (b : Nat) (s : State) : monoNs (hostEvent b s) = monoNs s := by simp only [monoNs, hostEvent_time]
@[simp] theorem hostEvent_freeNow' (b : Nat) (s : State) : freeNow (hostEvent b s) = freeNow s := by simp only [freeNow, hostEvent_fresh]
@[simp] theorem hostEvent_roleOf' (b : Nat) (s : State) (q : Session) : roleOf q (hostEvent b s) = roleOf q s := by simp only [roleOf, hostEvent_crust]
@[simp] theorem hostEvent_prt' (b : Nat) (s : State) (q : Nat) : prt q (hostEvent b s) = prt q s := by simp only [prt, hostEvent_ports]
@[simp] theorem hostEvent_egr' (b : Nat) (s : State) (q : Nat) : egr q (hostEvent b s) = egr q s := by simp only [egr, hostEvent_egress]

end Sys2Proof.Machine
end

