-- ==== Sys2Proof/Laws/Store.lean ====
section
/-!
SUPPORT. Store.lean: reads of sparse tables and of the object stores after an update, and the canonical form of a table.
-/
-- One declaration after the other: it keeps the memory of the package as one text within bounds.
set_option Elab.async false

namespace Sys2Proof.Machine

/-! ### Sparse tables -/

@[simp] theorem tget_nil {α : Type} (d : α) (k : Nat) : tget d [] k = d := rfl

theorem tget_tput {α : Type} (d : α) (t : Tab α) (k k' : Nat) (v : α) :
    tget d (tput t k v) k' = if k = k' then v else tget d t k' := by
  induction t with
  | nil => simp [tput, tget]
  | cons e t ih =>
    obtain ⟨j, w⟩ := e
    by_cases h : j = k
    · subst h; by_cases h' : j = k' <;> simp [tput, tget, h']
    · by_cases h2 : k < j
      · simp [tput, tget, h, h2]
      · by_cases h3 : j = k'
        · subst h3; simp [tput, tget, h, h2, Ne.symm h]
        · simp [tput, tget, h, h2, h3, ih]

theorem tget_tdel {α : Type} (d : α) (t : Tab α) (k k' : Nat) :
    tget d (tdel t k) k' = if k = k' then d else tget d t k' := by
  induction t with
  | nil => simp [tdel]
  | cons e t ih =>
    obtain ⟨j, w⟩ := e
    by_cases h : j = k
    · subst h; simp only [tdel, if_true, ih, tget]; split <;> rfl
    · by_cases h3 : j = k'
      · subst h3; simp [tdel, tget, h, Ne.symm h]
      · simp [tdel, tget, h, h3, ih]

theorem tget_tset {α : Type} [DecidableEq α] (d : α) (t : Tab α) (k k' : Nat) (v : α) :
    tget d (tset d t k v) k' = if k = k' then v else tget d t k' := by
  unfold tset
  by_cases h : v = d
  · subst h; simp [tget_tdel]
  · simp [h, tget_tput]

@[simp] theorem tget_tset_same {α : Type} [DecidableEq α] (d : α) (t : Tab α) (k : Nat) (v : α) :
    tget d (tset d t k v) k = v := by simp [tget_tset]

theorem tget_tset_ne {α : Type} [DecidableEq α] (d : α) (t : Tab α) (k k' : Nat) (v : α) (h : k ≠ k') :
    tget d (tset d t k v) k' = tget d t k' := by simp [tget_tset, h]

/-! ### Object stores -/

theorem sget_sset (t : Tab Nat) (k k' v : Nat) : sget (sset t k v) k' = if k = k' then v else sget t k' := by
  unfold sget sset tset
  by_cases h : k = k'
  · subst h; split
    · simp [tget_tdel, *]
    · simp [tget_tput]
  · split
    · simp [tget_tdel, h]
    · simp [tget_tput, h]

theorem reg_setReg (i j i' j' v : Nat) (s : State) :
    reg i j (setReg i' j' v s) = if okey i' j' = okey i j then v else reg i j s := by simp [reg, setReg, sget_sset]

@[simp] theorem reg_setReg_same (i j v : Nat) (s : State) : reg i j (setReg i j v s) = v := by simp [reg_setReg]

@[simp] theorem reg_setReg_sub (i j j' v : Nat) (s : State) (h : j' ≠ j) : reg i j (setReg i j' v s) = reg i j s := by
  simp [reg_setReg, okey, h]

theorem reg_setReg_ne (i j i' j' v : Nat) (s : State) (h : okey i' j' ≠ okey i j) :
    reg i j (setReg i' j' v s) = reg i j s := by simp [reg_setReg, h]

theorem regE_setRegE (e i j e' i' j' v : Nat) (s : State) :
    regE e i j (setRegE e' i' j' v s) = if ekey e' i' j' = ekey e i j then v else regE e i j s := by
  simp [regE, setRegE, sget_sset]

@[simp] theorem regE_setRegE_same (e i j v : Nat) (s : State) : regE e i j (setRegE e i j v s) = v := by
  simp [regE_setRegE]

theorem reg_setRegE (i j e' i' j' v : Nat) (s : State) (h : ekey e' i' j' ≠ okey i j) :
    reg i j (setRegE e' i' j' v s) = reg i j s := by simp [reg, setRegE, sget_sset, h]

theorem regE_setReg (e i j i' j' v : Nat) (s : State) (h : okey i' j' ≠ ekey e i j) :
    regE e i j (setReg i' j' v s) = regE e i j s := by simp [regE, setReg, sget_sset, h]

@[simp] theorem reg_count_same (i j : Nat) (s : State) : reg i j (count i j s) = min 4294967295 (reg i j s + 1) := by
  simp [count, countBy]

@[simp] theorem reg_count_sub (i j j' : Nat) (s : State) (h : j' ≠ j) : reg i j (count i j' s) = reg i j s := by
  simp [count, countBy, h]

theorem reg_count_ne (i j i' j' : Nat) (s : State) (h : okey i' j' ≠ okey i j) : reg i j (count i' j' s) = reg i j s := by
  simp [count, countBy, reg_setReg, h]

/-! ### Canonical form -/

theorem tabWfFrom_le {α : Type} [DecidableEq α] (d : Nat → α) (t : Tab α) :
    ∀ b c, c ≤ b → tabWfFrom d b t = true → tabWfFrom d c t = true := by
  cases t with
  | nil => intros; rfl
  | cons e t =>
    intro b c h hw
    obtain ⟨k, v⟩ := e
    simp only [tabWfFrom, Bool.and_eq_true, decide_eq_true_eq] at hw ⊢
    exact ⟨⟨Nat.le_trans h hw.1.1, hw.1.2⟩, hw.2⟩

theorem tdel_keeps {α : Type} [DecidableEq α] (d : Nat → α) (k : Nat) (t : Tab α) :
    ∀ b, tabWfFrom d b t = true → tabWfFrom d b (tdel t k) = true := by
  induction t with
  | nil => intros; rfl
  | cons e t ih =>
    intro b hw
    obtain ⟨j, w⟩ := e
    simp only [tabWfFrom, Bool.and_eq_true, decide_eq_true_eq] at hw
    by_cases h : j = k
    · simp only [tdel, h, if_true]
      exact ih b (tabWfFrom_le d t _ _ (by omega) hw.2)
    · simp only [tdel, h, if_false, tabWfFrom, Bool.and_eq_true, decide_eq_true_eq]
      exact ⟨hw.1, ih _ hw.2⟩

theorem tput_keeps {α : Type} [DecidableEq α] (d : Nat → α) (k : Nat) (v : α) (hv : v ≠ d k) (t : Tab α) :
    ∀ b, b ≤ k → tabWfFrom d b t = true → tabWfFrom d b (tput t k v) = true := by
  induction t with
  | nil => intro b hb _; simp [tput, tabWfFrom, hb, hv]
  | cons e t ih =>
    intro b hb hw
    obtain ⟨j, w⟩ := e
    simp only [tabWfFrom, Bool.and_eq_true, decide_eq_true_eq] at hw
    by_cases h : j = k
    · subst h; simp [tput, tabWfFrom, hw.2, hv, hb]
    · by_cases h2 : k < j
      · simp only [tput, h, h2, if_true, if_false, tabWfFrom, Bool.and_eq_true, decide_eq_true_eq]
        exact ⟨⟨hb, hv⟩, ⟨⟨by omega, hw.1.2⟩, hw.2⟩⟩
      · simp only [tput, h, h2, if_false, tabWfFrom, Bool.and_eq_true, decide_eq_true_eq]
        exact ⟨hw.1, ih _ (by omega) hw.2⟩

/-- An update keeps the canonical form. -/
theorem tset_keeps {α : Type} [DecidableEq α] (d : Nat → α) (t : Tab α) (k : Nat) (v : α) (h : tabWf d t = true) :
    tabWf d (tset (d k) t k v) = true := by
  unfold tset
  split
  · exact tdel_keeps d k t 0 h
  · exact tput_keeps d k v ‹_› t 0 (Nat.zero_le _) h

theorem sset_keeps (t : Tab Nat) (k v : Nat) (h : tabWf keyDflt t = true) : tabWf keyDflt (sset t k v) = true :=
  tset_keeps keyDflt t k v h

end Sys2Proof.Machine
end

