-- ==== Sys2Proof/Laws/Kept.lean ====
section
/-!
SUPPORT. Kept.lean: what every operation of the model keeps: the canonical form of the object stores, and the queue of waiting commands.
-/
-- One declaration after the other: it keeps the memory of the package as one text within bounds.
set_option Elab.async false

namespace Sys2Proof.Machine

/-- The stores of a state are in canonical form, and its queue is q. -/
def Kept (q : List Instr) (s : State) : Prop := Stores.ok s ∧ s.pending = q

/-- What an outcome keeps where it is a next state. -/
def KeptOut (q : List Instr) (r : Host.Outcome State Fault Refusal) : Prop :=
  match r with
  | .next t => Kept q t
  | _ => True

variable {q : List Instr}

/-- A state with the stores and the queue of one that is kept. -/
theorem Kept.of_eq {s t : State} (h : Kept q s) (h1 : t.regs = s.regs) (h2 : t.cfg = s.cfg) (h3 : t.old = s.old) (h4 : t.staged = s.staged)
    (h5 : t.pending = s.pending) : Kept q t := by
  unfold Kept Stores.ok at *
  rw [h1, h2, h3, h4, h5]; exact h

/-- An update of other fields. -/
theorem mk_kept_iff (X : State) (dev : DevState) (epoch : Nat) (fresh : Nat) (out : List Out) (access : AccessSt) (ports : Tab PortSt) (mdio :
    Tab MdioSt) (idScan : List Nat) (idWait : Tab Nat) (dyn : Tab DynEntry) (flush : Option (Nat × Nat × Nat)) (learned : Nat) (agedAt :
    Nat) (decs : List Decision) (buf : BufferSt) (egress : Tab EgressSt) (gates : Tab GateSt) (streamGates : Tab GateSt) (meters : Tab
    MeterSt) (frer : Tab FrerSt) (sieve : SieveSt) (lanes : Tab LaneSt) (limiters : Tab LimiterSt) (faults : FaultSt) (crust : CrustSt)
    (time : TimeSt) (power : PowerSt) (pecks : PeckSt) (bridge : BridgeSt) (dma : Tab DmaSt) (braid : BraidSt) (wake : WakeSt) (update :
    UpdateSt) (pair : PairSt) (referee : Tab RefSt) :
    Kept q (State.mk dev X.regs X.cfg X.old X.staged epoch fresh out access ports mdio idScan idWait dyn flush learned agedAt decs buf
    egress gates streamGates meters frer sieve lanes limiters faults crust time power pecks bridge dma braid wake update pair referee
    X.pending) ↔ Kept q X := Iff.rfl


theorem ite_kept {c : Prop} [Decidable c] {a b : State} (ha : Kept q a) (hb : Kept q b) : Kept q (if c then a else b) := by
  split <;> assumption

theorem ite_kept_fst {α : Type} {c : Prop} [Decidable c] {a b : State × α} (ha : Kept q a.1) (hb : Kept q b.1) : Kept q (if c then a else b).1 := by
  split <;> assumption

theorem ite_kept_snd {α : Type} {c : Prop} [Decidable c] {a b : α × State} (ha : Kept q a.2) (hb : Kept q b.2) : Kept q (if c then a else b).2 := by
  split <;> assumption

theorem ite_kept_svc {c : Prop} [Decidable c] {f g : State → State × Nat} {s : State} (ha : Kept q (f s).1) (hb : Kept q (g s).1) :
    Kept q ((if c then f else g) s).1 := by
  split <;> assumption

theorem each_kept {α : Type} (l : List α) (f : α → State → State) (s : State) (hf : ∀ a s, Kept q s → Kept q (f a s)) (h : Kept q s) :
    Kept q (each l f s) := by
  unfold each
  induction l generalizing s with
  | nil => exact h
  | cons a l ih => exact ih _ (hf a s h)

theorem foldl_kept {α : Type} (l : List α) (f : State → α → State) (s : State) (hf : ∀ s a, Kept q s → Kept q (f s a)) (h : Kept q s) :
    Kept q (l.foldl f s) := by
  induction l generalizing s with
  | nil => exact h
  | cons a l ih => exact ih _ (hf s a h)

/-- A switch of the three banks. -/
theorem banks_kept {s t : State} (h : Kept q s) (h1 : t.regs = s.regs) (h2 : tabWf keyDflt t.cfg.objs = true) (h3 : tabWf keyDflt t.old.objs = true)
    (h4 : tabWf keyDflt t.staged.objs = true) (h5 : t.pending = s.pending) : Kept q t := by
  refine ⟨⟨?_, h2, h3, h4⟩, ?_⟩
  · rw [h1]; exact h.1.1
  · rw [h5]; exact h.2

theorem setReg_kept (i j v : Nat) (s : State) (h : Kept q s) : Kept q (setReg i j v s) :=
  ⟨⟨sset_keeps _ _ _ h.1.1, h.1.2⟩, h.2⟩

theorem setRegE_kept (e i j v : Nat) (s : State) (h : Kept q s) : Kept q (setRegE e i j v s) :=
  ⟨⟨sset_keeps _ _ _ h.1.1, h.1.2⟩, h.2⟩

theorem stage_kept (i j v : Nat) (s : State) (h : Kept q s) : Kept q (stage i j v s) :=
  ⟨⟨h.1.1, h.1.2.1, h.1.2.2.1, sset_keeps _ _ _ h.1.2.2.2⟩, h.2⟩

theorem stageE_kept (e i j v : Nat) (s : State) (h : Kept q s) : Kept q (stageE e i j v s) :=
  ⟨⟨h.1.1, h.1.2.1, h.1.2.2.1, sset_keeps _ _ _ h.1.2.2.2⟩, h.2⟩

end Sys2Proof.Machine
end

