-- ==== Sys2Proof/Laws/KeptCore.lean ====
section
/-! SUPPORT. What each definition over the registers, links, pairing leases, DMA core, Safe State and the fault collector keeps: the object
stores stay in their canonical form and the command queue stays as it is (`Kept`, Sys2Proof/Laws/Kept.lean), one lemma per definition. -/

set_option linter.unusedVariables false
set_option linter.unreachableTactic false
set_option linter.unusedTactic false
set_option linter.unusedSimpArgs false
set_option maxRecDepth 4000

-- One declaration after the other: it keeps the memory of the package as one text within bounds.
set_option Elab.async false

namespace Sys2Proof.Machine
variable {q : List Instr}

theorem when_kept (b : Bool) (f : State → State) (s : State) (h1 : ∀ s, Kept q s → Kept q (f s)) (h2 : Kept q s) : Kept q (when b f s) := by
  unfold when
  try dsimp only
  repeat' (first | with_reducible assumption | intro _ | with_reducible (first | apply h1) | simp only [mk_kept_iff] | split)

theorem countBy_kept (w : Nat) (i : Nat) (j : Nat) (n : Nat) (s : State) (h4 : Kept q s) : Kept q (countBy w i j n s) := by
  unfold countBy
  try dsimp only
  repeat' (first | with_reducible assumption | intro _ | with_reducible (first | apply setReg_kept))

theorem count_kept (i : Nat) (j : Nat) (s : State) (h2 : Kept q s) : Kept q (count i j s) := by
  unfold count
  try dsimp only
  repeat' (first | with_reducible assumption | intro _ | with_reducible (first | apply countBy_kept))

theorem countE_kept (e : Nat) (i : Nat) (j : Nat) (s : State) (h3 : Kept q s) : Kept q (countE e i j s) := by
  unfold countE
  try dsimp only
  repeat' (first | with_reducible assumption | intro _ | with_reducible (first | apply setRegE_kept))

theorem countE8_kept (e : Nat) (i : Nat) (j : Nat) (s : State) (h3 : Kept q s) : Kept q (countE8 e i j s) := by
  unfold countE8
  try dsimp only
  repeat' (first | with_reducible assumption | intro _ | with_reducible (first | apply setRegE_kept))

theorem raise_kept (i : Nat) (j : Nat) (v : Nat) (s : State) (h3 : Kept q s) : Kept q (raise i j v s) := by
  unfold raise
  try dsimp only
  repeat' (first | with_reducible assumption | intro _ | with_reducible (first | apply setReg_kept) | simp only [mk_kept_iff] | split)

theorem emit_kept (o : Out) (s : State) (h1 : Kept q s) : Kept q (emit o s) := by
  unfold emit
  try dsimp only
  repeat' (first | with_reducible assumption | intro _ | with_reducible (first | apply ite_kept) | simp only [mk_kept_iff])

theorem useFree_kept (s : State) (h0 : Kept q s) : Kept q (useFree s) := by
  unfold useFree
  try dsimp only
  repeat' (first | with_reducible assumption | intro _ | with_reducible (first | apply ite_kept) | simp only [mk_kept_iff])

theorem msix_kept (v : Nat) (s : State) (h1 : Kept q s) : Kept q (msix v s) := by
  unfold msix
  try dsimp only
  repeat' (first | with_reducible assumption | intro _ | with_reducible (first | apply ite_kept | apply emit_kept) | simp only [mk_kept_iff])

theorem hostEvent_kept (b : Nat) (s : State) (h1 : Kept q s) : Kept q (hostEvent b s) := by
  unfold hostEvent
  try dsimp only
  repeat' (first | with_reducible assumption | intro _ | with_reducible (first | apply msix_kept | apply setReg_kept) | simp only [mk_kept_iff] | split)

theorem announce_kept (kind : Nat) (number : Nat) (data : Bytes) (s : State) (h3 : Kept q s) : Kept q (announce kind number data s) := by
  unfold announce
  try dsimp only
  repeat' (first | with_reducible assumption | intro _ | with_reducible (first | apply ite_kept) | simp only [mk_kept_iff])

theorem owe_kept (n : Nat) (d : Nat) (s : State) (h2 : Kept q s) : Kept q (owe n d s) := by
  unfold owe
  try dsimp only
  repeat' (first | with_reducible assumption | intro _ | with_reducible (first | apply ite_kept) | simp only [mk_kept_iff])

theorem linkTrains_kept (s : State) (h0 : Kept q s) : Kept q (linkTrains s) := by
  unfold linkTrains
  try dsimp only
  repeat' (first | with_reducible assumption | intro _ | with_reducible (first | apply setReg_kept) | simp only [mk_kept_iff] | split)

theorem enterHoldover_kept (start : Nat) (s : State) (h1 : Kept q s) : Kept q (enterHoldover start s) := by
  unfold enterHoldover
  try dsimp only
  repeat' (first | with_reducible assumption | intro _ | with_reducible (first | apply ite_kept | apply count_kept | apply owe_kept | apply setReg_kept) | simp only [mk_kept_iff])

theorem loseCapable_kept (p : Nat) (s : State) (h1 : Kept q s) : Kept q (loseCapable p s) := by
  unfold loseCapable
  try dsimp only
  repeat' (first | with_reducible assumption | intro _ | with_reducible (first | apply ite_kept | apply enterHoldover_kept | apply owe_kept | apply setReg_kept))

theorem setEgr_kept (p : Nat) (e : EgressSt) (s : State) (h2 : Kept q s) : Kept q (setEgr p e s) := by
  unfold setEgr
  try dsimp only
  repeat' (first | with_reducible assumption | intro _ | with_reducible (first | apply ite_kept) | simp only [mk_kept_iff])

theorem setPrt_kept (p : Nat) (x : PortSt) (s : State) (h2 : Kept q s) : Kept q (setPrt p x s) := by
  unfold setPrt
  try dsimp only
  repeat' (first | with_reducible assumption | intro _ | with_reducible (first | apply ite_kept) | simp only [mk_kept_iff])

theorem setPtpPort_kept (p : Nat) (x : PtpPort) (s : State) (h2 : Kept q s) : Kept q (setPtpPort p x s) := by
  unfold setPtpPort
  try dsimp only
  repeat' (first | with_reducible assumption | intro _ | with_reducible (first | apply ite_kept) | simp only [mk_kept_iff])

theorem cutFrame_kept (p : Nat) (s : State) (h1 : Kept q s) : Kept q (cutFrame p s) := by
  unfold cutFrame
  try dsimp only
  repeat' (first | with_reducible assumption | intro _ | with_reducible (first | apply ite_kept | apply count_kept | apply emit_kept | apply setEgr_kept) | simp only [mk_kept_iff] | split)

theorem portDown_kept (p : Nat) (reason : Nat) (s : State) (h2 : Kept q s) : Kept q (portDown p reason s) := by
  unfold portDown
  try dsimp only
  repeat' (first | with_reducible assumption | intro _ | with_reducible (first | apply ite_kept | apply count_kept | apply cutFrame_kept | apply enterHoldover_kept | apply loseCapable_kept | apply setEgr_kept | apply setPrt_kept | apply setPtpPort_kept | apply setReg_kept | apply when_kept))

theorem scaleSlopes_kept (p : Nat) (s : State) (h1 : Kept q s) : Kept q (scaleSlopes p s) := by
  unfold scaleSlopes
  try dsimp only
  repeat' (first | with_reducible assumption | intro _ | with_reducible (first | apply setReg_kept) | simp only [mk_kept_iff] | split)

theorem startVerify_kept (p : Nat) (s : State) (h1 : Kept q s) : Kept q (startVerify p s) := by
  unfold startVerify
  try dsimp only
  repeat' (first | with_reducible assumption | intro _ | with_reducible (first | apply ite_kept | apply setEgr_kept | apply setReg_kept))

theorem linkUpAt_kept (p : Nat) (mode : Nat) (rate : Nat) (s : State) (h3 : Kept q s) : Kept q (linkUpAt p mode rate s) := by
  unfold linkUpAt
  try dsimp only
  repeat' (first | with_reducible assumption | intro _ | with_reducible (first | apply ite_kept | apply count_kept | apply scaleSlopes_kept | apply setEgr_kept | apply setReg_kept | apply startVerify_kept))

theorem setPeer_kept (d : Nat) (x : PeerSt) (s : State) (h2 : Kept q s) : Kept q (setPeer d x s) := by
  unfold setPeer
  try dsimp only
  repeat' (first | with_reducible assumption | intro _ | with_reducible (first | apply ite_kept) | simp only [mk_kept_iff])

theorem txMsg_kept (d : Nat) (m : TMsg) (again : Bool) (s : State) (h3 : Kept q s) : Kept q (txMsg d m again s) := by
  unfold txMsg
  try dsimp only
  repeat' (first | with_reducible assumption | intro _ | with_reducible (first | apply ite_kept | apply emit_kept | apply setPeer_kept))

theorem sendFirst_kept (d : Nat) (m : TMsg) (s : State) (h2 : Kept q s) : Kept q (sendFirst d m s) := by
  unfold sendFirst
  try dsimp only
  repeat' (first | with_reducible assumption | intro _ | with_reducible (first | apply ite_kept | apply setPeer_kept | apply setReg_kept | apply txMsg_kept))

theorem pumpFrom_kept (d : Nat) (a : List TMsg) (x2 : List TMsg) (x3 : State) (h3 : Kept q x3) : Kept q (pumpFrom d a x2 x3) := by
  induction a generalizing x2 x3 with
  | nil =>
    unfold pumpFrom
    repeat' (first | with_reducible assumption | intro _ | with_reducible (first | apply ite_kept | apply sendFirst_kept | apply setPeer_kept))
  | cons m t ih =>
    unfold pumpFrom
    try dsimp only
    repeat' (first | with_reducible assumption | intro _ | with_reducible (first | apply ite_kept | apply sendFirst_kept | apply setPeer_kept) | simp only [mk_kept_iff] | with_reducible apply ih)

theorem pump_kept (d : Nat) (s : State) (h1 : Kept q s) : Kept q (pump d s) := by
  unfold pump
  try dsimp only
  repeat' (first | with_reducible assumption | intro _ | with_reducible (first | apply pumpFrom_kept | apply raise_kept))

theorem sendMsg_kept (d : Nat) (m : TMsg) (s : State) (h2 : Kept q s) : Kept q (sendMsg d m s) := by
  unfold sendMsg
  try dsimp only
  repeat' (first | with_reducible assumption | intro _ | with_reducible (first | apply ite_kept | apply count_kept | apply pump_kept | apply setPeer_kept))

theorem sendEvent_kept (d : Nat) (kind : Nat) (number : Nat) (data : Bytes) (s : State) (h4 : Kept q s) : Kept q (sendEvent d kind number data s) := by
  unfold sendEvent
  try dsimp only
  repeat' (first | with_reducible assumption | intro _ | with_reducible (first | apply sendMsg_kept))

theorem nextPairSeq_kept (s : State) (h0 : Kept q s) : Kept q (nextPairSeq s) := by
  unfold nextPairSeq
  try dsimp only
  repeat' (first | with_reducible assumption | intro _ | with_reducible (first | apply ite_kept) | simp only [mk_kept_iff])

theorem sendPairing_kept (kind : Nat) (pairNo : Nat) (dest : List Nat) (engine : Nat) (ident : Nat) (body : Bytes) (s : State) (h6 : Kept q s) : Kept q (sendPairing kind pairNo dest engine ident body s) := by
  unfold sendPairing
  try dsimp only
  repeat' (first | with_reducible assumption | intro _ | with_reducible (first | apply each_kept | apply emit_kept | apply sendEvent_kept) | simp only [mk_kept_iff] | split)

theorem sendAck_kept (yield_ : Bool) (s : State) (h1 : Kept q s) : Kept q (sendAck yield_ s) := by
  unfold sendAck
  try dsimp only
  repeat' (first | with_reducible assumption | intro _ | with_reducible (first | apply ite_kept | apply nextPairSeq_kept | apply sendPairing_kept))

theorem endLease_kept (s : State) (h0 : Kept q s) : Kept q (endLease s) := by
  unfold endLease
  try dsimp only
  repeat' (first | with_reducible assumption | intro _ | with_reducible (first | apply count_kept | apply each_kept | apply setReg_kept) | simp only [mk_kept_iff] | split)

theorem yieldLease_kept (s : State) (h0 : Kept q s) : Kept q (yieldLease s) := by
  unfold yieldLease
  try dsimp only
  repeat' (first | with_reducible assumption | intro _ | with_reducible (first | apply endLease_kept | apply sendAck_kept | apply setReg_kept) | simp only [mk_kept_iff] | split)

theorem freezeHealth_kept (s : State) (h0 : Kept q s) : Kept q (freezeHealth s) := by
  unfold freezeHealth
  try dsimp only
  repeat' (first | with_reducible assumption | intro _ | with_reducible (first | apply ite_kept) | simp only [mk_kept_iff])

theorem setDma_kept (n : Nat) (x : DmaSt) (s : State) (h2 : Kept q s) : Kept q (setDma n x s) := by
  unfold setDma
  try dsimp only
  repeat' (first | with_reducible assumption | intro _ | with_reducible (first | apply ite_kept) | simp only [mk_kept_iff])

theorem setChState_kept (n : Nat) (v : Nat) (s : State) (h2 : Kept q s) : Kept q (setChState n v s) := by
  unfold setChState
  try dsimp only
  repeat' (first | with_reducible assumption | intro _ | with_reducible (first | apply setReg_kept))

theorem cause_kept (n : Nat) (b : Nat) (s : State) (h2 : Kept q s) : Kept q (cause n b s) := by
  unfold cause
  try dsimp only
  repeat' (first | with_reducible assumption | intro _ | with_reducible (first | apply setReg_kept))

theorem dmaVector_kept (n : Nat) (s : State) (h1 : Kept q s) : Kept q (dmaVector n s) := by
  unfold dmaVector
  try dsimp only
  repeat' (first | with_reducible assumption | intro _ | with_reducible (first | apply msix_kept))

theorem setProducer_kept (n : Nat) (v : Nat) (s : State) (h2 : Kept q s) : Kept q (setProducer n v s) := by
  unfold setProducer
  try dsimp only
  repeat' (first | with_reducible assumption | intro _ | with_reducible (first | apply announce_kept | apply setReg_kept))

theorem doorbell_kept (n : Nat) (v : Nat) (s : State) (h2 : Kept q s) : Kept q (doorbell n v s) := by
  unfold doorbell
  try dsimp only
  repeat' (first | with_reducible assumption | intro _ | with_reducible (first | apply cause_kept | apply setProducer_kept) | simp only [mk_kept_iff] | split)

theorem dmaTrigger_kept (n : Nat) (s : State) (h1 : Kept q s) : Kept q (dmaTrigger n s) := by
  unfold dmaTrigger
  try dsimp only
  repeat' (first | with_reducible assumption | intro _ | with_reducible (first | apply cause_kept | apply setProducer_kept) | simp only [mk_kept_iff] | split)

theorem dmaRecord_kept (n : Nat) (idx : Nat) (status : Nat) (flags : Nat) (moved : Nat) (s : State) (h5 : Kept q s) : Kept q (dmaRecord n idx status flags moved s) := by
  unfold dmaRecord
  try dsimp only
  repeat' (first | with_reducible assumption | intro _ | with_reducible (first | apply ite_kept | apply cause_kept | apply setDma_kept))

theorem ringPointer_kept (n : Nat) (s : State) (h1 : Kept q s) : Kept q (ringPointer n s) := by
  unfold ringPointer
  try dsimp only
  repeat' (first | with_reducible assumption | intro _ | with_reducible (first | apply emit_kept) | simp only [mk_kept_iff] | split)

theorem setGang_kept (n : Nat) (v : Nat) (s : State) (h2 : Kept q s) : Kept q (setGang n v s) := by
  unfold setGang
  try dsimp only
  repeat' (first | with_reducible assumption | intro _ | with_reducible (first | apply each_kept | apply setChState_kept))

theorem dmaStop_kept (n : Nat) (status : Nat) (host : Bool) (s : State) (h3 : Kept q s) : Kept q (dmaStop n status host s) := by
  unfold dmaStop
  try dsimp only
  repeat' (first | with_reducible assumption | intro _ | with_reducible (first | apply cause_kept | apply dmaRecord_kept | apply dmaVector_kept | apply ringPointer_kept | apply setGang_kept | apply setReg_kept) | simp only [mk_kept_iff] | split)

theorem writeBack_kept (n : Nat) (e : DmaEnd) (s : State) (h2 : Kept q s) : Kept q (writeBack n e s) := by
  unfold writeBack
  try dsimp only
  repeat' (first | with_reducible assumption | intro _ | with_reducible (first | apply setReg_kept | apply cause_kept | apply count_kept | apply countBy_kept | apply dmaRecord_kept | apply dmaVector_kept | apply emit_kept | apply ringPointer_kept) | simp only [mk_kept_iff] | split)

theorem consume_kept (n : Nat) (k : Nat) (s : State) (h2 : Kept q s) : Kept q (consume n k s) := by
  unfold consume
  try dsimp only
  repeat' (first | with_reducible assumption | intro _ | with_reducible (first | apply ite_kept | apply setDma_kept | apply setReg_kept))

theorem dropTaken_kept (n : Nat) (s : State) (h1 : Kept q s) : Kept q (dropTaken n s) := by
  unfold dropTaken
  try dsimp only
  repeat' (first | with_reducible assumption | intro _ | with_reducible (first | apply ite_kept | apply setEgr_kept | apply setDma_kept))

theorem dropRest_kept (n : Nat) (s : State) (h1 : Kept q s) : Kept q (dropRest n s) := by
  unfold dropRest
  try dsimp only
  repeat' (first | with_reducible assumption | intro _ | with_reducible (first | apply ite_kept | apply count_kept | apply dropTaken_kept))

theorem dmaDisable_kept (n : Nat) (s : State) (h1 : Kept q s) : Kept q (dmaDisable n s) := by
  unfold dmaDisable
  try dsimp only
  repeat' (first | with_reducible assumption | intro _ | with_reducible (first | apply dropTaken_kept | apply ite_kept | apply cause_kept | apply dmaVector_kept | apply setDma_kept | apply setGang_kept | apply setReg_kept | apply useFree_kept))

theorem writeBackNext_kept (n : Nat) (e : DmaEnd) (s : State) (h2 : Kept q s) : Kept q (writeBackNext n e s) := by
  unfold writeBackNext
  try dsimp only
  repeat' (first | with_reducible assumption | intro _ | with_reducible (first | apply ite_kept | apply consume_kept | apply setDma_kept | apply writeBack_kept))

theorem dmaHalt_kept (n : Nat) (status : Nat) (host : Bool) (s : State) (h3 : Kept q s) : Kept q (dmaHalt n status host s) := by
  unfold dmaHalt
  try dsimp only
  repeat' (first | with_reducible assumption | intro _ | with_reducible (first | apply dropRest_kept | apply ite_kept | apply consume_kept | apply dmaStop_kept | apply each_kept | apply setDma_kept | apply setReg_kept | apply writeBack_kept | apply writeBackNext_kept) | simp only [mk_kept_iff] | split)

theorem dmaLoss_kept (orderly : Bool) (survives : Bool) (s : State) (h2 : Kept q s) : Kept q (dmaLoss orderly survives s) := by
  unfold dmaLoss
  try dsimp only
  repeat' (first | with_reducible assumption | intro _ | with_reducible (first | apply dmaDisable_kept | apply dmaHalt_kept | apply each_kept | apply setChState_kept) | simp only [mk_kept_iff] | split)

theorem linkGoes_kept (orderly : Bool) (survives : Bool) (s : State) (h2 : Kept q s) : Kept q (linkGoes orderly survives s) := by
  unfold linkGoes
  try dsimp only
  repeat' (first | with_reducible assumption | intro _ | with_reducible (first | apply cutFrame_kept | apply dmaLoss_kept | apply setEgr_kept | apply setReg_kept) | simp only [mk_kept_iff])

theorem linkLost_kept (s : State) (h0 : Kept q s) : Kept q (linkLost s) := by
  unfold linkLost
  try dsimp only
  repeat' (first | with_reducible assumption | intro _ | with_reducible (first | apply linkGoes_kept))

theorem dmaSafe_kept (s : State) (h0 : Kept q s) : Kept q (dmaSafe s) := by
  unfold dmaSafe
  try dsimp only
  repeat' (first | with_reducible assumption | intro _ | with_reducible (first | apply dmaDisable_kept | apply dmaHalt_kept | apply each_kept) | simp only [mk_kept_iff] | split)

theorem dropLock_kept (s : State) (h0 : Kept q s) : Kept q (dropLock s) := by
  exact ⟨⟨h0.1.1, h0.1.2.1, h0.1.2.2.1, h0.1.2.1⟩, h0.2⟩

theorem recordRefusal_kept (code : Nat) (idx : Nat) (sub : Nat) (obj : Nat) (s : State) (h4 : Kept q s) : Kept q (recordRefusal code idx sub obj s) := by
  unfold recordRefusal
  try dsimp only
  repeat' (first | with_reducible assumption | intro _ | with_reducible (first | apply count_kept | apply setReg_kept))

theorem dropRoles_kept (all : Bool) (s : State) (h1 : Kept q s) : Kept q (dropRoles all s) := by
  unfold dropRoles
  try dsimp only
  repeat' (first | with_reducible assumption | intro _ | with_reducible (first | apply ite_kept) | simp only [mk_kept_iff])

theorem setDev_kept (d : DevState) (s : State) (h1 : Kept q s) : Kept q (setDev d s) := by
  unfold setDev
  try dsimp only
  repeat' (first | with_reducible assumption | intro _ | with_reducible (first | apply ite_kept | apply dropLock_kept | apply dropRoles_kept | apply freezeHealth_kept | apply hostEvent_kept) | simp only [mk_kept_iff])

theorem restartCore_kept (s : State) (h0 : Kept q s) : Kept q (restartCore s) := by
  unfold restartCore
  try dsimp only
  repeat' (first | with_reducible assumption | intro _ | with_reducible (first | apply dropLock_kept | apply recordRefusal_kept | apply setDev_kept) | simp only [mk_kept_iff] | split)

theorem safePorts_kept (s : State) (h0 : Kept q s) : Kept q (safePorts s) := by
  unfold safePorts
  refine foldl_kept _ _ _ (fun s p h => ?_) h0
  dsimp only
  split
  · exact h
  · exact (mk_kept_iff (emit _ (count _ 9 s)) ..).2 (emit_kept _ _ (count_kept _ _ _ h))

theorem discardBraid_kept (s : State) (h0 : Kept q s) : Kept q (discardBraid s) := by
  unfold discardBraid
  try dsimp only
  repeat' (first | with_reducible assumption | intro _ | with_reducible (first | apply ite_kept) | simp only [mk_kept_iff])

theorem driveTtrig_kept (k : Nat) (level : Nat) (s : State) (h2 : Kept q s) : Kept q (driveTtrig k level s) := by
  unfold driveTtrig
  try dsimp only
  repeat' (first | with_reducible assumption | intro _ | with_reducible (first | apply emit_kept))

theorem timeLow_kept (s : State) (h0 : Kept q s) : Kept q (timeLow s) := by
  unfold timeLow
  try dsimp only
  repeat' (first | with_reducible assumption | intro _ | with_reducible (first | apply driveTtrig_kept | apply each_kept | apply emit_kept) | simp only [mk_kept_iff] | split)

theorem safeOutputs_kept (s : State) (h0 : Kept q s) : Kept q (safeOutputs s) := by
  unfold safeOutputs
  try dsimp only
  repeat' (first | with_reducible assumption | intro _ | with_reducible (first | apply ite_kept | apply discardBraid_kept | apply dmaSafe_kept | apply safePorts_kept | apply setReg_kept | apply timeLow_kept) | simp only [mk_kept_iff])

theorem recordOne_kept (code : Nat) (role : Nat) (data : List Nat) (s : State) (h3 : Kept q s) : Kept q (recordOne code role data s) := by
  unfold recordOne
  try dsimp only
  repeat' (first | with_reducible assumption | intro _ | with_reducible (first | apply ite_kept) | simp only [mk_kept_iff])

theorem sealRecord_kept (code : Nat) (role : Nat) (data : List Nat) (s : State) (h3 : Kept q s) : Kept q (sealRecord code role data s) := by
  unfold sealRecord
  try dsimp only
  repeat' (first | with_reducible assumption | intro _ | with_reducible (first | apply ite_kept | apply count_kept | apply recordOne_kept) | simp only [mk_kept_iff])

theorem withdrawUnit_kept (u : UnitId) (s : State) (h1 : Kept q s) : Kept q (withdrawUnit u s) := by
  unfold withdrawUnit
  repeat' (first | with_reducible assumption | intro _ | with_reducible (first | apply linkLost_kept | apply portDown_kept | apply restartCore_kept | apply setReg_kept) | simp only [mk_kept_iff] | with_reducible apply foldl_kept | split)

theorem withdraw_kept (u : UnitId) (src : Nat) (s : State) (h2 : Kept q s) : Kept q (withdraw u src s) := by
  unfold withdraw
  try dsimp only
  repeat' (first | with_reducible assumption | intro _ | with_reducible (first | apply withdrawUnit_kept) | simp only [mk_kept_iff] | split)

theorem forceSafe_kept (cls : Nat) (s : State) (h1 : Kept q s) : Kept q (forceSafe cls s) := by
  unfold forceSafe
  try dsimp only
  repeat' (first | with_reducible assumption | intro _ | with_reducible (first | apply count_kept | apply hostEvent_kept | apply safeOutputs_kept) | simp only [mk_kept_iff])

theorem startReaction_kept (n : Nat) (cls : Nat) (s : State) (h2 : Kept q s) : Kept q (startReaction n cls s) := by
  unfold startReaction
  try dsimp only
  repeat' (first | with_reducible assumption | intro _ | with_reducible (first | apply forceSafe_kept | apply hostEvent_kept | apply withdraw_kept) | simp only [mk_kept_iff] | split)

theorem captureFirst_kept (n : Nat) (cls : Nat) (s : State) (h2 : Kept q s) : Kept q (captureFirst n cls s) := by
  unfold captureFirst
  try dsimp only
  repeat' (first | with_reducible assumption | intro _ | with_reducible (first | apply setReg_kept) | simp only [mk_kept_iff] | split)

theorem recordFiring_kept (n : Nat) (d : Nat) (s : State) (h2 : Kept q s) : Kept q (recordFiring n d s) := by
  unfold recordFiring
  try dsimp only
  repeat' (first | with_reducible assumption | intro _ | with_reducible (first | apply count_kept | apply setReg_kept) | simp only [mk_kept_iff] | split)

theorem fireRaw_kept (n : Nat) (d : Nat) (s : State) (h2 : Kept q s) : Kept q (fireRaw n d s) := by
  unfold fireRaw
  try dsimp only
  repeat' (first | with_reducible assumption | intro _ | with_reducible (first | apply announce_kept | apply captureFirst_kept | apply recordFiring_kept | apply setReg_kept | apply startReaction_kept) | simp only [mk_kept_iff] | split)

theorem refreshEval_kept (s : State) (h0 : Kept q s) : Kept q (refreshEval s) := by
  unfold refreshEval
  try dsimp only
  repeat' (first | with_reducible assumption | intro _ | with_reducible (first | apply fireRaw_kept | apply sealRecord_kept | apply setReg_kept) | simp only [mk_kept_iff] | split)

theorem settle_kept (a : Nat) (x1 : State) (h1 : Kept q x1) : Kept q (settle a x1) := by
  induction a generalizing x1 with
  | zero =>
    unfold settle
    repeat' (first | with_reducible assumption)
  | succ k ih =>
    unfold settle
    try dsimp only
    repeat' (first | with_reducible assumption | intro _ | with_reducible (first | apply each_kept | apply fireRaw_kept) | simp only [mk_kept_iff] | with_reducible apply ih | split)

theorem fire_kept (n : Nat) (d : Nat) (s : State) (h2 : Kept q s) : Kept q (fire n d s) := by
  unfold fire
  try dsimp only
  repeat' (first | with_reducible assumption | intro _ | with_reducible (first | apply fireRaw_kept | apply refreshEval_kept | apply settle_kept) | simp only [mk_kept_iff] | split)

theorem runPending_kept (a : Nat) (x1 : State) (h1 : Kept q x1) : Kept q (runPending a x1) := by
  induction a generalizing x1 with
  | zero =>
    unfold runPending
    repeat' (first | with_reducible assumption)
  | succ k ih =>
    unfold runPending
    try dsimp only
    repeat' (first | with_reducible assumption | intro _ | with_reducible (first | apply startReaction_kept) | simp only [mk_kept_iff] | with_reducible apply ih | split)

theorem reactionDone_kept (s : State) (h0 : Kept q s) : Kept q (reactionDone s) := by
  unfold reactionDone
  try dsimp only
  repeat' (first | with_reducible assumption | intro _ | with_reducible (first | apply runPending_kept | apply setDev_kept | apply yieldLease_kept) | simp only [mk_kept_iff] | split)

theorem done_kept (s : State) (h0 : Kept q s) : Kept q (done s).1 := by
  unfold done
  try dsimp only
  repeat' (first | with_reducible assumption)

theorem deny_kept (c : Nat) (s : State) (h1 : Kept q s) : Kept q (deny c s).1 := by
  unfold deny
  try dsimp only
  repeat' (first | with_reducible assumption)

theorem need_kept (b : Bool) (c : Nat) (f : Svc) (a : State) (h2 : ∀ s, Kept q s → Kept q (f s).1) (h3 : Kept q a) : Kept q (need b c f a).1 := by
  unfold need
  try dsimp only
  repeat' (first | with_reducible assumption | intro _ | with_reducible (first | apply h2) | simp only [mk_kept_iff] | split)

theorem touch_kept (ses : Session) (s : State) (h1 : Kept q s) : Kept q (touch ses s) := by
  unfold touch
  try dsimp only
  repeat' (first | with_reducible assumption | intro _ | with_reducible (first | apply ite_kept) | simp only [mk_kept_iff])

theorem evict_kept (ses : Session) (f : Svc) (a : State) (h1 : ∀ s, Kept q s → Kept q (f s).1) (h2 : Kept q a) : Kept q (evict ses f a).1 := by
  unfold evict
  try dsimp only
  repeat' (first | with_reducible assumption | intro _ | with_reducible (first | apply h1) | simp only [mk_kept_iff] | split)

theorem serveWith_kept (ses : Session) (f : Svc) (s : State) (h1 : ∀ s, Kept q s → Kept q (f s).1) (h2 : Kept q s) : Kept q (serveWith ses f s).1 := by
  unfold serveWith
  try dsimp only
  repeat' (first | with_reducible assumption | intro _ | with_reducible (first | apply ite_kept | apply evict_kept | apply touch_kept | apply h1) | simp only [mk_kept_iff] | split)

theorem serve_kept (ses : Session) (f : Svc) (s : State) (h1 : ∀ s, Kept q s → Kept q (f s).1) (h2 : Kept q s) : Kept q (serve ses f s) := by
  unfold serve
  try dsimp only
  repeat' (first | with_reducible assumption | intro _ | with_reducible (first | apply emit_kept | apply serveWith_kept | apply h1) | simp only [mk_kept_iff] | split)

theorem serveData_kept (ses : Session) (f : SvcD) (s : State) (h1 : ∀ s, Kept q s → Kept q (f s).1) (h2 : Kept q s) : Kept q (serveData ses f s) := by
  unfold serveData
  try dsimp only
  repeat' (first | with_reducible assumption | intro _ | with_reducible (first | apply ite_kept | apply done_kept | apply emit_kept | apply serveWith_kept | apply touch_kept | apply h1))

theorem serveHot_kept (w1c : Bool) (f : Svc) (s : State) (h1 : ∀ s, Kept q s → Kept q (f s).1) (h2 : Kept q s) : Kept q (serveHot w1c f s) := by
  unfold serveHot
  try dsimp only
  repeat' (first | with_reducible assumption | intro _ | with_reducible (first | apply count_kept | apply h1) | simp only [mk_kept_iff] | split)

theorem serveBoth_kept (ses : Session) (f : Svc) (s : State) (h1 : ∀ s, Kept q s → Kept q (f s).1) (h2 : Kept q s) : Kept q (serveBoth ses f s) := by
  unfold serveBoth
  try dsimp only
  repeat' (first | with_reducible assumption | intro _ | with_reducible (first | apply serve_kept | apply serveHot_kept | apply h1) | simp only [mk_kept_iff] | split)

theorem notTerminal_kept (f : Svc) (a : State) (h0 : ∀ s, Kept q s → Kept q (f s).1) (h1 : Kept q a) : Kept q (notTerminal f a).1 := by
  unfold notTerminal
  try dsimp only
  repeat' (first | with_reducible assumption | intro _ | with_reducible (first | apply h0) | simp only [mk_kept_iff] | split)

theorem staging_kept (ses : Session) (f : Svc) (a : State) (h1 : ∀ s, Kept q s → Kept q (f s).1) (h2 : Kept q a) : Kept q (staging ses f a).1 := by
  unfold staging
  try dsimp only
  repeat' (first | with_reducible assumption | intro _ | with_reducible (first | apply h1) | simp only [mk_kept_iff] | split)

theorem needRole_kept (ses : Session) (r : Nat) (f : Svc) (a : State) (h2 : ∀ s, Kept q s → Kept q (f s).1) (h3 : Kept q a) : Kept q (needRole ses r f a).1 := by
  unfold needRole
  try dsimp only
  repeat' (first | with_reducible assumption | intro _ | with_reducible (first | apply h2) | simp only [mk_kept_iff] | split)

end Sys2Proof.Machine
end

