-- ==== Sys2Proof/Laws/KeptFrames.lean ====
section
/-! SUPPORT. What each definition over the ports and the path of a frame keeps: the object
stores stay in their canonical form and the command queue stays as it is (`Kept`, Sys2Proof/Laws/Kept.lean), one lemma per definition. -/

set_option linter.unusedVariables false
set_option linter.unreachableTactic false
set_option linter.unusedTactic false
set_option linter.unusedSimpArgs false
set_option maxRecDepth 4000

-- One declaration after the other: it keeps the memory of the package as one text within bounds.
set_option Elab.async false

namespace Sys2Proof.Machine
variable {q : List Instr}

theorem compareBinding_kept (p : Nat) (r : Option Nat) (s : State) (h2 : Kept q s) : Kept q (compareBinding p r s) := by
  unfold compareBinding
  try dsimp only
  repeat' (first | with_reducible assumption | intro _ | with_reducible (first | apply fire_kept | apply sealRecord_kept | apply setReg_kept) | simp only [mk_kept_iff] | split)

theorem retakeRecord_kept (p : Nat) (r : Nat) (s : State) (h2 : Kept q s) : Kept q (retakeRecord p r s) := by
  unfold retakeRecord
  try dsimp only
  repeat' (first | with_reducible assumption | intro _ | with_reducible (first | apply portDown_kept | apply setPrt_kept) | simp only [mk_kept_iff] | split)

theorem markSlot_kept (p slot : Nat) (on : Bool) (s : State) (h : Kept q s) : Kept q (markSlot p slot on s) := by
  unfold markSlot
  try dsimp only
  repeat' (first | with_reducible assumption | intro _ | with_reducible (first | apply ite_kept | apply setPrt_kept) | simp only [mk_kept_iff] | split)

theorem settleRecord_kept (slot : Nat) (p : Nat) (r : Nat) (st : Nat) (s : State) (h4 : Kept q s) : Kept q (settleRecord slot p r st s) := by
  unfold settleRecord
  try dsimp only
  repeat' (first | with_reducible assumption | intro _ | with_reducible (first | apply markSlot_kept | apply compareBinding_kept | apply portDown_kept | apply retakeRecord_kept | apply setPrt_kept | apply setReg_kept) | simp only [mk_kept_iff] | split)

theorem recordAbsent_kept (p : Nat) (s : State) (h1 : Kept q s) : Kept q (recordAbsent p s) := by
  unfold recordAbsent
  try dsimp only
  repeat' (first | with_reducible assumption | intro _ | with_reducible (first | apply compareBinding_kept | apply retakeRecord_kept | apply setPrt_kept | apply setReg_kept))

theorem slotRead_kept (slot : Nat) (s : State) (h1 : Kept q s) : Kept q (slotRead slot s) := by
  unfold slotRead
  try dsimp only
  repeat' (first | with_reducible assumption | intro _ | with_reducible (first | apply each_kept | apply recordAbsent_kept) | simp only [mk_kept_iff] | split)

theorem dropSlot_kept (slot p : Nat) (s : State) (h : Kept q s) : Kept q (dropSlot slot p s) := by
  unfold dropSlot
  try dsimp only
  repeat' (first | with_reducible assumption | intro _ | with_reducible (first | apply ite_kept | apply markSlot_kept | apply recordAbsent_kept) | simp only [mk_kept_iff] | split)

theorem slotEmpty_kept (slot : Nat) (s : State) (h1 : Kept q s) : Kept q (slotEmpty slot s) := by
  unfold slotEmpty
  try dsimp only
  repeat' (first | with_reducible assumption | intro _ | with_reducible (first | apply dropSlot_kept | apply recordAbsent_kept | apply slotRead_kept) | simp only [mk_kept_iff] | split)

theorem slotRecord_kept (slot : Nat) (r : Nat) (s : State) (h2 : Kept q s) : Kept q (slotRecord slot r s) := by
  unfold slotRecord
  try dsimp only
  repeat' (first | with_reducible assumption | intro _ | with_reducible (first | apply dropSlot_kept | apply setReg_kept | apply settleRecord_kept | apply slotRead_kept) | simp only [mk_kept_iff] | split)

theorem execIdRecordRead_kept (slot : Fin 24) (answered : Bool) (record : List Byte) (s : State) (h3 : Kept q s) : KeptOut q (execIdRecordRead slot answered record s) := by
  show Kept q _
  try dsimp only
  repeat' (first | with_reducible assumption | intro _ | with_reducible (first | apply slotEmpty_kept | apply slotRecord_kept) | simp only [mk_kept_iff] | split)

theorem execIdBusStretchTimeout_kept (slot : Fin 24) (s : State) (h1 : Kept q s) : KeptOut q (execIdBusStretchTimeout slot s) := by
  show Kept q _
  try dsimp only
  repeat' (first | with_reducible assumption | intro _ | with_reducible (first | apply count_kept | apply fire_kept | apply slotEmpty_kept) | simp only [mk_kept_iff] | split)

theorem execRecordSignatureCheck_kept (slot : Fin 24) (s : State) (h1 : Kept q s) : KeptOut q (execRecordSignatureCheck slot s) := by
  show Kept q _
  try dsimp only
  repeat' (first | with_reducible assumption | intro _ | with_reducible (first | apply settleRecord_kept) | simp only [mk_kept_iff] | split)

theorem initNext_kept (p : Nat) (c : PortCfg) (s : State) (h2 : Kept q s) : Kept q (initNext p c s) := by
  unfold initNext
  try dsimp only
  repeat' (first | with_reducible assumption | intro _ | with_reducible (first | apply emit_kept | apply setPrt_kept | apply setReg_kept) | simp only [mk_kept_iff] | split)

theorem bringUpPhy_kept (p : Nat) (phyId : Nat) (c : PortCfg) (s : State) (h3 : Kept q s) : Kept q (bringUpPhy p phyId c s) := by
  unfold bringUpPhy
  try dsimp only
  repeat' (first | with_reducible assumption | intro _ | with_reducible (first | apply initNext_kept | apply setPrt_kept | apply setReg_kept) | simp only [mk_kept_iff] | split)

theorem bringUp_kept (p : Nat) (phyId : Nat) (s : State) (h2 : Kept q s) : Kept q (bringUp p phyId s) := by
  unfold bringUp
  try dsimp only
  repeat' (first | with_reducible assumption | intro _ | with_reducible (first | apply bringUpPhy_kept | apply each_kept | apply portDown_kept | apply setPrt_kept | apply setReg_kept) | simp only [mk_kept_iff] | split)

theorem execPortBringUp_kept (port : Fin 30) (phyId : Fin 4294967296) (s : State) (h2 : Kept q s) : KeptOut q (execPortBringUp port phyId s) := by
  show Kept q _
  try dsimp only
  repeat' (first | with_reducible assumption | intro _ | with_reducible (first | apply bringUp_kept | apply settle_kept) | simp only [mk_kept_iff] | split)

theorem execPhyIdentifierRetry_kept (port : Fin 30) (phyId : Fin 4294967296) (s : State) (h2 : Kept q s) : KeptOut q (execPhyIdentifierRetry port phyId s) := by
  show Kept q _
  try dsimp only
  repeat' (first | with_reducible assumption | intro _ | with_reducible (first | apply bringUp_kept | apply settle_kept) | simp only [mk_kept_iff] | split)

theorem execInitEntryDelayEnd_kept (port : Fin 30) (s : State) (h1 : Kept q s) : KeptOut q (execInitEntryDelayEnd port s) := by
  show Kept q _
  try dsimp only
  repeat' (first | with_reducible assumption | intro _ | with_reducible (first | apply initNext_kept) | simp only [mk_kept_iff] | split)

theorem execLinkPoll_kept (port : Fin 16) (linkBit : Bool) (s : State) (h2 : Kept q s) : KeptOut q (execLinkPoll port linkBit s) := by
  show Kept q _
  try dsimp only
  repeat' (first | with_reducible assumption | intro _ | with_reducible (first | apply portDown_kept | apply setPrt_kept | apply settle_kept) | simp only [mk_kept_iff] | split)

theorem execPcsLoss_kept (port : Fin 33) (s : State) (h1 : Kept q s) : KeptOut q (execPcsLoss port s) := by
  show Kept q _
  try dsimp only
  repeat' (first | with_reducible assumption | intro _ | with_reducible (first | apply count_kept | apply portDown_kept | apply setPrt_kept | apply settle_kept) | simp only [mk_kept_iff] | split)

theorem execLinkUp_kept (port : Fin 33) (rate : Fin 8) (s : State) (h2 : Kept q s) : KeptOut q (execLinkUp port rate s) := by
  show Kept q _
  try dsimp only
  repeat' (first | with_reducible assumption | intro _ | with_reducible (first | apply linkUpAt_kept | apply setPrt_kept | apply setReg_kept) | simp only [mk_kept_iff] | split)

theorem execInBandRateChange_kept (port : Fin 16) (rate : Fin 8) (s : State) (h2 : Kept q s) : KeptOut q (execInBandRateChange port rate s) := by
  show Kept q _
  try dsimp only
  repeat' (first | with_reducible assumption | intro _ | with_reducible (first | apply linkUpAt_kept | apply portDown_kept | apply setPrt_kept | apply setReg_kept | apply settle_kept) | simp only [mk_kept_iff] | split)

theorem setMdio_kept (b : Nat) (x : MdioSt) (s : State) (h2 : Kept q s) : Kept q (setMdio b x s) := by
  unfold setMdio
  try dsimp only
  repeat' (first | with_reducible assumption | intro _ | with_reducible (first | apply ite_kept) | simp only [mk_kept_iff])

theorem mdioStart_kept (p : Nat) (kind : Nat) (s : State) (h2 : Kept q s) : Kept q (mdioStart p kind s) := by
  unfold mdioStart
  try dsimp only
  repeat' (first | with_reducible assumption | intro _ | with_reducible (first | apply ite_kept | apply emit_kept | apply setMdio_kept))

theorem mdioCommand_kept (p : Nat) (kind : Nat) (a : State) (h2 : Kept q a) : Kept q (mdioCommand p kind a).1 := by
  unfold mdioCommand
  try dsimp only
  repeat' (first | with_reducible assumption | intro _ | with_reducible (first | apply ite_kept | apply done_kept | apply mdioStart_kept | apply notTerminal_kept | apply setMdio_kept | apply setReg_kept) | simp only [mk_kept_iff] | split)

theorem execMdioRead_kept (ses : Session) (port : Fin 16) (s : State) (h2 : Kept q s) : KeptOut q (execMdioRead ses port s) := by
  show Kept q _
  try dsimp only
  repeat' (first | with_reducible assumption | intro _ | with_reducible (first | apply mdioCommand_kept | apply serve_kept))

theorem execMdioWrite_kept (ses : Session) (port : Fin 16) (s : State) (h2 : Kept q s) : KeptOut q (execMdioWrite ses port s) := by
  show Kept q _
  try dsimp only
  repeat' (first | with_reducible assumption | intro _ | with_reducible (first | apply mdioCommand_kept | apply serve_kept))

theorem execMdioFrameComplete_kept (bus : Fin 2) (result : Fin 65536) (s : State) (h2 : Kept q s) : KeptOut q (execMdioFrameComplete bus result s) := by
  show Kept q _
  try dsimp only
  repeat' (first | with_reducible assumption | intro _ | with_reducible (first | apply ite_kept | apply mdioStart_kept | apply setMdio_kept | apply setReg_kept) | simp only [mk_kept_iff] | split)

theorem noteBeacon_kept (p : Nat) (s : State) (h1 : Kept q s) : Kept q (noteBeacon p s) := by
  unfold noteBeacon
  try dsimp only
  repeat' (first | with_reducible assumption | intro _ | with_reducible (first | apply setReg_kept) | simp only [mk_kept_iff])

theorem execForeignBeacon_kept (port : Fin 33) (s : State) (h1 : Kept q s) : KeptOut q (execForeignBeacon port s) := by
  show Kept q _
  try dsimp only
  repeat' (first | with_reducible assumption | intro _ | with_reducible (first | apply count_kept | apply fire_kept | apply noteBeacon_kept) | simp only [mk_kept_iff] | split)

theorem dropAtBoundary_kept (p : Nat) (s : State) (h1 : Kept q s) : Kept q (dropAtBoundary p s) := by
  unfold dropAtBoundary
  try dsimp only
  repeat' (first | with_reducible assumption | intro _ | with_reducible (first | apply portDown_kept | apply setPrt_kept) | simp only [mk_kept_iff] | split)

theorem portsCommit_kept (old : Bank) (new : Bank) (s : State) (h2 : Kept q s) : Kept q (portsCommit old new s) := by
  unfold portsCommit
  try dsimp only
  repeat' (first | with_reducible assumption | intro _ | with_reducible (first | apply dropAtBoundary_kept | apply each_kept | apply portDown_kept | apply setPrt_kept | apply setReg_kept) | simp only [mk_kept_iff] | split)

theorem setSa_kept (k : Nat) (x : SecAssoc) (s : State) (h2 : Kept q s) : Kept q (setSa k x s) := by
  unfold setSa
  try dsimp only
  repeat' (first | with_reducible assumption | intro _ | with_reducible (first | apply ite_kept) | simp only [mk_kept_iff])

theorem acceptPn_kept (p : Nat) (k : Nat) (pn : Nat) (s : State) (h3 : Kept q s) : Kept q (acceptPn p k pn s) := by
  unfold acceptPn
  try dsimp only
  repeat' (first | with_reducible assumption | intro _ | with_reducible (first | apply ite_kept | apply setSa_kept))

theorem openFrame_kept (p : Nat) (d : Bytes) (s : State) (h2 : Kept q s) : Kept q (openFrame p d s).2 := by
  unfold openFrame
  try dsimp only
  repeat' (first | with_reducible assumption | intro _ | with_reducible (first | apply acceptPn_kept | apply count_kept | apply countBy_kept) | simp only [mk_kept_iff] | split)

theorem secReceive_kept (p : Nat) (d : Bytes) (s : State) (h2 : Kept q s) : Kept q (secReceive p d s).2 := by
  unfold secReceive
  try dsimp only
  repeat' (first | with_reducible assumption | intro _ | with_reducible (first | apply count_kept | apply openFrame_kept) | simp only [mk_kept_iff] | split)

theorem secTransmit_kept (p : Nat) (d : Bytes) (s : State) (h2 : Kept q s) : Kept q (secTransmit p d s).2 := by
  unfold secTransmit
  try dsimp only
  repeat' (first | with_reducible assumption | intro _ | with_reducible (first | apply ite_kept | apply count_kept | apply countBy_kept | apply hostEvent_kept | apply setSa_kept) | simp only [mk_kept_iff] | split)

theorem dynPut_kept (k : Nat) (e : DynEntry) (s : State) (h2 : Kept q s) : Kept q (dynPut k e s) := by
  unfold dynPut
  try dsimp only
  repeat' (first | with_reducible assumption | intro _ | with_reducible (first | apply ite_kept) | simp only [mk_kept_iff])

theorem dynNew_kept (k : Nat) (p : Nat) (s : State) (h2 : Kept q s) : Kept q (dynNew k p s) := by
  unfold dynNew
  try dsimp only
  repeat' (first | with_reducible assumption | intro _ | with_reducible (first | apply ite_kept | apply dynPut_kept) | simp only [mk_kept_iff])

theorem learnSource_kept (p : Nat) (mac : Nat) (fid : Nat) (s : State) (h3 : Kept q s) : Kept q (learnSource p mac fid s) := by
  unfold learnSource
  try dsimp only
  repeat' (first | with_reducible assumption | intro _ | with_reducible (first | apply ite_kept | apply count_kept | apply dynNew_kept | apply dynPut_kept) | simp only [mk_kept_iff] | split)

theorem execFdbAgeingScan_kept (s : State) (h0 : Kept q s) : KeptOut q (execFdbAgeingScan s) := by
  show Kept q _
  try dsimp only
  repeat' (first | with_reducible assumption | intro _ | with_reducible (first | apply countBy_kept) | simp only [mk_kept_iff] | split)

theorem flushBegin_kept (sel : Nat) (arg : Nat) (a : State) (h2 : Kept q a) : Kept q (flushBegin sel arg a).1 := by
  unfold flushBegin
  try dsimp only
  repeat' (first | with_reducible assumption | intro _ | with_reducible (first | apply done_kept | apply notTerminal_kept) | simp only [mk_kept_iff] | split)

theorem execFdbFlushAll_kept (ses : Session) (s : State) (h1 : Kept q s) : KeptOut q (execFdbFlushAll ses s) := by
  show Kept q _
  try dsimp only
  repeat' (first | with_reducible assumption | intro _ | with_reducible (first | apply flushBegin_kept | apply serve_kept))

theorem execFdbFlushByPort_kept (ses : Session) (s : State) (h1 : Kept q s) : KeptOut q (execFdbFlushByPort ses s) := by
  show Kept q _
  try dsimp only
  repeat' (first | with_reducible assumption | intro _ | with_reducible (first | apply flushBegin_kept | apply serve_kept))

theorem execFdbFlushByFid_kept (ses : Session) (s : State) (h1 : Kept q s) : KeptOut q (execFdbFlushByFid ses s) := by
  show Kept q _
  try dsimp only
  repeat' (first | with_reducible assumption | intro _ | with_reducible (first | apply flushBegin_kept | apply serve_kept))

theorem execFdbFlushComplete_kept (s : State) (h0 : Kept q s) : KeptOut q (execFdbFlushComplete s) := by
  show Kept q _
  try dsimp only
  repeat' (first | with_reducible assumption | intro _ | with_reducible (first | apply ite_kept) | simp only [mk_kept_iff] | split)

theorem fdbLookUp_kept (a : State) (h0 : Kept q a) : Kept q (fdbLookUp a).1 := by
  unfold fdbLookUp
  try dsimp only
  repeat' (first | with_reducible assumption | intro _ | with_reducible (first | apply done_kept | apply notTerminal_kept | apply setReg_kept) | simp only [mk_kept_iff] | split)

theorem staticPut_ok (b c : Bank) (k m : Nat) (h : tabWf keyDflt b.objs = true) (hb : staticPut b k m = some c) : tabWf keyDflt c.objs = true := by
  unfold staticPut at hb
  dsimp only at hb
  split at hb
  · cases hb; exact h
  · split at hb
    · cases hb; exact h
    · cases hb

theorem fdbWriteStatic_kept (ses : Session) (a : State) (h1 : Kept q a) : Kept q (fdbWriteStatic ses a).1 := by
  unfold fdbWriteStatic
  refine notTerminal_kept _ _ (fun s h => staging_kept _ _ _ (fun s h => ?_) h) h1
  split
  · rename_i b e
    exact setReg_kept _ _ _ _ ⟨⟨h.1.1, h.1.2.1, h.1.2.2.1, staticPut_ok _ _ _ _ h.1.2.2.2 e⟩, h.2⟩
  · exact setReg_kept _ _ _ _ h

theorem fdbDeleteStatic_kept (ses : Session) (a : State) (h1 : Kept q a) : Kept q (fdbDeleteStatic ses a).1 := by
  unfold fdbDeleteStatic
  refine notTerminal_kept _ _ (fun s h => staging_kept _ _ _ (fun s h => ?_) h) h1
  dsimp only
  split
  · exact setReg_kept _ _ _ _ h
  · exact setReg_kept _ _ _ _ h

theorem execFdbLookUp_kept (ses : Session) (s : State) (h1 : Kept q s) : KeptOut q (execFdbLookUp ses s) := by
  show Kept q _
  try dsimp only
  repeat' (first | with_reducible assumption | intro _ | with_reducible (first | apply fdbLookUp_kept | apply serve_kept))

theorem execFdbWriteStatic_kept (ses : Session) (s : State) (h1 : Kept q s) : KeptOut q (execFdbWriteStatic ses s) := by
  show Kept q _
  try dsimp only
  repeat' (first | with_reducible assumption | intro _ | with_reducible (first | apply fdbWriteStatic_kept | apply serve_kept))

theorem execFdbDeleteStatic_kept (ses : Session) (s : State) (h1 : Kept q s) : KeptOut q (execFdbDeleteStatic ses s) := by
  show Kept q _
  try dsimp only
  repeat' (first | with_reducible assumption | intro _ | with_reducible (first | apply fdbDeleteStatic_kept | apply serve_kept))

theorem evictBucket_kept (bk : Nat) (s : State) (h1 : Kept q s) : Kept q (evictBucket bk s) := by
  unfold evictBucket
  try dsimp only
  repeat' (first | with_reducible assumption | intro _ | with_reducible (first | apply ite_kept) | simp only [mk_kept_iff])

theorem fdbCommit_kept (old : Bank) (new : Bank) (s : State) (h2 : Kept q s) : Kept q (fdbCommit old new s) := by
  unfold fdbCommit
  try dsimp only
  repeat' (first | with_reducible assumption | intro _ | with_reducible (first | apply ite_kept | apply each_kept | apply evictBucket_kept) | simp only [mk_kept_iff])

theorem setGate_kept (p : Nat) (g : GateSt) (s : State) (h2 : Kept q s) : Kept q (setGate p g s) := by
  unfold setGate
  try dsimp only
  repeat' (first | with_reducible assumption | intro _ | with_reducible (first | apply ite_kept) | simp only [mk_kept_iff])

theorem switchOver_kept (p : Nat) (s : State) (h1 : Kept q s) : Kept q (switchOver p s) := by
  unfold switchOver
  try dsimp only
  repeat' (first | with_reducible assumption | intro _ | with_reducible (first | apply ite_kept | apply count_kept | apply setGate_kept | apply setReg_kept) | simp only [mk_kept_iff] | split)

theorem gateCommit_kept (old : Bank) (new : Bank) (p : Nat) (s : State) (h3 : Kept q s) : Kept q (gateCommit old new p s) := by
  unfold gateCommit
  try dsimp only
  repeat' (first | with_reducible assumption | intro _ | with_reducible (first | apply ite_kept | apply setGate_kept | apply setReg_kept))

theorem preemptCommit_kept (old : Bank) (new : Bank) (p : Nat) (s : State) (h3 : Kept q s) : Kept q (preemptCommit old new p s) := by
  unfold preemptCommit
  try dsimp only
  repeat' (first | with_reducible assumption | intro _ | with_reducible (first | apply setReg_kept | apply startVerify_kept) | simp only [mk_kept_iff] | split)

theorem gatesCommit_kept (old : Bank) (new : Bank) (s : State) (h2 : Kept q s) : Kept q (gatesCommit old new s) := by
  unfold gatesCommit
  try dsimp only
  repeat' (first | with_reducible assumption | intro _ | with_reducible (first | apply each_kept | apply gateCommit_kept | apply preemptCommit_kept))

theorem gatesStep_kept (s : State) (h0 : Kept q s) : Kept q (gatesStep s) := by
  unfold gatesStep
  try dsimp only
  repeat' (first | with_reducible assumption | intro _ | with_reducible (first | apply count_kept | apply each_kept | apply setReg_kept | apply switchOver_kept) | simp only [mk_kept_iff] | split)

theorem execGateListSwitchOver_kept (port : Fin 22) (s : State) (h1 : Kept q s) : KeptOut q (execGateListSwitchOver port s) := by
  show Kept q _
  try dsimp only
  repeat' (first | with_reducible assumption | intro _ | with_reducible (first | apply switchOver_kept) | simp only [mk_kept_iff] | split)

theorem setSgate_kept (g : Nat) (x : GateSt) (s : State) (h2 : Kept q s) : Kept q (setSgate g x s) := by
  unfold setSgate
  try dsimp only
  repeat' (first | with_reducible assumption | intro _ | with_reducible (first | apply ite_kept) | simp only [mk_kept_iff])

theorem streamSwitch_kept (g : Nat) (s : State) (h1 : Kept q s) : Kept q (streamSwitch g s) := by
  unfold streamSwitch
  try dsimp only
  repeat' (first | with_reducible assumption | intro _ | with_reducible (first | apply ite_kept | apply setRegE_kept | apply setSgate_kept) | simp only [mk_kept_iff] | split)

theorem streamGatesCommit_kept (old : Bank) (new : Bank) (s : State) (h2 : Kept q s) : Kept q (streamGatesCommit old new s) := by
  unfold streamGatesCommit
  try dsimp only
  repeat' (first | with_reducible assumption | intro _ | with_reducible (first | apply ite_kept | apply each_kept | apply setSgate_kept))

theorem execStreamGateEntryChange_kept (gate : Fin 256) (s : State) (h1 : Kept q s) : KeptOut q (execStreamGateEntryChange gate s) := by
  show Kept q _
  try dsimp only
  repeat' (first | with_reducible assumption | intro _ | with_reducible (first | apply streamSwitch_kept) | simp only [mk_kept_iff] | split)

theorem gateEntryRead_kept (a : State) (h0 : Kept q a) : Kept q (gateEntryRead a).1 := by
  unfold gateEntryRead
  try dsimp only
  repeat' (first | with_reducible assumption | intro _ | with_reducible (first | apply done_kept | apply notTerminal_kept | apply setReg_kept) | simp only [mk_kept_iff] | split)

theorem gateEntryWrite_kept (ses : Session) (a : State) (h1 : Kept q a) : Kept q (gateEntryWrite ses a).1 := by
  unfold gateEntryWrite
  try dsimp only
  repeat' (first | with_reducible assumption | intro _ | with_reducible (first | apply done_kept | apply notTerminal_kept | apply setReg_kept | apply stageE_kept | apply staging_kept) | simp only [mk_kept_iff] | split)

theorem execGateEntryRead_kept (ses : Session) (s : State) (h1 : Kept q s) : KeptOut q (execGateEntryRead ses s) := by
  show Kept q _
  try dsimp only
  repeat' (first | with_reducible assumption | intro _ | with_reducible (first | apply gateEntryRead_kept | apply serve_kept))

theorem execGateEntryWriteStaged_kept (ses : Session) (s : State) (h1 : Kept q s) : KeptOut q (execGateEntryWriteStaged ses s) := by
  show Kept q _
  try dsimp only
  repeat' (first | with_reducible assumption | intro _ | with_reducible (first | apply gateEntryWrite_kept | apply serve_kept))

theorem holdOn_kept (p : Nat) (s : State) (h1 : Kept q s) : Kept q (holdOn p s) := by
  unfold holdOn
  try dsimp only
  repeat' (first | with_reducible assumption | intro _ | with_reducible (first | apply count_kept | apply setReg_kept))

theorem execHoldRelease_kept (port : Fin 16) (s : State) (h1 : Kept q s) : KeptOut q (execHoldRelease port s) := by
  show Kept q _
  try dsimp only
  repeat' (first | with_reducible assumption | intro _ | with_reducible (first | apply setReg_kept) | simp only [mk_kept_iff] | split)

theorem execVerifyMpacketSend_kept (port : Fin 16) (s : State) (h1 : Kept q s) : KeptOut q (execVerifyMpacketSend port s) := by
  show Kept q _
  try dsimp only
  repeat' (first | with_reducible assumption | intro _ | with_reducible (first | apply emit_kept | apply setEgr_kept | apply setReg_kept) | simp only [mk_kept_iff] | split)

theorem execVerifyMpacketReceive_kept (port : Fin 16) (s : State) (h1 : Kept q s) : KeptOut q (execVerifyMpacketReceive port s) := by
  show Kept q _
  try dsimp only
  repeat' (first | with_reducible assumption | intro _ | with_reducible (first | apply count_kept | apply emit_kept) | simp only [mk_kept_iff] | split)

theorem execRespondMpacketReceive_kept (port : Fin 16) (s : State) (h1 : Kept q s) : KeptOut q (execRespondMpacketReceive port s) := by
  show Kept q _
  try dsimp only
  repeat' (first | with_reducible assumption | intro _ | with_reducible (first | apply count_kept | apply setReg_kept) | simp only [mk_kept_iff] | split)

theorem noteFree_kept (s : State) (h0 : Kept q s) : Kept q (noteFree s) := by
  unfold noteFree
  try dsimp only
  repeat' (first | with_reducible assumption | intro _ | with_reducible (first | apply setReg_kept) | simp only [mk_kept_iff] | split)

theorem takeElls_kept (n : Nat) (s : State) (h1 : Kept q s) : Kept q (takeElls n s).2 := by
  unfold takeElls
  try dsimp only
  repeat' (first | with_reducible assumption | intro _ | with_reducible (first | apply noteFree_kept) | simp only [mk_kept_iff])

theorem retireEll_kept (e : Nat) (s : State) (h1 : Kept q s) : Kept q (retireEll e s) := by
  unfold retireEll
  try dsimp only
  repeat' (first | with_reducible assumption | intro _ | with_reducible (first | apply fire_kept | apply setReg_kept) | simp only [mk_kept_iff] | split)

theorem returnElls_kept (l : List Nat) (s : State) (h1 : Kept q s) : Kept q (returnElls l s) := by
  unfold returnElls
  try dsimp only
  repeat' (first | with_reducible assumption | intro _ | with_reducible (first | apply each_kept | apply retireEll_kept) | simp only [mk_kept_iff])

theorem setFrame_kept (x : Frame) (s : State) (h1 : Kept q s) : Kept q (setFrame x s) := by
  unfold setFrame
  try dsimp only
  repeat' (first | with_reducible assumption | intro _ | with_reducible (first | apply ite_kept) | simp only [mk_kept_iff])

theorem dropFrame_kept (f : Nat) (s : State) (h1 : Kept q s) : Kept q (dropFrame f s) := by
  unfold dropFrame
  try dsimp only
  repeat' (first | with_reducible assumption | intro _ | with_reducible (first | apply returnElls_kept) | simp only [mk_kept_iff] | split)

theorem refuseCopy_kept (p : Nat) (x1 : Nat) (b : Nat) (mirror : Option Nat) (s : State) (h4 : Kept q s) : Kept q (refuseCopy p x1 b mirror s) := by
  unfold refuseCopy
  try dsimp only
  repeat' (first | with_reducible assumption | intro _ | with_reducible (first | apply count_kept) | simp only [mk_kept_iff] | split)

theorem chargeUsed_kept (f : Frame) (s : State) (h1 : Kept q s) : Kept q (chargeUsed f s) := by
  unfold chargeUsed
  try dsimp only
  repeat' (first | with_reducible assumption | intro _ | with_reducible (first | apply ite_kept | apply raise_kept | apply setFrame_kept))

theorem tagNonEmpty_kept (p : Nat) (x1 : Nat) (s : State) (h2 : Kept q s) : Kept q (tagNonEmpty p x1 s) := by
  unfold tagNonEmpty
  try dsimp only
  repeat' (first | with_reducible assumption | intro _ | with_reducible (first | apply setEgr_kept) | simp only [mk_kept_iff] | split)

theorem admitCopy_kept (c : Copy) (n : Nat) (colour : Nat) (s : State) (h3 : Kept q s) : Kept q (admitCopy c n colour s).2 := by
  unfold admitCopy
  try dsimp only
  repeat' (first | with_reducible assumption | intro _ | with_reducible (first | apply chargeUsed_kept | apply raise_kept | apply refuseCopy_kept | apply tagNonEmpty_kept) | simp only [mk_kept_iff] | split)

theorem reap_kept (f : Nat) (s : State) (h1 : Kept q s) : Kept q (reap f s) := by
  unfold reap
  try dsimp only
  repeat' (first | with_reducible assumption | intro _ | with_reducible (first | apply dropFrame_kept) | simp only [mk_kept_iff] | split)

theorem flushPort_kept (p : Nat) (s : State) (h1 : Kept q s) : Kept q (flushPort p s) := by
  unfold flushPort
  try dsimp only
  repeat' (first | with_reducible assumption | intro _ | with_reducible (first | apply each_kept | apply reap_kept) | simp only [mk_kept_iff])

theorem execOrphanScan_kept (s : State) (h0 : Kept q s) : KeptOut q (execOrphanScan s) := by
  show Kept q _
  try dsimp only
  repeat' (first | with_reducible assumption | intro _ | with_reducible (first | apply countBy_kept | apply returnElls_kept) | simp only [mk_kept_iff] | split)

theorem overloadQueue_kept (k : Nat) (s : State) (h1 : Kept q s) : Kept q (overloadQueue k s) := by
  unfold overloadQueue
  try dsimp only
  repeat' (first | with_reducible assumption | intro _ | with_reducible (first | apply fire_kept | apply setReg_kept) | simp only [mk_kept_iff] | split)

theorem execOverloadTick_kept (s : State) (h0 : Kept q s) : KeptOut q (execOverloadTick s) := by
  show Kept q _
  try dsimp only
  repeat' (first | with_reducible assumption | intro _ | with_reducible (first | apply each_kept | apply overloadQueue_kept) | simp only [mk_kept_iff] | split)

theorem setFrer_kept (e : Nat) (x : FrerSt) (s : State) (h2 : Kept q s) : Kept q (setFrer e x s) := by
  unfold setFrer
  try dsimp only
  repeat' (first | with_reducible assumption | intro _ | with_reducible (first | apply ite_kept) | simp only [mk_kept_iff])

theorem recoverSeq_kept (b : Bank) (e : Nat) (seq : Nat) (s : State) (h3 : Kept q s) : Kept q (recoverSeq b e seq s).2 := by
  unfold recoverSeq
  try dsimp only
  repeat' (first | with_reducible assumption | intro _ | with_reducible (first | apply ite_kept | apply countE_kept | apply setFrer_kept) | simp only [mk_kept_iff] | split)

theorem execFrerResetTimeout_kept (stream : Fin 4096) (s : State) (h1 : Kept q s) : KeptOut q (execFrerResetTimeout stream s) := by
  show Kept q _
  try dsimp only
  repeat' (first | with_reducible assumption | intro _ | with_reducible (first | apply ite_kept | apply setFrer_kept))

theorem frerCommit_kept (old : Bank) (new : Bank) (s : State) (h2 : Kept q s) : Kept q (frerCommit old new s) := by
  unfold frerCommit
  try dsimp only
  repeat' (first | with_reducible assumption | intro _ | with_reducible (first | apply ite_kept) | simp only [mk_kept_iff])

theorem setMeter_kept (m : Nat) (x : MeterSt) (s : State) (h2 : Kept q s) : Kept q (setMeter m x s) := by
  unfold setMeter
  try dsimp only
  repeat' (first | with_reducible assumption | intro _ | with_reducible (first | apply setRegE_kept) | simp only [mk_kept_iff])

theorem runMeter_kept (b : Bank) (m : Nat) (n : Nat) (back : Nat) (c : Nat) (s : State) (h5 : Kept q s) : Kept q (runMeter b m n back c s).2 := by
  unfold runMeter
  try dsimp only
  repeat' (first | with_reducible assumption | intro _ | with_reducible (first | apply countE_kept | apply setMeter_kept | apply setRegE_kept) | simp only [mk_kept_iff] | split)

theorem metersReset_kept (which : Nat → Bool) (s : State) (h1 : Kept q s) : Kept q (metersReset which s) := by
  unfold metersReset
  try dsimp only
  repeat' (first | with_reducible assumption | intro _ | with_reducible (first | apply each_kept | apply setRegE_kept) | simp only [mk_kept_iff])

theorem metersCommit_kept (old : Bank) (new : Bank) (s : State) (h2 : Kept q s) : Kept q (metersCommit old new s) := by
  unfold metersCommit
  try dsimp only
  repeat' (first | with_reducible assumption | intro _ | with_reducible (first | apply metersReset_kept))

theorem oversizeAt_kept (b : Bank) (h : Nat) (s : State) (h2 : Kept q s) : Kept q (oversizeAt b h s) := by
  unfold oversizeAt
  try dsimp only
  repeat' (first | with_reducible assumption | intro _ | with_reducible (first | apply countE_kept | apply setRegE_kept) | simp only [mk_kept_iff] | split)

theorem filterMeter_kept (b : Bank) (h : Nat) (n : Nat) (back : Nat) (colour : Nat) (ipv : Nat) (over_ : Bool) (s : State) (h7 : Kept q s) : Kept q (filterMeter b h n back colour ipv over_ s).2 := by
  unfold filterMeter
  try dsimp only
  repeat' (first | with_reducible assumption | intro _ | with_reducible (first | apply countE_kept | apply runMeter_kept) | simp only [mk_kept_iff] | split)

theorem police_kept (b : Bank) (h : Nat) (prio : Nat) (L : Nat) (M : Nat) (colour : Nat) (cut : Bool) (s : State) (h7 : Kept q s) : Kept q (police b h prio L M colour cut s).2 := by
  unfold police
  try dsimp only
  repeat' (first | with_reducible assumption | intro _ | with_reducible (first | apply countE_kept | apply filterMeter_kept | apply oversizeAt_kept | apply setRegE_kept) | simp only [mk_kept_iff] | split)

theorem streamGateClear_kept (a : State) (h0 : Kept q a) : Kept q (streamGateClear a).1 := by
  unfold streamGateClear
  try dsimp only
  repeat' (first | with_reducible assumption | intro _ | with_reducible (first | apply done_kept | apply notTerminal_kept | apply setReg_kept | apply setRegE_kept))

theorem execStreamGateClearLatch_kept (ses : Session) (s : State) (h1 : Kept q s) : KeptOut q (execStreamGateClearLatch ses s) := by
  show Kept q _
  try dsimp only
  repeat' (first | with_reducible assumption | intro _ | with_reducible (first | apply serve_kept | apply streamGateClear_kept))

theorem filterClear_kept (a : State) (h0 : Kept q a) : Kept q (filterClear a).1 := by
  unfold filterClear
  try dsimp only
  repeat' (first | with_reducible assumption | intro _ | with_reducible (first | apply done_kept | apply each_kept | apply notTerminal_kept | apply setReg_kept | apply setRegE_kept))

theorem execFilterClearBlocked_kept (ses : Session) (s : State) (h1 : Kept q s) : KeptOut q (execFilterClearBlocked ses s) := by
  show Kept q _
  try dsimp only
  repeat' (first | with_reducible assumption | intro _ | with_reducible (first | apply filterClear_kept | apply serve_kept))

theorem meterClear_kept (a : State) (h0 : Kept q a) : Kept q (meterClear a).1 := by
  unfold meterClear
  try dsimp only
  repeat' (first | with_reducible assumption | intro _ | with_reducible (first | apply done_kept | apply each_kept | apply notTerminal_kept | apply setReg_kept | apply setRegE_kept))

theorem execMeterClearLatch_kept (ses : Session) (s : State) (h1 : Kept q s) : KeptOut q (execMeterClearLatch ses s) := by
  show Kept q _
  try dsimp only
  repeat' (first | with_reducible assumption | intro _ | with_reducible (first | apply meterClear_kept | apply serve_kept))

theorem countPair_kept (i : Nat) (e : Nat) (k : Nat) (s : State) (h3 : Kept q s) : Kept q (countPair i e k s) := by
  unfold countPair
  try dsimp only
  repeat' (first | with_reducible assumption | intro _ | with_reducible (first | apply countE8_kept))

theorem submit_kept (id : Nat) (x : DecIn) (keyDeep : Nat) (fixed : Bool) (bad : Bool) (trap : Bool) (s : State) (h6 : Kept q s) : Kept q (submit id x keyDeep fixed bad trap s) := by
  unfold submit
  try dsimp only
  repeat' (first | with_reducible assumption | intro _ | with_reducible (first | apply count_kept) | simp only [mk_kept_iff] | split)

theorem setDec_kept (d : Decision) (s : State) (h1 : Kept q s) : Kept q (setDec d s) := by
  unfold setDec
  try dsimp only
  repeat' (first | with_reducible assumption | intro _ | with_reducible (first | apply ite_kept) | simp only [mk_kept_iff])

theorem dropDec_kept (id : Nat) (s : State) (h1 : Kept q s) : Kept q (dropDec id s) := by
  unfold dropDec
  try dsimp only
  repeat' (first | with_reducible assumption | intro _ | with_reducible (first | apply ite_kept) | simp only [mk_kept_iff])

theorem countHits_kept (d : Decision) (s : State) (h1 : Kept q s) : Kept q (countHits d s) := by
  unfold countHits
  try dsimp only
  repeat' (first | with_reducible assumption | intro _ | with_reducible (first | apply countE8_kept | apply each_kept) | simp only [mk_kept_iff] | split)

theorem drawSeq_kept (b : Bank) (f : Frame) (e : Nat) (s : State) (h3 : Kept q s) : Kept q (drawSeq b f e s).2 := by
  unfold drawSeq
  try dsimp only
  repeat' (first | with_reducible assumption | intro _ | with_reducible (first | apply setFrame_kept | apply setFrer_kept) | simp only [mk_kept_iff] | split)

theorem passStages_kept (b : Bank) (f : Frame) (w : Nat) (h : Option Nat) (cut : Bool) (zi : Nat) (zones : List Nat) (s : State) (h7 : Kept q s) : Kept q (passStages b f w h cut zi zones s).2 := by
  unfold passStages
  try dsimp only
  repeat' (first | with_reducible assumption | intro _ | with_reducible (first | apply countPair_kept | apply each_kept | apply police_kept | apply runMeter_kept) | simp only [mk_kept_iff] | split)

theorem countStomp_kept (k : Nat) (s : State) (h1 : Kept q s) : Kept q (countStomp k s) := by
  unfold countStomp
  try dsimp only
  repeat' (first | with_reducible assumption | intro _ | with_reducible (first | apply count_kept) | simp only [mk_kept_iff] | split)

theorem offerCopy_kept (b : Bank) (f : Frame) (e : Nat) (w : Nat) (pol : Policed) (start : Option Nat) (early : Bool) (s : State) (h7 : Kept q s) : Kept q (offerCopy b f e w pol start early s).2 := by
  unfold offerCopy
  try dsimp only
  repeat' (first | with_reducible assumption | intro _ | with_reducible (first | apply admitCopy_kept | apply countStomp_kept | apply drawSeq_kept) | simp only [mk_kept_iff] | split)

theorem offerMirror_kept (f : Frame) (m : Nat) (data : Bytes) (stomp : Nat) (colour : Nat) (s : State) (h5 : Kept q s) : Kept q (offerMirror f m data stomp colour s) := by
  unfold offerMirror
  try dsimp only
  repeat' (first | with_reducible assumption | intro _ | with_reducible (first | apply admitCopy_kept))

theorem countReceived_kept (p : Nat) (err : Nat) (L : Nat) (s : State) (h3 : Kept q s) : Kept q (countReceived p err L s) := by
  unfold countReceived
  try dsimp only
  repeat' (first | with_reducible assumption | intro _ | with_reducible (first | apply count_kept | apply countBy_kept) | simp only [mk_kept_iff] | split)

theorem macStart_kept (p : Nat) (m : MacStart) (s : State) (h2 : Kept q s) : Kept q (macStart p m s).2 := by
  unfold macStart
  try dsimp only
  repeat' (first | with_reducible assumption | intro _ | with_reducible (first | apply count_kept | apply countBy_kept) | simp only [mk_kept_iff] | split)

theorem arrivalDrop_kept (p : Nat) (b : Nat) (shortage : Bool) (s : State) (h3 : Kept q s) : Kept q (arrivalDrop p b shortage s) := by
  unfold arrivalDrop
  try dsimp only
  repeat' (first | with_reducible assumption | intro _ | with_reducible (first | apply count_kept))

theorem enqueueEarly_kept (id : Nat) (s : State) (h1 : Kept q s) : Kept q (enqueueEarly id s) := by
  unfold enqueueEarly
  try dsimp only
  repeat' (first | with_reducible assumption | intro _ | with_reducible (first | apply each_kept | apply offerCopy_kept | apply passStages_kept | apply setFrame_kept) | simp only [mk_kept_iff] | split)

theorem takeFrame_kept (p : Nat) (err : Nat) (d : Bytes) (x3 : Parsed) (vid : Nat) (prio : Nat) (len : Nat) (stored : Bool) (s : State) (h8 : Kept q s) : Kept q (takeFrame p err d x3 vid prio len stored s) := by
  unfold takeFrame
  try dsimp only
  repeat' (first | with_reducible assumption | intro _ | with_reducible (first | apply arrivalDrop_kept | apply enqueueEarly_kept | apply setFrame_kept | apply submit_kept | apply takeElls_kept) | simp only [mk_kept_iff] | split)

theorem classifyFrame_kept (p : Nat) (err : Nat) (d : Bytes) (len : Nat) (stored : Bool) (s : State) (h5 : Kept q s) : Kept q (classifyFrame p err d len stored s) := by
  unfold classifyFrame
  try dsimp only
  repeat' (first | with_reducible assumption | intro _ | with_reducible (first | apply count_kept | apply takeFrame_kept) | simp only [mk_kept_iff] | split)

theorem receiveFrame_kept (p : Nat) (f : EthFrame) (s : State) (h2 : Kept q s) : Kept q (receiveFrame p f s) := by
  unfold receiveFrame
  try dsimp only
  repeat' (first | with_reducible assumption | intro _ | with_reducible (first | apply classifyFrame_kept | apply countReceived_kept | apply macStart_kept | apply secReceive_kept | apply setPrt_kept | apply settle_kept | apply when_kept) | simp only [mk_kept_iff] | split)

theorem execEthernetFrameReceive_kept (port : Fin 33) (frame : EthFrame) (s : State) (h2 : Kept q s) : KeptOut q (execEthernetFrameReceive port frame s) := by
  show Kept q _
  try dsimp only
  repeat' (first | with_reducible assumption | intro _ | with_reducible (first | apply receiveFrame_kept))

theorem setLane_kept (n : Nat) (x : LaneSt) (s : State) (h2 : Kept q s) : Kept q (setLane n x s) := by
  unfold setLane
  try dsimp only
  repeat' (first | with_reducible assumption | intro _ | with_reducible (first | apply ite_kept) | simp only [mk_kept_iff])

theorem withdrawLane_kept (n : Nat) (cause : Nat) (s : State) (h2 : Kept q s) : Kept q (withdrawLane n cause s) := by
  unfold withdrawLane
  try dsimp only
  repeat' (first | with_reducible assumption | intro _ | with_reducible (first | apply ite_kept | apply fire_kept | apply setLane_kept | apply setReg_kept))

theorem denyDecision_kept (n : Nat) (d : Decision) (s : State) (h2 : Kept q s) : Kept q (denyDecision n d s) := by
  unfold denyDecision
  try dsimp only
  repeat' (first | with_reducible assumption | intro _ | with_reducible (first | apply count_kept | apply setDec_kept))

theorem latentDivergence_kept (n : Nat) (s : State) (h1 : Kept q s) : Kept q (latentDivergence n s) := by
  unfold latentDivergence
  try dsimp only
  repeat' (first | with_reducible assumption | intro _ | with_reducible (first | apply ite_kept | apply count_kept | apply fire_kept | apply setLane_kept | apply withdrawLane_kept))

theorem noteDivergence_kept (n : Nat) (x : PassPair) (cons : Bool) (s : State) (h3 : Kept q s) : Kept q (noteDivergence n x cons s) := by
  unfold noteDivergence
  try dsimp only
  repeat' (first | with_reducible assumption | intro _ | with_reducible (first | apply setReg_kept))

theorem launchRetry_kept (d : Decision) (s : State) (h1 : Kept q s) : Kept q (launchRetry d s) := by
  unfold launchRetry
  try dsimp only
  repeat' (first | with_reducible assumption | intro _ | with_reducible (first | apply raise_kept | apply setDec_kept | apply setFrame_kept) | simp only [mk_kept_iff] | split)

theorem pairDone_kept (d : Decision) (s : State) (h1 : Kept q s) : Kept q (pairDone d s) := by
  unfold pairDone
  try dsimp only
  repeat' (first | with_reducible assumption | intro _ | with_reducible (first | apply setDec_kept))

theorem pairOutcome_kept (n : Nat) (d : Decision) (x : PassPair) (s : State) (h3 : Kept q s) : Kept q (pairOutcome n d x s) := by
  unfold pairOutcome
  try dsimp only
  repeat' (first | with_reducible assumption | intro _ | with_reducible (first | apply ite_kept | apply count_kept | apply countBy_kept | apply denyDecision_kept | apply fire_kept | apply latentDivergence_kept | apply launchRetry_kept | apply noteDivergence_kept | apply pairDone_kept | apply withdrawLane_kept))

theorem execPassPairOutcome_kept (lane : Fin 2) (pair : PassPair) (s : State) (h2 : Kept q s) : KeptOut q (execPassPairOutcome lane pair s) := by
  show Kept q _
  try dsimp only
  repeat' (first | with_reducible assumption | intro _ | with_reducible (first | apply pairOutcome_kept) | simp only [mk_kept_iff] | split)

theorem execComparatorFault_kept (lane : Fin 2) (s : State) (h1 : Kept q s) : KeptOut q (execComparatorFault lane s) := by
  show Kept q _
  try dsimp only
  repeat' (first | with_reducible assumption | intro _ | with_reducible (first | apply denyDecision_kept | apply fire_kept) | simp only [mk_kept_iff] | split)

theorem takeToken_kept (b : Bank) (i : Nat) (base : Nat) (l : Nat) (s : State) (h4 : Kept q s) : Kept q (takeToken b i base l s).2 := by
  unfold takeToken
  try dsimp only
  repeat' (first | with_reducible assumption | intro _ | with_reducible (first | apply setRegE_kept) | simp only [mk_kept_iff])

theorem authenticate_kept (b : Bank) (r : Nat) (l : Bytes) (s : State) (h3 : Kept q s) : Kept q (authenticate b r l s).2 := by
  unfold authenticate
  try dsimp only
  repeat' (first | with_reducible assumption | intro _ | with_reducible (first | apply countE_kept | apply setRegE_kept) | simp only [mk_kept_iff] | split)

theorem runD3_kept (b : Bank) (w : Nat) (data : Option Bytes) (s : State) (h3 : Kept q s) : Kept q (runD3 b w data s).2 := by
  unfold runD3
  try dsimp only
  repeat' (first | with_reducible assumption | intro _ | with_reducible (first | apply authenticate_kept | apply countE_kept | apply takeToken_kept) | simp only [mk_kept_iff] | split)

theorem countDenied_kept (d : Decision) (z : ZoneDec) (s : State) (h2 : Kept q s) : Kept q (countDenied d z s) := by
  unfold countDenied
  try dsimp only
  repeat' (first | with_reducible assumption | intro _ | with_reducible (first | apply countPair_kept))

theorem countAllDenied_kept (d : Decision) (s : State) (h1 : Kept q s) : Kept q (countAllDenied d s) := by
  unfold countAllDenied
  try dsimp only
  repeat' (first | with_reducible assumption | intro _ | with_reducible (first | apply countPair_kept | apply each_kept))

theorem countMalformed_kept (d : Decision) (f : Final) (s : State) (h2 : Kept q s) : Kept q (countMalformed d f s) := by
  unfold countMalformed
  try dsimp only
  repeat' (first | with_reducible assumption | intro _ | with_reducible (first | apply count_kept) | simp only [mk_kept_iff] | split)

theorem finalVerdict_kept (d : Decision) (data : Option Bytes) (s : State) (h2 : Kept q s) : Kept q (finalVerdict d data s).2 := by
  unfold finalVerdict
  try dsimp only
  repeat' (first | with_reducible assumption | intro _ | with_reducible (first | apply countAllDenied_kept | apply countDenied_kept | apply countHits_kept | apply countMalformed_kept | apply countPair_kept | apply each_kept | apply runD3_kept) | simp only [mk_kept_iff] | split)

theorem stompCopy_kept (f : Nat) (e : Nat) (k : Nat) (s : State) (h3 : Kept q s) : Kept q (stompCopy f e k s) := by
  unfold stompCopy
  try dsimp only
  repeat' (first | with_reducible assumption | intro _ | with_reducible (first | apply countStomp_kept | apply setEgr_kept) | simp only [mk_kept_iff] | split)

theorem learnAt_kept (f : Frame) (s : State) (h1 : Kept q s) : Kept q (learnAt f s) := by
  unfold learnAt
  try dsimp only
  repeat' (first | with_reducible assumption | intro _ | with_reducible (first | apply learnSource_kept) | simp only [mk_kept_iff] | split)

theorem mirrorCopies_kept (b : Bank) (f : Frame) (fin : Final) (out : List Nat) (pol : Policed) (s : State) (h6 : Kept q s) : Kept q (mirrorCopies b f fin out pol s) := by
  unfold mirrorCopies
  try dsimp only
  repeat' (first | with_reducible assumption | intro _ | with_reducible (first | apply each_kept | apply offerMirror_kept) | simp only [mk_kept_iff] | split)

theorem releaseCopies_kept (b : Bank) (f : Frame) (d : Decision) (fin : Final) (ports : List Nat) (s : State) (h5 : Kept q s) : Kept q (releaseCopies b f d fin ports s) := by
  unfold releaseCopies
  try dsimp only
  repeat' (first | with_reducible assumption | intro _ | with_reducible (first | apply countPair_kept | apply each_kept | apply mirrorCopies_kept | apply offerCopy_kept | apply passStages_kept | apply setFrame_kept) | simp only [mk_kept_iff] | split)

theorem handOver_kept (f : Frame) (s : State) (h1 : Kept q s) : Kept q (handOver f s) := by
  unfold handOver
  try dsimp only
  repeat' (first | with_reducible assumption | intro _ | with_reducible (first | apply emit_kept) | simp only [mk_kept_iff] | split)

theorem releaseFrame_kept (f : Frame) (d : Decision) (s : State) (h2 : Kept q s) : Kept q (releaseFrame f d s) := by
  unfold releaseFrame
  try dsimp only
  repeat' (first | with_reducible assumption | intro _ | with_reducible (first | apply count_kept | apply countPair_kept | apply dropDec_kept | apply each_kept | apply finalVerdict_kept | apply handOver_kept | apply learnAt_kept | apply reap_kept | apply recoverSeq_kept | apply releaseCopies_kept | apply setFrame_kept | apply stompCopy_kept) | simp only [mk_kept_iff] | split)

theorem releaseRecord_kept (d : Decision) (r : BusRec) (s : State) (h2 : Kept q s) : Kept q (releaseRecord d r s) := by
  unfold releaseRecord
  try dsimp only
  repeat' (first | with_reducible assumption | intro _ | with_reducible (first | apply countPair_kept | apply dropDec_kept | apply each_kept | apply emit_kept | apply finalVerdict_kept) | simp only [mk_kept_iff] | split)

theorem execVerdictRelease_kept (frame : Nat) (s : State) (h1 : Kept q s) : KeptOut q (execVerdictRelease frame s) := by
  show Kept q _
  try dsimp only
  repeat' (first | with_reducible assumption | intro _ | with_reducible (first | apply dropDec_kept | apply releaseFrame_kept | apply releaseRecord_kept | apply settle_kept) | simp only [mk_kept_iff] | split)

theorem takeCopy_kept (c : Copy) (s : State) (h1 : Kept q s) : Kept q (takeCopy c s) := by
  unfold takeCopy
  try dsimp only
  repeat' (first | with_reducible assumption | intro _ | with_reducible (first | apply ite_kept) | simp only [mk_kept_iff])

theorem preempt_kept (p : Nat) (s : State) (h1 : Kept q s) : Kept q (preempt p s) := by
  unfold preempt
  try dsimp only
  repeat' (first | with_reducible assumption | intro _ | with_reducible (first | apply count_kept | apply setEgr_kept) | simp only [mk_kept_iff] | split)

theorem dropOversize_kept (a : Nat) (x1 : Nat) (x2 : Nat) (x3 : State) (h3 : Kept q x3) : Kept q (dropOversize a x1 x2 x3) := by
  induction a generalizing x1 x2 x3 with
  | zero =>
    unfold dropOversize
    repeat' (first | with_reducible assumption)
  | succ k ih =>
    unfold dropOversize
    try dsimp only
    repeat' (first | with_reducible assumption | intro _ | with_reducible (first | apply ite_kept | apply count_kept | apply reap_kept | apply takeCopy_kept) | simp only [mk_kept_iff] | with_reducible apply ih | split)

theorem creditStep_kept (dt : Nat) (p : Nat) (s : State) (h2 : Kept q s) : Kept q (creditStep dt p s) := by
  unfold creditStep
  try dsimp only
  repeat' (first | with_reducible assumption | intro _ | with_reducible (first | apply each_kept | apply setEgr_kept) | simp only [mk_kept_iff] | split)

theorem creditsStep_kept (dt : Nat) (s : State) (h1 : Kept q s) : Kept q (creditsStep dt s) := by
  unfold creditsStep
  try dsimp only
  repeat' (first | with_reducible assumption | intro _ | with_reducible (first | apply creditStep_kept | apply each_kept))

theorem tagSelected_kept (p : Nat) (x1 : Nat) (c : Copy) (s : State) (h3 : Kept q s) : Kept q (tagSelected p x1 c s) := by
  unfold tagSelected
  try dsimp only
  repeat' (first | with_reducible assumption | intro _ | with_reducible (first | apply setEgr_kept) | simp only [mk_kept_iff] | split)

theorem tagFix_kept (p : Nat) (c : Copy) (s : State) (h2 : Kept q s) : Kept q (tagFix p c s) := by
  unfold tagFix
  try dsimp only
  repeat' (first | with_reducible assumption | intro _ | with_reducible (first | apply setEgr_kept) | simp only [mk_kept_iff] | split)

theorem beginFrame_kept (p : Nat) (c : Copy) (s : State) (h2 : Kept q s) : Kept q (beginFrame p c s).2 := by
  unfold beginFrame
  have h0 := raise_kept (0x7400 + p) (9 + c.queue) (monoGrains (takeCopy c (tagSelected p c.queue c s)) - c.since) _
    (takeCopy_kept c _ (tagSelected_kept p c.queue c s h2))
  have h1 := secTransmit_kept p (if c.data.length < 60 then fit 60 c.data else c.data) _ h0
  dsimp only at h0 h1 ⊢
  split
  · rename_i e; rw [e] at h1; exact reap_kept _ _ h1
  · rename_i e; rw [e] at h1; exact setEgr_kept _ _ _ h1

theorem selectFrame_kept (a : Nat) (x1 : Nat) (x2 : State) (h2 : Kept q x2) : Kept q (selectFrame a x1 x2) := by
  induction a generalizing x1 x2 with
  | zero =>
    unfold selectFrame
    repeat' (first | with_reducible assumption)
  | succ k ih =>
    unfold selectFrame
    try dsimp only
    repeat' (first | with_reducible assumption | intro _ | with_reducible (first | apply beginFrame_kept) | simp only [mk_kept_iff] | with_reducible apply ih | split)

theorem resumeFrame_kept (p : Nat) (s : State) (h1 : Kept q s) : Kept q (resumeFrame p s) := by
  unfold resumeFrame
  try dsimp only
  repeat' (first | with_reducible assumption | intro _ | with_reducible (first | apply setEgr_kept))

theorem dropQueued_kept (p : Nat) (s : State) (h1 : Kept q s) : Kept q (dropQueued p s) := by
  unfold dropQueued
  try dsimp only
  repeat' (first | with_reducible assumption | intro _ | with_reducible (first | apply countBy_kept | apply flushPort_kept))

theorem selection_kept (p : Nat) (s : State) (h1 : Kept q s) : Kept q (selection p s) := by
  unfold selection
  try dsimp only
  repeat' (first | with_reducible assumption | intro _ | with_reducible (first | apply dropOversize_kept | apply dropQueued_kept | apply each_kept | apply preempt_kept | apply resumeFrame_kept | apply selectFrame_kept) | simp only [mk_kept_iff] | split)

theorem execTransmissionSelection_kept (port : Fin 33) (s : State) (h1 : Kept q s) : KeptOut q (execTransmissionSelection port s) := by
  show Kept q _
  try dsimp only
  repeat' (first | with_reducible assumption | intro _ | with_reducible (first | apply selection_kept | apply settle_kept))

theorem ellError_kept (f : Nat) (x : EllError) (s : State) (h2 : Kept q s) : Kept q (ellError f x s).2 := by
  unfold ellError
  try dsimp only
  repeat' (first | with_reducible assumption | intro _ | with_reducible (first | apply count_kept | apply fire_kept | apply retireEll_kept | apply setFrame_kept) | simp only [mk_kept_iff] | split)

theorem ellErrors_kept (f : Nat) (a : List EllError) (x2 : Nat) (x3 : State) (h3 : Kept q x3) : Kept q (ellErrors f a x2 x3).2 := by
  induction a generalizing x2 x3 with
  | nil =>
    unfold ellErrors
    repeat' (first | with_reducible assumption)
  | cons m t ih =>
    unfold ellErrors
    try dsimp only
    repeat' (first | with_reducible assumption | intro _ | with_reducible (first | apply ellError_kept) | simp only [mk_kept_iff] | with_reducible apply ih)

theorem deliver_kept (p : Nat) (c : Copy) (stomped : Bool) (s : State) (h3 : Kept q s) : Kept q (deliver p c stomped s) := by
  unfold deliver
  try dsimp only
  repeat' (first | with_reducible assumption | intro _ | with_reducible (first | apply emit_kept) | simp only [mk_kept_iff] | split)

theorem closeFrame_kept (p : Nat) (c : Copy) (seen : TxEnd) (s : State) (h3 : Kept q s) : Kept q (closeFrame p c seen s).2 := by
  unfold closeFrame
  try dsimp only
  repeat' (first | with_reducible assumption | intro _ | with_reducible (first | apply count_kept | apply countBy_kept | apply countStomp_kept | apply ellErrors_kept | apply tagFix_kept) | simp only [mk_kept_iff] | split)

theorem endFrame_kept (p : Nat) (c : Copy) (seen : TxEnd) (s : State) (h3 : Kept q s) : Kept q (endFrame p c seen s) := by
  unfold endFrame
  try dsimp only
  repeat' (first | with_reducible assumption | intro _ | with_reducible (first | apply closeFrame_kept | apply deliver_kept | apply dropAtBoundary_kept | apply reap_kept | apply setEgr_kept) | simp only [mk_kept_iff] | split)

theorem execFrameTransmitEnd_kept (port : Fin 33) (seen : TxEnd) (s : State) (h2 : Kept q s) : KeptOut q (execFrameTransmitEnd port seen s) := by
  show Kept q _
  try dsimp only
  repeat' (first | with_reducible assumption | intro _ | with_reducible (first | apply endFrame_kept | apply settle_kept) | simp only [mk_kept_iff] | split)

theorem closedUnder_kept (p : Nat) (s : State) (h1 : Kept q s) : Kept q (closedUnder p s) := by
  unfold closedUnder
  try dsimp only
  repeat' (first | with_reducible assumption | intro _ | with_reducible (first | apply count_kept | apply preempt_kept | apply setEgr_kept) | simp only [mk_kept_iff] | split)

theorem execGateEntryChange_kept (port : Fin 22) (s : State) (h1 : Kept q s) : KeptOut q (execGateEntryChange port s) := by
  show Kept q _
  try dsimp only
  repeat' (first | with_reducible assumption | intro _ | with_reducible (first | apply closedUnder_kept | apply setReg_kept) | simp only [mk_kept_iff] | split)

theorem execHoldAssert_kept (port : Fin 16) (s : State) (h1 : Kept q s) : KeptOut q (execHoldAssert port s) := by
  show Kept q _
  try dsimp only
  repeat' (first | with_reducible assumption | intro _ | with_reducible (first | apply holdOn_kept | apply preempt_kept) | simp only [mk_kept_iff] | split)

theorem sweep_kept (s : State) (h0 : Kept q s) : Kept q (sweep s) := by
  unfold sweep
  try dsimp only
  repeat' (first | with_reducible assumption | intro _ | with_reducible (first | apply each_kept | apply reap_kept))

theorem peckCopy_kept (s : State) (h0 : Kept q s) : Kept q (peckCopy s) := by
  unfold peckCopy
  try dsimp only
  repeat' (first | with_reducible assumption | intro _ | with_reducible (first | apply ite_kept) | simp only [mk_kept_iff])

theorem setBudget_kept (s : State) (h0 : Kept q s) : Kept q (setBudget s) := by
  unfold setBudget
  try dsimp only
  repeat' (first | with_reducible assumption | intro _ | with_reducible (first | apply setReg_kept))

theorem setPeck_kept (n : Nat) (v : Nat) (s : State) (h2 : Kept q s) : Kept q (setPeck n v s) := by
  unfold setPeck
  try dsimp only
  repeat' (first | with_reducible assumption | intro _ | with_reducible (first | apply setRegE_kept))

theorem noteWaiting_kept (s : State) (h0 : Kept q s) : Kept q (noteWaiting s) := by
  unfold noteWaiting
  try dsimp only
  repeat' (first | with_reducible assumption | intro _ | with_reducible (first | apply setReg_kept))

theorem setSince_kept (n : Nat) (s : State) (h1 : Kept q s) : Kept q (setSince n s) := by
  unfold setSince
  try dsimp only
  repeat' (first | with_reducible assumption | intro _ | with_reducible (first | apply ite_kept) | simp only [mk_kept_iff])

theorem setStarved_kept (n : Nat) (v : Nat) (s : State) (h2 : Kept q s) : Kept q (setStarved n v s) := by
  unfold setStarved
  try dsimp only
  repeat' (first | with_reducible assumption | intro _ | with_reducible (first | apply setReg_kept) | simp only [mk_kept_iff] | split)

theorem peckRequest_kept (n : Nat) (s : State) (h1 : Kept q s) : Kept q (peckRequest n s) := by
  unfold peckRequest
  try dsimp only
  repeat' (first | with_reducible assumption | intro _ | with_reducible (first | apply ite_kept | apply noteWaiting_kept | apply setPeck_kept | apply setRegE_kept | apply setSince_kept))

theorem cancelDrain_kept (d : Nat) (s : State) (h1 : Kept q s) : Kept q (cancelDrain d s) := by
  unfold cancelDrain
  try dsimp only
  repeat' (first | with_reducible assumption | intro _ | with_reducible (first | apply setReg_kept) | simp only [mk_kept_iff] | split)

theorem execPeckRequest_kept (consumer : Fin 62) (s : State) (h1 : Kept q s) : KeptOut q (execPeckRequest consumer s) := by
  show Kept q _
  try dsimp only
  repeat' (first | with_reducible assumption | intro _ | with_reducible (first | apply cancelDrain_kept | apply peckRequest_kept) | simp only [mk_kept_iff] | split)

theorem peckGive_kept (n : Nat) (s : State) (h1 : Kept q s) : Kept q (peckGive n s) := by
  unfold peckGive
  try dsimp only
  repeat' (first | with_reducible assumption | intro _ | with_reducible (first | apply ite_kept | apply noteWaiting_kept | apply raise_kept | apply setPeck_kept | apply setReg_kept | apply setSince_kept | apply setStarved_kept) | simp only [mk_kept_iff])

theorem execPeckGrant_kept (consumer : Fin 62) (s : State) (h1 : Kept q s) : KeptOut q (execPeckGrant consumer s) := by
  show Kept q _
  try dsimp only
  repeat' (first | with_reducible assumption | intro _ | with_reducible (first | apply peckGive_kept) | simp only [mk_kept_iff] | split)

theorem peckReturn_kept (n : Nat) (s : State) (h1 : Kept q s) : Kept q (peckReturn n s) := by
  unfold peckReturn
  try dsimp only
  repeat' (first | with_reducible assumption | intro _ | with_reducible (first | apply setBudget_kept | apply setPeck_kept | apply setReg_kept) | simp only [mk_kept_iff] | split)

theorem peckWithdraw_kept (n : Nat) (s : State) (h1 : Kept q s) : Kept q (peckWithdraw n s) := by
  unfold peckWithdraw
  try dsimp only
  repeat' (first | with_reducible assumption | intro _ | with_reducible (first | apply noteWaiting_kept | apply setPeck_kept | apply setStarved_kept) | simp only [mk_kept_iff] | split)

theorem leaveFallback_kept (s : State) (h0 : Kept q s) : Kept q (leaveFallback s) := by
  unfold leaveFallback
  try dsimp only
  repeat' (first | with_reducible assumption | intro _ | with_reducible (first | apply dropAtBoundary_kept | apply each_kept) | simp only [mk_kept_iff] | split)

theorem execPeckReturn_kept (consumer : Fin 62) (s : State) (h1 : Kept q s) : KeptOut q (execPeckReturn consumer s) := by
  show Kept q _
  try dsimp only
  repeat' (first | with_reducible assumption | intro _ | with_reducible (first | apply leaveFallback_kept | apply peckReturn_kept | apply settle_kept) | simp only [mk_kept_iff] | split)

theorem clusterDown_kept (d : Nat) (s : State) (h1 : Kept q s) : Kept q (clusterDown d s) := by
  unfold clusterDown
  try dsimp only
  repeat' (first | with_reducible assumption | intro _ | with_reducible (first | apply each_kept | apply setReg_kept) | simp only [mk_kept_iff] | split)

theorem fallback_kept (n : Nat) (reason : Nat) (s : State) (h2 : Kept q s) : Kept q (fallback n reason s) := by
  unfold fallback
  try dsimp only
  repeat' (first | with_reducible assumption | intro _ | with_reducible (first | apply clusterDown_kept | apply each_kept | apply setReg_kept) | simp only [mk_kept_iff] | split)

theorem execPeckStarvation_kept (consumer : Fin 62) (s : State) (h1 : Kept q s) : KeptOut q (execPeckStarvation consumer s) := by
  show Kept q _
  try dsimp only
  repeat' (first | with_reducible assumption | intro _ | with_reducible (first | apply count_kept | apply countE_kept | apply fallback_kept | apply fire_kept | apply setPeck_kept | apply setStarved_kept) | simp only [mk_kept_iff] | split)

theorem execStarvedFallback_kept (port : Fin 16) (s : State) (h1 : Kept q s) : KeptOut q (execStarvedFallback port s) := by
  show Kept q _
  try dsimp only
  repeat' (first | with_reducible assumption | intro _ | with_reducible (first | apply peckRequest_kept | apply peckWithdraw_kept | apply setPrt_kept | apply setReg_kept) | simp only [mk_kept_iff] | split)

theorem endCondition_kept (n : Nat) (s : State) (h1 : Kept q s) : Kept q (endCondition n s) := by
  unfold endCondition
  try dsimp only
  repeat' (first | with_reducible assumption | intro _ | with_reducible (first | apply ite_kept) | simp only [mk_kept_iff])

theorem execDeratingUpdate_kept (tj : ℤ) (s : State) (h1 : Kept q s) : KeptOut q (execDeratingUpdate tj s) := by
  show Kept q _
  try dsimp only
  repeat' (first | with_reducible assumption | intro _ | with_reducible (first | apply ite_kept | apply endCondition_kept | apply fire_kept | apply setBudget_kept | apply setReg_kept))

theorem stepIssue_kept (allow : Nat) (a : List Nat) (x2 : Nat) (x3 : State) (h3 : Kept q x3) : Kept q (stepIssue allow a x2 x3) := by
  induction a generalizing x2 x3 with
  | nil =>
    unfold stepIssue
    repeat' (first | with_reducible assumption)
  | cons m t ih =>
    unfold stepIssue
    try dsimp only
    repeat' (first | with_reducible assumption | intro _ | with_reducible (first | apply peckRequest_kept | apply peckWithdraw_kept) | simp only [mk_kept_iff] | with_reducible apply ih | split)

theorem execSerdesStep_kept (s : State) (h0 : Kept q s) : KeptOut q (execSerdesStep s) := by
  show Kept q _
  try dsimp only
  repeat' (first | with_reducible assumption | intro _ | with_reducible (first | apply setReg_kept | apply stepIssue_kept) | simp only [mk_kept_iff] | split)

theorem execStepRequestWithdraw_kept (consumer : Fin 62) (s : State) (h1 : Kept q s) : KeptOut q (execStepRequestWithdraw consumer s) := by
  show Kept q _
  try dsimp only
  repeat' (first | with_reducible assumption | intro _ | with_reducible (first | apply peckWithdraw_kept) | simp only [mk_kept_iff] | split)

theorem pecksCommit_kept (s : State) (h0 : Kept q s) : Kept q (pecksCommit s) := by
  unfold pecksCommit
  try dsimp only
  repeat' (first | with_reducible assumption | intro _ | with_reducible (first | apply ite_kept | apply each_kept | apply fallback_kept | apply noteWaiting_kept | apply peckCopy_kept | apply setBudget_kept | apply setPeck_kept))

end Sys2Proof.Machine
end

