-- ==== Sys2Proof/Laws/KeptBuses.lean ====
section
/-! SUPPORT. What each definition over the low-speed buses, the Braider and the lanes keeps: the object
stores stay in their canonical form and the command queue stays as it is (`Kept`, Sys2Proof/Laws/Kept.lean), one lemma per definition. -/

set_option linter.unusedVariables false
set_option linter.unreachableTactic false
set_option linter.unusedTactic false
set_option linter.unusedSimpArgs false
set_option maxRecDepth 4000

-- One declaration after the other: it keeps the memory of the package as one text within bounds.
set_option Elab.async false

namespace Sys2Proof.Machine
variable {q : List Instr}

theorem setCan_kept (n : Nat) (x : CanSt) (s : State) (h2 : Kept q s) : Kept q (setCan n x s) := by
  unfold setCan
  try dsimp only
  repeat' (first | with_reducible assumption | intro _ | with_reducible (first | apply ite_kept) | simp only [mk_kept_iff])

theorem setLin_kept (m : Nat) (x : LinSt) (s : State) (h2 : Kept q s) : Kept q (setLin m x s) := by
  unfold setLin
  try dsimp only
  repeat' (first | with_reducible assumption | intro _ | with_reducible (first | apply ite_kept) | simp only [mk_kept_iff])

theorem setCanState_kept (n : Nat) (v : Nat) (s : State) (h2 : Kept q s) : Kept q (setCanState n v s) := by
  unfold setCanState
  try dsimp only
  repeat' (first | with_reducible assumption | intro _ | with_reducible (first | apply setReg_kept))

theorem setLinState_kept (m : Nat) (v : Nat) (s : State) (h2 : Kept q s) : Kept q (setLinState m v s) := by
  unfold setLinState
  try dsimp only
  repeat' (first | with_reducible assumption | intro _ | with_reducible (first | apply setReg_kept))

theorem holdAwake_kept (e : Nat) (s : State) (h1 : Kept q s) : Kept q (holdAwake e s) := by
  unfold holdAwake
  try dsimp only
  repeat' (first | with_reducible assumption | intro _ | with_reducible (first | apply setReg_kept) | simp only [mk_kept_iff] | split)

theorem submitRec_kept (x : BusRec) (routes : List Nat) (server : Option Nat) (mal : Bool) (bad : Bool) (trap : Bool) (s : State) (h6 : Kept q s) : Kept q (submitRec x routes server mal bad trap s) := by
  unfold submitRec
  try dsimp only
  repeat' (first | with_reducible assumption | intro _ | with_reducible (first | apply arrivalDrop_kept | apply count_kept | apply submit_kept | apply takeElls_kept) | simp only [mk_kept_iff] | split)

theorem arriveEngine_kept (x : BusRec) (replayed : Bool) (foreign : Option Nat) (s : State) (h3 : Kept q s) : Kept q (arriveEngine x replayed foreign s) := by
  unfold arriveEngine
  try dsimp only
  repeat' (first | with_reducible assumption | intro _ | with_reducible (first | apply count_kept | apply submitRec_kept) | simp only [mk_kept_iff] | split)

theorem noteHeld_kept (e : Nat) (s : State) (h1 : Kept q s) : Kept q (noteHeld e s) := by
  unfold noteHeld
  try dsimp only
  repeat' (first | with_reducible assumption | intro _ | with_reducible (first | apply setReg_kept))

theorem catchRec_kept (x : BusRec) (s : State) (h1 : Kept q s) : Kept q (catchRec x s) := by
  unfold catchRec
  try dsimp only
  repeat' (first | with_reducible assumption | intro _ | with_reducible (first | apply noteHeld_kept | apply setReg_kept | apply takeElls_kept) | simp only [mk_kept_iff] | split)

theorem appendRec_kept (x : BusRec) (s : State) (h1 : Kept q s) : Kept q (appendRec x s) := by
  unfold appendRec
  try dsimp only
  repeat' (first | with_reducible assumption | intro _ | with_reducible (first | apply count_kept | apply noteHeld_kept | apply takeElls_kept) | simp only [mk_kept_iff])

theorem releaseCatch_kept (x : BusRec) (s : State) (h1 : Kept q s) : Kept q (releaseCatch x s) := by
  unfold releaseCatch
  try dsimp only
  repeat' (first | with_reducible assumption | intro _ | with_reducible (first | apply returnElls_kept) | simp only [mk_kept_iff])

theorem handRec_kept (x : BusRec) (foreign : Option Nat) (s : State) (h2 : Kept q s) : Kept q (handRec x foreign s) := by
  unfold handRec
  try dsimp only
  repeat' (first | with_reducible assumption | intro _ | with_reducible (first | apply appendRec_kept | apply arriveEngine_kept | apply catchRec_kept) | simp only [mk_kept_iff] | split)

theorem busCopy_kept (s : State) (h0 : Kept q s) : Kept q (busCopy s) := by
  unfold busCopy
  try dsimp only
  repeat' (first | with_reducible assumption | intro _ | with_reducible (first | apply ite_kept) | simp only [mk_kept_iff])

theorem egressFrame_kept (b : Bank) (r : Nat) (buf : Bytes) (s : State) (h3 : Kept q s) : Kept q (egressFrame b r buf s).2 := by
  unfold egressFrame
  try dsimp only
  repeat' (first | with_reducible assumption | intro _ | with_reducible (first | apply useFree_kept) | simp only [mk_kept_iff] | split)

theorem setStream_kept (k : Nat) (x : StreamSt) (s : State) (h2 : Kept q s) : Kept q (setStream k x s) := by
  unfold setStream
  try dsimp only
  repeat' (first | with_reducible assumption | intro _ | with_reducible (first | apply ite_kept) | simp only [mk_kept_iff])

theorem closeStream_kept (b : Bank) (k : Nat) (why : Nat) (s : State) (h3 : Kept q s) : Kept q (closeStream b k why s) := by
  unfold closeStream
  try dsimp only
  repeat' (first | with_reducible assumption | intro _ | with_reducible (first | apply ite_kept | apply count_kept | apply countE_kept | apply receiveFrame_kept | apply setRegE_kept | apply setStream_kept))

theorem placePdu_kept (b : Bank) (k : Nat) (offset : Nat) (x : BusRec) (s : State) (h4 : Kept q s) : Kept q (placePdu b k offset x s) := by
  unfold placePdu
  try dsimp only
  repeat' (first | with_reducible assumption | intro _ | with_reducible (first | apply ite_kept | apply closeStream_kept | apply countE_kept | apply setStream_kept))

theorem execContainerDeadlineClose_kept (stream : Fin 64) (s : State) (h1 : Kept q s) : KeptOut q (execContainerDeadlineClose stream s) := by
  show Kept q _
  try dsimp only
  repeat' (first | with_reducible assumption | intro _ | with_reducible (first | apply closeStream_kept | apply settle_kept) | simp only [mk_kept_iff] | split)

theorem unpackMsg_kept (e : Nat) (port : Nat) (stamp : Nat) (m : Bytes) (s : State) (h4 : Kept q s) : Kept q (unpackMsg e port stamp m s) := by
  unfold unpackMsg
  try dsimp only
  repeat' (first | with_reducible assumption | intro _ | with_reducible (first | apply countE_kept | apply submitRec_kept) | simp only [mk_kept_iff] | split)

theorem unpackAll_kept (e : Nat) (port : Nat) (stamp : Nat) (short : Bool) (a : Nat) (x5 : Bytes) (x6 : State) (h6 : Kept q x6) : Kept q (unpackAll e port stamp short a x5 x6) := by
  induction a generalizing x5 x6 with
  | zero =>
    unfold unpackAll
    repeat' (first | with_reducible assumption)
  | succ k ih =>
    unfold unpackAll
    try dsimp only
    repeat' (first | with_reducible assumption | intro _ | with_reducible (first | apply countE_kept | apply unpackMsg_kept) | simp only [mk_kept_iff] | with_reducible apply ih | split)

theorem unpackBody_kept (e : Nat) (u : Unpack) (a : Avtp) (s : State) (h3 : Kept q s) : Kept q (unpackBody e u a s) := by
  unfold unpackBody
  try dsimp only
  repeat' (first | with_reducible assumption | intro _ | with_reducible (first | apply unpackAll_kept))

theorem checkSeq_kept (e : Nat) (seq : Nat) (s : State) (h2 : Kept q s) : Kept q (checkSeq e seq s) := by
  unfold checkSeq
  try dsimp only
  repeat' (first | with_reducible assumption | intro _ | with_reducible (first | apply countE_kept) | simp only [mk_kept_iff] | split)

theorem execContainerUnpack_kept (s : State) (h0 : Kept q s) : KeptOut q (execContainerUnpack s) := by
  show Kept q _
  try dsimp only
  repeat' (first | with_reducible assumption | intro _ | with_reducible (first | apply checkSeq_kept | apply count_kept | apply countE_kept | apply settle_kept | apply unpackBody_kept) | simp only [mk_kept_iff] | split)

theorem setRoute_kept (r : Nat) (x : RouteSt) (s : State) (h2 : Kept q s) : Kept q (setRoute r x s) := by
  unfold setRoute
  try dsimp only
  repeat' (first | with_reducible assumption | intro _ | with_reducible (first | apply ite_kept) | simp only [mk_kept_iff])

theorem setWindow_kept (n : Nat) (g : GateSt) (s : State) (h2 : Kept q s) : Kept q (setWindow n g s) := by
  unfold setWindow
  try dsimp only
  repeat' (first | with_reducible assumption | intro _ | with_reducible (first | apply ite_kept) | simp only [mk_kept_iff])

theorem fillSlots_kept (n : Nat) (s : State) (h1 : Kept q s) : Kept q (fillSlots n s) := by
  unfold fillSlots
  try dsimp only
  repeat' (first | with_reducible assumption | intro _ | with_reducible (first | apply setCan_kept) | simp only [mk_kept_iff] | split)

theorem joinNow_kept (r : Nat) (s : State) (h1 : Kept q s) : Kept q (joinNow r s) := by
  unfold joinNow
  try dsimp only
  repeat' (first | with_reducible assumption | intro _ | with_reducible (first | apply ite_kept | apply countE_kept | apply fillSlots_kept | apply setRoute_kept | apply takeToken_kept) | simp only [mk_kept_iff] | split)

theorem tryJoin_kept (r : Nat) (s : State) (h1 : Kept q s) : Kept q (tryJoin r s) := by
  unfold tryJoin
  try dsimp only
  repeat' (first | with_reducible assumption | intro _ | with_reducible (first | apply joinNow_kept) | simp only [mk_kept_iff] | split)

theorem leaveSet_kept (r : Nat) (s : State) (h1 : Kept q s) : Kept q (leaveSet r s) := by
  unfold leaveSet
  try dsimp only
  repeat' (first | with_reducible assumption | intro _ | with_reducible (first | apply ite_kept | apply fillSlots_kept | apply setRoute_kept))

theorem countRoute_kept (r : Nat) (j : Nat) (s : State) (h2 : Kept q s) : Kept q (countRoute r j s) := by
  unfold countRoute
  try dsimp only
  repeat' (first | with_reducible assumption | intro _ | with_reducible (first | apply countE_kept) | simp only [mk_kept_iff] | split)

theorem fifoPut_kept (b : Bank) (r : Nat) (f : BusFrame) (s : State) (h3 : Kept q s) : Kept q (fifoPut b r f s) := by
  unfold fifoPut
  try dsimp only
  repeat' (first | with_reducible assumption | intro _ | with_reducible (first | apply ite_kept | apply arrivalDrop_kept | apply countRoute_kept | apply setRoute_kept | apply takeElls_kept | apply tryJoin_kept))

theorem setShadow_kept (n : Nat) (f : BusFrame) (s : State) (h2 : Kept q s) : Kept q (setShadow n f s) := by
  unfold setShadow
  try dsimp only
  repeat' (first | with_reducible assumption | intro _ | with_reducible (first | apply setCan_kept))

theorem markUpdated_kept (n : Nat) (id : Nat) (s : State) (h2 : Kept q s) : Kept q (markUpdated n id s) := by
  unfold markUpdated
  try dsimp only
  repeat' (first | with_reducible assumption | intro _ | with_reducible (first | apply setLin_kept) | simp only [mk_kept_iff] | split)

theorem boxPut_kept (b : Bank) (r : Nat) (f : BusFrame) (s : State) (h3 : Kept q s) : Kept q (boxPut b r f s) := by
  unfold boxPut
  try dsimp only
  repeat' (first | with_reducible assumption | intro _ | with_reducible (first | apply ite_kept | apply countRoute_kept | apply fillSlots_kept | apply leaveSet_kept | apply markUpdated_kept | apply setRoute_kept | apply setShadow_kept | apply tryJoin_kept))

theorem putFrame_kept (b : Bank) (r : Nat) (f : BusFrame) (s : State) (h3 : Kept q s) : Kept q (putFrame b r f s) := by
  unfold putFrame
  try dsimp only
  repeat' (first | with_reducible assumption | intro _ | with_reducible (first | apply boxPut_kept | apply fifoPut_kept) | simp only [mk_kept_iff] | split)

theorem frameSent_kept (b : Bank) (r : Nat) (f : BusFrame) (next_ : Option BusFrame) (s : State) (h4 : Kept q s) : Kept q (frameSent b r f next_ s) := by
  unfold frameSent
  try dsimp only
  repeat' (first | with_reducible assumption | intro _ | with_reducible (first | apply ite_kept | apply returnElls_kept | apply setRoute_kept | apply tryJoin_kept) | simp only [mk_kept_iff] | split)

theorem runRoute_kept (b : Bank) (x : BusRec) (r : Nat) (s : State) (h3 : Kept q s) : Kept q (runRoute b x r s) := by
  unfold runRoute
  try dsimp only
  repeat' (first | with_reducible assumption | intro _ | with_reducible (first | apply ite_kept | apply count_kept | apply countBy_kept | apply countRoute_kept | apply egressFrame_kept | apply placePdu_kept | apply putFrame_kept | apply setRoute_kept) | simp only [mk_kept_iff] | split)

theorem dropRec_kept (x : BusRec) (s : State) (h1 : Kept q s) : Kept q (dropRec x s) := by
  unfold dropRec
  try dsimp only
  repeat' (first | with_reducible assumption | intro _ | with_reducible (first | apply returnElls_kept) | simp only [mk_kept_iff])

theorem runRecord_kept (x : BusRec) (s : State) (h1 : Kept q s) : Kept q (runRecord x s) := by
  unfold runRecord
  try dsimp only
  repeat' (first | with_reducible assumption | intro _ | with_reducible (first | apply dropRec_kept | apply each_kept | apply runRoute_kept) | simp only [mk_kept_iff] | split)

theorem execRouteExecute_kept (s : State) (h0 : Kept q s) : KeptOut q (execRouteExecute s) := by
  show Kept q _
  try dsimp only
  repeat' (first | with_reducible assumption | intro _ | with_reducible (first | apply runRecord_kept | apply settle_kept) | simp only [mk_kept_iff] | split)

theorem execPeriodicTransmit_kept (route : Fin 12288) (s : State) (h1 : Kept q s) : KeptOut q (execPeriodicTransmit route s) := by
  show Kept q _
  try dsimp only
  repeat' (first | with_reducible assumption | intro _ | with_reducible (first | apply ite_kept | apply countRoute_kept | apply joinNow_kept | apply markUpdated_kept | apply setRoute_kept))

theorem execMinimumIntervalEnd_kept (route : Fin 12288) (s : State) (h1 : Kept q s) : KeptOut q (execMinimumIntervalEnd route s) := by
  show Kept q _
  try dsimp only
  repeat' (first | with_reducible assumption | intro _ | with_reducible (first | apply tryJoin_kept) | simp only [mk_kept_iff] | split)

theorem execLimiterTokenRelease_kept (limiter : Fin 1024) (s : State) (h1 : Kept q s) : KeptOut q (execLimiterTokenRelease limiter s) := by
  show Kept q _
  try dsimp only
  repeat' (first | with_reducible assumption | intro _ | with_reducible (first | apply tryJoin_kept) | simp only [mk_kept_iff] | split)

theorem windowEdge_kept (n : Nat) (r : Nat) (s : State) (h2 : Kept q s) : Kept q (windowEdge n r s) := by
  unfold windowEdge
  try dsimp only
  repeat' (first | with_reducible assumption | intro _ | with_reducible (first | apply ite_kept | apply count_kept | apply leaveSet_kept | apply setRoute_kept | apply tryJoin_kept) | simp only [mk_kept_iff] | split)

theorem execTransmitWindowEdge_kept (engine : Fin 48) (s : State) (h1 : Kept q s) : KeptOut q (execTransmitWindowEdge engine s) := by
  show Kept q _
  try dsimp only
  repeat' (first | with_reducible assumption | intro _ | with_reducible (first | apply ite_kept | apply each_kept | apply setReg_kept | apply setWindow_kept | apply windowEdge_kept) | simp only [mk_kept_iff] | split)

theorem noteDisagree_kept (s : State) (h0 : Kept q s) : Kept q (noteDisagree s) := by
  unfold noteDisagree
  try dsimp only
  repeat' (first | with_reducible assumption | intro _ | with_reducible (first | apply fire_kept) | simp only [mk_kept_iff] | split)

theorem noteMismatch_kept (e : Nat) (f : BusFrame) (s : State) (h2 : Kept q s) : Kept q (noteMismatch e f s) := by
  unfold noteMismatch
  try dsimp only
  repeat' (first | with_reducible assumption | intro _ | with_reducible (first | apply count_kept | apply noteDisagree_kept | apply setReg_kept) | simp only [mk_kept_iff])

theorem shadowCompare_kept (e : Nat) (f : BusFrame) (s : State) (h2 : Kept q s) : Kept q (shadowCompare e f s) := by
  unfold shadowCompare
  try dsimp only
  repeat' (first | with_reducible assumption | intro _ | with_reducible (first | apply count_kept | apply fillSlots_kept | apply frameSent_kept | apply noteMismatch_kept) | simp only [mk_kept_iff] | split)

theorem shadowOmission_kept (e : Nat) (s : State) (h1 : Kept q s) : Kept q (shadowOmission e s) := by
  unfold shadowOmission
  try dsimp only
  repeat' (first | with_reducible assumption | intro _ | with_reducible (first | apply count_kept | apply fillSlots_kept | apply frameSent_kept | apply noteDisagree_kept) | simp only [mk_kept_iff] | split)

theorem ownFrame_kept (r : Nat) (f : BusFrame) (s : State) (h2 : Kept q s) : Kept q (ownFrame r f s) := by
  unfold ownFrame
  try dsimp only
  repeat' (first | with_reducible assumption | intro _ | with_reducible (first | apply submitRec_kept))

theorem emptyRoute_kept (r : Nat) (s : State) (h1 : Kept q s) : Kept q (emptyRoute r s) := by
  unfold emptyRoute
  try dsimp only
  repeat' (first | with_reducible assumption | intro _ | with_reducible (first | apply ite_kept | apply each_kept | apply returnElls_kept | apply setCan_kept | apply setRoute_kept))

theorem keepSlot_kept (n : Nat) (r : Nat) (s : State) (h2 : Kept q s) : Kept q (keepSlot n r s) := by
  unfold keepSlot
  try dsimp only
  repeat' (first | with_reducible assumption | intro _ | with_reducible (first | apply setCan_kept) | simp only [mk_kept_iff] | split)

theorem routeCommit_kept (old : Bank) (new : Bank) (r : Nat) (s : State) (h3 : Kept q s) : Kept q (routeCommit old new r s) := by
  unfold routeCommit
  try dsimp only
  repeat' (first | with_reducible assumption | intro _ | with_reducible (first | apply ite_kept | apply emptyRoute_kept | apply returnElls_kept | apply keepSlot_kept | apply setRoute_kept | apply takeElls_kept))

theorem streamCommit_kept (old : Bank) (new : Bank) (k : Nat) (s : State) (h3 : Kept q s) : Kept q (streamCommit old new k s) := by
  unfold streamCommit
  try dsimp only
  repeat' (first | with_reducible assumption | intro _ | with_reducible (first | apply closeStream_kept | apply setRegE_kept) | simp only [mk_kept_iff] | split)

theorem windowCommit_kept (old : Bank) (new : Bank) (n : Nat) (s : State) (h3 : Kept q s) : Kept q (windowCommit old new n s) := by
  unfold windowCommit
  try dsimp only
  repeat' (first | with_reducible assumption | intro _ | with_reducible (first | apply ite_kept | apply setWindow_kept))

theorem braidCommit_kept (old : Bank) (new : Bank) (s : State) (h2 : Kept q s) : Kept q (braidCommit old new s) := by
  unfold braidCommit
  try dsimp only
  repeat' (first | with_reducible assumption | intro _ | with_reducible (first | apply each_kept | apply fillSlots_kept | apply routeCommit_kept | apply streamCommit_kept | apply windowCommit_kept) | simp only [mk_kept_iff])

theorem braidStep_kept (s : State) (h0 : Kept q s) : Kept q (braidStep s) := by
  unfold braidStep
  try dsimp only
  repeat' (first | with_reducible assumption | intro _ | with_reducible (first | apply ite_kept | apply count_kept | apply each_kept | apply setRoute_kept))

theorem errorState_kept (n : Nat) (s : State) (h1 : Kept q s) : Kept q (errorState n s) := by
  unfold errorState
  try dsimp only
  repeat' (first | with_reducible assumption | intro _ | with_reducible (first | apply fire_kept | apply setCanState_kept) | simp only [mk_kept_iff] | split)

theorem runState_kept (n : Nat) (capture : Bool) (s : State) (h2 : Kept q s) : Kept q (runState n capture s) := by
  unfold runState
  try dsimp only
  repeat' (first | with_reducible assumption | intro _ | with_reducible (first | apply errorState_kept | apply setCanState_kept | apply setReg_kept) | simp only [mk_kept_iff] | split)

theorem goodReception_kept (n : Nat) (s : State) (h1 : Kept q s) : Kept q (goodReception n s) := by
  unfold goodReception
  try dsimp only
  repeat' (first | with_reducible assumption | intro _ | with_reducible (first | apply errorState_kept | apply setReg_kept | apply useFree_kept) | simp only [mk_kept_iff] | split)

theorem handOn_kept (n : Nat) (f : BusFrame) (stamp : Nat) (s : State) (h3 : Kept q s) : Kept q (handOn n f stamp s) := by
  unfold handOn
  try dsimp only
  repeat' (first | with_reducible assumption | intro _ | with_reducible (first | apply handRec_kept | apply shadowCompare_kept))

theorem receiveCan_kept (n : Nat) (f : BusFrame) (stamp : Nat) (s : State) (h3 : Kept q s) : Kept q (receiveCan n f stamp s) := by
  unfold receiveCan
  try dsimp only
  repeat' (first | with_reducible assumption | intro _ | with_reducible (first | apply count_kept | apply fire_kept | apply goodReception_kept | apply handOn_kept | apply setCan_kept) | simp only [mk_kept_iff] | split)

theorem execCanFrameReceive_kept (engine : Fin 48) (frame : BusFrame) (sofAgo : Fin 4294967296) (s : State) (h3 : Kept q s) : KeptOut q (execCanFrameReceive engine frame sofAgo s) := by
  show Kept q _
  try dsimp only
  repeat' (first | with_reducible assumption | intro _ | with_reducible (first | apply receiveCan_kept | apply settle_kept))

theorem execProtocolException_kept (engine : Fin 48) (s : State) (h1 : Kept q s) : KeptOut q (execProtocolException engine s) := by
  show Kept q _
  try dsimp only
  repeat' (first | with_reducible assumption | intro _ | with_reducible (first | apply count_kept) | simp only [mk_kept_iff] | split)

theorem settleStandby_kept (n : Nat) (s : State) (h1 : Kept q s) : Kept q (settleStandby n s) := by
  unfold settleStandby
  try dsimp only
  repeat' (first | with_reducible assumption | intro _ | with_reducible (first | apply setCanState_kept | apply setReg_kept) | simp only [mk_kept_iff] | split)

theorem unlock_kept (n : Nat) (s : State) (h1 : Kept q s) : Kept q (unlock n s) := by
  unfold unlock
  try dsimp only
  repeat' (first | with_reducible assumption | intro _ | with_reducible (first | apply setCan_kept))

theorem startSlot_kept (n : Nat) (x : Slot) (s : State) (h2 : Kept q s) : Kept q (startSlot n x s) := by
  unfold startSlot
  try dsimp only
  repeat' (first | with_reducible assumption | intro _ | with_reducible (first | apply setCan_kept | apply setRoute_kept) | simp only [mk_kept_iff] | split)

theorem execTransmitSlotSelection_kept (engine : Fin 48) (s : State) (h1 : Kept q s) : KeptOut q (execTransmitSlotSelection engine s) := by
  show Kept q _
  try dsimp only
  repeat' (first | with_reducible assumption | intro _ | with_reducible (first | apply count_kept | apply setCan_kept | apply startSlot_kept) | simp only [mk_kept_iff] | split)

theorem confirmSlot_kept (n : Nat) (x : Slot) (s : State) (h2 : Kept q s) : Kept q (confirmSlot n x s) := by
  unfold confirmSlot
  try dsimp only
  repeat' (first | with_reducible assumption | intro _ | with_reducible (first | apply count_kept | apply emit_kept | apply errorState_kept | apply fillSlots_kept | apply frameSent_kept | apply setCan_kept | apply setReg_kept | apply settleStandby_kept | apply unlock_kept) | simp only [mk_kept_iff] | split)

theorem measureTdc_kept (n : Nat) (f : BusFmt) (d : Nat) (s : State) (h1 : Kept q s) : Kept q (measureTdc n f d s) := by
  unfold measureTdc
  try dsimp only
  repeat' (first | with_reducible assumption | intro _ | with_reducible (first | apply count_kept | apply setReg_kept) | simp only [mk_kept_iff] | split)

theorem execTransmitConfirmation_kept (engine : Fin 48) (loopDelay : Fin 4096) (s : State) (h1 : Kept q s) : KeptOut q (execTransmitConfirmation engine loopDelay s) := by
  show Kept q _
  try dsimp only
  repeat' (first | with_reducible assumption | intro _ | with_reducible (first | apply confirmSlot_kept | apply measureTdc_kept | apply settle_kept) | simp only [mk_kept_iff] | split)

theorem retrySlot_kept (n : Nat) (x : Slot) (s : State) (h2 : Kept q s) : Kept q (retrySlot n x s) := by
  unfold retrySlot
  try dsimp only
  repeat' (first | with_reducible assumption | intro _ | with_reducible (first | apply setCan_kept | apply setRoute_kept | apply unlock_kept) | simp only [mk_kept_iff] | split)

theorem freeSlot_kept (n : Nat) (x : Slot) (s : State) (h2 : Kept q s) : Kept q (freeSlot n x s) := by
  unfold freeSlot
  try dsimp only
  repeat' (first | with_reducible assumption | intro _ | with_reducible (first | apply frameSent_kept | apply setRoute_kept | apply unlock_kept) | simp only [mk_kept_iff] | split)

theorem execTransmitAttemptFailed_kept (engine : Fin 48) (byArbitration : Bool) (loopDelay : Option (Fin 4096)) (s : State) (h2 : Kept q s) : KeptOut q (execTransmitAttemptFailed engine byArbitration loopDelay s) := by
  show Kept q _
  try dsimp only
  repeat' (first | with_reducible assumption | intro _ | with_reducible (first | apply measureTdc_kept | apply count_kept | apply fillSlots_kept | apply freeSlot_kept | apply retrySlot_kept | apply settleStandby_kept) | simp only [mk_kept_iff] | split)

theorem startRecovery_kept (n : Nat) (s : State) (h1 : Kept q s) : Kept q (startRecovery n s) := by
  unfold startRecovery
  try dsimp only
  repeat' (first | with_reducible assumption | intro _ | with_reducible (first | apply setCan_kept))

theorem busOff_kept (n : Nat) (s : State) (h1 : Kept q s) : Kept q (busOff n s) := by
  unfold busOff
  try dsimp only
  repeat' (first | with_reducible assumption | intro _ | with_reducible (first | apply count_kept | apply fire_kept | apply setCan_kept | apply setCanState_kept | apply setReg_kept | apply startRecovery_kept))

theorem errorCount_kept (n : Nat) (e : CanError) (s : State) (h2 : Kept q s) : Kept q (errorCount n e s) := by
  unfold errorCount
  try dsimp only
  repeat' (first | with_reducible assumption | intro _ | with_reducible (first | apply busOff_kept | apply errorState_kept | apply setReg_kept) | simp only [mk_kept_iff] | split)

theorem execCanBusError_kept (engine : Fin 48) (error : CanError) (s : State) (h2 : Kept q s) : KeptOut q (execCanBusError engine error s) := by
  show Kept q _
  try dsimp only
  repeat' (first | with_reducible assumption | intro _ | with_reducible (first | apply count_kept | apply emit_kept | apply errorCount_kept | apply setReg_kept | apply settle_kept) | simp only [mk_kept_iff] | split)

theorem execBusOffHoldOffEnd_kept (engine : Fin 48) (s : State) (h1 : Kept q s) : KeptOut q (execBusOffHoldOffEnd engine s) := by
  show Kept q _
  try dsimp only
  repeat' (first | with_reducible assumption | intro _ | with_reducible (first | apply setCan_kept) | simp only [mk_kept_iff] | split)

theorem execBusOffRecoveryComplete_kept (engine : Fin 48) (s : State) (h1 : Kept q s) : KeptOut q (execBusOffRecoveryComplete engine s) := by
  show Kept q _
  try dsimp only
  repeat' (first | with_reducible assumption | intro _ | with_reducible (first | apply fillSlots_kept | apply runState_kept | apply setCan_kept | apply setReg_kept) | simp only [mk_kept_iff] | split)

theorem canRecover_kept (n : Nat) (a : State) (h1 : Kept q a) : Kept q (canRecover n a).1 := by
  unfold canRecover
  try dsimp only
  repeat' (first | with_reducible assumption | intro _ | with_reducible (first | apply deny_kept | apply done_kept | apply notTerminal_kept | apply setCan_kept | apply setReg_kept) | simp only [mk_kept_iff] | split)

theorem execCanRecover_kept (ses : Session) (engine : Fin 48) (s : State) (h2 : Kept q s) : KeptOut q (execCanRecover ses engine s) := by
  show Kept q _
  try dsimp only
  repeat' (first | with_reducible assumption | intro _ | with_reducible (first | apply canRecover_kept | apply serve_kept))

theorem canClear_kept (n : Nat) (a : State) (h1 : Kept q a) : Kept q (canClear n a).1 := by
  unfold canClear
  try dsimp only
  repeat' (first | with_reducible assumption | intro _ | with_reducible (first | apply done_kept | apply each_kept | apply notTerminal_kept | apply setReg_kept))

theorem execCanClearCounters_kept (ses : Session) (engine : Fin 48) (s : State) (h2 : Kept q s) : KeptOut q (execCanClearCounters ses engine s) := by
  show Kept q _
  try dsimp only
  repeat' (first | with_reducible assumption | intro _ | with_reducible (first | apply canClear_kept | apply serve_kept))

theorem execEngineSettingsTakeover_kept (engine : Fin 48) (s : State) (h1 : Kept q s) : KeptOut q (execEngineSettingsTakeover engine s) := by
  show Kept q _
  try dsimp only
  repeat' (first | with_reducible assumption | intro _ | with_reducible (first | apply fillSlots_kept | apply runState_kept | apply setCan_kept | apply setCanState_kept) | simp only [mk_kept_iff] | split)

theorem toNormal_kept (e : Nat) (s : State) (h1 : Kept q s) : Kept q (toNormal e s) := by
  unfold toNormal
  try dsimp only
  repeat' (first | with_reducible assumption | intro _ | with_reducible (first | apply setCan_kept | apply setCanState_kept | apply setLin_kept | apply setLinState_kept | apply setReg_kept) | simp only [mk_kept_iff] | split)

theorem linSleep_kept (m : Nat) (s : State) (h1 : Kept q s) : Kept q (linSleep m s) := by
  unfold linSleep
  try dsimp only
  repeat' (first | with_reducible assumption | intro _ | with_reducible (first | apply setLin_kept | apply setLinState_kept) | simp only [mk_kept_iff] | split)

theorem toStandby_kept (e : Nat) (s : State) (h1 : Kept q s) : Kept q (toStandby e s) := by
  unfold toStandby
  try dsimp only
  repeat' (first | with_reducible assumption | intro _ | with_reducible (first | apply linSleep_kept | apply setReg_kept | apply settleStandby_kept) | simp only [mk_kept_iff] | split)

theorem execTransceiverStandbyRequest_kept (engine : Fin 64) (s : State) (h1 : Kept q s) : KeptOut q (execTransceiverStandbyRequest engine s) := by
  show Kept q _
  try dsimp only
  repeat' (first | with_reducible assumption | intro _ | with_reducible (first | apply toStandby_kept) | simp only [mk_kept_iff] | split)

theorem execTransceiverModeChangeEnd_kept (engine : Fin 64) (s : State) (h1 : Kept q s) : KeptOut q (execTransceiverModeChangeEnd engine s) := by
  show Kept q _
  try dsimp only
  repeat' (first | with_reducible assumption | intro _ | with_reducible (first | apply setCanState_kept | apply setLin_kept | apply setReg_kept | apply startRecovery_kept) | simp only [mk_kept_iff] | split)

theorem linRun_kept (m : Nat) (s : State) (h1 : Kept q s) : Kept q (linRun m s) := by
  unfold linRun
  try dsimp only
  repeat' (first | with_reducible assumption | intro _ | with_reducible (first | apply setLinState_kept) | simp only [mk_kept_iff] | split)

theorem execIntegrationComplete_kept (engine : Fin 64) (s : State) (h1 : Kept q s) : KeptOut q (execIntegrationComplete engine s) := by
  show Kept q _
  try dsimp only
  repeat' (first | with_reducible assumption | intro _ | with_reducible (first | apply fillSlots_kept | apply linRun_kept | apply runState_kept | apply setCan_kept | apply setLin_kept) | simp only [mk_kept_iff] | split)

theorem execBusHeldDominant_kept (engine : Fin 64) (s : State) (h1 : Kept q s) : KeptOut q (execBusHeldDominant engine s) := by
  show Kept q _
  try dsimp only
  repeat' (first | with_reducible assumption | intro _ | with_reducible (first | apply fire_kept | apply setCan_kept | apply setLin_kept) | simp only [mk_kept_iff] | split)

theorem powerBus_kept (d : Nat) (s : State) (h1 : Kept q s) : Kept q (powerBus d s) := by
  unfold powerBus
  try dsimp only
  repeat' (first | with_reducible assumption | intro _ | with_reducible (first | apply peckGive_kept | apply setPeck_kept | apply setReg_kept | apply setRegE_kept | apply setSince_kept) | simp only [mk_kept_iff] | split)

theorem joinCapture_kept (e : Nat) (s : State) (h1 : Kept q s) : Kept q (joinCapture e s) := by
  unfold joinCapture
  try dsimp only
  repeat' (first | with_reducible assumption | intro _ | with_reducible (first | apply setCan_kept | apply toNormal_kept) | simp only [mk_kept_iff] | split)

theorem captureJoin_kept (l : List Nat) (s : State) (h1 : Kept q s) : Kept q (captureJoin l s) := by
  unfold captureJoin
  try dsimp only
  repeat' (first | with_reducible assumption | intro _ | with_reducible (first | apply each_kept | apply joinCapture_kept | apply powerBus_kept))

theorem execCaptureJoin_kept (s : State) (h0 : Kept q s) : KeptOut q (execCaptureJoin s) := by
  show Kept q _
  try dsimp only
  repeat' (first | with_reducible assumption | intro _ | with_reducible (first | apply captureJoin_kept | apply setDev_kept | apply setReg_kept) | simp only [mk_kept_iff] | split)

theorem startReplay_kept (s : State) (h0 : Kept q s) : Kept q (startReplay s) := by
  unfold startReplay
  try dsimp only
  repeat' (first | with_reducible assumption | intro _ | with_reducible (first | apply setReg_kept) | simp only [mk_kept_iff] | split)

theorem replayRec_kept (x : BusRec) (s : State) (h1 : Kept q s) : Kept q (replayRec x s) := by
  unfold replayRec
  try dsimp only
  repeat' (first | with_reducible assumption | intro _ | with_reducible (first | apply arriveEngine_kept | apply count_kept | apply noteHeld_kept | apply releaseCatch_kept) | simp only [mk_kept_iff] | split)

theorem execReplayRecordSubmit_kept (s : State) (h0 : Kept q s) : KeptOut q (execReplayRecordSubmit s) := by
  show Kept q _
  try dsimp only
  repeat' (first | with_reducible assumption | intro _ | with_reducible (first | apply replayRec_kept | apply settle_kept) | simp only [mk_kept_iff] | split)

theorem execReplayEnd_kept (s : State) (h0 : Kept q s) : KeptOut q (execReplayEnd s) := by
  show Kept q _
  try dsimp only
  repeat' (first | with_reducible assumption | intro _ | with_reducible (first | apply setReg_kept) | simp only [mk_kept_iff] | split)

theorem canOff_kept (n : Nat) (s : State) (h1 : Kept q s) : Kept q (canOff n s) := by
  unfold canOff
  try dsimp only
  repeat' (first | with_reducible assumption | intro _ | with_reducible (first | apply setCanState_kept | apply setReg_kept | apply unlock_kept) | simp only [mk_kept_iff] | split)

theorem canCommit_kept (old : Bank) (new : Bank) (n : Nat) (s : State) (h3 : Kept q s) : Kept q (canCommit old new n s) := by
  unfold canCommit
  try dsimp only
  repeat' (first | with_reducible assumption | intro _ | with_reducible (first | apply canOff_kept | apply runState_kept | apply setCan_kept | apply toNormal_kept | apply toStandby_kept) | simp only [mk_kept_iff] | split)

theorem linPublished_kept (m : Nat) (id : Nat) (s : State) (h2 : Kept q s) : Kept q (linPublished m id s) := by
  unfold linPublished
  try dsimp only
  repeat' (first | with_reducible assumption | intro _ | with_reducible (first | apply count_kept | apply emit_kept | apply frameSent_kept | apply setLin_kept | apply setRoute_kept) | simp only [mk_kept_iff] | split)

theorem finishOwn_kept (m : Nat) (s : State) (h1 : Kept q s) : Kept q (finishOwn m s) := by
  unfold finishOwn
  try dsimp only
  repeat' (first | with_reducible assumption | intro _ | with_reducible (first | apply linPublished_kept | apply setLin_kept) | simp only [mk_kept_iff] | split)

theorem sendHeader_kept (m : Nat) (id : Nat) (ty : Nat) (s : State) (h3 : Kept q s) : Kept q (sendHeader m id ty s) := by
  unfold sendHeader
  try dsimp only
  repeat' (first | with_reducible assumption | intro _ | with_reducible (first | apply count_kept | apply emit_kept | apply setLin_kept) | simp only [mk_kept_iff] | split)

theorem serveEntry_kept (m : Nat) (e : LinEntry) (s : State) (h2 : Kept q s) : Kept q (serveEntry m e s) := by
  unfold serveEntry
  try dsimp only
  repeat' (first | with_reducible assumption | intro _ | with_reducible (first | apply sendHeader_kept) | simp only [mk_kept_iff] | split)

theorem sendSleep_kept (m : Nat) (s : State) (h1 : Kept q s) : Kept q (sendSleep m s) := by
  unfold sendSleep
  try dsimp only
  repeat' (first | with_reducible assumption | intro _ | with_reducible (first | apply count_kept | apply emit_kept | apply linSleep_kept | apply setLin_kept | apply setLinState_kept | apply setReg_kept) | simp only [mk_kept_iff] | split)

theorem slotStart_kept (m : Nat) (s : State) (h1 : Kept q s) : Kept q (slotStart m s) := by
  unfold slotStart
  try dsimp only
  repeat' (first | with_reducible assumption | intro _ | with_reducible (first | apply finishOwn_kept | apply sendSleep_kept | apply serveEntry_kept | apply setLin_kept | apply setLinState_kept | apply setReg_kept) | simp only [mk_kept_iff] | split)

theorem execLinSlotStart_kept (bus : Fin 16) (s : State) (h1 : Kept q s) : KeptOut q (execLinSlotStart bus s) := by
  show Kept q _
  try dsimp only
  repeat' (first | with_reducible assumption | intro _ | with_reducible (first | apply settle_kept | apply slotStart_kept) | simp only [mk_kept_iff] | split)

theorem tableRequest_kept (m : Nat) (table : Nat) (s : State) (h2 : Kept q s) : Kept q (tableRequest m table s) := by
  unfold tableRequest
  try dsimp only
  repeat' (first | with_reducible assumption | intro _ | with_reducible (first | apply setLin_kept | apply setReg_kept))

theorem linTable_kept (m : Nat) (table : Nat) (a : State) (h2 : Kept q a) : Kept q (linTable m table a).1 := by
  unfold linTable
  try dsimp only
  repeat' (first | with_reducible assumption | intro _ | with_reducible (first | apply deny_kept | apply done_kept | apply notTerminal_kept | apply tableRequest_kept) | simp only [mk_kept_iff] | split)

theorem execLinTableRequest_kept (ses : Session) (bus : Fin 16) (table : Byte) (s : State) (h3 : Kept q s) : KeptOut q (execLinTableRequest ses bus table s) := by
  show Kept q _
  try dsimp only
  repeat' (first | with_reducible assumption | intro _ | with_reducible (first | apply linTable_kept | apply serve_kept))

theorem linWake_kept (m : Nat) (a : State) (h1 : Kept q a) : Kept q (linWake m a).1 := by
  unfold linWake
  try dsimp only
  repeat' (first | with_reducible assumption | intro _ | with_reducible (first | apply deny_kept | apply done_kept | apply emit_kept | apply notTerminal_kept | apply setLin_kept | apply setReg_kept) | simp only [mk_kept_iff] | split)

theorem execLinWakeUp_kept (ses : Session) (bus : Fin 16) (s : State) (h2 : Kept q s) : KeptOut q (execLinWakeUp ses bus s) := by
  show Kept q _
  try dsimp only
  repeat' (first | with_reducible assumption | intro _ | with_reducible (first | apply linWake_kept | apply serve_kept))

theorem pulsesDone_kept (s : State) (h0 : Kept q s) : Kept q (pulsesDone s) := by
  unfold pulsesDone
  try dsimp only
  repeat' (first | with_reducible assumption | intro _ | with_reducible (first | apply each_kept | apply setLin_kept | apply setReg_kept) | simp only [mk_kept_iff] | split)

theorem linGoToSleep_kept (m : Nat) (a : State) (h1 : Kept q a) : Kept q (linGoToSleep m a).1 := by
  unfold linGoToSleep
  try dsimp only
  repeat' (first | with_reducible assumption | intro _ | with_reducible (first | apply deny_kept | apply done_kept | apply notTerminal_kept | apply setLin_kept | apply setReg_kept) | simp only [mk_kept_iff] | split)

theorem execLinGoToSleep_kept (ses : Session) (bus : Fin 16) (s : State) (h2 : Kept q s) : KeptOut q (execLinGoToSleep ses bus s) := by
  show Kept q _
  try dsimp only
  repeat' (first | with_reducible assumption | intro _ | with_reducible (first | apply linGoToSleep_kept | apply serve_kept))

theorem linClear_kept (m : Nat) (a : State) (h1 : Kept q a) : Kept q (linClear m a).1 := by
  unfold linClear
  try dsimp only
  repeat' (first | with_reducible assumption | intro _ | with_reducible (first | apply done_kept | apply each_kept | apply notTerminal_kept | apply setReg_kept))

theorem execLinClearCounters_kept (ses : Session) (bus : Fin 16) (s : State) (h2 : Kept q s) : KeptOut q (execLinClearCounters ses bus s) := by
  show Kept q _
  try dsimp only
  repeat' (first | with_reducible assumption | intro _ | with_reducible (first | apply linClear_kept | apply serve_kept))

theorem linError_kept (m : Nat) (j : Nat) (code : Nat) (s : State) (h3 : Kept q s) : Kept q (linError m j code s) := by
  unfold linError
  try dsimp only
  repeat' (first | with_reducible assumption | intro _ | with_reducible (first | apply count_kept | apply setReg_kept))

theorem execLinHeaderReceive_kept (bus : Fin 16) (ident : Fin 64) (measured : Fin 65536) (s : State) (h3 : Kept q s) : KeptOut q (execLinHeaderReceive bus ident measured s) := by
  show Kept q _
  try dsimp only
  repeat' (first | with_reducible assumption | intro _ | with_reducible (first | apply finishOwn_kept | apply holdAwake_kept | apply linError_kept | apply setLin_kept | apply setReg_kept) | simp only [mk_kept_iff] | split)

theorem linCollision_kept (m : Nat) (s : State) (h1 : Kept q s) : Kept q (linCollision m s) := by
  unfold linCollision
  try dsimp only
  repeat' (first | with_reducible assumption | intro _ | with_reducible (first | apply linError_kept | apply setLin_kept))

theorem linResponse_kept (m : Nat) (id : Nat) (ty : Nat) (r : LinResponse) (s : State) (h4 : Kept q s) : Kept q (linResponse m id ty r s) := by
  unfold linResponse
  try dsimp only
  repeat' (first | with_reducible assumption | intro _ | with_reducible (first | apply count_kept | apply finishOwn_kept | apply handRec_kept | apply linCollision_kept | apply linError_kept | apply setLin_kept | apply shadowCompare_kept) | simp only [mk_kept_iff] | split)

theorem execLinResponseReceive_kept (bus : Fin 16) (response : LinResponse) (s : State) (h2 : Kept q s) : KeptOut q (execLinResponseReceive bus response s) := by
  show Kept q _
  try dsimp only
  repeat' (first | with_reducible assumption | intro _ | with_reducible (first | apply linResponse_kept | apply settle_kept) | simp only [mk_kept_iff] | split)

theorem execLinResponseTimeout_kept (bus : Fin 16) (bytesSeen : Bool) (s : State) (h2 : Kept q s) : KeptOut q (execLinResponseTimeout bus bytesSeen s) := by
  show Kept q _
  try dsimp only
  repeat' (first | with_reducible assumption | intro _ | with_reducible (first | apply linCollision_kept | apply linError_kept | apply setLin_kept) | simp only [mk_kept_iff] | split)

theorem execGoToSleepReceive_kept (bus : Fin 16) (s : State) (h1 : Kept q s) : KeptOut q (execGoToSleepReceive bus s) := by
  show Kept q _
  try dsimp only
  repeat' (first | with_reducible assumption | intro _ | with_reducible (first | apply count_kept | apply setLin_kept) | simp only [mk_kept_iff] | split)

theorem linCommit_kept (new : Bank) (m : Nat) (s : State) (h2 : Kept q s) : Kept q (linCommit new m s) := by
  unfold linCommit
  try dsimp only
  repeat' (first | with_reducible assumption | intro _ | with_reducible (first | apply linRun_kept | apply setLin_kept | apply setLinState_kept | apply setReg_kept | apply toNormal_kept) | simp only [mk_kept_iff] | split)

theorem logSpoof_kept (g : Nat) (e : Nat) (kind : Nat) (f : BusFrame) (s : State) (h4 : Kept q s) : Kept q (logSpoof g e kind f s) := by
  unfold logSpoof
  try dsimp only
  repeat' (first | with_reducible assumption | intro _ | with_reducible (first | apply sealRecord_kept) | simp only [mk_kept_iff] | split)

theorem guardReact_kept (g : Nat) (e : Nat) (kind : Nat) (s : State) (h3 : Kept q s) : Kept q (guardReact g e kind s) := by
  unfold guardReact
  try dsimp only
  repeat' (first | with_reducible assumption | intro _ | with_reducible (first | apply fire_kept) | simp only [mk_kept_iff] | split)

theorem denySpoofed_kept (e : Nat) (f : BusFrame) (s : State) (h2 : Kept q s) : Kept q (denySpoofed e f s) := by
  unfold denySpoofed
  try dsimp only
  repeat' (first | with_reducible assumption | intro _ | with_reducible (first | apply ite_kept) | simp only [mk_kept_iff])

theorem guardSpoof_kept (e : Nat) (kind : SpoofKind) (f : BusFrame) (s : State) (h3 : Kept q s) : Kept q (guardSpoof e kind f s) := by
  unfold guardSpoof
  try dsimp only
  repeat' (first | with_reducible assumption | intro _ | with_reducible (first | apply ite_kept | apply countE_kept | apply denySpoofed_kept | apply guardReact_kept | apply logSpoof_kept | apply sealRecord_kept | apply setRegE_kept) | simp only [mk_kept_iff] | split)

theorem execGuardSpoof_kept (engine : Fin 64) (kind : SpoofKind) (frame : BusFrame) (s : State) (h3 : Kept q s) : KeptOut q (execGuardSpoof engine kind frame s) := by
  show Kept q _
  try dsimp only
  repeat' (first | with_reducible assumption | intro _ | with_reducible (first | apply guardSpoof_kept | apply settle_kept))

theorem execQuarantineEnd_kept (engine : Fin 64) (s : State) (h1 : Kept q s) : KeptOut q (execQuarantineEnd engine s) := by
  show Kept q _
  try dsimp only
  repeat' (first | with_reducible assumption | intro _ | with_reducible (first | apply ite_kept) | simp only [mk_kept_iff])

theorem guardClear_kept (ses : Session) (a : State) (h1 : Kept q a) : Kept q (guardClear ses a).1 := by
  unfold guardClear
  try dsimp only
  repeat' (first | with_reducible assumption | intro _ | with_reducible (first | apply done_kept | apply needRole_kept | apply notTerminal_kept | apply setReg_kept | apply setRegE_kept))

theorem execGuardClearCounters_kept (ses : Session) (s : State) (h1 : Kept q s) : KeptOut q (execGuardClearCounters ses s) := by
  show Kept q _
  try dsimp only
  repeat' (first | with_reducible assumption | intro _ | with_reducible (first | apply guardClear_kept | apply serve_kept))

theorem flowPut_ok (b c : Bank) (k m : Nat) (h : tabWf keyDflt b.objs = true) (hb : flowPut b k m = some c) : tabWf keyDflt c.objs = true := by
  unfold flowPut at hb
  dsimp only at hb
  split at hb
  · cases hb; exact h
  · cases hb

theorem flowStage_kept (k : Nat) (c : Nat) (s : State) (h2 : Kept q s) : Kept q (flowStage k c s) := by
  unfold flowStage
  split
  · rename_i b e
    exact setReg_kept _ _ _ _ ⟨⟨h2.1.1, h2.1.2.1, h2.1.2.2.1, flowPut_ok _ _ _ _ h2.1.2.2.2 e⟩, h2.2⟩
  · exact setReg_kept _ _ _ _ h2

theorem flowUnstage_kept (k : Nat) (s : State) (h1 : Kept q s) : Kept q (flowUnstage k s) := by
  unfold flowUnstage
  split
  · exact setReg_kept _ _ _ _ h1
  · exact setReg_kept _ _ _ _ h1

theorem stageWrite_kept (k : Nat) (v : Nat) (s : State) (h2 : Kept q s) : Kept q (stageWrite k v s) := by
  unfold stageWrite
  split
  · split
    · exact flowUnstage_kept _ _ h2
    · exact flowStage_kept _ _ _ h2
  · exact ⟨⟨h2.1.1, h2.1.2.1, h2.1.2.2.1, sset_keeps _ _ _ h2.1.2.2.2⟩, h2.2⟩

theorem sieveStage_kept (k : Nat) (v : Nat) (s : State) (h2 : Kept q s) : Kept q (sieveStage k v s) := by
  unfold sieveStage
  try dsimp only
  repeat' (first | with_reducible assumption | intro _ | with_reducible (first | apply stageWrite_kept) | simp only [mk_kept_iff] | split)

theorem execStagedBankRefreshComplete_kept (s : State) (h0 : Kept q s) : KeptOut q (execStagedBankRefreshComplete s) := by
  show Kept q _
  try dsimp only
  repeat' (first | with_reducible assumption | intro _ | with_reducible (first | apply each_kept | apply stageWrite_kept) | simp only [mk_kept_iff] | split)

theorem readCommitted_kept (t : TableRec) (a : State) (h1 : Kept q a) : Kept q (readCommitted t a).1 := by
  unfold readCommitted
  try dsimp only
  repeat' (first | with_reducible assumption | intro _ | with_reducible (first | apply done_kept | apply each_kept | apply notTerminal_kept | apply setReg_kept) | simp only [mk_kept_iff] | split)

theorem writeStaged_kept (ses : Session) (t : TableRec) (a : State) (h2 : Kept q a) : Kept q (writeStaged ses t a).1 := by
  unfold writeStaged
  try dsimp only
  repeat' (first | with_reducible assumption | intro _ | with_reducible (first | apply done_kept | apply each_kept | apply notTerminal_kept | apply setReg_kept | apply sieveStage_kept | apply stageE_kept | apply staging_kept) | simp only [mk_kept_iff] | split)

theorem flowDelete_kept (ses : Session) (a : State) (h1 : Kept q a) : Kept q (flowDelete ses a).1 := by
  unfold flowDelete
  try dsimp only
  repeat' (first | with_reducible assumption | intro _ | with_reducible (first | apply done_kept | apply notTerminal_kept | apply sieveStage_kept | apply staging_kept))

theorem clearCounters_kept (ses : Session) (t : TableRec) (a : State) (h2 : Kept q a) : Kept q (clearCounters ses t a).1 := by
  unfold clearCounters
  try dsimp only
  repeat' (first | with_reducible assumption | intro _ | with_reducible (first | apply done_kept | apply each_kept | apply flowDelete_kept | apply notTerminal_kept | apply setReg_kept | apply setRegE_kept) | simp only [mk_kept_iff] | split)

theorem execReadCommitted_kept (ses : Session) (table : TableRec) (s : State) (h2 : Kept q s) : KeptOut q (execReadCommitted ses table s) := by
  show Kept q _
  try dsimp only
  repeat' (first | with_reducible assumption | intro _ | with_reducible (first | apply readCommitted_kept | apply serve_kept))

theorem execWriteStaged_kept (ses : Session) (table : TableRec) (s : State) (h2 : Kept q s) : KeptOut q (execWriteStaged ses table s) := by
  show Kept q _
  try dsimp only
  repeat' (first | with_reducible assumption | intro _ | with_reducible (first | apply serve_kept | apply writeStaged_kept))

theorem execClearEntryCounters_kept (ses : Session) (table : TableRec) (s : State) (h2 : Kept q s) : KeptOut q (execClearEntryCounters ses table s) := by
  show Kept q _
  try dsimp only
  repeat' (first | with_reducible assumption | intro _ | with_reducible (first | apply clearCounters_kept | apply serve_kept))

theorem execFlowDeleteStaged_kept (ses : Session) (s : State) (h1 : Kept q s) : KeptOut q (execFlowDeleteStaged ses s) := by
  show Kept q _
  try dsimp only
  repeat' (first | with_reducible assumption | intro _ | with_reducible (first | apply flowDelete_kept | apply serve_kept))

theorem zonePairRead_kept (a : State) (h0 : Kept q a) : Kept q (zonePairRead a).1 := by
  unfold zonePairRead
  try dsimp only
  repeat' (first | with_reducible assumption | intro _ | with_reducible (first | apply done_kept | apply each_kept | apply notTerminal_kept | apply setReg_kept))

theorem zonePairClear_kept (a : State) (h0 : Kept q a) : Kept q (zonePairClear a).1 := by
  unfold zonePairClear
  try dsimp only
  repeat' (first | with_reducible assumption | intro _ | with_reducible (first | apply done_kept | apply each_kept | apply notTerminal_kept | apply setReg_kept | apply setRegE_kept))

theorem execZonePairCountersRead_kept (ses : Session) (s : State) (h1 : Kept q s) : KeptOut q (execZonePairCountersRead ses s) := by
  show Kept q _
  try dsimp only
  repeat' (first | with_reducible assumption | intro _ | with_reducible (first | apply serve_kept | apply zonePairRead_kept))

theorem execZonePairCountersClear_kept (ses : Session) (s : State) (h1 : Kept q s) : KeptOut q (execZonePairCountersClear ses s) := by
  show Kept q _
  try dsimp only
  repeat' (first | with_reducible assumption | intro _ | with_reducible (first | apply serve_kept | apply zonePairClear_kept))

theorem copyFreshness_kept (s : State) (h0 : Kept q s) : Kept q (copyFreshness s) := by
  unfold copyFreshness
  try dsimp only
  repeat' (first | with_reducible assumption | intro _ | with_reducible (first | apply each_kept) | simp only [mk_kept_iff])

theorem execFreshnessFlashCopy_kept (s : State) (h0 : Kept q s) : KeptOut q (execFreshnessFlashCopy s) := by
  show Kept q _
  try dsimp only
  repeat' (first | with_reducible assumption | intro _ | with_reducible (first | apply copyFreshness_kept) | simp only [mk_kept_iff] | split)

theorem execBeaconAlignment_kept (port : Fin 8) (s : State) (h1 : Kept q s) : KeptOut q (execBeaconAlignment port s) := by
  show Kept q _
  try dsimp only
  repeat' (first | with_reducible assumption | intro _ | with_reducible (first | apply count_kept | apply emit_kept | apply noteBeacon_kept) | simp only [mk_kept_iff] | split)

theorem execPlcaTakeover_kept (port : Fin 8) (s : State) (h1 : Kept q s) : KeptOut q (execPlcaTakeover port s) := by
  show Kept q _
  try dsimp only
  repeat' (first | with_reducible assumption | intro _ | with_reducible (first | apply count_kept | apply fire_kept | apply setReg_kept) | simp only [mk_kept_iff] | split)

theorem plcaCommit_kept (old : Bank) (new : Bank) (s : State) (h2 : Kept q s) : Kept q (plcaCommit old new s) := by
  unfold plcaCommit
  try dsimp only
  repeat' (first | with_reducible assumption | intro _ | with_reducible (first | apply each_kept | apply setReg_kept) | simp only [mk_kept_iff] | split)

theorem plcaWake_kept (s : State) (h0 : Kept q s) : Kept q (plcaWake s) := by
  unfold plcaWake
  try dsimp only
  repeat' (first | with_reducible assumption | intro _ | with_reducible (first | apply each_kept | apply setReg_kept))

theorem domainOff_kept (d : Nat) (s : State) (h1 : Kept q s) : Kept q (domainOff d s) := by
  unfold domainOff
  try dsimp only
  repeat' (first | with_reducible assumption | intro _ | with_reducible (first | apply setReg_kept))

theorem execLaneDrainEnd_kept (lane : Fin 2) (s : State) (h1 : Kept q s) : KeptOut q (execLaneDrainEnd lane s) := by
  show Kept q _
  try dsimp only
  repeat' (first | with_reducible assumption | intro _ | with_reducible (first | apply domainOff_kept | apply peckReturn_kept | apply setReg_kept) | simp only [mk_kept_iff] | split)

theorem restoreLane_kept (n : Nat) (a : State) (h1 : Kept q a) : Kept q (restoreLane n a).1 := by
  unfold restoreLane
  try dsimp only
  repeat' (first | with_reducible assumption | intro _ | with_reducible (first | apply done_kept | apply notTerminal_kept | apply peckRequest_kept | apply setLane_kept | apply setReg_kept) | simp only [mk_kept_iff] | split)

theorem execRestoreLane_kept (ses : Session) (lane : Fin 2) (s : State) (h2 : Kept q s) : KeptOut q (execRestoreLane ses lane s) := by
  show Kept q _
  try dsimp only
  repeat' (first | with_reducible assumption | intro _ | with_reducible (first | apply restoreLane_kept | apply serve_kept))

theorem execLaneSelfTestComplete_kept (lane : Fin 2) (passed : Bool) (s : State) (h2 : Kept q s) : KeptOut q (execLaneSelfTestComplete lane passed s) := by
  show Kept q _
  try dsimp only
  repeat' (first | with_reducible assumption | intro _ | with_reducible (first | apply fire_kept | apply setLane_kept | apply setReg_kept) | simp only [mk_kept_iff] | split)

theorem execSeededComparatorTest_kept (lane : Fin 2) (s : State) (h1 : Kept q s) : KeptOut q (execSeededComparatorTest lane s) := by
  show Kept q _
  try dsimp only
  repeat' (first | with_reducible assumption | intro _ | with_reducible (first | apply count_kept | apply setReg_kept) | simp only [mk_kept_iff] | split)

end Sys2Proof.Machine
end

