-- ==== Sys2Proof/Laws/KeptTime.lean ====
section
/-! SUPPORT. What each definition over pairing, time and DMA keeps: the object
stores stay in their canonical form and the command queue stays as it is (`Kept`, Sys2Proof/Laws/Kept.lean), one lemma per definition. -/

set_option linter.unusedVariables false
set_option linter.unreachableTactic false
set_option linter.unusedTactic false
set_option linter.unusedSimpArgs false
set_option maxRecDepth 4000

-- One declaration after the other: it keeps the memory of the package as one text within bounds.
set_option Elab.async false

namespace Sys2Proof.Machine
variable {q : List Instr}

theorem pmReject_kept (s : State) (h0 : Kept q s) : Kept q (pmReject s) := by
  unfold pmReject
  try dsimp only
  repeat' (first | with_reducible assumption | intro _ | with_reducible (first | apply count_kept | apply fire_kept))

theorem pmAccept_kept (x : Nat) (m : Bytes) (s : State) (h2 : Kept q s) : Kept q (pmAccept x m s) := by
  unfold pmAccept
  try dsimp only
  repeat' (first | with_reducible assumption | intro _ | with_reducible (first | apply ite_kept) | simp only [mk_kept_iff])

theorem pmTake_kept (slot : Nat) (x : Nat) (m : Bytes) (f : State → State) (s : State) (h3 : ∀ s, Kept q s → Kept q (f s)) (h4 : Kept q s) : Kept q (pmTake slot x m f s) := by
  unfold pmTake
  try dsimp only
  repeat' (first | with_reducible assumption | intro _ | with_reducible (first | apply ite_kept | apply pmAccept_kept | apply pmReject_kept | apply h3) | simp only [mk_kept_iff] | split)

theorem finishYield_kept (s : State) (h0 : Kept q s) : Kept q (finishYield s) := by
  unfold finishYield
  try dsimp only
  repeat' (first | with_reducible assumption | intro _ | with_reducible (first | apply yieldLease_kept) | simp only [mk_kept_iff] | split)

theorem stopLease_kept (answer : Bool) (s : State) (h1 : Kept q s) : Kept q (stopLease answer s) := by
  unfold stopLease
  try dsimp only
  repeat' (first | with_reducible assumption | intro _ | with_reducible (first | apply finishYield_kept | apply sendAck_kept | apply setReg_kept) | simp only [mk_kept_iff] | split)

theorem takeLease_kept (m : Bytes) (s : State) (h1 : Kept q s) : Kept q (takeLease m s) := by
  unfold takeLease
  try dsimp only
  repeat' (first | with_reducible assumption | intro _ | with_reducible (first | apply count_kept | apply each_kept | apply fillSlots_kept | apply sendAck_kept | apply setReg_kept) | simp only [mk_kept_iff] | split)

theorem heardReferee_kept (m : Bytes) (s : State) (h1 : Kept q s) : Kept q (heardReferee m s) := by
  unfold heardReferee
  try dsimp only
  repeat' (first | with_reducible assumption | intro _ | with_reducible (first | apply setReg_kept) | simp only [mk_kept_iff])

theorem refereeMessage_kept (m : Bytes) (s : State) (h1 : Kept q s) : Kept q (refereeMessage m s) := by
  unfold refereeMessage
  try dsimp only
  repeat' (first | with_reducible assumption | intro _ | with_reducible (first | apply heardReferee_kept | apply sendAck_kept | apply stopLease_kept | apply takeLease_kept) | simp only [mk_kept_iff] | split)

theorem execGrantReceive_kept (msg : List Byte) (s : State) (h1 : Kept q s) : KeptOut q (execGrantReceive msg s) := by
  show Kept q _
  try dsimp only
  repeat' (first | with_reducible assumption | intro _ | with_reducible (first | apply pmTake_kept | apply refereeMessage_kept) | simp only [mk_kept_iff] | split)

theorem execReleaseReceive_kept (msg : List Byte) (s : State) (h1 : Kept q s) : KeptOut q (execReleaseReceive msg s) := by
  show Kept q _
  try dsimp only
  repeat' (first | with_reducible assumption | intro _ | with_reducible (first | apply pmTake_kept | apply refereeMessage_kept) | simp only [mk_kept_iff] | split)

theorem execLeaseYield_kept (s : State) (h0 : Kept q s) : KeptOut q (execLeaseYield s) := by
  show Kept q _
  try dsimp only
  repeat' (first | with_reducible assumption | intro _ | with_reducible (first | apply finishYield_kept))

theorem leaseLapse_kept (s : State) (h0 : Kept q s) : Kept q (leaseLapse s) := by
  unfold leaseLapse
  try dsimp only
  repeat' (first | with_reducible assumption | intro _ | with_reducible (first | apply endLease_kept | apply fire_kept | apply yieldLease_kept) | simp only [mk_kept_iff] | split)

theorem execLeaseEnd_kept (s : State) (h0 : Kept q s) : KeptOut q (execLeaseEnd s) := by
  show Kept q _
  try dsimp only
  repeat' (first | with_reducible assumption | intro _ | with_reducible (first | apply leaseLapse_kept))

theorem execHealthReportSend_kept (s : State) (h0 : Kept q s) : KeptOut q (execHealthReportSend s) := by
  show Kept q _
  try dsimp only
  repeat' (first | with_reducible assumption | intro _ | with_reducible (first | apply nextPairSeq_kept | apply sendPairing_kept) | simp only [mk_kept_iff] | split)

theorem execPartnerHealthTimeout_kept (s : State) (h0 : Kept q s) : KeptOut q (execPartnerHealthTimeout s) := by
  show Kept q _
  try dsimp only
  repeat' (first | with_reducible assumption | intro _ | with_reducible (first | apply fire_kept) | simp only [mk_kept_iff] | split)

theorem execRefereeLost_kept (s : State) (h0 : Kept q s) : KeptOut q (execRefereeLost s) := by
  show Kept q _
  try dsimp only
  repeat' (first | with_reducible assumption | intro _ | with_reducible (first | apply fire_kept | apply setReg_kept) | simp only [mk_kept_iff] | split)

theorem execShadowOmission_kept (engine : Fin 48) (s : State) (h1 : Kept q s) : KeptOut q (execShadowOmission engine s) := by
  show Kept q _
  try dsimp only
  repeat' (first | with_reducible assumption | intro _ | with_reducible (first | apply settle_kept | apply shadowOmission_kept) | simp only [mk_kept_iff] | split)

theorem execTransmitWithoutLease_kept (engine : Fin 48) (s : State) (h1 : Kept q s) : KeptOut q (execTransmitWithoutLease engine s) := by
  show Kept q _
  try dsimp only
  repeat' (first | with_reducible assumption | intro _ | with_reducible (first | apply fire_kept) | simp only [mk_kept_iff] | split)

theorem pairCommit_kept (old : Bank) (new : Bank) (s : State) (h2 : Kept q s) : Kept q (pairCommit old new s) := by
  unfold pairCommit
  try dsimp only
  repeat' (first | with_reducible assumption | intro _ | with_reducible (first | apply stopLease_kept) | simp only [mk_kept_iff] | split)

theorem pairWake_kept (s : State) (h0 : Kept q s) : Kept q (pairWake s) := by
  unfold pairWake
  try dsimp only
  repeat' (first | with_reducible assumption | intro _ | with_reducible (first | apply setReg_kept) | simp only [mk_kept_iff] | split)

theorem setReferee_kept (k : Nat) (x : RefSt) (s : State) (h2 : Kept q s) : Kept q (setReferee k x s) := by
  unfold setReferee
  try dsimp only
  repeat' (first | with_reducible assumption | intro _ | with_reducible (first | apply ite_kept) | simp only [mk_kept_iff])

theorem setMember_kept (k : Nat) (m : Nat) (x : MemberSt) (s : State) (h3 : Kept q s) : Kept q (setMember k m x s) := by
  unfold setMember
  try dsimp only
  repeat' (first | with_reducible assumption | intro _ | with_reducible (first | apply ite_kept | apply setReferee_kept))

theorem noteEligibility_kept (k : Nat) (s : State) (h1 : Kept q s) : Kept q (noteEligibility k s) := by
  unfold noteEligibility
  try dsimp only
  repeat' (first | with_reducible assumption | intro _ | with_reducible (first | apply setReg_kept))

theorem sendLease_kept (k : Nat) (ty : Nat) (m : Nat) (e : Nat) (s : State) (h4 : Kept q s) : Kept q (sendLease k ty m e s) := by
  unfold sendLease
  try dsimp only
  repeat' (first | with_reducible assumption | intro _ | with_reducible (first | apply nextPairSeq_kept | apply sendPairing_kept))

theorem grant_kept (k : Nat) (m : Nat) (s : State) (h2 : Kept q s) : Kept q (grant k m s) := by
  unfold grant
  try dsimp only
  repeat' (first | with_reducible assumption | intro _ | with_reducible (first | apply ite_kept | apply sendLease_kept | apply setReferee_kept | apply setReg_kept))

theorem commandOver_kept (k : Nat) (v : Nat) (s : State) (h2 : Kept q s) : Kept q (commandOver k v s) := by
  unfold commandOver
  try dsimp only
  repeat' (first | with_reducible assumption | intro _ | with_reducible (first | apply setReg_kept) | simp only [mk_kept_iff] | split)

theorem moveLease_kept (k : Nat) (m : Nat) (s : State) (h2 : Kept q s) : Kept q (moveLease k m s) := by
  unfold moveLease
  try dsimp only
  repeat' (first | with_reducible assumption | intro _ | with_reducible (first | apply commandOver_kept | apply count_kept | apply grant_kept | apply setReg_kept))

theorem regrant_kept (k : Nat) (h : Nat) (s : State) (h2 : Kept q s) : Kept q (regrant k h s) := by
  unfold regrant
  try dsimp only
  repeat' (first | with_reducible assumption | intro _ | with_reducible (first | apply commandOver_kept | apply fire_kept | apply moveLease_kept) | simp only [mk_kept_iff] | split)

theorem holderOut_kept (k : Nat) (byYield : Bool) (s : State) (h2 : Kept q s) : Kept q (holderOut k byYield s) := by
  unfold holderOut
  try dsimp only
  repeat' (first | with_reducible assumption | intro _ | with_reducible (first | apply ite_kept | apply setReferee_kept | apply setReg_kept))

theorem execRefereeGrantRenewal_kept (referee : Fin 3) (s : State) (h1 : Kept q s) : KeptOut q (execRefereeGrantRenewal referee s) := by
  show Kept q _
  try dsimp only
  repeat' (first | with_reducible assumption | intro _ | with_reducible (first | apply grant_kept) | simp only [mk_kept_iff] | split)

theorem withhold_kept (k : Nat) (why : Nat) (s : State) (h2 : Kept q s) : Kept q (withhold k why s) := by
  unfold withhold
  try dsimp only
  repeat' (first | with_reducible assumption | intro _ | with_reducible (first | apply ite_kept | apply count_kept | apply setReferee_kept))

theorem execRefereeAckTimeout_kept (referee : Fin 3) (s : State) (h1 : Kept q s) : KeptOut q (execRefereeAckTimeout referee s) := by
  show Kept q _
  try dsimp only
  repeat' (first | with_reducible assumption | intro _ | with_reducible (first | apply withhold_kept) | simp only [mk_kept_iff] | split)

theorem execRefereeHealthTimeout_kept (referee : Fin 3) (s : State) (h1 : Kept q s) : KeptOut q (execRefereeHealthTimeout referee s) := by
  show Kept q _
  try dsimp only
  repeat' (first | with_reducible assumption | intro _ | with_reducible (first | apply noteEligibility_kept | apply withhold_kept) | simp only [mk_kept_iff] | split)

theorem execRefereeLeaseLapse_kept (referee : Fin 3) (s : State) (h1 : Kept q s) : KeptOut q (execRefereeLeaseLapse referee s) := by
  show Kept q _
  try dsimp only
  repeat' (first | with_reducible assumption | intro _ | with_reducible (first | apply holderOut_kept | apply noteEligibility_kept | apply regrant_kept) | simp only [mk_kept_iff] | split)

theorem releaseFor_kept (k : Nat) (why : Nat) (s : State) (h2 : Kept q s) : Kept q (releaseFor k why s) := by
  unfold releaseFor
  try dsimp only
  repeat' (first | with_reducible assumption | intro _ | with_reducible (first | apply ite_kept | apply sendLease_kept | apply setReferee_kept))

theorem ackReceived_kept (k : Nat) (m : Nat) (msg : Bytes) (s : State) (h3 : Kept q s) : Kept q (ackReceived k m msg s) := by
  unfold ackReceived
  try dsimp only
  repeat' (first | with_reducible assumption | intro _ | with_reducible (first | apply ite_kept | apply fire_kept | apply holderOut_kept | apply noteEligibility_kept | apply regrant_kept | apply sendLease_kept | apply setMember_kept | apply setReferee_kept | apply setReg_kept))

theorem execLeaseAckReceive_kept (referee : Fin 3) (msg : List Byte) (s : State) (h2 : Kept q s) : KeptOut q (execLeaseAckReceive referee msg s) := by
  show Kept q _
  try dsimp only
  repeat' (first | with_reducible assumption | intro _ | with_reducible (first | apply ackReceived_kept | apply pmTake_kept) | simp only [mk_kept_iff] | split)

theorem firstGrant_kept (k : Nat) (s : State) (h1 : Kept q s) : Kept q (firstGrant k s) := by
  unfold firstGrant
  try dsimp only
  repeat' (first | with_reducible assumption | intro _ | with_reducible (first | apply ite_kept | apply moveLease_kept | apply setReferee_kept))

theorem refereeHealth_kept (k : Nat) (m : Nat) (msg : Bytes) (s : State) (h3 : Kept q s) : Kept q (refereeHealth k m msg s) := by
  unfold refereeHealth
  try dsimp only
  repeat' (first | with_reducible assumption | intro _ | with_reducible (first | apply ite_kept | apply firstGrant_kept | apply holderOut_kept | apply noteEligibility_kept | apply regrant_kept | apply releaseFor_kept | apply setMember_kept | apply setReferee_kept))

theorem execHealthReportReceive_kept (msg : List Byte) (s : State) (h1 : Kept q s) : KeptOut q (execHealthReportReceive msg s) := by
  show Kept q _
  try dsimp only
  repeat' (first | with_reducible assumption | intro _ | with_reducible (first | apply pmTake_kept | apply refereeHealth_kept) | simp only [mk_kept_iff] | split)

theorem execRefereeFirstGrant_kept (referee : Fin 3) (s : State) (h1 : Kept q s) : KeptOut q (execRefereeFirstGrant referee s) := by
  show Kept q _
  try dsimp only
  repeat' (first | with_reducible assumption | intro _ | with_reducible (first | apply ite_kept | apply firstGrant_kept | apply moveLease_kept | apply setReferee_kept) | simp only [mk_kept_iff] | split)

theorem cmdHandOver_kept (k : Nat) (a : State) (h1 : Kept q a) : Kept q (cmdHandOver k a).1 := by
  unfold cmdHandOver
  try dsimp only
  repeat' (first | with_reducible assumption | intro _ | with_reducible (first | apply done_kept | apply notTerminal_kept | apply releaseFor_kept | apply setReg_kept) | simp only [mk_kept_iff] | split)

theorem cmdReleaseAll_kept (k : Nat) (a : State) (h1 : Kept q a) : Kept q (cmdReleaseAll k a).1 := by
  unfold cmdReleaseAll
  try dsimp only
  repeat' (first | with_reducible assumption | intro _ | with_reducible (first | apply ite_kept | apply done_kept | apply notTerminal_kept | apply sendLease_kept | apply setReferee_kept | apply setReg_kept) | simp only [mk_kept_iff] | split)

theorem cmdResume_kept (k : Nat) (a : State) (h1 : Kept q a) : Kept q (cmdResume k a).1 := by
  unfold cmdResume
  try dsimp only
  repeat' (first | with_reducible assumption | intro _ | with_reducible (first | apply ite_kept | apply done_kept | apply firstGrant_kept | apply notTerminal_kept | apply regrant_kept | apply setReferee_kept | apply setReg_kept))

theorem execHandOver_kept (ses : Session) (referee : Fin 3) (s : State) (h2 : Kept q s) : KeptOut q (execHandOver ses referee s) := by
  show Kept q _
  try dsimp only
  repeat' (first | with_reducible assumption | intro _ | with_reducible (first | apply cmdHandOver_kept | apply serve_kept))

theorem execReleaseAll_kept (ses : Session) (referee : Fin 3) (s : State) (h2 : Kept q s) : KeptOut q (execReleaseAll ses referee s) := by
  show Kept q _
  try dsimp only
  repeat' (first | with_reducible assumption | intro _ | with_reducible (first | apply cmdReleaseAll_kept | apply serve_kept))

theorem execResume_kept (ses : Session) (referee : Fin 3) (s : State) (h2 : Kept q s) : KeptOut q (execResume ses referee s) := by
  show Kept q _
  try dsimp only
  repeat' (first | with_reducible assumption | intro _ | with_reducible (first | apply cmdResume_kept | apply serve_kept))

theorem setA_kept (a : ℤ) (s : State) (h1 : Kept q s) : Kept q (setA a s) := by
  unfold setA
  try dsimp only
  repeat' (first | with_reducible assumption | intro _ | with_reducible (first | apply setReg_kept))

theorem setTarget_kept (k : Nat) (v : Nat) (s : State) (h2 : Kept q s) : Kept q (setTarget k v s) := by
  unfold setTarget
  try dsimp only
  repeat' (first | with_reducible assumption | intro _ | with_reducible (first | apply setReg_kept) | simp only [mk_kept_iff])

theorem keepTargets_kept (s : State) (h0 : Kept q s) : Kept q (keepTargets s) := by
  unfold keepTargets
  try dsimp only
  repeat' (first | with_reducible assumption | intro _ | with_reducible (first | apply ite_kept) | simp only [mk_kept_iff])

theorem disarm_kept (k : Nat) (s : State) (h1 : Kept q s) : Kept q (disarm k s) := by
  unfold disarm
  try dsimp only
  repeat' (first | with_reducible assumption | intro _ | with_reducible (first | apply ite_kept | apply keepTargets_kept | apply setReg_kept))

theorem addFirings_kept (k : Nat) (fired : Nat) (skipped : Nat) (s : State) (h3 : Kept q s) : Kept q (addFirings k fired skipped s) := by
  unfold addFirings
  try dsimp only
  repeat' (first | with_reducible assumption | intro _ | with_reducible (first | apply setReg_kept))

theorem internalTarget_kept (k : Nat) (s : State) (h1 : Kept q s) : Kept q (internalTarget k s) := by
  unfold internalTarget
  try dsimp only
  repeat' (first | with_reducible assumption | intro _ | with_reducible (first | apply dmaTrigger_kept | apply joinNow_kept | apply tableRequest_kept) | simp only [mk_kept_iff] | split)

theorem fireComparator_kept (k : Nat) (s : State) (h1 : Kept q s) : Kept q (fireComparator k s) := by
  unfold fireComparator
  try dsimp only
  repeat' (first | with_reducible assumption | intro _ | with_reducible (first | apply ite_kept | apply addFirings_kept | apply announce_kept | apply driveTtrig_kept | apply internalTarget_kept | apply keepTargets_kept | apply msix_kept | apply setReg_kept | apply setTarget_kept) | simp only [mk_kept_iff])

theorem comparatorStep_kept (k : Nat) (s : State) (h1 : Kept q s) : Kept q (comparatorStep k s) := by
  unfold comparatorStep
  try dsimp only
  repeat' (first | with_reducible assumption | intro _ | with_reducible (first | apply addFirings_kept | apply disarm_kept | apply fireComparator_kept | apply owe_kept | apply setReg_kept | apply setTarget_kept) | simp only [mk_kept_iff] | split)

theorem linStep_kept (delta : ℤ) (m : Nat) (s : State) (h2 : Kept q s) : Kept q (linStep delta m s) := by
  unfold linStep
  try dsimp only
  repeat' (first | with_reducible assumption | intro _ | with_reducible (first | apply setLin_kept) | simp only [mk_kept_iff] | split)

theorem setSlotState_kept (k : Nat) (slot : Nat) (v : Nat) (s : State) (h3 : Kept q s) : Kept q (setSlotState k slot v s) := by
  unfold setSlotState
  try dsimp only
  repeat' (first | with_reducible assumption | intro _ | with_reducible (first | apply setReg_kept))

theorem headerWritten_kept (s : State) (h0 : Kept q s) : Kept q (headerWritten s) := by
  unfold headerWritten
  try dsimp only
  repeat' (first | with_reducible assumption | intro _ | with_reducible (first | apply setReg_kept))

theorem headerSwap_kept (kinds : Nat) (s : State) (h1 : Kept q s) : Kept q (headerSwap kinds s) := by
  unfold headerSwap
  try dsimp only
  repeat' (first | with_reducible assumption | intro _ | with_reducible (first | apply each_kept | apply headerWritten_kept | apply setReg_kept))

theorem imageEvent_kept (code : Nat) (kinds : Nat) (s : State) (h2 : Kept q s) : Kept q (imageEvent code kinds s) := by
  unfold imageEvent
  try dsimp only
  repeat' (first | with_reducible assumption | intro _ | with_reducible (first | apply sealRecord_kept))

theorem cancelActivation_kept (why : Nat) (s : State) (h1 : Kept q s) : Kept q (cancelActivation why s) := by
  unfold cancelActivation
  try dsimp only
  repeat' (first | with_reducible assumption | intro _ | with_reducible (first | apply headerSwap_kept | apply imageEvent_kept | apply setReg_kept) | simp only [mk_kept_iff] | split)

theorem activationStep_kept (s : State) (h0 : Kept q s) : Kept q (activationStep s) := by
  unfold activationStep
  try dsimp only
  repeat' (first | with_reducible assumption | intro _ | with_reducible (first | apply cancelActivation_kept) | simp only [mk_kept_iff] | split)

theorem stepTime_kept (delta : ℤ) (why : Nat) (role : Nat) (s : State) (h3 : Kept q s) : Kept q (stepTime delta why role s) := by
  unfold stepTime
  try dsimp only
  repeat' (first | with_reducible assumption | intro _ | with_reducible (first | apply activationStep_kept | apply braidStep_kept | apply comparatorStep_kept | apply count_kept | apply each_kept | apply fire_kept | apply gatesStep_kept | apply leaseLapse_kept | apply linStep_kept | apply sealRecord_kept | apply setReg_kept | apply settle_kept) | simp only [mk_kept_iff])

theorem cmdStepBy_kept (ses : Session) (a : State) (h1 : Kept q a) : Kept q (cmdStepBy ses a).1 := by
  unfold cmdStepBy
  try dsimp only
  repeat' (first | with_reducible assumption | intro _ | with_reducible (first | apply done_kept | apply needRole_kept | apply notTerminal_kept | apply setReg_kept | apply stepTime_kept) | simp only [mk_kept_iff] | split)

theorem cmdSetAbsolute_kept (ses : Session) (a : State) (h1 : Kept q a) : Kept q (cmdSetAbsolute ses a).1 := by
  unfold cmdSetAbsolute
  try dsimp only
  repeat' (first | with_reducible assumption | intro _ | with_reducible (first | apply done_kept | apply needRole_kept | apply notTerminal_kept | apply setReg_kept | apply stepTime_kept))

theorem execStepBy_kept (ses : Session) (s : State) (h1 : Kept q s) : KeptOut q (execStepBy ses s) := by
  show Kept q _
  try dsimp only
  repeat' (first | with_reducible assumption | intro _ | with_reducible (first | apply cmdStepBy_kept | apply serve_kept))

theorem execSetAbsolute_kept (ses : Session) (s : State) (h1 : Kept q s) : KeptOut q (execSetAbsolute ses s) := by
  show Kept q _
  try dsimp only
  repeat' (first | with_reducible assumption | intro _ | with_reducible (first | apply cmdSetAbsolute_kept | apply serve_kept))

theorem lockTime_kept (s : State) (h0 : Kept q s) : Kept q (lockTime s) := by
  unfold lockTime
  try dsimp only
  repeat' (first | with_reducible assumption | intro _ | with_reducible (first | apply setReg_kept) | simp only [mk_kept_iff] | split)

theorem servo_kept (o : ℤ) (ratio : ℤ) (s : State) (h2 : Kept q s) : Kept q (servo o ratio s) := by
  unfold servo
  try dsimp only
  repeat' (first | with_reducible assumption | intro _ | with_reducible (first | apply lockTime_kept | apply setA_kept | apply setReg_kept | apply stepTime_kept | apply useFree_kept) | simp only [mk_kept_iff] | split)

theorem setPtpInst_kept (d : Nat) (x : PtpInst) (s : State) (h2 : Kept q s) : Kept q (setPtpInst d x s) := by
  unfold setPtpInst
  try dsimp only
  repeat' (first | with_reducible assumption | intro _ | with_reducible (first | apply ite_kept) | simp only [mk_kept_iff])

theorem heardSync_kept (d : Nat) (s : State) (h1 : Kept q s) : Kept q (heardSync d s) := by
  unfold heardSync
  try dsimp only
  repeat' (first | with_reducible assumption | intro _ | with_reducible (first | apply ite_kept | apply setPtpInst_kept | apply setReg_kept))

theorem execSyncReceive_kept (msg : SyncInfo) (s : State) (h1 : Kept q s) : KeptOut q (execSyncReceive msg s) := by
  show Kept q _
  try dsimp only
  repeat' (first | with_reducible assumption | intro _ | with_reducible (first | apply count_kept | apply heardSync_kept | apply servo_kept | apply settle_kept) | simp only [mk_kept_iff] | split)

theorem execPpsInEdge_kept (s : State) (h0 : Kept q s) : KeptOut q (execPpsInEdge s) := by
  show Kept q _
  try dsimp only
  repeat' (first | with_reducible assumption | intro _ | with_reducible (first | apply servo_kept | apply settle_kept | apply useFree_kept) | simp only [mk_kept_iff] | split)

theorem execSyncReceiptTimeout_kept (s : State) (h0 : Kept q s) : KeptOut q (execSyncReceiptTimeout s) := by
  show Kept q _
  try dsimp only
  repeat' (first | with_reducible assumption | intro _ | with_reducible (first | apply ite_kept | apply enterHoldover_kept | apply setPtpInst_kept | apply setReg_kept | apply settle_kept))

theorem execPpsInTimeout_kept (s : State) (h0 : Kept q s) : KeptOut q (execPpsInTimeout s) := by
  show Kept q _
  try dsimp only
  repeat' (first | with_reducible assumption | intro _ | with_reducible (first | apply enterHoldover_kept | apply settle_kept) | simp only [mk_kept_iff] | split)

theorem execHoldoverLimit_kept (s : State) (h0 : Kept q s) : KeptOut q (execHoldoverLimit s) := by
  show Kept q _
  try dsimp only
  repeat' (first | with_reducible assumption | intro _ | with_reducible (first | apply fire_kept) | simp only [mk_kept_iff] | split)

theorem ptpSync_kept (p : Nat) (d : Nat) (m : PtpMessage) (s : State) (h3 : Kept q s) : Kept q (ptpSync p d m s) := by
  unfold ptpSync
  try dsimp only
  repeat' (first | with_reducible assumption | intro _ | with_reducible (first | apply each_kept | apply emit_kept | apply heardSync_kept | apply setReg_kept) | simp only [mk_kept_iff] | split)

theorem newGrandmaster_kept (d : Nat) (g : Nat) (s : State) (h2 : Kept q s) : Kept q (newGrandmaster d g s) := by
  unfold newGrandmaster
  try dsimp only
  repeat' (first | with_reducible assumption | intro _ | with_reducible (first | apply enterHoldover_kept | apply sealRecord_kept | apply setReg_kept) | simp only [mk_kept_iff] | split)

theorem execPtpMessageReceive_kept (port : Fin 33) (msg : PtpMessage) (s : State) (h2 : Kept q s) : KeptOut q (execPtpMessageReceive port msg s) := by
  show Kept q _
  try dsimp only
  repeat' (first | with_reducible assumption | intro _ | with_reducible (first | apply count_kept | apply emit_kept | apply newGrandmaster_kept | apply ptpSync_kept | apply settle_kept) | simp only [mk_kept_iff] | split)

theorem execLinkDelayExchange_kept (port : Fin 22) (exchange : DelayExchange) (s : State) (h2 : Kept q s) : KeptOut q (execLinkDelayExchange port exchange s) := by
  show Kept q _
  try dsimp only
  repeat' (first | with_reducible assumption | intro _ | with_reducible (first | apply loseCapable_kept | apply setPtpPort_kept | apply setReg_kept | apply settle_kept) | simp only [mk_kept_iff] | split)

theorem execLinkDelayRequestSend_kept (port : Fin 22) (s : State) (h1 : Kept q s) : KeptOut q (execLinkDelayRequestSend port s) := by
  show Kept q _
  try dsimp only
  repeat' (first | with_reducible assumption | intro _ | with_reducible (first | apply emit_kept | apply loseCapable_kept | apply setPtpPort_kept | apply settle_kept) | simp only [mk_kept_iff] | split)

theorem execGrandmasterSyncSend_kept (inst0 : Fin 4) (port : Fin 33) (s : State) (h2 : Kept q s) : KeptOut q (execGrandmasterSyncSend inst0 port s) := by
  show Kept q _
  try dsimp only
  repeat' (first | with_reducible assumption | intro _ | with_reducible (first | apply emit_kept) | simp only [mk_kept_iff] | split)

theorem cmdArm_kept (k : Nat) (a : State) (h1 : Kept q a) : Kept q (cmdArm k a).1 := by
  unfold cmdArm
  refine notTerminal_kept _ _ (fun s h => ?_) h1
  by_cases c : far (ofTime80 (reg (cP k) 1 s)) (nowNs s) = true
  · simp only [c, if_true]
    exact setReg_kept _ _ _ _ h
  · simp only [c]
    exact setReg_kept _ _ _ _ (keepTargets_kept _ (setReg_kept _ _ _ _ (setTarget_kept _ _ _ h)))

theorem cmdDisarm_kept (k : Nat) (a : State) (h1 : Kept q a) : Kept q (cmdDisarm k a).1 := by
  unfold cmdDisarm
  try dsimp only
  repeat' (first | with_reducible assumption | intro _ | with_reducible (first | apply disarm_kept | apply done_kept | apply notTerminal_kept | apply setReg_kept))

theorem execComparatorArm_kept (ses : Session) (comp : Fin 16) (s : State) (h2 : Kept q s) : KeptOut q (execComparatorArm ses comp s) := by
  show Kept q _
  try dsimp only
  repeat' (first | with_reducible assumption | intro _ | with_reducible (first | apply cmdArm_kept | apply serve_kept))

theorem execComparatorDisarm_kept (ses : Session) (comp : Fin 16) (s : State) (h2 : Kept q s) : KeptOut q (execComparatorDisarm ses comp s) := by
  show Kept q _
  try dsimp only
  repeat' (first | with_reducible assumption | intro _ | with_reducible (first | apply cmdDisarm_kept | apply serve_kept))

theorem execComparatorFire_kept (comp : Fin 16) (s : State) (h1 : Kept q s) : KeptOut q (execComparatorFire comp s) := by
  show Kept q _
  try dsimp only
  repeat' (first | with_reducible assumption | intro _ | with_reducible (first | apply fireComparator_kept | apply settle_kept) | simp only [mk_kept_iff] | split)

theorem setCaps_kept (c : Nat) (l : List Capture) (s : State) (h2 : Kept q s) : Kept q (setCaps c l s) := by
  unfold setCaps
  try dsimp only
  repeat' (first | with_reducible assumption | intro _ | with_reducible (first | apply setReg_kept) | simp only [mk_kept_iff])

theorem timeCommit_kept (old new : Bank) (s : State) (h : Kept q s) : Kept q (timeCommit old new s) := by
  unfold timeCommit
  try dsimp only
  repeat' (first | with_reducible assumption | intro _ | with_reducible (first | apply ite_kept | apply setReg_kept | apply setA_kept | apply each_kept | apply driveTtrig_kept) | simp only [mk_kept_iff] | split)

theorem execCaptureEdge_kept (channel : Fin 12) (rising : Bool) (s : State) (h2 : Kept q s) : KeptOut q (execCaptureEdge channel rising s) := by
  show Kept q _
  try dsimp only
  repeat' (first | with_reducible assumption | intro _ | with_reducible (first | apply announce_kept | apply fire_kept | apply msix_kept | apply setCaps_kept | apply setReg_kept) | simp only [mk_kept_iff] | split)

theorem popCapture_kept (c : Nat) (s : State) (h1 : Kept q s) : Kept q (popCapture c s).1 := by
  unfold popCapture
  try dsimp only
  repeat' (first | with_reducible assumption | intro _ | with_reducible (first | apply setCaps_kept) | simp only [mk_kept_iff] | split)

theorem execCapturePop_kept (ses : Session) (channel : Fin 12) (s : State) (h2 : Kept q s) : KeptOut q (execCapturePop ses channel s) := by
  show Kept q _
  try dsimp only
  repeat' (first | with_reducible assumption | intro _ | with_reducible (first | apply popCapture_kept | apply serveData_kept))

theorem latchTime_kept (a : State) (h0 : Kept q a) : Kept q (latchTime a).1 := by
  unfold latchTime
  try dsimp only
  repeat' (first | with_reducible assumption | intro _ | with_reducible (first | apply done_kept | apply notTerminal_kept | apply setReg_kept))

theorem execCrossStampLatch_kept (ses : Session) (s : State) (h1 : Kept q s) : KeptOut q (execCrossStampLatch ses s) := by
  show Kept q _
  try dsimp only
  repeat' (first | with_reducible assumption | intro _ | with_reducible (first | apply latchTime_kept | apply serveBoth_kept))

theorem execPpsOutPulse_kept (s : State) (h0 : Kept q s) : KeptOut q (execPpsOutPulse s) := by
  show Kept q _
  try dsimp only
  repeat' (first | with_reducible assumption | intro _ | with_reducible (first | apply emit_kept) | simp only [mk_kept_iff] | split)

theorem pulsesEnd_kept (s : State) (h0 : Kept q s) : Kept q (pulsesEnd s) := by
  unfold pulsesEnd
  try dsimp only
  repeat' (first | with_reducible assumption | intro _ | with_reducible (first | apply driveTtrig_kept | apply each_kept | apply emit_kept) | simp only [mk_kept_iff] | split)

theorem saveTime_kept (slept : Bool) (s : State) (h1 : Kept q s) : Kept q (saveTime slept s) := by
  unfold saveTime
  try dsimp only
  repeat' (first | with_reducible assumption | intro _ | with_reducible (first | apply ite_kept) | simp only [mk_kept_iff])

theorem restoreComparators_kept (s : State) (h0 : Kept q s) : Kept q (restoreComparators s) := by
  unfold restoreComparators
  try dsimp only
  repeat' (first | with_reducible assumption | intro _ | with_reducible (first | apply each_kept | apply setReg_kept | apply setTarget_kept) | simp only [mk_kept_iff] | split)

theorem restoreTime_kept (s : State) (h0 : Kept q s) : Kept q (restoreTime s) := by
  have key : ∀ (x1 x2 w v1 v2 v3 v4 : Nat) (i : Int), Kept q (setA i (count 0x3801 5 (setReg 0x3801 2 v1 (setReg 0x3801 1 1 (setReg 0x3800 6 4
      (setReg 0x3801 6 v2 (setReg 0x3800 5 v3
        { s with time := { s.time with loc := x1, mono := x2, shadow := none, tclk := true, holdAt := w, inLock := v4 } }))))))) := by
    intro x1 x2 w v1 v2 v3 v4 i
    exact setA_kept _ _ (count_kept _ _ _ (setReg_kept _ _ _ _ (setReg_kept _ _ _ _ (setReg_kept _ _ _ _ (setReg_kept _ _ _ _ (setReg_kept _ _ _ _ h0))))))
  unfold restoreTime
  rcases s.time.shadow with _ | ⟨l, m, a, w⟩
  · exact h0
  · exact key _ _ _ _ _ _ _ _

theorem dmaEnd_kept (n : Nat) (f : Nat × Bytes) (moved : Nat) (status : Nat) (eof : Bool) (s : State) (h5 : Kept q s) : Kept q (dmaEnd n f moved status eof s) := by
  unfold dmaEnd
  try dsimp only
  repeat' (first | with_reducible assumption | intro _ | with_reducible (first | apply setDma_kept))

theorem refuseHeads_kept (n : Nat) (a : Nat) (x2 : State) (h2 : Kept q x2) : Kept q (refuseHeads n a x2) := by
  induction a generalizing x2 with
  | zero =>
    unfold refuseHeads
    repeat' (first | with_reducible assumption)
  | succ k ih =>
    unfold refuseHeads
    try dsimp only
    repeat' (first | with_reducible assumption | intro _ | with_reducible (first | apply dmaEnd_kept | apply fetched_kept | apply setDma_kept) | simp only [mk_kept_iff] | with_reducible apply ih | split)

theorem takeDescs_kept (n : Nat) (a : List Bytes) (x2 : State) (h2 : Kept q x2) : Kept q (takeDescs n a x2) := by
  induction a generalizing x2 with
  | nil =>
    unfold takeDescs
    repeat' (first | with_reducible assumption)
  | cons m t ih =>
    unfold takeDescs
    try dsimp only
    repeat' (first | with_reducible assumption | intro _ | with_reducible (first | apply fetched_kept | apply setDma_kept) | simp only [mk_kept_iff] | with_reducible apply ih | split)

theorem execDescriptorFetch_kept (channel : Fin 64) (bytes : List Byte) (s : State) (h2 : Kept q s) : KeptOut q (execDescriptorFetch channel bytes s) := by
  show Kept q _
  try dsimp only
  repeat' (first | with_reducible assumption | intro _ | with_reducible (first | apply emit_kept | apply refuseHeads_kept | apply takeDescs_kept) | simp only [mk_kept_iff] | split)

theorem notReady_kept (n : Nat) (s : State) (h1 : Kept q s) : Kept q (notReady n s) := by
  unfold notReady
  try dsimp only
  repeat' (first | with_reducible assumption | intro _ | with_reducible (first | apply cause_kept | apply count_kept | apply dmaStop_kept | apply setDma_kept))

theorem execPhaseReread_kept (channel : Fin 64) (bytes : List Byte) (s : State) (h2 : Kept q s) : KeptOut q (execPhaseReread channel bytes s) := by
  show Kept q _
  try dsimp only
  repeat' (first | with_reducible assumption | intro _ | with_reducible (first | apply emit_kept | apply notReady_kept | apply refuseHeads_kept | apply setDma_kept | apply takeDescs_kept) | simp only [mk_kept_iff] | split)

theorem execDescriptorWriteBack_kept (channel : Fin 64) (s : State) (h1 : Kept q s) : KeptOut q (execDescriptorWriteBack channel s) := by
  show Kept q _
  try dsimp only
  repeat' (first | with_reducible assumption | intro _ | with_reducible (first | apply dmaHalt_kept | apply dmaStop_kept | apply setDma_kept | apply writeBackNext_kept) | simp only [mk_kept_iff] | split)

theorem execDmaDoorbell_kept (channel : Fin 64) (value : Fin 4294967296) (s : State) (h2 : Kept q s) : KeptOut q (execDmaDoorbell channel value s) := by
  show Kept q _
  try dsimp only
  repeat' (first | with_reducible assumption | intro _ | with_reducible (first | apply deny_kept | apply done_kept | apply doorbell_kept | apply serveHot_kept) | simp only [mk_kept_iff] | split)

theorem dmaControl_kept (n : Nat) (f : Svc) (a : State) (h1 : ∀ s, Kept q s → Kept q (f s).1) (h2 : Kept q a) : Kept q (dmaControl n f a).1 := by
  unfold dmaControl
  try dsimp only
  repeat' (first | with_reducible assumption | intro _ | with_reducible (first | apply cause_kept | apply done_kept | apply notTerminal_kept | apply h1) | simp only [mk_kept_iff] | split)

theorem dmaDone_kept (n : Nat) (s : State) (h1 : Kept q s) : Kept q (dmaDone n s) := by
  unfold dmaDone
  try dsimp only
  repeat' (first | with_reducible assumption | intro _ | with_reducible (first | apply setReg_kept))

theorem dmaStart_kept (n : Nat) (a : State) (h1 : Kept q a) : Kept q (dmaStart n a).1 := by
  unfold dmaStart
  try dsimp only
  repeat' (first | with_reducible assumption | intro _ | with_reducible (first | apply deny_kept | apply dmaControl_kept | apply dmaDone_kept | apply done_kept | apply setGang_kept) | simp only [mk_kept_iff] | split)

theorem dmaAbort_kept (n : Nat) (a : State) (h1 : Kept q a) : Kept q (dmaAbort n a).1 := by
  unfold dmaAbort
  try dsimp only
  repeat' (first | with_reducible assumption | intro _ | with_reducible (first | apply dropRest_kept | apply deny_kept | apply dmaDone_kept | apply dmaStop_kept | apply done_kept | apply notTerminal_kept | apply setChState_kept | apply setDma_kept) | simp only [mk_kept_iff] | split)

theorem dmaDisableCmd_kept (n : Nat) (a : State) (h1 : Kept q a) : Kept q (dmaDisableCmd n a).1 := by
  unfold dmaDisableCmd
  try dsimp only
  repeat' (first | with_reducible assumption | intro _ | with_reducible (first | apply deny_kept | apply dmaControl_kept | apply dmaDisable_kept | apply dmaDone_kept | apply done_kept) | simp only [mk_kept_iff] | split)

theorem dmaReset_kept (n : Nat) (a : State) (h1 : Kept q a) : Kept q (dmaReset n a).1 := by
  unfold dmaReset
  try dsimp only
  repeat' (first | with_reducible assumption | intro _ | with_reducible (first | apply deny_kept | apply dmaControl_kept | apply dmaDone_kept | apply done_kept | apply setDma_kept | apply setGang_kept | apply setReg_kept) | simp only [mk_kept_iff] | split)

theorem execDmaStart_kept (ses : Session) (channel : Fin 64) (s : State) (h2 : Kept q s) : KeptOut q (execDmaStart ses channel s) := by
  show Kept q _
  try dsimp only
  repeat' (first | with_reducible assumption | intro _ | with_reducible (first | apply dmaStart_kept | apply serveBoth_kept))

theorem execDmaAbort_kept (ses : Session) (channel : Fin 64) (s : State) (h2 : Kept q s) : KeptOut q (execDmaAbort ses channel s) := by
  show Kept q _
  try dsimp only
  repeat' (first | with_reducible assumption | intro _ | with_reducible (first | apply dmaAbort_kept | apply serveBoth_kept))

theorem execDmaDisable_kept (ses : Session) (channel : Fin 64) (s : State) (h2 : Kept q s) : KeptOut q (execDmaDisable ses channel s) := by
  show Kept q _
  try dsimp only
  repeat' (first | with_reducible assumption | intro _ | with_reducible (first | apply dmaDisableCmd_kept | apply serveBoth_kept))

theorem execDmaResetRing_kept (ses : Session) (channel : Fin 64) (s : State) (h2 : Kept q s) : KeptOut q (execDmaResetRing ses channel s) := by
  show Kept q _
  try dsimp only
  repeat' (first | with_reducible assumption | intro _ | with_reducible (first | apply dmaReset_kept | apply serveBoth_kept))

theorem popRecord_kept (n : Nat) (s : State) (h1 : Kept q s) : Kept q (popRecord n s).2 := by
  unfold popRecord
  try dsimp only
  repeat' (first | with_reducible assumption | intro _ | with_reducible (first | apply setDma_kept) | simp only [mk_kept_iff] | split)

theorem execCompletionPop_kept (ses : Session) (channel : Fin 64) (s : State) (h2 : Kept q s) : KeptOut q (execCompletionPop ses channel s) := by
  show Kept q _
  try dsimp only
  repeat' (first | with_reducible assumption | intro _ | with_reducible (first | apply emit_kept | apply popRecord_kept | apply serveData_kept) | simp only [mk_kept_iff] | split)

theorem fillBuffers_kept (n : Nat) (status : Nat) (last : Bool) (a : List ((Nat × Bytes) × Nat)) (x3 : Bytes) (x4 : State) (h4 : Kept q x4) : Kept q (fillBuffers n status last a x3 x4) := by
  induction a generalizing x3 x4 with
  | nil =>
    unfold fillBuffers
    repeat' (first | with_reducible assumption)
  | cons m t ih =>
    obtain ⟨m, k⟩ := m
    unfold fillBuffers
    try dsimp only
    repeat' (first | with_reducible assumption | intro _ | with_reducible (first | apply dmaEnd_kept | apply emit_kept | apply fetched_kept | apply setDma_kept) | simp only [mk_kept_iff] | with_reducible apply ih | split)

theorem execReceiveFrameToHost_kept (channel : Fin 64) (seen : TxEnd) (s : State) (h2 : Kept q s) : KeptOut q (execReceiveFrameToHost channel seen s) := by
  show Kept q _
  try dsimp only
  repeat' (first | with_reducible assumption | intro _ | with_reducible (first | apply setDma_kept | apply closeFrame_kept | apply fillBuffers_kept | apply reap_kept | apply refuseHeads_kept | apply setEgr_kept | apply settle_kept) | simp only [mk_kept_iff] | split)

theorem execHostRingDrop_kept (queue : Fin 8) (s : State) (h1 : Kept q s) : KeptOut q (execHostRingDrop queue s) := by
  show Kept q _
  try dsimp only
  repeat' (first | with_reducible assumption | intro _ | with_reducible (first | apply count_kept | apply reap_kept | apply setEgr_kept) | simp only [mk_kept_iff] | split)

theorem endAll_kept (n : Nat) (status : Nat → Nat) (a : Nat) (x3 : List (Nat × Bytes)) (x4 : State) (h4 : Kept q x4) : Kept q (endAll n status a x3 x4) := by
  induction x3 generalizing a x4 with
  | nil =>
    unfold endAll
    exact h4
  | cons m t ih =>
    unfold endAll
    exact ih _ _ (dmaEnd_kept _ _ _ _ _ _ (setDma_kept _ _ _ h4))

theorem hostFrame_kept (l : Bytes) (s : State) (h1 : Kept q s) : Kept q (hostFrame l s).2 := by
  unfold hostFrame
  try dsimp only
  repeat' (first | with_reducible assumption | intro _ | with_reducible (first | apply receiveFrame_kept))

theorem execTransmitFrameFromHost_kept (channel : Fin 64) (frame : List Byte) (host : HostRead) (s : State) (h3 : Kept q s) : KeptOut q (execTransmitFrameFromHost channel frame host s) := by
  show Kept q _
  try dsimp only
  repeat' (first | with_reducible assumption | intro _ | with_reducible (first | apply each_kept | apply emit_kept | apply endAll_kept | apply hostFrame_kept | apply refuseHeads_kept) | simp only [mk_kept_iff] | split)

theorem execDmaDomainLoss_kept (channel : Fin 64) (s : State) (h1 : Kept q s) : KeptOut q (execDmaDomainLoss channel s) := by
  show Kept q _
  try dsimp only
  repeat' (first | with_reducible assumption | intro _ | with_reducible (first | apply dmaDisable_kept | apply dmaHalt_kept | apply setChState_kept) | simp only [mk_kept_iff] | split)

end Sys2Proof.Machine
end

