-- ==== Sys2Proof/Laws/KeptCrust.lean ====
section
/-! SUPPORT. What each definition over the Crust, power domains and network management keeps: the object
stores stay in their canonical form and the command queue stays as it is (`Kept`, Sys2Proof/Laws/Kept.lean), one lemma per definition. -/

set_option linter.unusedVariables false
set_option linter.unreachableTactic false
set_option linter.unusedTactic false
set_option linter.unusedSimpArgs false
set_option maxRecDepth 4000

-- One declaration after the other: it keeps the memory of the package as one text within bounds.
set_option Elab.async false

namespace Sys2Proof.Machine
variable {q : List Instr}

theorem readChallenge_kept (ses : Session) (a : State) (h1 : Kept q a) : Kept q (readChallenge ses a).1 := by
  unfold readChallenge
  try dsimp only
  repeat' (first | with_reducible assumption | intro _ | with_reducible (first | apply useFree_kept) | simp only [mk_kept_iff] | split)

theorem execChallengeRead_kept (ses : Session) (s : State) (h1 : Kept q s) : KeptOut q (execChallengeRead ses s) := by
  show Kept q _
  try dsimp only
  repeat' (first | with_reducible assumption | intro _ | with_reducible (first | apply readChallenge_kept | apply serveData_kept))

theorem credentialFails_kept (r : Nat) (key : Nat) (path : Nat) (s : State) (h3 : Kept q s) : Kept q (credentialFails r key path s) := by
  unfold credentialFails
  try dsimp only
  repeat' (first | with_reducible assumption | intro _ | with_reducible (first | apply fire_kept | apply sealRecord_kept) | simp only [mk_kept_iff] | split)

theorem grantRole_kept (code : Nat) (r : Nat) (key : Nat) (s : State) (h3 : Kept q s) : Kept q (grantRole code r key s) := by
  unfold grantRole
  try dsimp only
  repeat' (first | with_reducible assumption | intro _ | with_reducible (first | apply sealRecord_kept) | simp only [mk_kept_iff])

theorem respond_kept (ses : Session) (l : Bytes) (a : State) (h2 : Kept q a) : Kept q (respond ses l a).1 := by
  unfold respond
  try dsimp only
  repeat' (first | with_reducible assumption | intro _ | with_reducible (first | apply credentialFails_kept | apply deny_kept | apply done_kept | apply grantRole_kept | apply notTerminal_kept) | simp only [mk_kept_iff] | split)

theorem execCredentialResponse_kept (ses : Session) (response : List Byte) (s : State) (h2 : Kept q s) : KeptOut q (execCredentialResponse ses response s) := by
  show Kept q _
  try dsimp only
  repeat' (first | with_reducible assumption | intro _ | with_reducible (first | apply respond_kept | apply serve_kept))

theorem releaseRole_kept (ses : Session) (a : State) (h1 : Kept q a) : Kept q (releaseRole ses a).1 := by
  unfold releaseRole
  try dsimp only
  repeat' (first | with_reducible assumption | intro _ | with_reducible (first | apply done_kept | apply notTerminal_kept) | simp only [mk_kept_iff])

theorem execRoleRelease_kept (ses : Session) (s : State) (h1 : Kept q s) : KeptOut q (execRoleRelease ses s) := by
  show Kept q _
  try dsimp only
  repeat' (first | with_reducible assumption | intro _ | with_reducible (first | apply releaseRole_kept | apply serve_kept))

theorem execLockoutEnd_kept (role : Fin 4) (s : State) (h1 : Kept q s) : KeptOut q (execLockoutEnd role s) := by
  show Kept q _
  try dsimp only
  repeat' (first | with_reducible assumption | intro _ | with_reducible (first | apply ite_kept) | simp only [mk_kept_iff])

theorem putKey_kept (n : Nat) (k : KeySlot) (role : Nat) (s : State) (h3 : Kept q s) : Kept q (putKey n k role s) := by
  unfold putKey
  try dsimp only
  repeat' (first | with_reducible assumption | intro _ | with_reducible (first | apply refreshEval_kept | apply sealRecord_kept) | simp only [mk_kept_iff])

theorem keyCommand_kept (f : Svc) (a : State) (h0 : ∀ s, Kept q s → Kept q (f s).1) (h1 : Kept q a) : Kept q (keyCommand f a).1 := by
  unfold keyCommand
  try dsimp only
  repeat' (first | with_reducible assumption | intro _ | with_reducible (first | apply deny_kept | apply notTerminal_kept | apply setReg_kept | apply h0) | simp only [mk_kept_iff] | split)

theorem loadBlob_kept (ses : Session) (a : State) (h1 : Kept q a) : Kept q (loadBlob ses a).1 := by
  unfold loadBlob
  try dsimp only
  repeat' (first | with_reducible assumption | intro _ | with_reducible (first | apply deny_kept | apply done_kept | apply keyCommand_kept | apply putKey_kept) | simp only [mk_kept_iff] | split)

theorem importPublic_kept (ses : Session) (a : State) (h1 : Kept q a) : Kept q (importPublic ses a).1 := by
  unfold importPublic
  try dsimp only
  repeat' (first | with_reducible assumption | intro _ | with_reducible (first | apply deny_kept | apply done_kept | apply keyCommand_kept | apply putKey_kept) | simp only [mk_kept_iff] | split)

theorem unwrapSak_kept (ses : Session) (a : State) (h1 : Kept q a) : Kept q (unwrapSak ses a).1 := by
  unfold unwrapSak
  try dsimp only
  repeat' (first | with_reducible assumption | intro _ | with_reducible (first | apply deny_kept | apply done_kept | apply keyCommand_kept | apply putKey_kept) | simp only [mk_kept_iff] | split)

theorem eraseKey_kept (ses : Session) (a : State) (h1 : Kept q a) : Kept q (eraseKey ses a).1 := by
  unfold eraseKey
  try dsimp only
  repeat' (first | with_reducible assumption | intro _ | with_reducible (first | apply deny_kept | apply done_kept | apply keyCommand_kept | apply refreshEval_kept | apply sealRecord_kept) | simp only [mk_kept_iff] | split)

theorem clearImport_kept (ses : Session) (a : State) (h1 : Kept q a) : Kept q (clearImport ses a).1 := by
  unfold clearImport
  try dsimp only
  repeat' (first | with_reducible assumption | intro _ | with_reducible (first | apply deny_kept | apply done_kept | apply keyCommand_kept | apply putKey_kept) | simp only [mk_kept_iff] | split)

theorem execLoadWrappedBlob_kept (ses : Session) (s : State) (h1 : Kept q s) : KeptOut q (execLoadWrappedBlob ses s) := by
  show Kept q _
  try dsimp only
  repeat' (first | with_reducible assumption | intro _ | with_reducible (first | apply loadBlob_kept | apply serve_kept))

theorem execImportPublicKey_kept (ses : Session) (s : State) (h1 : Kept q s) : KeptOut q (execImportPublicKey ses s) := by
  show Kept q _
  try dsimp only
  repeat' (first | with_reducible assumption | intro _ | with_reducible (first | apply importPublic_kept | apply serve_kept))

theorem execUnwrapSak_kept (ses : Session) (s : State) (h1 : Kept q s) : KeptOut q (execUnwrapSak ses s) := by
  show Kept q _
  try dsimp only
  repeat' (first | with_reducible assumption | intro _ | with_reducible (first | apply serve_kept | apply unwrapSak_kept))

theorem execEraseKey_kept (ses : Session) (s : State) (h1 : Kept q s) : KeptOut q (execEraseKey ses s) := by
  show Kept q _
  try dsimp only
  repeat' (first | with_reducible assumption | intro _ | with_reducible (first | apply eraseKey_kept | apply serve_kept))

theorem execClearImport_kept (ses : Session) (s : State) (h1 : Kept q s) : KeptOut q (execClearImport ses s) := by
  show Kept q _
  try dsimp only
  repeat' (first | with_reducible assumption | intro _ | with_reducible (first | apply clearImport_kept | apply serve_kept))

theorem execKeyParityError_kept (slot : Fin 256) (s : State) (h1 : Kept q s) : KeptOut q (execKeyParityError slot s) := by
  show Kept q _
  try dsimp only
  repeat' (first | with_reducible assumption | intro _ | with_reducible (first | apply fire_kept | apply refreshEval_kept) | simp only [mk_kept_iff] | split)

theorem execTrngHealthFailure_kept (s : State) (h0 : Kept q s) : KeptOut q (execTrngHealthFailure s) := by
  show Kept q _
  try dsimp only
  repeat' (first | with_reducible assumption | intro _ | with_reducible (first | apply fire_kept) | simp only [mk_kept_iff] | split)

theorem execTrngStartUpTest_kept (passed : Bool) (s : State) (h1 : Kept q s) : KeptOut q (execTrngStartUpTest passed s) := by
  show Kept q _
  try dsimp only
  repeat' (first | with_reducible assumption | intro _ | with_reducible (first | apply fire_kept | apply refreshEval_kept | apply setReg_kept) | simp only [mk_kept_iff] | split)

theorem execAuthUnitSelfTest_kept (passed : Bool) (s : State) (h1 : Kept q s) : KeptOut q (execAuthUnitSelfTest passed s) := by
  show Kept q _
  try dsimp only
  repeat' (first | with_reducible assumption | intro _ | with_reducible (first | apply fire_kept) | simp only [mk_kept_iff] | split)

theorem writeAn_kept (p : Nat) (an : Nat) (a : State) (h2 : Kept q a) : Kept q (writeAn p an a).1 := by
  unfold writeAn
  try dsimp only
  repeat' (first | with_reducible assumption | intro _ | with_reducible (first | apply deny_kept | apply done_kept | apply notTerminal_kept | apply setReg_kept) | simp only [mk_kept_iff] | split)

theorem execTransmitAnWrite_kept (ses : Session) (port : Fin 16) (an : Byte) (s : State) (h3 : Kept q s) : KeptOut q (execTransmitAnWrite ses port an s) := by
  show Kept q _
  try dsimp only
  repeat' (first | with_reducible assumption | intro _ | with_reducible (first | apply serve_kept | apply writeAn_kept))

theorem saCommand_kept (f : State → State) (a : State) (h0 : ∀ s, Kept q s → Kept q (f s)) (h1 : Kept q a) : Kept q (saCommand f a).1 := by
  unfold saCommand
  try dsimp only
  repeat' (first | with_reducible assumption | intro _ | with_reducible (first | apply deny_kept | apply done_kept | apply setReg_kept | apply h0) | simp only [mk_kept_iff] | split)

theorem saRead_kept (a : State) (h0 : Kept q a) : Kept q (saRead a).1 := by
  unfold saRead
  try dsimp only
  repeat' (first | with_reducible assumption | intro _ | with_reducible (first | apply saCommand_kept | apply setReg_kept))

theorem saWrite_kept (a : State) (h0 : Kept q a) : Kept q (saWrite a).1 := by
  unfold saWrite
  try dsimp only
  repeat' (first | with_reducible assumption | intro _ | with_reducible (first | apply deny_kept | apply saCommand_kept | apply setSa_kept) | simp only [mk_kept_iff] | split)

theorem execSaRead_kept (ses : Session) (s : State) (h1 : Kept q s) : KeptOut q (execSaRead ses s) := by
  show Kept q _
  try dsimp only
  repeat' (first | with_reducible assumption | intro _ | with_reducible (first | apply saRead_kept | apply serve_kept))

theorem execSaWrite_kept (ses : Session) (s : State) (h1 : Kept q s) : KeptOut q (execSaWrite ses s) := by
  show Kept q _
  try dsimp only
  repeat' (first | with_reducible assumption | intro _ | with_reducible (first | apply saWrite_kept | apply serve_kept))

theorem execPnExhaustion_kept (port : Fin 16) (s : State) (h1 : Kept q s) : KeptOut q (execPnExhaustion port s) := by
  show Kept q _
  try dsimp only
  repeat' (first | with_reducible assumption | intro _ | with_reducible (first | apply hostEvent_kept) | simp only [mk_kept_iff] | split)

theorem mkaCommand_kept (f : Svc) (a : State) (h0 : ∀ s, Kept q s → Kept q (f s).1) (h1 : Kept q a) : Kept q (mkaCommand f a).1 := by
  unfold mkaCommand
  try dsimp only
  repeat' (first | with_reducible assumption | intro _ | with_reducible (first | apply notTerminal_kept | apply setReg_kept | apply h0))

theorem deriveKeys_kept (a : State) (h0 : Kept q a) : Kept q (deriveKeys a).1 := by
  unfold deriveKeys
  try dsimp only
  repeat' (first | with_reducible assumption | intro _ | with_reducible (first | apply deny_kept | apply done_kept | apply mkaCommand_kept) | simp only [mk_kept_iff] | split)

theorem computeIcv_kept (a : State) (h0 : Kept q a) : Kept q (computeIcv a).1 := by
  unfold computeIcv
  try dsimp only
  repeat' (first | with_reducible assumption | intro _ | with_reducible (first | apply deny_kept | apply done_kept | apply mkaCommand_kept | apply setReg_kept) | simp only [mk_kept_iff] | split)

theorem execDeriveKekIck_kept (ses : Session) (s : State) (h1 : Kept q s) : KeptOut q (execDeriveKekIck ses s) := by
  show Kept q _
  try dsimp only
  repeat' (first | with_reducible assumption | intro _ | with_reducible (first | apply deriveKeys_kept | apply serve_kept))

theorem execComputeIcv_kept (ses : Session) (s : State) (h1 : Kept q s) : KeptOut q (execComputeIcv ses s) := by
  show Kept q _
  try dsimp only
  repeat' (first | with_reducible assumption | intro _ | with_reducible (first | apply computeIcv_kept | apply serve_kept))

theorem flashRecord_kept (r : SealedRec) (s : State) (h1 : Kept q s) : Kept q (flashRecord r s) := by
  unfold flashRecord
  try dsimp only
  repeat' (first | with_reducible assumption | intro _ | with_reducible (first | apply count_kept) | simp only [mk_kept_iff] | split)

theorem execSealedRecordWrite_kept (s : State) (h0 : Kept q s) : KeptOut q (execSealedRecordWrite s) := by
  show Kept q _
  try dsimp only
  repeat' (first | with_reducible assumption | intro _ | with_reducible (first | apply flashRecord_kept) | simp only [mk_kept_iff] | split)

theorem acknowledge_kept (ses : Session) (n : Nat) (a : State) (h2 : Kept q a) : Kept q (acknowledge ses n a).1 := by
  unfold acknowledge
  try dsimp only
  repeat' (first | with_reducible assumption | intro _ | with_reducible (first | apply deny_kept | apply done_kept | apply needRole_kept | apply notTerminal_kept | apply sealRecord_kept | apply setReg_kept) | simp only [mk_kept_iff] | split)

theorem execLogAcknowledge_kept (ses : Session) (through : Fin 18446744073709551616) (s : State) (h2 : Kept q s) : KeptOut q (execLogAcknowledge ses through s) := by
  show Kept q _
  try dsimp only
  repeat' (first | with_reducible assumption | intro _ | with_reducible (first | apply acknowledge_kept | apply serve_kept))

theorem exportLog_kept (ses : Session) (a : State) (h1 : Kept q a) : Kept q (exportLog ses a).1 := by
  unfold exportLog
  try dsimp only
  repeat' (first | with_reducible assumption | intro _ | with_reducible (first | apply deny_kept | apply done_kept | apply needRole_kept | apply notTerminal_kept | apply setReg_kept) | simp only [mk_kept_iff] | split)

theorem execLogExport_kept (ses : Session) (s : State) (h1 : Kept q s) : KeptOut q (execLogExport ses s) := by
  show Kept q _
  try dsimp only
  repeat' (first | with_reducible assumption | intro _ | with_reducible (first | apply exportLog_kept | apply serve_kept))

theorem execLogExportComplete_kept (s : State) (h0 : Kept q s) : KeptOut q (execLogExportComplete s) := by
  show Kept q _
  try dsimp only
  repeat' (first | with_reducible assumption | intro _ | with_reducible (first | apply setReg_kept) | simp only [mk_kept_iff] | split)

theorem bindCommand_kept (ses : Session) (p : Nat) (f : State → State) (a : State) (h2 : ∀ s, Kept q s → Kept q (f s)) (h3 : Kept q a) : Kept q (bindCommand ses p f a).1 := by
  unfold bindCommand
  try dsimp only
  repeat' (first | with_reducible assumption | intro _ | with_reducible (first | apply deny_kept | apply done_kept | apply needRole_kept | apply notTerminal_kept | apply h2) | simp only [mk_kept_iff] | split)

theorem bindModule_kept (ses : Session) (p : Nat) (a : State) (h2 : Kept q a) : Kept q (bindModule ses p a).1 := by
  unfold bindModule
  try dsimp only
  repeat' (first | with_reducible assumption | intro _ | with_reducible (first | apply bindCommand_kept | apply sealRecord_kept | apply setReg_kept) | simp only [mk_kept_iff])

theorem unbindModule_kept (ses : Session) (p : Nat) (a : State) (h2 : Kept q a) : Kept q (unbindModule ses p a).1 := by
  unfold unbindModule
  try dsimp only
  repeat' (first | with_reducible assumption | intro _ | with_reducible (first | apply bindCommand_kept | apply sealRecord_kept | apply setReg_kept) | simp only [mk_kept_iff])

theorem execModuleBind_kept (ses : Session) (port : Fin 16) (s : State) (h2 : Kept q s) : KeptOut q (execModuleBind ses port s) := by
  show Kept q _
  try dsimp only
  repeat' (first | with_reducible assumption | intro _ | with_reducible (first | apply bindModule_kept | apply serve_kept))

theorem execModuleUnbind_kept (ses : Session) (port : Fin 16) (s : State) (h2 : Kept q s) : KeptOut q (execModuleUnbind ses port s) := by
  show Kept q _
  try dsimp only
  repeat' (first | with_reducible assumption | intro _ | with_reducible (first | apply serve_kept | apply unbindModule_kept))

theorem tamperErase_kept (s : State) (h0 : Kept q s) : Kept q (tamperErase s) := by
  unfold tamperErase
  try dsimp only
  repeat' (first | with_reducible assumption | intro _ | with_reducible (first | apply ite_kept) | simp only [mk_kept_iff])

theorem tamper_kept (k : Nat) (s : State) (h1 : Kept q s) : Kept q (tamper k s) := by
  unfold tamper
  try dsimp only
  repeat' (first | with_reducible assumption | intro _ | with_reducible (first | apply refreshEval_kept | apply ite_kept | apply count_kept | apply fire_kept | apply sealRecord_kept | apply setReg_kept | apply tamperErase_kept))

theorem execTamperEvent_kept (sensor : Fin 4) (s : State) (h1 : Kept q s) : KeptOut q (execTamperEvent sensor s) := by
  show Kept q _
  try dsimp only
  repeat' (first | with_reducible assumption | intro _ | with_reducible (first | apply tamper_kept) | simp only [mk_kept_iff] | split)

theorem tamperClear_kept (ses : Session) (v : Nat) (a : State) (h2 : Kept q a) : Kept q (tamperClear ses v a).1 := by
  unfold tamperClear
  try dsimp only
  repeat' (first | with_reducible assumption | intro _ | with_reducible (first | apply deny_kept | apply done_kept | apply needRole_kept | apply notTerminal_kept | apply setReg_kept) | simp only [mk_kept_iff] | split)

theorem execTamperLatchClear_kept (ses : Session) (bits : Byte) (s : State) (h2 : Kept q s) : KeptOut q (execTamperLatchClear ses bits s) := by
  show Kept q _
  try dsimp only
  repeat' (first | with_reducible assumption | intro _ | with_reducible (first | apply serve_kept | apply tamperClear_kept))

theorem execJtagInstruction_kept (inst0 : JtagInstr) (s : State) (h1 : Kept q s) : KeptOut q (execJtagInstruction inst0 s) := by
  show Kept q _
  try dsimp only
  repeat' (first | with_reducible assumption | intro _ | with_reducible (first | apply emit_kept | apply fire_kept | apply sealRecord_kept) | simp only [mk_kept_iff] | split)

theorem moveLifecycle_kept (ses : Session) (t : Nat) (a : State) (h2 : Kept q a) : Kept q (moveLifecycle ses t a).1 := by
  unfold moveLifecycle
  try dsimp only
  repeat' (first | with_reducible assumption | intro _ | with_reducible (first | apply deny_kept | apply done_kept | apply notTerminal_kept | apply refreshEval_kept | apply sealRecord_kept | apply setReg_kept) | simp only [mk_kept_iff] | split)

theorem execLifecycleTransition_kept (ses : Session) (target : Fin 4) (s : State) (h2 : Kept q s) : KeptOut q (execLifecycleTransition ses target s) := by
  show Kept q _
  try dsimp only
  repeat' (first | with_reducible assumption | intro _ | with_reducible (first | apply moveLifecycle_kept | apply serve_kept))

theorem revokeRoot_kept (ses : Session) (k : Nat) (a : State) (h2 : Kept q a) : Kept q (revokeRoot ses k a).1 := by
  unfold revokeRoot
  try dsimp only
  repeat' (first | with_reducible assumption | intro _ | with_reducible (first | apply deny_kept | apply done_kept | apply needRole_kept | apply notTerminal_kept) | simp only [mk_kept_iff] | split)

theorem execRootKeyRevocation_kept (ses : Session) (key : Fin 4) (s : State) (h2 : Kept q s) : KeptOut q (execRootKeyRevocation ses key s) := by
  show Kept q _
  try dsimp only
  repeat' (first | with_reducible assumption | intro _ | with_reducible (first | apply revokeRoot_kept | apply serve_kept))

theorem drainStart_kept (d : Nat) (s : State) (h1 : Kept q s) : Kept q (drainStart d s) := by
  unfold drainStart
  try dsimp only
  repeat' (first | with_reducible assumption | intro _ | with_reducible (first | apply dropAtBoundary_kept | apply each_kept | apply setReg_kept | apply toStandby_kept) | simp only [mk_kept_iff] | split)

theorem unitsOff_kept (d : Nat) (s : State) (h1 : Kept q s) : Kept q (unitsOff d s) := by
  unfold unitsOff
  try dsimp only
  repeat' (first | with_reducible assumption | intro _ | with_reducible (first | apply clusterDown_kept | apply count_kept | apply each_kept | apply linkGoes_kept | apply portDown_kept | apply setLin_kept | apply setPrt_kept | apply setReg_kept | apply unlock_kept) | simp only [mk_kept_iff] | split)

theorem domainReturn_kept (d : Nat) (s : State) (h1 : Kept q s) : Kept q (domainReturn d s) := by
  unfold domainReturn
  try dsimp only
  repeat' (first | with_reducible assumption | intro _ | with_reducible (first | apply each_kept | apply peckReturn_kept | apply peckWithdraw_kept | apply setPeck_kept) | simp only [mk_kept_iff] | split)

theorem switchOff_kept (d : Nat) (s : State) (h1 : Kept q s) : Kept q (switchOff d s) := by
  unfold switchOff
  try dsimp only
  repeat' (first | with_reducible assumption | intro _ | with_reducible (first | apply domainOff_kept | apply domainReturn_kept | apply setReg_kept | apply unitsOff_kept) | simp only [mk_kept_iff] | split)

theorem execDomainPowerDown_kept (domain : Fin 18) (s : State) (h1 : Kept q s) : KeptOut q (execDomainPowerDown domain s) := by
  show Kept q _
  try dsimp only
  repeat' (first | with_reducible assumption | intro _ | with_reducible (first | apply drainStart_kept | apply settle_kept) | simp only [mk_kept_iff] | split)

theorem execDomainDrainEnd_kept (domain : Fin 18) (s : State) (h1 : Kept q s) : KeptOut q (execDomainDrainEnd domain s) := by
  show Kept q _
  try dsimp only
  repeat' (first | with_reducible assumption | intro _ | with_reducible (first | apply count_kept | apply settle_kept | apply switchOff_kept) | simp only [mk_kept_iff] | split)

theorem unitsOn_kept (d : Nat) (s : State) (h1 : Kept q s) : Kept q (unitsOn d s) := by
  unfold unitsOn
  try dsimp only
  repeat' (first | with_reducible assumption | intro _ | with_reducible (first | apply canCommit_kept | apply each_kept | apply linCommit_kept | apply linkTrains_kept | apply setReg_kept) | simp only [mk_kept_iff] | split)

theorem switchOn_kept (d : Nat) (s : State) (h1 : Kept q s) : Kept q (switchOn d s) := by
  unfold switchOn
  try dsimp only
  repeat' (first | with_reducible assumption | intro _ | with_reducible (first | apply setReg_kept | apply unitsOn_kept) | simp only [mk_kept_iff] | split)

theorem execDomainReady_kept (domain : Fin 18) (s : State) (h1 : Kept q s) : KeptOut q (execDomainReady domain s) := by
  show Kept q _
  try dsimp only
  repeat' (first | with_reducible assumption | intro _ | with_reducible (first | apply settle_kept | apply switchOn_kept) | simp only [mk_kept_iff] | split)

theorem execPowerSwitchFault_kept (domain : Fin 18) (s : State) (h1 : Kept q s) : KeptOut q (execPowerSwitchFault domain s) := by
  show Kept q _
  try dsimp only
  repeat' (first | with_reducible assumption | intro _ | with_reducible (first | apply count_kept | apply fire_kept) | simp only [mk_kept_iff] | split)

theorem setCluster_kept (c : Nat) (x : ClusterSt) (s : State) (h2 : Kept q s) : Kept q (setCluster c x s) := by
  unfold setCluster
  try dsimp only
  repeat' (first | with_reducible assumption | intro _ | with_reducible (first | apply ite_kept) | simp only [mk_kept_iff])

theorem setClusterState_kept (c : Nat) (v : Nat) (s : State) (h2 : Kept q s) : Kept q (setClusterState c v s) := by
  unfold setClusterState
  try dsimp only
  repeat' (first | with_reducible assumption | intro _ | with_reducible (first | apply setReg_kept))

theorem withInh_kept (f : State → State) (s : State) (h0 : ∀ s, Kept q s → Kept q (f s)) (h1 : Kept q s) : Kept q (withInh f s) := by
  unfold withInh
  try dsimp only
  repeat' (first | with_reducible assumption | intro _ | with_reducible (first | apply emit_kept | apply h0) | simp only [mk_kept_iff] | split)

theorem sleepCheck_kept (s : State) (h0 : Kept q s) : Kept q (sleepCheck s) := by
  unfold sleepCheck
  try dsimp only
  repeat' (first | with_reducible assumption | intro _ | with_reducible (first | apply copyFreshness_kept | apply setDev_kept) | simp only [mk_kept_iff] | split)

theorem deviceCommit_kept (s : State) (h0 : Kept q s) : Kept q (deviceCommit s) := by
  unfold deviceCommit
  try dsimp only
  repeat' (first | with_reducible assumption | intro _ | with_reducible (first | apply closeStream_kept | apply each_kept | apply setReg_kept) | simp only [mk_kept_iff] | split)

theorem toAwake_kept (c : Nat) (s : State) (h1 : Kept q s) : Kept q (toAwake c s) := by
  unfold toAwake
  try dsimp only
  repeat' (first | with_reducible assumption | intro _ | with_reducible (first | apply ite_kept | apply setCluster_kept | apply setClusterState_kept))

theorem wakeMembers_kept (c : Nat) (remote : Option Nat) (s : State) (h2 : Kept q s) : Kept q (wakeMembers c remote s) := by
  unfold wakeMembers
  try dsimp only
  repeat' (first | with_reducible assumption | intro _ | with_reducible (first | apply cancelDrain_kept | apply each_kept | apply emit_kept | apply peckRequest_kept | apply setReg_kept | apply toNormal_kept) | simp only [mk_kept_iff] | split)

theorem startWaking_kept (c : Nat) (remote : Option Nat) (s : State) (h2 : Kept q s) : Kept q (startWaking c remote s) := by
  unfold startWaking
  try dsimp only
  repeat' (first | with_reducible assumption | intro _ | with_reducible (first | apply ite_kept | apply setCluster_kept | apply setClusterState_kept | apply wakeMembers_kept))

theorem wakeCluster_kept (c : Nat) (remote : Option Nat) (s : State) (h2 : Kept q s) : Kept q (wakeCluster c remote s) := by
  unfold wakeCluster
  try dsimp only
  repeat' (first | with_reducible assumption | intro _ | with_reducible (first | apply ite_kept | apply count_kept | apply setCluster_kept | apply startWaking_kept | apply toAwake_kept) | simp only [mk_kept_iff] | split)

theorem replayCluster_kept (c : Nat) (s : State) (h1 : Kept q s) : Kept q (replayCluster c s) := by
  unfold replayCluster
  try dsimp only
  repeat' (first | with_reducible assumption | intro _ | with_reducible (first | apply setReg_kept) | simp only [mk_kept_iff] | split)

theorem finishWaking_kept (c : Nat) (s : State) (h1 : Kept q s) : Kept q (finishWaking c s) := by
  unfold finishWaking
  try dsimp only
  repeat' (first | with_reducible assumption | intro _ | with_reducible (first | apply each_kept | apply linRun_kept | apply replayCluster_kept | apply setCan_kept | apply toAwake_kept) | simp only [mk_kept_iff] | split)

theorem noteKeepers_kept (c : Nat) (s : State) (h1 : Kept q s) : Kept q (noteKeepers c s) := by
  unfold noteKeepers
  try dsimp only
  repeat' (first | with_reducible assumption | intro _ | with_reducible (first | apply setReg_kept))

theorem keep_kept (c : Nat) (bus : Nat) (node : Nat) (s : State) (h3 : Kept q s) : Kept q (keep c bus node s) := by
  unfold keep
  try dsimp only
  repeat' (first | with_reducible assumption | intro _ | with_reducible (first | apply ite_kept | apply count_kept | apply noteKeepers_kept | apply setCluster_kept))

theorem countPdu_kept (c : Nat) (bus : Nat) (node : Nat) (byVector : Bool) (s : State) (h4 : Kept q s) : Kept q (countPdu c bus node byVector s) := by
  unfold countPdu
  try dsimp only
  repeat' (first | with_reducible assumption | intro _ | with_reducible (first | apply ite_kept | apply keep_kept | apply setCluster_kept | apply setClusterState_kept))

theorem execNmPduReceive_kept (bus : Fin 94) (data : List Byte) (s : State) (h2 : Kept q s) : KeptOut q (execNmPduReceive bus data s) := by
  show Kept q _
  try dsimp only
  repeat' (first | with_reducible assumption | intro _ | with_reducible (first | apply count_kept | apply countPdu_kept | apply each_kept | apply sleepCheck_kept | apply withInh_kept) | simp only [mk_kept_iff] | split)

theorem execOwnNmPduSend_kept (cluster : Fin 8) (s : State) (h1 : Kept q s) : KeptOut q (execOwnNmPduSend cluster s) := by
  show Kept q _
  try dsimp only
  repeat' (first | with_reducible assumption | intro _ | with_reducible (first | apply ite_kept | apply each_kept | apply ownFrame_kept | apply setCluster_kept | apply settle_kept))

theorem execNmTimeout_kept (cluster : Fin 8) (s : State) (h1 : Kept q s) : KeptOut q (execNmTimeout cluster s) := by
  show Kept q _
  try dsimp only
  repeat' (first | with_reducible assumption | intro _ | with_reducible (first | apply ite_kept | apply setCluster_kept | apply setClusterState_kept | apply sleepCheck_kept | apply withInh_kept))

theorem execLinResponderHoldEnd_kept (bus : Fin 16) (s : State) (h1 : Kept q s) : KeptOut q (execLinResponderHoldEnd bus s) := by
  show Kept q _
  try dsimp only
  repeat' (first | with_reducible assumption | intro _ | with_reducible (first | apply setLin_kept) | simp only [mk_kept_iff] | split)

theorem commitMember_kept (k : Nat) (s : State) (h1 : Kept q s) : Kept q (commitMember k s) := by
  unfold commitMember
  try dsimp only
  repeat' (first | with_reducible assumption | intro _ | with_reducible (first | apply dropAtBoundary_kept | apply emit_kept | apply linSleep_kept | apply setLin_kept | apply setPrt_kept | apply setReg_kept | apply toStandby_kept) | simp only [mk_kept_iff] | split)

theorem commitCluster_kept (c : Nat) (s : State) (h1 : Kept q s) : Kept q (commitCluster c s) := by
  unfold commitCluster
  try dsimp only
  repeat' (first | with_reducible assumption | intro _ | with_reducible (first | apply ite_kept | apply commitMember_kept | apply count_kept | apply deviceCommit_kept | apply each_kept | apply setCluster_kept | apply setClusterState_kept | apply setReg_kept) | simp only [mk_kept_iff] | split)

theorem execSleepCommit_kept (cluster : Fin 8) (s : State) (h1 : Kept q s) : KeptOut q (execSleepCommit cluster s) := by
  show Kept q _
  try dsimp only
  repeat' (first | with_reducible assumption | intro _ | with_reducible (first | apply commitCluster_kept | apply settle_kept | apply sleepCheck_kept | apply toAwake_kept | apply withInh_kept) | simp only [mk_kept_iff] | split)

theorem execStandbyPoint_kept (cluster : Fin 8) (s : State) (h1 : Kept q s) : KeptOut q (execStandbyPoint cluster s) := by
  show Kept q _
  try dsimp only
  repeat' (first | with_reducible assumption | intro _ | with_reducible (first | apply ite_kept | apply noteKeepers_kept | apply setCluster_kept | apply setClusterState_kept | apply setReg_kept | apply withInh_kept))

theorem execTc10SleepEntry_kept (port : Fin 33) (acknowledged : Bool) (s : State) (h2 : Kept q s) : KeptOut q (execTc10SleepEntry port acknowledged s) := by
  show Kept q _
  try dsimp only
  repeat' (first | with_reducible assumption | intro _ | with_reducible (first | apply portDown_kept | apply setPrt_kept | apply setReg_kept | apply settle_kept) | simp only [mk_kept_iff] | split)

theorem execAwakeTimerExpiry_kept (cluster : Fin 8) (s : State) (h1 : Kept q s) : KeptOut q (execAwakeTimerExpiry cluster s) := by
  show Kept q _
  try dsimp only
  repeat' (first | with_reducible assumption | intro _ | with_reducible (first | apply ite_kept | apply count_kept | apply each_kept | apply noteKeepers_kept | apply sealRecord_kept | apply setCluster_kept))

theorem endWithholding_kept (c : Nat) (s : State) (h1 : Kept q s) : Kept q (endWithholding c s) := by
  unfold endWithholding
  try dsimp only
  repeat' (first | with_reducible assumption | intro _ | with_reducible (first | apply ite_kept | apply noteKeepers_kept | apply setCluster_kept | apply setReg_kept))

theorem resumeCluster_kept (c : Nat) (s : State) (h1 : Kept q s) : Kept q (resumeCluster c s) := by
  unfold resumeCluster
  try dsimp only
  repeat' (first | with_reducible assumption | intro _ | with_reducible (first | apply ite_kept | apply endWithholding_kept | apply setCluster_kept | apply setReg_kept | apply toAwake_kept | apply wakeMembers_kept))

theorem execWithholdingEnd_kept (cluster : Fin 8) (s : State) (h1 : Kept q s) : KeptOut q (execWithholdingEnd cluster s) := by
  show Kept q _
  try dsimp only
  repeat' (first | with_reducible assumption | intro _ | with_reducible (first | apply commitMember_kept | apply deviceCommit_kept | apply each_kept | apply endWithholding_kept | apply setClusterState_kept | apply settle_kept | apply withInh_kept) | simp only [mk_kept_iff] | split)

theorem deviceCalled_kept (n : Nat) (s : State) (h1 : Kept q s) : Kept q (deviceCalled n s) := by
  unfold deviceCalled
  try dsimp only
  repeat' (first | with_reducible assumption | intro _ | with_reducible (first | apply ite_kept) | simp only [mk_kept_iff])

theorem noteWake_kept (n : Nat) (kind : Nat) (s : State) (h2 : Kept q s) : Kept q (noteWake n kind s) := by
  unfold noteWake
  try dsimp only
  repeat' (first | with_reducible assumption | intro _ | with_reducible (first | apply setReg_kept))

theorem takeWake_kept (n : Nat) (s : State) (h1 : Kept q s) : Kept q (takeWake n s) := by
  unfold takeWake
  try dsimp only
  repeat' (first | with_reducible assumption | intro _ | with_reducible (first | apply ite_kept | apply count_kept | apply deviceCalled_kept | apply each_kept | apply noteWake_kept | apply setDev_kept | apply sleepCheck_kept | apply wakeCluster_kept) | simp only [mk_kept_iff])

theorem wakeSource_kept (n : Nat) (s : State) (h1 : Kept q s) : Kept q (wakeSource n s) := by
  unfold wakeSource
  try dsimp only
  repeat' (first | with_reducible assumption | intro _ | with_reducible (first | apply count_kept | apply settle_kept | apply takeWake_kept | apply withInh_kept) | simp only [mk_kept_iff] | split)

theorem fireTimer_kept (s : State) (h0 : Kept q s) : Kept q (fireTimer s) := by
  unfold fireTimer
  try dsimp only
  repeat' (first | with_reducible assumption | intro _ | with_reducible (first | apply wakeSource_kept) | simp only [mk_kept_iff] | split)

theorem execWakeSourceValidated_kept (source : Fin 96) (s : State) (h1 : Kept q s) : KeptOut q (execWakeSourceValidated source s) := by
  show Kept q _
  try dsimp only
  repeat' (first | with_reducible assumption | intro _ | with_reducible (first | apply count_kept | apply fireTimer_kept | apply wakeSource_kept) | simp only [mk_kept_iff] | split)

theorem execWakeTimerExpiry_kept (s : State) (h0 : Kept q s) : KeptOut q (execWakeTimerExpiry s) := by
  show Kept q _
  try dsimp only
  repeat' (first | with_reducible assumption | intro _ | with_reducible (first | apply fireTimer_kept))

theorem execTc10WakePulse_kept (port : Fin 33) (s : State) (h1 : Kept q s) : KeptOut q (execTc10WakePulse port s) := by
  show Kept q _
  try dsimp only
  repeat' (first | with_reducible assumption | intro _ | with_reducible (first | apply count_kept | apply wakeSource_kept) | simp only [mk_kept_iff] | split)

theorem execSleepDwellEnd_kept (cluster : Fin 8) (s : State) (h1 : Kept q s) : KeptOut q (execSleepDwellEnd cluster s) := by
  show Kept q _
  try dsimp only
  repeat' (first | with_reducible assumption | intro _ | with_reducible (first | apply setReg_kept | apply settle_kept | apply sleepCheck_kept | apply startWaking_kept | apply withInh_kept) | simp only [mk_kept_iff] | split)

theorem execWakeBackoffEnd_kept (s : State) (h0 : Kept q s) : KeptOut q (execWakeBackoffEnd s) := by
  show Kept q _
  try dsimp only
  repeat' (first | with_reducible assumption | intro _ | with_reducible (first | apply each_kept | apply settle_kept | apply takeWake_kept | apply withInh_kept) | simp only [mk_kept_iff] | split)

theorem sdoSend_kept (n : Nat) (data : Bytes) (s : State) (h2 : Kept q s) : Kept q (sdoSend n data s) := by
  unfold sdoSend
  try dsimp only
  repeat' (first | with_reducible assumption | intro _ | with_reducible (first | apply emit_kept | apply ownFrame_kept) | simp only [mk_kept_iff] | split)

theorem pxpSend_kept (dest : PxpSource) (m : Bytes) (s : State) (h2 : Kept q s) : Kept q (pxpSend dest m s) := by
  unfold pxpSend
  try dsimp only
  repeat' (first | with_reducible assumption | intro _ | with_reducible (first | apply emit_kept) | simp only [mk_kept_iff] | split)

theorem setPxp_kept (n : Nat) (x : PxpSession) (s : State) (h2 : Kept q s) : Kept q (setPxp n x s) := by
  unfold setPxp
  try dsimp only
  repeat' (first | with_reducible assumption | intro _ | with_reducible (first | apply ite_kept) | simp only [mk_kept_iff])

theorem pxpReply_kept (n : Nat) (head : Bytes) (code : Nat) (data : Bytes) (s : State) (h4 : Kept q s) : Kept q (pxpReply n head code data s) := by
  unfold pxpReply
  try dsimp only
  repeat' (first | with_reducible assumption | intro _ | with_reducible (first | apply ite_kept | apply pxpSend_kept | apply setPxp_kept) | simp only [mk_kept_iff] | split)

theorem setMailbox_kept (n : Nat) (x : Mailbox) (s : State) (h2 : Kept q s) : Kept q (setMailbox n x s) := by
  unfold setMailbox
  try dsimp only
  repeat' (first | with_reducible assumption | intro _ | with_reducible (first | apply ite_kept) | simp only [mk_kept_iff])

theorem mailboxDone_kept (n : Nat) (code : Nat) (data : Bytes) (s : State) (h3 : Kept q s) : Kept q (mailboxDone n code data s) := by
  unfold mailboxDone
  try dsimp only
  repeat' (first | with_reducible assumption | intro _ | with_reducible (first | apply ite_kept | apply msix_kept | apply setMailbox_kept))

theorem spiDone_kept (code : Nat) (data : Bytes) (s : State) (h2 : Kept q s) : Kept q (spiDone code data s) := by
  unfold spiDone
  try dsimp only
  repeat' (first | with_reducible assumption | intro _ | with_reducible (first | apply emit_kept) | simp only [mk_kept_iff])

theorem pathReply_kept (ses : Session) (head : Bytes) (code : Nat) (data : Bytes) (s : State) (h4 : Kept q s) : Kept q (pathReply ses head code data s) := by
  unfold pathReply
  try dsimp only
  repeat' (first | with_reducible assumption | intro _ | with_reducible (first | apply mailboxDone_kept | apply pxpReply_kept | apply sdoSend_kept | apply spiDone_kept) | simp only [mk_kept_iff] | split)

theorem lateReply_kept (r : RemoteReq) (code : Nat) (data : Bytes) (s : State) (h3 : Kept q s) : Kept q (lateReply r code data s) := by
  unfold lateReply
  try dsimp only
  repeat' (first | with_reducible assumption | intro _ | with_reducible (first | apply emit_kept | apply pathReply_kept) | simp only [mk_kept_iff] | split)

theorem deferCommit_kept (ses : Session) (path : Bool) (head : Bytes) (s : State) (h3 : Kept q s) : Kept q (deferCommit ses path head s) := by
  unfold deferCommit
  try dsimp only
  repeat' (first | with_reducible assumption | intro _ | with_reducible (first | apply ite_kept) | simp only [mk_kept_iff])

theorem answerCommit_kept (code : Nat) (s : State) (h1 : Kept q s) : Kept q (answerCommit code s) := by
  unfold answerCommit
  try dsimp only
  repeat' (first | with_reducible assumption | intro _ | with_reducible (first | apply each_kept | apply lateReply_kept) | simp only [mk_kept_iff])

end Sys2Proof.Machine
end

