-- ==== Sys2Proof/Laws/KeptPower.lean ====
section
/-! SUPPORT. What each definition over commit, power, wake and update keeps: the object
stores stay in their canonical form and the command queue stays as it is (`Kept`, Sys2Proof/Laws/Kept.lean), one lemma per definition. -/

set_option linter.unusedVariables false
set_option linter.unreachableTactic false
set_option linter.unusedTactic false
set_option linter.unusedSimpArgs false
set_option maxRecDepth 4000

-- One declaration after the other: it keeps the memory of the package as one text within bounds.
set_option Elab.async false

namespace Sys2Proof.Machine
variable {q : List Instr}

theorem loseValue_kept (p : Prefetched) (s : State) (h1 : Kept q s) : Kept q (loseValue p s) := by
  unfold loseValue
  try dsimp only
  repeat' (first | with_reducible assumption | intro _ | with_reducible (first | apply count_kept | apply hostEvent_kept | apply setReg_kept) | simp only [mk_kept_iff] | split)

theorem dropPrefetch_kept (f : Prefetched → Bool) (s : State) (h1 : Kept q s) : Kept q (dropPrefetch f s) := by
  unfold dropPrefetch
  try dsimp only
  repeat' (first | with_reducible assumption | intro _ | with_reducible (first | apply each_kept | apply loseValue_kept) | simp only [mk_kept_iff])

theorem schedulerCommit_kept (old : Bank) (new : Bank) (p : Nat) (s : State) (h3 : Kept q s) : Kept q (schedulerCommit old new p s) := by
  unfold schedulerCommit
  try dsimp only
  repeat' (first | with_reducible assumption | intro _ | with_reducible (first | apply each_kept | apply scaleSlopes_kept | apply setEgr_kept) | simp only [mk_kept_iff] | split)

theorem hitsCommit_kept (old : Bank) (new : Bank) (t : Nat) (s : State) (h3 : Kept q s) : Kept q (hitsCommit old new t s) := by
  unfold hitsCommit
  try dsimp only
  repeat' (first | with_reducible assumption | intro _ | with_reducible (first | apply each_kept | apply setRegE_kept) | simp only [mk_kept_iff] | split)

theorem profilesCommit_kept (old : Bank) (new : Bank) (s : State) (h2 : Kept q s) : Kept q (profilesCommit old new s) := by
  unfold profilesCommit
  try dsimp only
  repeat' (first | with_reducible assumption | intro _ | with_reducible (first | apply each_kept | apply setRegE_kept) | simp only [mk_kept_iff] | split)

theorem dmaCommit_kept (old : Bank) (new : Bank) (s : State) (h2 : Kept q s) : Kept q (dmaCommit old new s) := by
  unfold dmaCommit
  try dsimp only
  repeat' (first | with_reducible assumption | intro _ | with_reducible (first | apply dmaDisable_kept | apply each_kept) | simp only [mk_kept_iff] | split)

theorem revokeCommit_kept (s : State) (h0 : Kept q s) : Kept q (revokeCommit s) := by
  unfold revokeCommit
  try dsimp only
  repeat' (first | with_reducible assumption | intro _ | with_reducible (first | apply drainStart_kept | apply each_kept | apply peckReturn_kept | apply portDown_kept | apply setPeck_kept | apply setPrt_kept) | simp only [mk_kept_iff] | split)

theorem clustersCommit_kept (old : Bank) (new : Bank) (s : State) (h2 : Kept q s) : Kept q (clustersCommit old new s) := by
  unfold clustersCommit
  try dsimp only
  repeat' (first | with_reducible assumption | intro _ | with_reducible (first | apply each_kept | apply resumeCluster_kept) | simp only [mk_kept_iff] | split)

theorem prefetchCommit_kept (old : Bank) (new : Bank) (s : State) (h2 : Kept q s) : Kept q (prefetchCommit old new s) := by
  unfold prefetchCommit
  try dsimp only
  repeat' (first | with_reducible assumption | intro _ | with_reducible (first | apply dropPrefetch_kept))

theorem commitEffects_kept (old : Bank) (new : Bank) (s : State) (h2 : Kept q s) : Kept q (commitEffects old new s) := by
  unfold commitEffects
  try dsimp only
  repeat' (first | with_reducible assumption | intro _ | with_reducible (first | apply timeCommit_kept | apply braidCommit_kept | apply busCopy_kept | apply canCommit_kept | apply clustersCommit_kept | apply each_kept | apply fdbCommit_kept | apply frerCommit_kept | apply gatesCommit_kept | apply hitsCommit_kept | apply linCommit_kept | apply metersCommit_kept | apply pairCommit_kept | apply pecksCommit_kept | apply plcaCommit_kept | apply portsCommit_kept | apply prefetchCommit_kept | apply profilesCommit_kept | apply revokeCommit_kept | apply schedulerCommit_kept | apply streamGatesCommit_kept))

theorem fdbPlaced_ok (b c : Bank) (h : tabWf keyDflt b.objs = true) (hc : fdbPlaced b = some c) : tabWf keyDflt c.objs = true := by
  have key : ∀ (l : Tab Nat) (r : Option Bank), (∀ x, r = some x → tabWf keyDflt x.objs = true) →
      ∀ c, l.foldl (fun r e => r.bind fun c => staticPut c e.1 e.2) r = some c → tabWf keyDflt c.objs = true := by
    intro l
    induction l with
    | nil => intro r hr c hc; exact hr c hc
    | cons e t ih =>
      intro r hr c hc
      refine ih _ ?_ c hc
      intro x hx
      cases r with
      | none => cases hx
      | some y => exact staticPut_ok _ _ _ _ (hr y rfl) hx
  refine key b.fdb _ ?_ c hc
  intro x hx
  cases hx
  exact h

theorem fdbTaken_ok (old b : Bank) (h : tabWf keyDflt b.objs = true) : tabWf keyDflt (fdbTaken old b).objs = true := by
  unfold fdbTaken
  split
  · exact h
  · cases e : fdbPlaced b with
    | none => exact h
    | some c => exact fdbPlaced_ok b c h e

theorem takeBank_kept (new : Bank) (s : State) (hb : tabWf keyDflt new.objs = true) (h1 : Kept q s) : Kept q (takeBank new s) := by
  unfold takeBank
  exact refreshEval_kept _ (setReg_kept _ _ _ _ (banks_kept h1 rfl hb h1.1.2.1 hb rfl))

theorem switchTables_kept (bank : Bank) (s : State) (hb : tabWf keyDflt bank.objs = true) (h1 : Kept q s) : Kept q (switchTables bank s) := by
  unfold switchTables
  have h2 := takeBank_kept _ _ (fdbTaken_ok s.cfg bank hb) (dmaCommit_kept s.cfg (fdbTaken s.cfg bank) s h1)
  dsimp only
  generalize takeBank _ _ = t at *
  refine sleepCheck_kept _ ?_
  refine ite_kept (startReplay_kept _ ?_) ?_
  all_goals
    refine (mk_kept_iff (commitEffects _ _ _) ..).2 (commitEffects_kept _ _ _ ?_)
    exact ite_kept (setDev_kept _ _ h2) h2

theorem leaveSafe_kept (s : State) (h0 : Kept q s) : Kept q (leaveSafe s) := by
  unfold leaveSafe
  try dsimp only
  repeat' (first | with_reducible assumption | intro _ | with_reducible (first | apply driveTtrig_kept | apply each_kept | apply setCanState_kept | apply setLin_kept) | simp only [mk_kept_iff] | split)

theorem takeLock_kept (ses : Session) (s : State) (h1 : Kept q s) : Kept q (takeLock ses s) := by
  unfold takeLock
  split
  · exact h1
  · exact ⟨⟨h1.1.1, h1.1.2.1, h1.1.2.2.1, h1.1.2.1⟩, h1.2⟩

theorem configureRequest_kept (ses : Session) (a : State) (h1 : Kept q a) : Kept q (configureRequest ses a).1 := by
  unfold configureRequest
  try dsimp only
  repeat' (first | with_reducible assumption | intro _ | with_reducible (first | apply done_kept | apply leaveSafe_kept | apply notTerminal_kept | apply setDev_kept | apply takeLock_kept) | simp only [mk_kept_iff] | split)

theorem byHolder_kept (ses : Session) (f : Svc) (a : State) (h1 : ∀ s, Kept q s → Kept q (f s).1) (h2 : Kept q a) : Kept q (byHolder ses f a).1 := by
  unfold byHolder
  try dsimp only
  repeat' (first | with_reducible assumption | intro _ | with_reducible (first | apply notTerminal_kept | apply h1) | simp only [mk_kept_iff] | split)

theorem discardEdits_kept (ses : Session) (a : State) (h1 : Kept q a) : Kept q (discardEdits ses a).1 := by
  unfold discardEdits
  try dsimp only
  repeat' (first | with_reducible assumption | intro _ | with_reducible (first | apply byHolder_kept | apply done_kept | apply setDev_kept | apply sleepCheck_kept))

theorem commitRequest_kept (ses : Session) (a : State) (h1 : Kept q a) : Kept q (commitRequest ses a).1 := by
  unfold commitRequest
  try dsimp only
  repeat' (first | with_reducible assumption | intro _ | with_reducible (first | apply byHolder_kept | apply done_kept) | simp only [mk_kept_iff] | split)

theorem serveLate_kept (ses : Session) (f : Svc) (s : State) (h1 : ∀ s, Kept q s → Kept q (f s).1) (h2 : Kept q s) : Kept q (serveLate ses f s) := by
  unfold serveLate
  try dsimp only
  repeat' (first | with_reducible assumption | intro _ | with_reducible (first | apply deferCommit_kept | apply emit_kept | apply serveWith_kept | apply h1) | simp only [mk_kept_iff] | split)

theorem execConfigureRequest_kept (ses : Session) (s : State) (h1 : Kept q s) : KeptOut q (execConfigureRequest ses s) := by
  show Kept q _
  try dsimp only
  repeat' (first | with_reducible assumption | intro _ | with_reducible (first | apply configureRequest_kept | apply serve_kept | apply settle_kept))

theorem execCommit_kept (ses : Session) (s : State) (h1 : Kept q s) : KeptOut q (execCommit ses s) := by
  show Kept q _
  try dsimp only
  repeat' (first | with_reducible assumption | intro _ | with_reducible (first | apply commitRequest_kept | apply serveLate_kept))

theorem execDiscard_kept (ses : Session) (s : State) (h1 : Kept q s) : KeptOut q (execDiscard ses s) := by
  show Kept q _
  try dsimp only
  repeat' (first | with_reducible assumption | intro _ | with_reducible (first | apply discardEdits_kept | apply serve_kept | apply settle_kept))

theorem endValidation_kept (h : Session) (s : State) (h1 : Kept q s) : Kept q (endValidation h s) := by
  unfold endValidation
  have h2 : Kept q (each s.sieve.waitingWrites (fun w s => stageWrite w.1 w.2 s)
      { s with sieve := { s.sieve with waitingWrites := [], refreshing := false } }) :=
    each_kept _ _ _ (fun a s h => stageWrite_kept _ _ _ h) h1
  generalize each s.sieve.waitingWrites (fun w s => stageWrite w.1 w.2 s)
      { s with sieve := { s.sieve with waitingWrites := [], refreshing := false } } = t at h2
  dsimp only
  split
  · exact answerCommit_kept _ _ (recordRefusal_kept _ _ _ _ _ h2)
  · exact answerCommit_kept _ _ (switchTables_kept _ _ h2.1.2.2.2 h2)

theorem execCommitValidationComplete_kept (s : State) (h0 : Kept q s) : KeptOut q (execCommitValidationComplete s) := by
  show Kept q _
  try dsimp only
  repeat' (first | with_reducible assumption | intro _ | with_reducible (first | apply answerCommit_kept | apply endValidation_kept | apply settle_kept) | simp only [mk_kept_iff] | split)

theorem loseLock_kept (s : State) (h0 : Kept q s) : Kept q (loseLock s) := by
  unfold loseLock
  try dsimp only
  repeat' (first | with_reducible assumption | intro _ | with_reducible (first | apply recordRefusal_kept | apply setDev_kept | apply sleepCheck_kept))

theorem execConfigureIdleRelease_kept (s : State) (h0 : Kept q s) : KeptOut q (execConfigureIdleRelease s) := by
  show Kept q _
  try dsimp only
  repeat' (first | with_reducible assumption | intro _ | with_reducible (first | apply loseLock_kept | apply settle_kept) | simp only [mk_kept_iff] | split)

theorem endSession_kept (ses : Session) (s : State) (h1 : Kept q s) : Kept q (endSession ses s) := by
  unfold endSession
  try dsimp only
  repeat' (first | with_reducible assumption | intro _ | with_reducible (first | apply loseLock_kept | apply setReg_kept) | simp only [mk_kept_iff] | split)

theorem execSessionLoss_kept (ses : Session) (s : State) (h1 : Kept q s) : KeptOut q (execSessionLoss ses s) := by
  show Kept q _
  try dsimp only
  repeat' (first | with_reducible assumption | intro _ | with_reducible (first | apply endSession_kept | apply settle_kept) | simp only [mk_kept_iff] | split)

theorem keepObjs_kept (l : List (Nat × Nat)) (s : State) (t : State) (h1 : Kept q s) (h2 : Kept q t) : Kept q (keepObjs l s t) := by
  unfold keepObjs
  try dsimp only
  repeat' (first | with_reducible assumption | intro _ | with_reducible (first | apply each_kept | apply setReg_kept))

theorem filter_ok (f : Nat × Nat → Bool) (t : Tab Nat) : ∀ b, tabWfFrom keyDflt b t = true → tabWfFrom keyDflt b (t.filter f) = true := by
  induction t with
  | nil => intros; rfl
  | cons e t ih =>
    intro b h
    obtain ⟨k, v⟩ := e
    simp only [tabWfFrom, Bool.and_eq_true, decide_eq_true_eq] at h
    by_cases hf : f (k, v) = true
    · simp only [List.filter_cons, hf, if_true, tabWfFrom, Bool.and_eq_true, decide_eq_true_eq]
      exact ⟨h.1, ih _ h.2⟩
    · simp only [List.filter_cons, hf]
      exact ih b (tabWfFrom_le _ _ _ _ (by omega) h.2)

theorem aonConfig_ok (b : Bank) (h : tabWf keyDflt b.objs = true) : tabWf keyDflt (aonConfig b).objs = true := filter_ok _ _ _ h

theorem resetState_kept (cause : Nat) (s : State) (h1 : Kept q s) : Kept q (resetState cause s) := by
  have key : tabWf keyDflt (if decide (cause ≠ 1) = true then aonConfig s.cfg else bank0).objs = true := by
    split
    · exact aonConfig_ok _ h1.1.2.1
    · rfl
  exact ⟨⟨rfl, key, key, key⟩, h1.2⟩

theorem holdReset_kept (cause : Nat) (s : State) (h1 : Kept q s) : Kept q (holdReset cause s) := by
  unfold holdReset
  try dsimp only
  repeat' (first | with_reducible assumption | intro _ | with_reducible (first | apply keepObjs_kept | apply resetState_kept | apply saveTime_kept) | simp only [mk_kept_iff] | split)

theorem inhHigh_kept (s : State) (h0 : Kept q s) : Kept q (inhHigh s) := by
  unfold inhHigh
  try dsimp only
  repeat' (first | with_reducible assumption | intro _ | with_reducible (first | apply each_kept | apply emit_kept))

theorem startUp_kept (s : State) (h0 : Kept q s) : Kept q (startUp s) := by
  unfold startUp
  try dsimp only
  repeat' (first | with_reducible assumption | intro _ | with_reducible (first | apply count_kept | apply setReg_kept) | simp only [mk_kept_iff])

theorem release_kept (s : State) (h0 : Kept q s) : Kept q (release s) := by
  unfold release
  try dsimp only
  repeat' (first | with_reducible assumption | intro _ | with_reducible (first | apply startUp_kept) | simp only [mk_kept_iff] | split)

theorem execPorstNAssert_kept (s : State) (h0 : Kept q s) : KeptOut q (execPorstNAssert s) := by
  show Kept q _
  try dsimp only
  repeat' (first | with_reducible assumption | intro _ | with_reducible (first | apply holdReset_kept | apply inhHigh_kept) | simp only [mk_kept_iff] | split)

theorem execPorstNRelease_kept (straps : Fin 1024) (s : State) (h1 : Kept q s) : KeptOut q (execPorstNRelease straps s) := by
  show Kept q _
  try dsimp only
  repeat' (first | with_reducible assumption | intro _ | with_reducible (first | apply release_kept | apply setReg_kept) | simp only [mk_kept_iff] | split)

theorem execRstNReset_kept (s : State) (h0 : Kept q s) : KeptOut q (execRstNReset s) := by
  show Kept q _
  try dsimp only
  repeat' (first | with_reducible assumption | intro _ | with_reducible (first | apply holdReset_kept) | simp only [mk_kept_iff] | split)

theorem execRstNRelease_kept (s : State) (h0 : Kept q s) : KeptOut q (execRstNRelease s) := by
  show Kept q _
  try dsimp only
  repeat' (first | with_reducible assumption | intro _ | with_reducible (first | apply release_kept) | simp only [mk_kept_iff] | split)

theorem softwareReset_kept (ses : Session) (a : State) (h1 : Kept q a) : Kept q (softwareReset ses a).1 := by
  unfold softwareReset
  try dsimp only
  repeat' (first | with_reducible assumption | intro _ | with_reducible (first | apply done_kept | apply needRole_kept | apply notTerminal_kept))

theorem execSoftwareReset_kept (ses : Session) (s : State) (h1 : Kept q s) : KeptOut q (execSoftwareReset ses s) := by
  show Kept q _
  try dsimp only
  repeat' (first | with_reducible assumption | intro _ | with_reducible (first | apply holdReset_kept | apply release_kept | apply serve_kept | apply serveWith_kept | apply softwareReset_kept) | simp only [mk_kept_iff] | split)

theorem execSupplyReset_kept (s : State) (h0 : Kept q s) : KeptOut q (execSupplyReset s) := by
  show Kept q _
  try dsimp only
  repeat' (first | with_reducible assumption | intro _ | with_reducible (first | apply holdReset_kept) | simp only [mk_kept_iff] | split)

theorem execSupplyResetRelease_kept (s : State) (h0 : Kept q s) : KeptOut q (execSupplyResetRelease s) := by
  show Kept q _
  try dsimp only
  repeat' (first | with_reducible assumption | intro _ | with_reducible (first | apply release_kept) | simp only [mk_kept_iff] | split)

theorem execRailOutOfRange_kept (rail : Fin 16) (low : Bool) (s : State) (h2 : Kept q s) : KeptOut q (execRailOutOfRange rail low s) := by
  show Kept q _
  try dsimp only
  repeat' (first | with_reducible assumption | intro _ | with_reducible (first | apply fire_kept) | simp only [mk_kept_iff] | split)

theorem execRetentionLost_kept (s : State) (h0 : Kept q s) : KeptOut q (execRetentionLost s) := by
  show Kept q _
  try dsimp only
  repeat' (first | with_reducible assumption | intro _ | with_reducible (first | apply ite_kept) | simp only [mk_kept_iff])

theorem execVddAonLoss_kept (s : State) (h0 : Kept q s) : KeptOut q (execVddAonLoss s) := by
  show Kept q _
  try dsimp only
  repeat' (first | with_reducible assumption | intro _ | with_reducible (first | apply holdReset_kept) | simp only [mk_kept_iff])

theorem execVddAonReturn_kept (s : State) (h0 : Kept q s) : KeptOut q (execVddAonReturn s) := by
  show Kept q _
  try dsimp only
  repeat' (first | with_reducible assumption | intro _ | with_reducible (first | apply inhHigh_kept | apply setReg_kept) | simp only [mk_kept_iff] | split)

theorem execVddioBusLoss_kept (s : State) (h0 : Kept q s) : KeptOut q (execVddioBusLoss s) := by
  show Kept q _
  try dsimp only
  repeat' (first | with_reducible assumption | intro _ | with_reducible (first | apply holdReset_kept | apply setReg_kept) | simp only [mk_kept_iff] | split)

theorem execVddioBusReturn_kept (s : State) (h0 : Kept q s) : KeptOut q (execVddioBusReturn s) := by
  show Kept q _
  try dsimp only
  repeat' (first | with_reducible assumption | intro _ | with_reducible (first | apply inhHigh_kept) | simp only [mk_kept_iff] | split)

theorem execXtalStable_kept (s : State) (h0 : Kept q s) : KeptOut q (execXtalStable s) := by
  show Kept q _
  try dsimp only
  repeat' (first | with_reducible assumption | intro _ | with_reducible (first | apply setReg_kept | apply startUp_kept) | simp only [mk_kept_iff] | split)

theorem execXtalLoss_kept (s : State) (h0 : Kept q s) : KeptOut q (execXtalLoss s) := by
  show Kept q _
  try dsimp only
  repeat' (first | with_reducible assumption | intro _ | with_reducible (first | apply fire_kept | apply setReg_kept) | simp only [mk_kept_iff] | split)

theorem tclkStart_kept (s : State) (h0 : Kept q s) : Kept q (tclkStart s) := by
  unfold tclkStart
  try dsimp only
  repeat' (first | with_reducible assumption | intro _ | with_reducible (first | apply noteWake_kept | apply restoreTime_kept) | simp only [mk_kept_iff] | split)

theorem execPllLock_kept (pll : Fin 10) (s : State) (h1 : Kept q s) : KeptOut q (execPllLock pll s) := by
  show Kept q _
  try dsimp only
  repeat' (first | with_reducible assumption | intro _ | with_reducible (first | apply setReg_kept | apply tclkStart_kept) | simp only [mk_kept_iff] | split)

theorem execPllUnlock_kept (pll : Fin 10) (s : State) (h1 : Kept q s) : KeptOut q (execPllUnlock pll s) := by
  show Kept q _
  try dsimp only
  repeat' (first | with_reducible assumption | intro _ | with_reducible (first | apply count_kept | apply fire_kept | apply setReg_kept) | simp only [mk_kept_iff] | split)

theorem execStrapDriverEnable_kept (s : State) (h0 : Kept q s) : KeptOut q (execStrapDriverEnable s) := by
  show Kept q _
  try dsimp only
  repeat' (first | with_reducible assumption | intro _ | with_reducible (first | apply ite_kept) | simp only [mk_kept_iff])

theorem revertHeader_kept (kinds : Nat) (s : State) (h1 : Kept q s) : Kept q (revertHeader kinds s) := by
  unfold revertHeader
  try dsimp only
  repeat' (first | with_reducible assumption | intro _ | with_reducible (first | apply count_kept | apply each_kept | apply headerSwap_kept | apply setReg_kept | apply setSlotState_kept) | simp only [mk_kept_iff])

theorem startRevert_kept (s : State) (h0 : Kept q s) : Kept q (startRevert s) := by
  unfold startRevert
  try dsimp only
  repeat' (first | with_reducible assumption | intro _ | with_reducible (first | apply revertHeader_kept) | simp only [mk_kept_iff] | split)

theorem slotFails_kept (k : Nat) (slot : Nat) (s : State) (h2 : Kept q s) : Kept q (slotFails k slot s) := by
  unfold slotFails
  try dsimp only
  repeat' (first | with_reducible assumption | intro _ | with_reducible (first | apply fire_kept | apply setSlotState_kept) | simp only [mk_kept_iff] | split)

theorem drawTransforms_kept (s : State) (h0 : Kept q s) : Kept q (drawTransforms s) := by
  unfold drawTransforms
  try dsimp only
  repeat' (first | with_reducible assumption | intro _ | with_reducible (first | apply setReg_kept) | simp only [mk_kept_iff])

theorem compareLog_kept (s : State) (h0 : Kept q s) : Kept q (compareLog s) := by
  unfold compareLog
  try dsimp only
  repeat' (first | with_reducible assumption | intro _ | with_reducible (first | apply fire_kept | apply sealRecord_kept) | simp only [mk_kept_iff] | split)

theorem checkLog_kept (s : State) (h0 : Kept q s) : Kept q (checkLog s) := by
  unfold checkLog
  try dsimp only
  repeat' (first | with_reducible assumption | intro _ | with_reducible (first | apply compareLog_kept | apply sealRecord_kept) | simp only [mk_kept_iff] | split)

theorem writeOwed_kept (s : State) (h0 : Kept q s) : Kept q (writeOwed s) := by
  unfold writeOwed
  try dsimp only
  repeat' (first | with_reducible assumption | intro _ | with_reducible (first | apply each_kept | apply sealRecord_kept) | simp only [mk_kept_iff])

theorem wakeEvents_kept (s : State) (h0 : Kept q s) : Kept q (wakeEvents s) := by
  unfold wakeEvents
  try dsimp only
  repeat' (first | with_reducible assumption | intro _ | with_reducible (first | apply fire_kept | apply sealRecord_kept | apply tamper_kept) | simp only [mk_kept_iff] | split)

theorem noteSlot_kept (k : Nat) (slot : Nat) (m : ImageInfo) (s : State) (h3 : Kept q s) : Kept q (noteSlot k slot m s) := by
  unfold noteSlot
  try dsimp only
  repeat' (first | with_reducible assumption | intro _ | with_reducible (first | apply setReg_kept | apply setSlotState_kept) | simp only [mk_kept_iff] | split)

theorem noteFirmware_kept (s : State) (h0 : Kept q s) : Kept q (noteFirmware s) := by
  unfold noteFirmware
  try dsimp only
  repeat' (first | with_reducible assumption | intro _ | with_reducible (first | apply setReg_kept) | simp only [mk_kept_iff])

theorem bootFirmware_kept (slot : Nat) (m : ImageInfo) (s : State) (h2 : Kept q s) : Kept q (bootFirmware slot m s) := by
  unfold bootFirmware
  try dsimp only
  repeat' (first | with_reducible assumption | intro _ | with_reducible (first | apply checkLog_kept | apply drawTransforms_kept | apply noteFirmware_kept | apply noteSlot_kept | apply peckRequest_kept | apply setReg_kept | apply wakeEvents_kept | apply writeOwed_kept) | simp only [mk_kept_iff])

theorem noFirmware_kept (s : State) (h0 : Kept q s) : Kept q (noFirmware s) := by
  unfold noFirmware
  try dsimp only
  repeat' (first | with_reducible assumption | intro _ | with_reducible (first | apply each_kept | apply fire_kept | apply releaseCatch_kept) | simp only [mk_kept_iff])

theorem execFirmwareImageVerified_kept (image : FirmwareLoad) (s : State) (h1 : Kept q s) : KeptOut q (execFirmwareImageVerified image s) := by
  show Kept q _
  try dsimp only
  repeat' (first | with_reducible assumption | intro _ | with_reducible (first | apply bootFirmware_kept | apply noFirmware_kept | apply settle_kept | apply slotFails_kept | apply startRevert_kept) | simp only [mk_kept_iff] | split)

theorem requestUnits_kept (s : State) (h0 : Kept q s) : Kept q (requestUnits s) := by
  unfold requestUnits
  try dsimp only
  repeat' (first | with_reducible assumption | intro _ | with_reducible (first | apply each_kept | apply peckRequest_kept) | simp only [mk_kept_iff] | split)

theorem configurationReady_kept (s : State) (h0 : Kept q s) : Kept q (configurationReady s) := by
  unfold configurationReady
  try dsimp only
  repeat' (first | with_reducible assumption | intro _ | with_reducible (first | apply each_kept | apply finishWaking_kept | apply pairWake_kept | apply refreshEval_kept | apply requestUnits_kept | apply restoreComparators_kept | apply setReg_kept | apply toAwake_kept) | simp only [mk_kept_iff] | split)

theorem foldl_sset_ok {α : Type} (l : List α) (k v : α → Nat) (t : Tab Nat) (h : tabWf keyDflt t = true) :
    tabWf keyDflt (l.foldl (fun t x => sset t (k x) (v x)) t) = true := by
  induction l generalizing t with
  | nil => exact h
  | cons a l ih => exact ih _ (sset_keeps _ _ _ h)

theorem withFloors_ok (b : Bank) (s : State) (h : tabWf keyDflt b.objs = true) : tabWf keyDflt (withFloors b s).objs = true :=
  foldl_sset_ok _ _ _ _ h

theorem bankOf_ok (m : ConfigImage) (b : Bank) (hm : bankOf_ m = some b) : tabWf keyDflt b.objs = true := by
  have key1 : ∀ (l : List (Nat × Nat × Nat)) (r : Option Bank), (∀ x, r = some x → tabWf keyDflt x.objs = true) →
      ∀ x, l.foldl (fun r x => r.bind fun b => staticPut b (x.1 * 4096 + x.2.1) x.2.2) r = some x → tabWf keyDflt x.objs = true := by
    intro l
    induction l with
    | nil => intro r hr c hc; exact hr c hc
    | cons e t ih =>
      intro r hr c hc
      refine ih _ ?_ c hc
      intro x hx
      cases r with
      | none => cases hx
      | some y => exact staticPut_ok _ _ _ _ (hr y rfl) hx
  have key2 : ∀ (l : List (Nat × Nat)) (r : Option Bank), (∀ x, r = some x → tabWf keyDflt x.objs = true) →
      ∀ x, l.foldl (fun r x => r.bind fun b => flowPut b x.1 x.2) r = some x → tabWf keyDflt x.objs = true := by
    intro l
    induction l with
    | nil => intro r hr c hc; exact hr c hc
    | cons e t ih =>
      intro r hr c hc
      refine ih _ ?_ c hc
      intro x hx
      cases r with
      | none => cases hx
      | some y => exact flowPut_ok _ _ _ _ (hr y rfl) hx
  have key3 : ∀ (l : List (Nat × Nat × Nat × Nat)) (t : Tab Nat), tabWf keyDflt t = true →
      tabWf keyDflt (l.foldl (fun t x =>
        match subOf x.1 x.2.1 with
        | some r =>
          if r.acc = .rwc then
            sset t (if x.2.2.1 == 0 then okey x.1 x.2.1 else ekey (x.2.2.1 - 1) x.1 x.2.1) (x.2.2.2 % 2 ^ (8 * r.ty.size))
          else t
        | none => t) t) = true := by
    intro l
    induction l with
    | nil => intro t h; exact h
    | cons e l ih =>
      intro t h
      refine ih _ ?_
      dsimp only
      cases subOf e.1 e.2.1 with
      | none => exact h
      | some r =>
        dsimp only
        split
        · exact sset_keeps _ _ _ h
        · exact h
  unfold bankOf_ at hm
  refine key2 _ _ ?_ b hm
  intro x hx
  refine key1 _ _ ?_ x hx
  intro y hy
  cases hy
  exact key3 _ _ rfl

theorem validImage_ok (x : Option ConfigImage) (s : State) (m : ConfigImage) (b : Bank) (h : validImage x s = some (m, b)) :
    tabWf keyDflt b.objs = true := by
  unfold validImage at h
  cases x with
  | none => cases h
  | some y =>
    simp only [Option.bind_some] at h
    split at h
    · cases h
    · cases e : bankOf_ y with
      | none => rw [e] at h; cases h
      | some c =>
        rw [e] at h
        simp only [Option.bind_some] at h
        split at h
        · cases h; exact bankOf_ok _ _ e
        · cases h

theorem loadConfiguration_kept (slot : Nat) (m : ConfigImage) (bank : Bank) (s : State) (hb : tabWf keyDflt bank.objs = true) (h3 : Kept q s) : Kept q (loadConfiguration slot m bank s) := by
  unfold loadConfiguration
  exact withInh_kept _ _ (fun s h => configurationReady_kept _ h) (noteSlot_kept _ _ _ _ (setReg_kept _ _ _ _
    (each_kept _ _ _ (fun a s h => setRegE_kept _ _ _ _ _ h) (switchTables_kept _ _ (withFloors_ok _ _ hb) h3))))

theorem noConfiguration_kept (s : State) (h0 : Kept q s) : Kept q (noConfiguration s) := by
  unfold noConfiguration
  try dsimp only
  repeat' (first | with_reducible assumption | intro _ | with_reducible (first | apply fire_kept | apply setDev_kept | apply setReg_kept) | simp only [mk_kept_iff] | split)

theorem execConfigurationImageLoaded_kept (image : ConfigLoad) (s : State) (h1 : Kept q s) : KeptOut q (execConfigurationImageLoaded image s) := by
  show Kept q _
  dsimp only
  split
  · exact h1
  · split
    · rename_i e
      exact settle_kept _ _ (loadConfiguration_kept _ _ _ _ (validImage_ok _ _ _ _ e) h1)
    · rename_i e
      exact settle_kept _ _ (loadConfiguration_kept _ _ _ _ (validImage_ok _ _ _ _ e) (writeOwed_kept _ (slotFails_kept _ _ _ h1)))
    · exact settle_kept _ _ (noConfiguration_kept _ (writeOwed_kept _ (slotFails_kept _ _ _ (slotFails_kept _ _ _ h1))))

theorem execDictionaryAvailable_kept (s : State) (h0 : Kept q s) : KeptOut q (execDictionaryAvailable s) := by
  show Kept q _
  try dsimp only
  repeat' (first | with_reducible assumption | intro _ | with_reducible (first | apply setReg_kept) | simp only [mk_kept_iff] | split)

theorem flushLog_kept (s : State) (h0 : Kept q s) : Kept q (flushLog s) := by
  unfold flushLog
  try dsimp only
  repeat' (first | with_reducible assumption | intro _ | with_reducible (first | apply each_kept | apply flashRecord_kept) | simp only [mk_kept_iff])

theorem execSleepReady_kept (s : State) (h0 : Kept q s) : KeptOut q (execSleepReady s) := by
  show Kept q _
  try dsimp only
  repeat' (first | with_reducible assumption | intro _ | with_reducible (first | apply copyFreshness_kept | apply flushLog_kept | apply setReg_kept) | simp only [mk_kept_iff] | split)

theorem sleepDiscard_kept (s : State) (h0 : Kept q s) : Kept q (sleepDiscard s) := by
  unfold sleepDiscard
  try dsimp only
  repeat' (first | with_reducible assumption | intro _ | with_reducible (first | apply ite_kept) | simp only [mk_kept_iff])

theorem stopCore_kept (depth : Nat) (s : State) (h1 : Kept q s) : Kept q (stopCore depth s) := by
  unfold stopCore
  try dsimp only
  repeat' (first | with_reducible assumption | intro _ | with_reducible (first | apply ite_kept | apply each_kept | apply emit_kept | apply saveTime_kept | apply setReg_kept | apply sleepDiscard_kept | apply switchOff_kept | apply timeLow_kept) | simp only [mk_kept_iff])

theorem execDeviceSleepEntry_kept (s : State) (h0 : Kept q s) : KeptOut q (execDeviceSleepEntry s) := by
  show Kept q _
  try dsimp only
  repeat' (first | with_reducible assumption | intro _ | with_reducible (first | apply settle_kept | apply stopCore_kept | apply withInh_kept) | simp only [mk_kept_iff] | split)

theorem execWarmDwellLimit_kept (s : State) (h0 : Kept q s) : KeptOut q (execWarmDwellLimit s) := by
  show Kept q _
  try dsimp only
  repeat' (first | with_reducible assumption | intro _ | with_reducible (first | apply emit_kept | apply setReg_kept) | simp only [mk_kept_iff] | split)

theorem coldWake_kept (n : Nat) (s : State) (h1 : Kept q s) : Kept q (coldWake n s) := by
  unfold coldWake
  try dsimp only
  repeat' (first | with_reducible assumption | intro _ | with_reducible (first | apply each_kept | apply holdReset_kept | apply inhHigh_kept | apply setClusterState_kept | apply setReg_kept))

theorem execColdWake_kept (s : State) (h0 : Kept q s) : KeptOut q (execColdWake s) := by
  show Kept q _
  try dsimp only
  repeat' (first | with_reducible assumption | intro _ | with_reducible (first | apply coldWake_kept) | simp only [mk_kept_iff] | split)

theorem wakeCrust_kept (s : State) (h0 : Kept q s) : Kept q (wakeCrust s) := by
  unfold wakeCrust
  try dsimp only
  repeat' (first | with_reducible assumption | intro _ | with_reducible (first | apply compareLog_kept | apply drawTransforms_kept | apply setLane_kept | apply setReg_kept | apply wakeEvents_kept) | simp only [mk_kept_iff])

theorem wakeClusters_kept (m : Nat) (s : State) (h1 : Kept q s) : Kept q (wakeClusters m s) := by
  unfold wakeClusters
  try dsimp only
  repeat' (first | with_reducible assumption | intro _ | with_reducible (first | apply captureJoin_kept | apply each_kept | apply startWaking_kept))

theorem warmWake_kept (n : Nat) (s : State) (h1 : Kept q s) : Kept q (warmWake n s) := by
  unfold warmWake
  try dsimp only
  repeat' (first | with_reducible assumption | intro _ | with_reducible (first | apply braidCommit_kept | apply canCommit_kept | apply each_kept | apply emit_kept | apply finishWaking_kept | apply linCommit_kept | apply noteWake_kept | apply pairWake_kept | apply peckRequest_kept | apply plcaWake_kept | apply refreshEval_kept | apply requestUnits_kept | apply restoreComparators_kept | apply restoreTime_kept | apply resumeCluster_kept | apply setDev_kept | apply setReg_kept | apply startReplay_kept | apply useFree_kept | apply wakeClusters_kept | apply wakeCrust_kept) | simp only [mk_kept_iff] | split)

theorem execWarmWake_kept (s : State) (h0 : Kept q s) : KeptOut q (execWarmWake s) := by
  show Kept q _
  try dsimp only
  repeat' (first | with_reducible assumption | intro _ | with_reducible (first | apply coldWake_kept | apply settle_kept | apply warmWake_kept | apply withInh_kept) | simp only [mk_kept_iff] | split)

theorem execWakeDone_kept (s : State) (h0 : Kept q s) : KeptOut q (execWakeDone s) := by
  show Kept q _
  try dsimp only
  repeat' (first | with_reducible assumption | intro _ | with_reducible (first | apply setReg_kept) | simp only [mk_kept_iff] | split)

theorem failSafe_kept (why : Nat) (s : State) (h1 : Kept q s) : Kept q (failSafe why s) := by
  unfold failSafe
  try dsimp only
  repeat' (first | with_reducible assumption | intro _ | with_reducible (first | apply count_kept | apply setReg_kept | apply stopCore_kept) | simp only [mk_kept_iff])

theorem execWakeWatchdogExpiry_kept (s : State) (h0 : Kept q s) : KeptOut q (execWakeWatchdogExpiry s) := by
  show Kept q _
  try dsimp only
  repeat' (first | with_reducible assumption | intro _ | with_reducible (first | apply failSafe_kept | apply settle_kept | apply withInh_kept) | simp only [mk_kept_iff] | split)

theorem execSafeSleepTimeout_kept (s : State) (h0 : Kept q s) : KeptOut q (execSafeSleepTimeout s) := by
  show Kept q _
  try dsimp only
  repeat' (first | with_reducible assumption | intro _ | with_reducible (first | apply failSafe_kept | apply settle_kept | apply withInh_kept) | simp only [mk_kept_iff] | split)

theorem packageCommand_kept (ses : Session) (f : Svc) (a : State) (h1 : ∀ s, Kept q s → Kept q (f s).1) (h2 : Kept q a) : Kept q (packageCommand ses f a).1 := by
  unfold packageCommand
  try dsimp only
  repeat' (first | with_reducible assumption | intro _ | with_reducible (first | apply needRole_kept | apply notTerminal_kept | apply setReg_kept | apply h1) | simp only [mk_kept_iff] | split)

theorem beginPackage_kept (ses : Session) (a : State) (h1 : Kept q a) : Kept q (beginPackage ses a).1 := by
  unfold beginPackage
  try dsimp only
  repeat' (first | with_reducible assumption | intro _ | with_reducible (first | apply deny_kept | apply done_kept | apply packageCommand_kept | apply setReg_kept) | simp only [mk_kept_iff] | split)

theorem packageData_kept (l : Bytes) (a : State) (h1 : Kept q a) : Kept q (packageData l a).1 := by
  unfold packageData
  try dsimp only
  repeat' (first | with_reducible assumption | intro _ | with_reducible (first | apply deny_kept | apply done_kept | apply notTerminal_kept | apply setReg_kept) | simp only [mk_kept_iff] | split)

theorem installPackage_kept (ses : Session) (a : State) (h1 : Kept q a) : Kept q (installPackage ses a).1 := by
  unfold installPackage
  try dsimp only
  repeat' (first | with_reducible assumption | intro _ | with_reducible (first | apply deny_kept | apply done_kept | apply packageCommand_kept | apply setReg_kept | apply setSlotState_kept) | simp only [mk_kept_iff] | split)

theorem discardPackage_kept (ses : Session) (a : State) (h1 : Kept q a) : Kept q (discardPackage ses a).1 := by
  unfold discardPackage
  try dsimp only
  repeat' (first | with_reducible assumption | intro _ | with_reducible (first | apply deny_kept | apply done_kept | apply packageCommand_kept | apply setReg_kept) | simp only [mk_kept_iff] | split)

theorem execUpdateBegin_kept (ses : Session) (s : State) (h1 : Kept q s) : KeptOut q (execUpdateBegin ses s) := by
  show Kept q _
  try dsimp only
  repeat' (first | with_reducible assumption | intro _ | with_reducible (first | apply beginPackage_kept | apply serve_kept))

theorem execUpdateData_kept (ses : Session) (data : List Byte) (s : State) (h2 : Kept q s) : KeptOut q (execUpdateData ses data s) := by
  show Kept q _
  try dsimp only
  repeat' (first | with_reducible assumption | intro _ | with_reducible (first | apply packageData_kept | apply serve_kept))

theorem execUpdateInstall_kept (ses : Session) (s : State) (h1 : Kept q s) : KeptOut q (execUpdateInstall ses s) := by
  show Kept q _
  try dsimp only
  repeat' (first | with_reducible assumption | intro _ | with_reducible (first | apply installPackage_kept | apply serve_kept))

theorem execUpdateDiscard_kept (ses : Session) (s : State) (h1 : Kept q s) : KeptOut q (execUpdateDiscard ses s) := by
  show Kept q _
  try dsimp only
  repeat' (first | with_reducible assumption | intro _ | with_reducible (first | apply discardPackage_kept | apply serve_kept))

theorem installFails_kept (r : Nat) (s : State) (h1 : Kept q s) : Kept q (installFails r s) := by
  unfold installFails
  try dsimp only
  repeat' (first | with_reducible assumption | intro _ | with_reducible (first | apply imageEvent_kept | apply setReg_kept))

theorem installed_kept (l : Bytes) (s : State) (h1 : Kept q s) : Kept q (installed l s) := by
  unfold installed
  try dsimp only
  repeat' (first | with_reducible assumption | intro _ | with_reducible (first | apply imageEvent_kept | apply noteSlot_kept | apply setReg_kept | apply setSlotState_kept))

theorem execInstallComplete_kept (base : List Byte) (flashError : Bool) (s : State) (h2 : Kept q s) : KeptOut q (execInstallComplete base flashError s) := by
  show Kept q _
  try dsimp only
  repeat' (first | with_reducible assumption | intro _ | with_reducible (first | apply installFails_kept | apply installed_kept) | simp only [mk_kept_iff] | split)

theorem armAt_kept (target : Nat) (check : Bool) (a : State) (h2 : Kept q a) : Kept q (armAt target check a).1 := by
  unfold armAt
  try dsimp only
  repeat' (first | with_reducible assumption | intro _ | with_reducible (first | apply done_kept | apply headerSwap_kept | apply imageEvent_kept | apply setReg_kept) | simp only [mk_kept_iff] | split)

theorem armTarget_kept (ses : Session) (a : State) (h1 : Kept q a) : Kept q (armTarget ses a).1 := by
  unfold armTarget
  try dsimp only
  repeat' (first | with_reducible assumption | intro _ | with_reducible (first | apply armAt_kept | apply needRole_kept | apply notTerminal_kept))

theorem armNow_kept (ses : Session) (a : State) (h1 : Kept q a) : Kept q (armNow ses a).1 := by
  unfold armNow
  try dsimp only
  repeat' (first | with_reducible assumption | intro _ | with_reducible (first | apply armAt_kept | apply needRole_kept | apply notTerminal_kept))

theorem cancelArmed_kept (ses : Session) (a : State) (h1 : Kept q a) : Kept q (cancelArmed ses a).1 := by
  unfold cancelArmed
  try dsimp only
  repeat' (first | with_reducible assumption | intro _ | with_reducible (first | apply cancelActivation_kept | apply deny_kept | apply done_kept | apply needRole_kept | apply notTerminal_kept | apply setReg_kept) | simp only [mk_kept_iff] | split)

theorem execActivationArm_kept (ses : Session) (s : State) (h1 : Kept q s) : KeptOut q (execActivationArm ses s) := by
  show Kept q _
  try dsimp only
  repeat' (first | with_reducible assumption | intro _ | with_reducible (first | apply armTarget_kept | apply serve_kept))

theorem execActivationCancel_kept (ses : Session) (s : State) (h1 : Kept q s) : KeptOut q (execActivationCancel ses s) := by
  show Kept q _
  try dsimp only
  repeat' (first | with_reducible assumption | intro _ | with_reducible (first | apply cancelArmed_kept | apply serve_kept))

theorem execActivationArmNow_kept (ses : Session) (s : State) (h1 : Kept q s) : KeptOut q (execActivationArmNow ses s) := by
  show Kept q _
  try dsimp only
  repeat' (first | with_reducible assumption | intro _ | with_reducible (first | apply armNow_kept | apply serve_kept))

theorem execActivationHeaderDeadline_kept (written : Bool) (s : State) (h1 : Kept q s) : KeptOut q (execActivationHeaderDeadline written s) := by
  show Kept q _
  try dsimp only
  repeat' (first | with_reducible assumption | intro _ | with_reducible (first | apply cancelActivation_kept | apply headerSwap_kept) | simp only [mk_kept_iff] | split)

theorem restartAgain_kept (s : State) (h0 : Kept q s) : Kept q (restartAgain s) := by
  unfold restartAgain
  try dsimp only
  repeat' (first | with_reducible assumption | intro _ | with_reducible (first | apply restartCore_kept) | simp only [mk_kept_iff] | split)

theorem switchImage_kept (image : ConfigImage) (s : State) (h1 : Kept q s) : Kept q (switchImage image s) := by
  unfold switchImage
  split
  · exact h1
  · rename_i b e
    dsimp only
    split
    · exact switchTables_kept _ _ (bankOf_ok _ _ e) h1
    · exact switchTables_kept _ _ (bankOf_ok _ _ e) h1

theorem activate_kept (image : ConfigImage) (s : State) (h1 : Kept q s) : Kept q (activate image s) := by
  unfold activate
  try dsimp only
  repeat' (first | with_reducible assumption | intro _ | with_reducible (first | apply count_kept | apply each_kept | apply imageEvent_kept | apply refreshEval_kept | apply restartAgain_kept | apply setReg_kept | apply setSlotState_kept | apply switchImage_kept) | simp only [mk_kept_iff] | split)

theorem execActivation_kept (image : ConfigImage) (s : State) (h1 : Kept q s) : KeptOut q (execActivation image s) := by
  show Kept q _
  try dsimp only
  repeat' (first | with_reducible assumption | intro _ | with_reducible (first | apply activate_kept | apply cancelActivation_kept | apply settle_kept) | simp only [mk_kept_iff] | split)

theorem raiseFloors_kept (kinds : Nat) (s : State) (h1 : Kept q s) : Kept q (raiseFloors kinds s) := by
  unfold raiseFloors
  try dsimp only
  repeat' (first | with_reducible assumption | intro _ | with_reducible (first | apply setReg_kept) | simp only [mk_kept_iff] | split)

theorem confirmImages_kept (burned : Bool) (s : State) (h1 : Kept q s) : Kept q (confirmImages burned s) := by
  unfold confirmImages
  try dsimp only
  repeat' (first | with_reducible assumption | intro _ | with_reducible (first | apply each_kept | apply fire_kept | apply headerWritten_kept | apply imageEvent_kept | apply raiseFloors_kept | apply setReg_kept | apply setSlotState_kept) | simp only [mk_kept_iff] | split)

theorem execFirmwareConfirm_kept (burned : Bool) (s : State) (h1 : Kept q s) : KeptOut q (execFirmwareConfirm burned s) := by
  show Kept q _
  try dsimp only
  repeat' (first | with_reducible assumption | intro _ | with_reducible (first | apply confirmImages_kept | apply setReg_kept) | simp only [mk_kept_iff] | split)

theorem hostConfirm_kept (ses : Session) (burned : Bool) (a : State) (h2 : Kept q a) : Kept q (hostConfirm ses burned a).1 := by
  unfold hostConfirm
  try dsimp only
  repeat' (first | with_reducible assumption | intro _ | with_reducible (first | apply confirmImages_kept | apply deny_kept | apply done_kept | apply needRole_kept | apply notTerminal_kept) | simp only [mk_kept_iff] | split)

theorem execHostConfirm_kept (ses : Session) (burned : Bool) (s : State) (h2 : Kept q s) : KeptOut q (execHostConfirm ses burned s) := by
  show Kept q _
  try dsimp only
  repeat' (first | with_reducible assumption | intro _ | with_reducible (first | apply hostConfirm_kept | apply serve_kept))

theorem revertImages_kept (s : State) (h0 : Kept q s) : Kept q (revertImages s) := by
  unfold revertImages
  try dsimp only
  repeat' (first | with_reducible assumption | intro _ | with_reducible (first | apply imageEvent_kept | apply restartAgain_kept | apply revertHeader_kept) | simp only [mk_kept_iff] | split)

theorem hostReject_kept (ses : Session) (a : State) (h1 : Kept q a) : Kept q (hostReject ses a).1 := by
  unfold hostReject
  try dsimp only
  repeat' (first | with_reducible assumption | intro _ | with_reducible (first | apply deny_kept | apply done_kept | apply needRole_kept | apply notTerminal_kept | apply revertImages_kept) | simp only [mk_kept_iff] | split)

theorem execHostReject_kept (ses : Session) (s : State) (h1 : Kept q s) : KeptOut q (execHostReject ses s) := by
  show Kept q _
  try dsimp only
  repeat' (first | with_reducible assumption | intro _ | with_reducible (first | apply hostReject_kept | apply serve_kept))

theorem execProofingWindowExpiry_kept (s : State) (h0 : Kept q s) : KeptOut q (execProofingWindowExpiry s) := by
  show Kept q _
  try dsimp only
  repeat' (first | with_reducible assumption | intro _ | with_reducible (first | apply revertImages_kept) | simp only [mk_kept_iff] | split)

theorem execRevertConfigurationSwitch_kept (image : ConfigImage) (s : State) (h1 : Kept q s) : KeptOut q (execRevertConfigurationSwitch image s) := by
  show Kept q _
  try dsimp only
  repeat' (first | with_reducible assumption | intro _ | with_reducible (first | apply refreshEval_kept | apply settle_kept | apply switchImage_kept) | simp only [mk_kept_iff] | split)

theorem safeReverts_kept (old : State) (s : State) (h0 : Kept q old) (h1 : Kept q s) : Kept q (safeReverts old s) := by
  unfold safeReverts
  try dsimp only
  repeat' (first | with_reducible assumption | intro _ | with_reducible (first | apply revertImages_kept) | simp only [mk_kept_iff] | split)

theorem proofReturn_kept (s : State) (h0 : Kept q s) : Kept q (proofReturn s) := by
  unfold proofReturn
  try dsimp only
  repeat' (first | with_reducible assumption | intro _ | with_reducible (first | apply noteFirmware_kept | apply setReg_kept) | simp only [mk_kept_iff] | split)

theorem execThermometerBurnRetry_kept (burned : Bool) (s : State) (h1 : Kept q s) : KeptOut q (execThermometerBurnRetry burned s) := by
  show Kept q _
  try dsimp only
  repeat' (first | with_reducible assumption | intro _ | with_reducible (first | apply imageEvent_kept | apply raiseFloors_kept) | simp only [mk_kept_iff] | split)

theorem loaderRequest_kept (op : Nat) (slot : Nat) (offset : Nat) (length : Nat) (data : Bytes) (crc : Nat) (f : Svc) (s : State) (h6 : ∀ s, Kept q s → Kept q (f s).1) (h7 : Kept q s) : Kept q (loaderRequest op slot offset length data crc f s) := by
  unfold loaderRequest
  try dsimp only
  repeat' (first | with_reducible assumption | intro _ | with_reducible (first | apply count_kept | apply deny_kept | apply setReg_kept | apply spiDone_kept | apply h6) | simp only [mk_kept_iff] | split)

theorem setSlotBytes_kept (slot : Nat) (l : Bytes) (s : State) (h2 : Kept q s) : Kept q (setSlotBytes slot l s) := by
  unfold setSlotBytes
  try dsimp only
  repeat' (first | with_reducible assumption | intro _ | with_reducible (first | apply setSlotState_kept) | simp only [mk_kept_iff])

theorem execRecoveryErase_kept (slot : Byte) (offset : Fin 4294967296) (length : Fin 65536) (crc : Fin 65536) (s : State) (h4 : Kept q s) : KeptOut q (execRecoveryErase slot offset length crc s) := by
  show Kept q _
  try dsimp only
  repeat' (first | with_reducible assumption | intro _ | with_reducible (first | apply deny_kept | apply done_kept | apply loaderRequest_kept | apply setSlotBytes_kept) | simp only [mk_kept_iff] | split)

theorem execRecoveryWrite_kept (slot : Byte) (offset : Fin 4294967296) (length : Fin 65536) (data : List Byte) (crc : Fin 65536) (s : State) (h5 : Kept q s) : KeptOut q (execRecoveryWrite slot offset length data crc s) := by
  show Kept q _
  try dsimp only
  repeat' (first | with_reducible assumption | intro _ | with_reducible (first | apply deny_kept | apply done_kept | apply loaderRequest_kept | apply setSlotBytes_kept) | simp only [mk_kept_iff] | split)

theorem execRecoveryVerify_kept (slot : Byte) (offset : Fin 4294967296) (length : Fin 65536) (crc : Fin 65536) (held : List Byte) (s : State) (h5 : Kept q s) : KeptOut q (execRecoveryVerify slot offset length crc held s) := by
  show Kept q _
  try dsimp only
  repeat' (first | with_reducible assumption | intro _ | with_reducible (first | apply deny_kept | apply done_kept | apply headerWritten_kept | apply loaderRequest_kept | apply noteSlot_kept | apply setReg_kept | apply setSlotState_kept) | simp only [mk_kept_iff] | split)

theorem execRecoveryRestart_kept (slot : Byte) (offset : Fin 4294967296) (length : Fin 65536) (crc : Fin 65536) (s : State) (h4 : Kept q s) : KeptOut q (execRecoveryRestart slot offset length crc s) := by
  show Kept q _
  try dsimp only
  repeat' (first | with_reducible assumption | intro _ | with_reducible (first | apply done_kept | apply holdReset_kept | apply loaderRequest_kept | apply release_kept) | simp only [mk_kept_iff] | split)

end Sys2Proof.Machine
end

