-- ==== Sys2Proof/Laws/KeptAccess.lean ====
section
/-! SUPPORT. What each definition over faults, the dictionary, the access paths, bridges, copies and the tick keeps: the object
stores stay in their canonical form and the command queue stays as it is (`Kept`, Sys2Proof/Laws/Kept.lean), one lemma per definition. -/

set_option linter.unusedVariables false
set_option linter.unreachableTactic false
set_option linter.unusedTactic false
set_option linter.unusedSimpArgs false
set_option maxRecDepth 4000

-- One declaration after the other: it keeps the memory of the package as one text within bounds.
set_option Elab.async false

namespace Sys2Proof.Machine
variable {q : List Instr}

theorem ownCount_kept (n : Nat) (s : State) (h : Kept q s) : Kept q (ownCount n s) := by
  unfold ownCount
  try dsimp only
  repeat' (first | with_reducible assumption | intro _ | with_reducible (first | apply ite_kept | apply count_kept) | simp only [mk_kept_iff] | split)

theorem execSourceFire_kept (source : Fin 256) (data : Fin 4294967296) (s : State) (h2 : Kept q s) : KeptOut q (execSourceFire source data s) := by
  show Kept q _
  try dsimp only
  repeat' (first | with_reducible assumption | intro _ | with_reducible (first | apply ownCount_kept | apply fire_kept | apply refreshEval_kept) | simp only [mk_kept_iff] | split)

theorem execReactionComplete_kept (s : State) (h0 : Kept q s) : KeptOut q (execReactionComplete s) := by
  show Kept q _
  try dsimp only
  repeat' (first | with_reducible assumption | intro _ | with_reducible (first | apply reactionDone_kept | apply safeReverts_kept | apply settle_kept) | simp only [mk_kept_iff] | split)

theorem forceSource_kept (ses : Session) (n : Nat) (a : State) (h2 : Kept q a) : Kept q (forceSource ses n a).1 := by
  unfold forceSource
  try dsimp only
  repeat' (first | with_reducible assumption | intro _ | with_reducible (first | apply deny_kept | apply done_kept | apply fire_kept | apply notTerminal_kept | apply refreshEval_kept | apply setReg_kept) | simp only [mk_kept_iff] | split)

theorem execForceSource_kept (ses : Session) (source : Fin 256) (s : State) (h2 : Kept q s) : KeptOut q (execForceSource ses source s) := by
  show Kept q _
  try dsimp only
  repeat' (first | with_reducible assumption | intro _ | with_reducible (first | apply forceSource_kept | apply serve_kept))

theorem canRejoin_kept (e : Nat) (s : State) (h1 : Kept q s) : Kept q (canRejoin e s) := by
  unfold canRejoin
  try dsimp only
  repeat' (first | with_reducible assumption | intro _ | with_reducible (first | apply setCanState_kept) | simp only [mk_kept_iff] | split)

theorem linRejoin_kept (m : Nat) (s : State) (h1 : Kept q s) : Kept q (linRejoin m s) := by
  unfold linRejoin
  try dsimp only
  repeat' (first | with_reducible assumption | intro _ | with_reducible (first | apply setLin_kept | apply setLinState_kept) | simp only [mk_kept_iff] | split)

theorem rejoin_kept (u : UnitId) (s : State) (h1 : Kept q s) : Kept q (rejoin u s) := by
  unfold rejoin
  try dsimp only
  repeat' (first | with_reducible assumption | intro _ | with_reducible (first | apply canRejoin_kept | apply each_kept | apply linRejoin_kept | apply linkTrains_kept) | simp only [mk_kept_iff] | split)

theorem rejoinUnits_kept (n : Nat) (s : State) (h1 : Kept q s) : Kept q (rejoinUnits n s) := by
  unfold rejoinUnits
  try dsimp only
  repeat' (first | with_reducible assumption | intro _ | with_reducible (first | apply each_kept | apply rejoin_kept) | simp only [mk_kept_iff] | split)

theorem clearShadow_kept (n : Nat) (s : State) (h1 : Kept q s) : Kept q (clearShadow n s) := by
  unfold clearShadow
  try dsimp only
  repeat' (first | with_reducible assumption | intro _ | with_reducible (first | apply setReg_kept) | simp only [mk_kept_iff] | split)

theorem clearSource_kept (ses : Session) (n : Nat) (a : State) (h2 : Kept q a) : Kept q (clearSource ses n a).1 := by
  unfold clearSource
  try dsimp only
  repeat' (first | with_reducible assumption | intro _ | with_reducible (first | apply clearShadow_kept | apply deny_kept | apply done_kept | apply refreshEval_kept | apply rejoinUnits_kept | apply sealRecord_kept | apply setReg_kept) | simp only [mk_kept_iff] | split)

theorem execClearSource_kept (ses : Session) (source : Fin 256) (s : State) (h2 : Kept q s) : KeptOut q (execClearSource ses source s) := by
  show Kept q _
  try dsimp only
  repeat' (first | with_reducible assumption | intro _ | with_reducible (first | apply clearSource_kept | apply serve_kept))

theorem clearFirst_kept (ses : Session) (a : State) (h1 : Kept q a) : Kept q (clearFirst ses a).1 := by
  unfold clearFirst
  try dsimp only
  repeat' (first | with_reducible assumption | intro _ | with_reducible (first | apply done_kept | apply each_kept | apply needRole_kept | apply notTerminal_kept | apply setReg_kept) | simp only [mk_kept_iff] | split)

theorem execClearFirstFaults_kept (ses : Session) (s : State) (h1 : Kept q s) : KeptOut q (execClearFirstFaults ses s) := by
  show Kept q _
  try dsimp only
  repeat' (first | with_reducible assumption | intro _ | with_reducible (first | apply clearFirst_kept | apply serve_kept))

theorem execErrInNAssert_kept (s : State) (h0 : Kept q s) : KeptOut q (execErrInNAssert s) := by
  show Kept q _
  try dsimp only
  repeat' (first | with_reducible assumption | intro _ | with_reducible (first | apply fire_kept) | simp only [mk_kept_iff] | split)

theorem execSafeNReadbackMismatch_kept (s : State) (h0 : Kept q s) : KeptOut q (execSafeNReadbackMismatch s) := by
  show Kept q _
  try dsimp only
  repeat' (first | with_reducible assumption | intro _ | with_reducible (first | apply fire_kept) | simp only [mk_kept_iff] | split)

theorem railsBack_kept (n : Nat) (s : State) (h1 : Kept q s) : Kept q (railsBack n s) := by
  unfold railsBack
  try dsimp only
  repeat' (first | with_reducible assumption | intro _ | with_reducible (first | apply ite_kept) | simp only [mk_kept_iff])

theorem execLevelConditionEnd_kept (source : Fin 256) (s : State) (h1 : Kept q s) : KeptOut q (execLevelConditionEnd source s) := by
  show Kept q _
  try dsimp only
  repeat' (first | with_reducible assumption | intro _ | with_reducible (first | apply ite_kept | apply railsBack_kept | apply setReg_kept) | simp only [mk_kept_iff])

theorem execManagementCoreWatchdog_kept (s : State) (h0 : Kept q s) : KeptOut q (execManagementCoreWatchdog s) := by
  show Kept q _
  try dsimp only
  repeat' (first | with_reducible assumption | intro _ | with_reducible (first | apply fire_kept) | simp only [mk_kept_iff] | split)

theorem rereadLost_kept (s : State) (h : Kept q s) : Kept q (rereadLost s) := by
  unfold rereadLost
  try dsimp only
  repeat' (first | with_reducible assumption | intro _ | with_reducible (first | apply ite_kept | apply each_kept | apply setPrt_kept) | simp only [mk_kept_iff] | split)

theorem execFirmwareReturn_kept (s : State) (h0 : Kept q s) : KeptOut q (execFirmwareReturn s) := by
  show Kept q _
  try dsimp only
  repeat' (first | with_reducible assumption | intro _ | with_reducible (first | apply rereadLost_kept | apply proofReturn_kept | apply refreshEval_kept | apply setDev_kept | apply settle_kept | apply sleepCheck_kept) | simp only [mk_kept_iff] | split)

theorem execHeadlessTimeout_kept (s : State) (h0 : Kept q s) : KeptOut q (execHeadlessTimeout s) := by
  show Kept q _
  try dsimp only
  repeat' (first | with_reducible assumption | intro _ | with_reducible (first | apply fire_kept) | simp only [mk_kept_iff] | split)

theorem readObj_kept (ses : Session) (i : Nat) (j : Nat) (a : State) (h3 : Kept q a) : Kept q (readObj ses i j a).1 := by
  unfold readObj
  try dsimp only
  repeat' (first | with_reducible assumption | intro _ | with_reducible (first | apply popCapture_kept | apply popRecord_kept | apply readChallenge_kept) | simp only [mk_kept_iff] | split)

theorem readPart_kept (ses : Session) (i : Nat) (j : Nat) (off : Nat) (len : Nat) (a : State) (h5 : Kept q a) : Kept q (readPart ses i j off len a).1 := by
  unfold readPart
  try dsimp only
  repeat' (first | with_reducible assumption | intro _ | with_reducible (first | apply readObj_kept) | simp only [mk_kept_iff] | split)

theorem recordCommand_kept (ses : Session) (t : TableRec) (v : Nat) (a : State) (h3 : Kept q a) : Kept q (recordCommand ses t v a).1 := by
  unfold recordCommand
  try dsimp only
  repeat' (first | with_reducible assumption | intro _ | with_reducible (first | apply clearCounters_kept | apply filterClear_kept | apply flowDelete_kept | apply guardClear_kept | apply meterClear_kept | apply readCommitted_kept | apply streamGateClear_kept | apply writeStaged_kept) | simp only [mk_kept_iff] | split)

theorem stateRequest_kept (ses : Session) (v : Nat) (a : State) (h2 : Kept q a) : Kept q (stateRequest ses v a).1 := by
  unfold stateRequest
  try dsimp only
  repeat' (first | with_reducible assumption | intro _ | with_reducible (first | apply commitRequest_kept | apply configureRequest_kept | apply deny_kept | apply discardEdits_kept) | simp only [mk_kept_iff] | split)

theorem softwareEvent_kept (a : State) (h0 : Kept q a) : Kept q (softwareEvent a).1 := by
  unfold softwareEvent
  try dsimp only
  repeat' (first | with_reducible assumption | intro _ | with_reducible (first | apply done_kept | apply notTerminal_kept | apply sendMsg_kept | apply setReg_kept) | simp only [mk_kept_iff] | split)

theorem command_kept (ses : Session) (i : Nat) (j : Nat) (v : Nat) (a : State) (h4 : Kept q a) : Kept q (command ses i j v a).1 := by
  unfold command
  cases recordOf i with
  | some t => exact recordCommand_kept _ _ _ _ h4
  | none =>
    dsimp only
    repeat' (first | with_reducible apply ite_kept_svc | with_reducible assumption | intro _ | with_reducible (first | apply acknowledge_kept | apply armNow_kept | apply armTarget_kept | apply beginPackage_kept | apply bindModule_kept | apply canClear_kept | apply canRecover_kept | apply cancelArmed_kept | apply clearFirst_kept | apply clearImport_kept | apply clearSource_kept | apply cmdArm_kept | apply cmdDisarm_kept | apply cmdHandOver_kept | apply cmdReleaseAll_kept | apply cmdResume_kept | apply cmdSetAbsolute_kept | apply cmdStepBy_kept | apply computeIcv_kept | apply deny_kept | apply deriveKeys_kept | apply discardPackage_kept | apply dmaAbort_kept | apply dmaDisableCmd_kept | apply dmaReset_kept | apply dmaStart_kept | apply done_kept | apply doorbell_kept | apply eraseKey_kept | apply exportLog_kept | apply fdbDeleteStatic_kept | apply fdbLookUp_kept | apply fdbWriteStatic_kept | apply flushBegin_kept | apply forceSource_kept | apply gateEntryRead_kept | apply gateEntryWrite_kept | apply hostConfirm_kept | apply hostReject_kept | apply importPublic_kept | apply installPackage_kept | apply linClear_kept | apply linGoToSleep_kept | apply linWake_kept | apply loadBlob_kept | apply mdioCommand_kept | apply needRole_kept | apply notTerminal_kept | apply recordCommand_kept | apply refreshEval_kept | apply restoreLane_kept | apply saRead_kept | apply saWrite_kept | apply setReg_kept | apply softwareEvent_kept | apply softwareReset_kept | apply stateRequest_kept | apply tamperClear_kept | apply unbindModule_kept | apply unwrapSak_kept | apply useFree_kept | apply zonePairClear_kept | apply zonePairRead_kept) | with_reducible apply ite_kept_svc)

theorem writeClear_kept (i : Nat) (j : Nat) (v : Nat) (s : State) (h3 : Kept q s) : Kept q (writeClear i j v s) := by
  unfold writeClear
  try dsimp only
  repeat' (first | with_reducible assumption | intro _ | with_reducible (first | apply setReg_kept) | simp only [mk_kept_iff] | split)

theorem keepAwake_kept (c : Nat) (v : Nat) (s : State) (h2 : Kept q s) : Kept q (keepAwake c v s) := by
  unfold keepAwake
  try dsimp only
  repeat' (first | with_reducible assumption | intro _ | with_reducible (first | apply resumeCluster_kept | apply setCluster_kept | apply setReg_kept | apply sleepCheck_kept | apply toAwake_kept) | simp only [mk_kept_iff] | split)

theorem writePlain_kept (ses : Session) (i : Nat) (j : Nat) (v : Nat) (l : Bytes) (a : State) (h5 : Kept q a) : Kept q (writePlain ses i j v l a).1 := by
  unfold writePlain
  try dsimp only
  repeat' (first | with_reducible assumption | intro _ | with_reducible (first | apply deny_kept | apply done_kept | apply keepAwake_kept | apply latchTime_kept | apply linTable_kept | apply notTerminal_kept | apply packageData_kept | apply releaseRole_kept | apply respond_kept | apply setReg_kept | apply sleepCheck_kept | apply writeAn_kept) | simp only [mk_kept_iff] | split)

theorem writeStage_kept (ses : Session) (i : Nat) (j : Nat) (v : Nat) (a : State) (h4 : Kept q a) : Kept q (writeStage ses i j v a).1 := by
  unfold writeStage
  try dsimp only
  repeat' (first | with_reducible assumption | intro _ | with_reducible (first | apply done_kept | apply notTerminal_kept | apply sieveStage_kept | apply stage_kept | apply staging_kept) | simp only [mk_kept_iff] | split)

theorem writeValue_kept (ses : Session) (i : Nat) (j : Nat) (v : Nat) (r : Sub) (l : Bytes) (a : State) (h6 : Kept q a) : Kept q (writeValue ses i j v r l a).1 := by
  unfold writeValue
  try dsimp only
  repeat' (first | with_reducible assumption | intro _ | with_reducible (first | apply command_kept | apply deny_kept | apply done_kept | apply writeClear_kept | apply writePlain_kept | apply writeStage_kept) | simp only [mk_kept_iff] | split)

theorem writeObj_kept (ses : Session) (i : Nat) (j : Nat) (off : Nat) (l : Bytes) (a : State) (h5 : Kept q a) : Kept q (writeObj ses i j off l a).1 := by
  unfold writeObj
  try dsimp only
  repeat' (first | with_reducible assumption | intro _ | with_reducible (first | apply deny_kept | apply writeValue_kept) | simp only [mk_kept_iff] | split)

theorem askWith_kept (ses : Session) (f : SvcD) (s : State) (h1 : ∀ s, Kept q s → Kept q (f s).1) (h2 : Kept q s) : Kept q (askWith ses f s).1 := by
  unfold askWith
  try dsimp only
  repeat' (first | with_reducible assumption | intro _ | with_reducible (first | apply done_kept | apply serveWith_kept | apply touch_kept | apply h1) | simp only [mk_kept_iff] | split)

theorem afterWrite_kept (i : Nat) (j : Nat) (code : Nat) (s : State) (h3 : Kept q s) : Kept q (afterWrite i j code s) := by
  unfold afterWrite
  try dsimp only
  repeat' (first | with_reducible assumption | intro _ | with_reducible (first | apply holdReset_kept | apply release_kept) | simp only [mk_kept_iff] | split)

theorem writeFor_kept (ses : Session) (path : Bool) (head : Bytes) (i : Nat) (j : Nat) (off : Nat) (l : Bytes) (reply : Nat → State → State) (s : State) (h7 : ∀ a0 s, Kept q s → Kept q (reply a0 s)) (h8 : Kept q s) : Kept q (writeFor ses path head i j off l reply s) := by
  unfold writeFor
  try dsimp only
  repeat' (first | with_reducible assumption | intro _ | with_reducible (first | apply afterWrite_kept | apply deferCommit_kept | apply serveWith_kept | apply settle_kept | apply writeObj_kept | apply h7) | simp only [mk_kept_iff] | split)

theorem hotWrite_kept (i : Nat) (j : Nat) (l : Bytes) (s : State) (h3 : Kept q s) : Kept q (hotWrite i j l s) := by
  unfold hotWrite
  try dsimp only
  repeat' (first | with_reducible assumption | intro _ | with_reducible (first | apply count_kept | apply serveHot_kept | apply settle_kept | apply writeObj_kept) | simp only [mk_kept_iff] | split)

theorem execDictionaryWrite_kept (ses : Session) (index : Fin 65536) (sub : Fin 256) (offset : Fin 4096) (data : List Byte) (s : State) (h5 : Kept q s) : KeptOut q (execDictionaryWrite ses index sub offset data s) := by
  show Kept q _
  try dsimp only
  repeat' (first | with_reducible assumption | intro _ | with_reducible (first | apply emit_kept | apply hotWrite_kept | apply writeFor_kept) | simp only [mk_kept_iff] | split)

theorem newTag_kept (s : State) (h0 : Kept q s) : Kept q (newTag s) := by
  unfold newTag
  try dsimp only
  repeat' (first | with_reducible assumption | intro _ | with_reducible (first | apply ite_kept) | simp only [mk_kept_iff])

theorem serveHeld_kept (x : Prefetched) (s : State) (h1 : Kept q s) : Kept q (serveHeld x s) := by
  unfold serveHeld
  try dsimp only
  repeat' (first | with_reducible assumption | intro _ | with_reducible (first | apply count_kept) | simp only [mk_kept_iff])

theorem fetchObj_kept (w : Nat) (d : Nat) (role : Nat) (i : Nat) (j : Nat) (tag : Nat) (s : State) (h6 : Kept q s) : Kept q (fetchObj w d role i j tag s) := by
  unfold fetchObj
  try dsimp only
  repeat' (first | with_reducible assumption | intro _ | with_reducible (first | apply sendMsg_kept) | simp only [mk_kept_iff])

theorem fetchBeside_kept (w : Nat) (d : Nat) (role : Nat) (l : List (Nat × Nat)) (s : State) (h4 : Kept q s) : Kept q (fetchBeside w d role l s) := by
  unfold fetchBeside
  try dsimp only
  repeat' (first | with_reducible assumption | intro _ | with_reducible (first | apply ite_kept | apply each_kept | apply fetchObj_kept | apply newTag_kept))

theorem remoteFails_kept (r : RemoteReq) (code : Nat) (s : State) (h2 : Kept q s) : Kept q (remoteFails r code s) := by
  unfold remoteFails
  try dsimp only
  repeat' (first | with_reducible assumption | intro _ | with_reducible (first | apply count_kept | apply lateReply_kept))

theorem remoteSend_kept (r : RemoteReq) (role : Nat) (data : Bytes) (s : State) (h3 : Kept q s) : Kept q (remoteSend r role data s) := by
  unfold remoteSend
  try dsimp only
  repeat' (first | with_reducible assumption | intro _ | with_reducible (first | apply ite_kept | apply count_kept | apply fetchBeside_kept | apply fetchObj_kept | apply newTag_kept | apply sendMsg_kept) | simp only [mk_kept_iff] | split)

theorem remoteAsk_kept (r : RemoteReq) (role : Nat) (data : Bytes) (s : State) (h3 : Kept q s) : Kept q (remoteAsk r role data s) := by
  unfold remoteAsk
  try dsimp only
  repeat' (first | with_reducible assumption | intro _ | with_reducible (first | apply dropPrefetch_kept | apply lateReply_kept | apply remoteFails_kept | apply remoteSend_kept | apply serveHeld_kept) | simp only [mk_kept_iff] | split)

theorem hostCompletes_kept (status : Nat) (data : Bytes) (s : State) (h2 : Kept q s) : Kept q (hostCompletes status data s) := by
  unfold hostCompletes
  try dsimp only
  repeat' (first | with_reducible assumption | intro _ | with_reducible (first | apply count_kept | apply emit_kept) | simp only [mk_kept_iff] | split)

theorem registerBytes_kept (len : Nat) (data : Bytes) (s : State) (h2 : Kept q s) : Kept q (registerBytes len data s).2 := by
  unfold registerBytes
  try dsimp only
  repeat' (first | with_reducible assumption | intro _ | with_reducible (first | apply ite_kept) | simp only [mk_kept_iff] | split)

theorem readCompletes_kept (len : Nat) (status : Nat) (data : Bytes) (s : State) (h3 : Kept q s) : Kept q (readCompletes len status data s) := by
  unfold readCompletes
  try dsimp only
  repeat' (first | with_reducible assumption | intro _ | with_reducible (first | apply ite_kept | apply hostCompletes_kept | apply registerBytes_kept))

theorem fetched_kept (tag : Nat) (status : Nat) (vol : Bool) (delivered : Bool) (data : Bytes) (s : State) (h5 : Kept q s) : Kept q (fetched tag status vol delivered data s) := by
  unfold fetched
  try dsimp only
  repeat' (first | with_reducible assumption | intro _ | with_reducible (first | apply each_kept | apply loseValue_kept) | simp only [mk_kept_iff] | split)

theorem readAgain_kept (r : Nat × Nat × Nat) (p : Prefetched) (s : State) (h2 : Kept q s) : Kept q (readAgain r p s) := by
  unfold readAgain
  try dsimp only
  repeat' (first | with_reducible assumption | intro _ | with_reducible (first | apply ite_kept | apply newTag_kept | apply sendMsg_kept) | simp only [mk_kept_iff])

theorem completed_kept (d : Nat) (tag : Nat) (status : Nat) (vol : Bool) (data : Bytes) (s : State) (h5 : Kept q s) : Kept q (completed d tag status vol data s) := by
  unfold completed
  try dsimp only
  repeat' (first | with_reducible assumption | intro _ | with_reducible (first | apply each_kept | apply fetched_kept | apply lateReply_kept | apply readAgain_kept | apply readCompletes_kept | apply remoteSend_kept) | simp only [mk_kept_iff] | split)

theorem requestsFail_kept (d : Nat) (s : State) (h1 : Kept q s) : Kept q (requestsFail d s) := by
  unfold requestsFail
  try dsimp only
  repeat' (first | with_reducible assumption | intro _ | with_reducible (first | apply each_kept | apply hostCompletes_kept | apply remoteFails_kept) | simp only [mk_kept_iff])

theorem execRemoteResponseTimeout_kept (request : Nat) (s : State) (h1 : Kept q s) : KeptOut q (execRemoteResponseTimeout request s) := by
  show Kept q _
  try dsimp only
  repeat' (first | with_reducible assumption | intro _ | with_reducible (first | apply each_kept | apply hostCompletes_kept | apply remoteFails_kept) | simp only [mk_kept_iff])

theorem macFails_kept (b : Bytes) (s : State) (h1 : Kept q s) : Kept q (macFails b s) := by
  unfold macFails
  try dsimp only
  repeat' (first | with_reducible assumption | intro _ | with_reducible (first | apply count_kept | apply fire_kept))

theorem setLink_kept (d : Nat) (v : Nat) (s : State) (h2 : Kept q s) : Kept q (setLink d v s) := by
  unfold setLink
  try dsimp only
  repeat' (first | with_reducible assumption | intro _ | with_reducible (first | apply hostEvent_kept | apply setReg_kept) | simp only [mk_kept_iff] | split)

theorem freshLink_kept (d : Nat) (s : State) (h1 : Kept q s) : Kept q (freshLink d s) := by
  unfold freshLink
  try dsimp only
  repeat' (first | with_reducible assumption | intro _ | with_reducible (first | apply requestsFail_kept | apply setPeer_kept | apply setReg_kept))

theorem endLink_kept (d : Nat) (v : Nat) (s : State) (h2 : Kept q s) : Kept q (endLink d v s) := by
  unfold endLink
  try dsimp only
  repeat' (first | with_reducible assumption | intro _ | with_reducible (first | apply freshLink_kept | apply setLink_kept))

theorem takeAck_kept (d : Nat) (b : Bytes) (s : State) (h2 : Kept q s) : Kept q (takeAck d b s) := by
  unfold takeAck
  try dsimp only
  repeat' (first | with_reducible assumption | intro _ | with_reducible (first | apply pump_kept | apply setPeer_kept))

theorem oweAck_kept (d : Nat) (s : State) (h1 : Kept q s) : Kept q (oweAck d s) := by
  unfold oweAck
  try dsimp only
  repeat' (first | with_reducible assumption | intro _ | with_reducible (first | apply setPeer_kept))

theorem asRole_kept (role : Nat) (f : State → State) (s : State) (h1 : ∀ s, Kept q s → Kept q (f s)) (h2 : Kept q s) : Kept q (asRole role f s) := by
  unfold asRole
  try dsimp only
  repeat' (first | with_reducible assumption | intro _ | with_reducible (first | apply h1) | simp only [mk_kept_iff])

theorem sendCompletion_kept (d : Nat) (tag : Nat) (status : Nat) (vol : Bool) (data : Bytes) (s : State) (h5 : Kept q s) : Kept q (sendCompletion d tag status vol data s) := by
  unfold sendCompletion
  try dsimp only
  repeat' (first | with_reducible assumption | intro _ | with_reducible (first | apply sendMsg_kept))

theorem serveRead_kept (d : Nat) (b : Bytes) (s : State) (h2 : Kept q s) : Kept q (serveRead d b s) := by
  unfold serveRead
  try dsimp only
  repeat' (first | with_reducible assumption | intro _ | with_reducible (first | apply readPart_kept | apply sendCompletion_kept | apply settle_kept) | simp only [mk_kept_iff] | split)

theorem serveWrite_kept (d : Nat) (answered : Bool) (b : Bytes) (s : State) (h3 : Kept q s) : Kept q (serveWrite d answered b s) := by
  unfold serveWrite
  try dsimp only
  repeat' (first | with_reducible assumption | intro _ | with_reducible (first | apply afterWrite_kept | apply count_kept | apply sendCompletion_kept | apply settle_kept | apply writeObj_kept) | simp only [mk_kept_iff] | split)

theorem takeMessage_kept (d : Nat) (b : Bytes) (s : State) (h2 : Kept q s) : Kept q (takeMessage d b s) := by
  unfold takeMessage
  try dsimp only
  repeat' (first | with_reducible assumption | intro _ | with_reducible (first | apply asRole_kept | apply completed_kept | apply emit_kept | apply pump_kept | apply serveRead_kept | apply serveWrite_kept | apply setPeer_kept | apply setReg_kept) | simp only [mk_kept_iff] | split)

theorem acceptNext_kept (d : Nat) (b : Bytes) (s : State) (h2 : Kept q s) : Kept q (acceptNext d b s) := by
  unfold acceptNext
  try dsimp only
  repeat' (first | with_reducible assumption | intro _ | with_reducible (first | apply oweAck_kept | apply setPeer_kept | apply takeMessage_kept))

theorem execTransportFrameReceive_kept (frame : List Byte) (s : State) (h1 : Kept q s) : KeptOut q (execTransportFrameReceive frame s) := by
  show Kept q _
  try dsimp only
  repeat' (first | with_reducible assumption | intro _ | with_reducible (first | apply acceptNext_kept | apply macFails_kept | apply oweAck_kept | apply settle_kept | apply takeAck_kept) | simp only [mk_kept_iff] | split)

theorem execTransportAckDue_kept (peer : Fin 8) (s : State) (h1 : Kept q s) : KeptOut q (execTransportAckDue peer s) := by
  show Kept q _
  try dsimp only
  repeat' (first | with_reducible assumption | intro _ | with_reducible (first | apply txMsg_kept) | simp only [mk_kept_iff] | split)

theorem execRetransmitTimeout_kept (peer : Fin 8) (s : State) (h1 : Kept q s) : KeptOut q (execRetransmitTimeout peer s) := by
  show Kept q _
  try dsimp only
  repeat' (first | with_reducible assumption | intro _ | with_reducible (first | apply count_kept | apply each_kept | apply endLink_kept | apply fire_kept | apply setPeer_kept | apply settle_kept | apply txMsg_kept) | simp only [mk_kept_iff] | split)

theorem execHelloSend_kept (s : State) (h0 : Kept q s) : KeptOut q (execHelloSend s) := by
  show Kept q _
  try dsimp only
  repeat' (first | with_reducible assumption | intro _ | with_reducible (first | apply emit_kept) | simp only [mk_kept_iff] | split)

theorem takeHello_kept (d : Nat) (epoch : Nat) (mac : Bytes) (s : State) (h3 : Kept q s) : Kept q (takeHello d epoch mac s) := by
  unfold takeHello
  try dsimp only
  repeat' (first | with_reducible assumption | intro _ | with_reducible (first | apply freshLink_kept | apply setLink_kept | apply setPeer_kept | apply setReg_kept) | simp only [mk_kept_iff] | split)

theorem execHelloReceive_kept (frame : List Byte) (s : State) (h1 : Kept q s) : KeptOut q (execHelloReceive frame s) := by
  show Kept q _
  try dsimp only
  repeat' (first | with_reducible assumption | intro _ | with_reducible (first | apply fire_kept | apply macFails_kept | apply setPeer_kept | apply settle_kept | apply takeHello_kept) | simp only [mk_kept_iff] | split)

theorem execPeerDiscoveryTimeout_kept (peer : Fin 8) (s : State) (h1 : Kept q s) : KeptOut q (execPeerDiscoveryTimeout peer s) := by
  show Kept q _
  try dsimp only
  repeat' (first | with_reducible assumption | intro _ | with_reducible (first | apply endLink_kept | apply setReg_kept) | simp only [mk_kept_iff] | split)

theorem eventAction_kept (d : Nat) (kind : Nat) (act : Nat) (arg : Nat) (data : Bytes) (s : State) (h5 : Kept q s) : Kept q (eventAction d kind act arg data s) := by
  unfold eventAction
  try dsimp only
  repeat' (first | with_reducible assumption | intro _ | with_reducible (first | apply doorbell_kept | apply fire_kept | apply msix_kept) | simp only [mk_kept_iff] | split)

theorem execEventMessageReceive_kept (peer : Fin 8) (data : List Byte) (s : State) (h2 : Kept q s) : KeptOut q (execEventMessageReceive peer data s) := by
  show Kept q _
  try dsimp only
  repeat' (first | with_reducible assumption | intro _ | with_reducible (first | apply eventAction_kept | apply hostEvent_kept | apply settle_kept) | simp only [mk_kept_iff] | split)

theorem execEventExport_kept (entry : Fin 32) (s : State) (h1 : Kept q s) : KeptOut q (execEventExport entry s) := by
  show Kept q _
  try dsimp only
  repeat' (first | with_reducible assumption | intro _ | with_reducible (first | apply sendMsg_kept) | simp only [mk_kept_iff] | split)

theorem execSoftwareEventSend_kept (ses : Session) (s : State) (h1 : Kept q s) : KeptOut q (execSoftwareEventSend ses s) := by
  show Kept q _
  try dsimp only
  repeat' (first | with_reducible assumption | intro _ | with_reducible (first | apply serve_kept | apply softwareEvent_kept))

theorem execPrefetchHoldEnd_kept (window : Fin 32) (s : State) (h1 : Kept q s) : KeptOut q (execPrefetchHoldEnd window s) := by
  show Kept q _
  try dsimp only
  repeat' (first | with_reducible assumption | intro _ | with_reducible (first | apply dropPrefetch_kept))

theorem unsupported_kept (isRead : Bool) (s : State) (h1 : Kept q s) : Kept q (unsupported isRead s) := by
  unfold unsupported
  try dsimp only
  repeat' (first | with_reducible assumption | intro _ | with_reducible (first | apply count_kept | apply hostCompletes_kept) | simp only [mk_kept_iff] | split)

theorem execUnsupportedAccess_kept (isRead : Bool) (s : State) (h1 : Kept q s) : KeptOut q (execUnsupportedAccess isRead s) := by
  show Kept q _
  try dsimp only
  repeat' (first | with_reducible assumption | intro _ | with_reducible (first | apply unsupported_kept) | simp only [mk_kept_iff] | split)

theorem execTime80LowHalfRead_kept (offset : Fin 65536) (s : State) (h1 : Kept q s) : KeptOut q (execTime80LowHalfRead offset s) := by
  show Kept q _
  try dsimp only
  repeat' (first | with_reducible assumption | intro _ | with_reducible (first | apply hostCompletes_kept | apply registerBytes_kept) | simp only [mk_kept_iff] | split)

theorem apertureAsk_kept (d : Nat) (i : Nat) (j : Nat) (size : Nat) (place : Nat) (y : Nat) (s : State) (h6 : Kept q s) : Kept q (apertureAsk d i j size place y s) := by
  unfold apertureAsk
  try dsimp only
  repeat' (first | with_reducible assumption | intro _ | with_reducible (first | apply count_kept | apply fetchBeside_kept | apply fetchObj_kept | apply newTag_kept | apply sendMsg_kept) | simp only [mk_kept_iff] | split)

theorem apertureRead_kept (d : Nat) (y : Nat) (size : Nat) (s : State) (h3 : Kept q s) : Kept q (apertureRead d y size s) := by
  unfold apertureRead
  try dsimp only
  repeat' (first | with_reducible assumption | intro _ | with_reducible (first | apply apertureAsk_kept | apply hostCompletes_kept | apply readCompletes_kept | apply readObj_kept | apply serveHeld_kept | apply unsupported_kept) | simp only [mk_kept_iff] | split)

theorem apertureWrite_kept (d : Nat) (y : Nat) (data : Bytes) (s : State) (h3 : Kept q s) : Kept q (apertureWrite d y data s) := by
  unfold apertureWrite
  try dsimp only
  repeat' (first | with_reducible assumption | intro _ | with_reducible (first | apply count_kept | apply dropPrefetch_kept | apply sendMsg_kept | apply settle_kept | apply unsupported_kept | apply writeObj_kept) | simp only [mk_kept_iff] | split)

theorem execRemoteApertureAccess_kept (offset : Fin 65536) (access : HostAccess) (s : State) (h2 : Kept q s) : KeptOut q (execRemoteApertureAccess offset access s) := by
  show Kept q _
  try dsimp only
  repeat' (first | with_reducible assumption | intro _ | with_reducible (first | apply apertureRead_kept | apply apertureWrite_kept) | simp only [mk_kept_iff] | split)

theorem functionReset_kept (s : State) (h0 : Kept q s) : Kept q (functionReset s) := by
  unfold functionReset
  try dsimp only
  repeat' (first | with_reducible assumption | intro _ | with_reducible (first | apply dropPrefetch_kept | apply linkLost_kept) | simp only [mk_kept_iff])

theorem execPePerstN_kept (asserted : Bool) (s : State) (h1 : Kept q s) : KeptOut q (execPePerstN asserted s) := by
  show Kept q _
  try dsimp only
  repeat' (first | with_reducible assumption | intro _ | with_reducible (first | apply functionReset_kept | apply linkTrains_kept) | simp only [mk_kept_iff] | split)

theorem execFunctionLevelReset_kept (s : State) (h0 : Kept q s) : KeptOut q (execFunctionLevelReset s) := by
  show Kept q _
  try dsimp only
  repeat' (first | with_reducible assumption | intro _ | with_reducible (first | apply count_kept | apply functionReset_kept | apply linkTrains_kept) | simp only [mk_kept_iff] | split)

theorem execPcieConfigurationRequest_kept (s : State) (h0 : Kept q s) : KeptOut q (execPcieConfigurationRequest s) := by
  show Kept q _
  try dsimp only
  repeat' (first | with_reducible assumption | intro _ | with_reducible (first | apply emit_kept) | simp only [mk_kept_iff] | split)

theorem execPmeTurnOff_kept (s : State) (h0 : Kept q s) : KeptOut q (execPmeTurnOff s) := by
  show Kept q _
  try dsimp only
  repeat' (first | with_reducible assumption | intro _ | with_reducible (first | apply each_kept | apply hostCompletes_kept | apply linkGoes_kept | apply setReg_kept) | simp only [mk_kept_iff] | split)

theorem execPcieLinkUp_kept (gen : Fin 5) (lanes : Fin 5) (s : State) (h2 : Kept q s) : KeptOut q (execPcieLinkUp gen lanes s) := by
  show Kept q _
  try dsimp only
  repeat' (first | with_reducible assumption | intro _ | with_reducible (first | apply linkTrains_kept | apply setReg_kept) | simp only [mk_kept_iff] | split)

theorem execPcieLinkDown_kept (s : State) (h0 : Kept q s) : KeptOut q (execPcieLinkDown s) := by
  show Kept q _
  try dsimp only
  repeat' (first | with_reducible assumption | intro _ | with_reducible (first | apply linkLost_kept | apply linkTrains_kept) | simp only [mk_kept_iff] | split)

theorem execMsixVectorUnmask_kept (vector : Fin 128) (s : State) (h1 : Kept q s) : KeptOut q (execMsixVectorUnmask vector s) := by
  show Kept q _
  try dsimp only
  repeat' (first | with_reducible assumption | intro _ | with_reducible (first | apply emit_kept) | simp only [mk_kept_iff] | split)

theorem pathRemote_kept (ses : Session) (head : Bytes) (device : Nat) (write : Bool) (i : Nat) (j : Nat) (off : Nat) (len : Nat) (data : Bytes) (s : State) (h9 : Kept q s) : Kept q (pathRemote ses head device write i j off len data s) := by
  unfold pathRemote
  try dsimp only
  repeat' (first | with_reducible assumption | intro _ | with_reducible (first | apply done_kept | apply pathReply_kept | apply remoteAsk_kept | apply serveWith_kept | apply settle_kept) | simp only [mk_kept_iff] | split)

theorem pathRead_kept (ses : Session) (room : Nat) (head : Bytes) (device : Nat) (i : Nat) (j : Nat) (off : Nat) (len : Nat) (s : State) (h8 : Kept q s) : Kept q (pathRead ses room head device i j off len s) := by
  unfold pathRead
  try dsimp only
  repeat' (first | with_reducible assumption | intro _ | with_reducible (first | apply askWith_kept | apply pathRemote_kept | apply pathReply_kept | apply readPart_kept | apply settle_kept) | simp only [mk_kept_iff] | split)

theorem pathWrite_kept (ses : Session) (room : Nat) (head : Bytes) (device : Nat) (i : Nat) (j : Nat) (off : Nat) (len : Nat) (data : Bytes) (s : State) (h9 : Kept q s) : Kept q (pathWrite ses room head device i j off len data s) := by
  unfold pathWrite
  try dsimp only
  repeat' (first | with_reducible assumption | intro _ | with_reducible (first | apply deny_kept | apply pathRemote_kept | apply pathReply_kept | apply serveWith_kept | apply writeFor_kept) | simp only [mk_kept_iff] | split)

theorem setSdo_kept (n : Nat) (x : Option SdoTransfer) (s : State) (h2 : Kept q s) : Kept q (setSdo n x s) := by
  unfold setSdo
  try dsimp only
  repeat' (first | with_reducible assumption | intro _ | with_reducible (first | apply ite_kept) | simp only [mk_kept_iff])

theorem sdoFail_kept (n : Nat) (mux : Bytes) (code : Nat) (s : State) (h3 : Kept q s) : Kept q (sdoFail n mux code s) := by
  unfold sdoFail
  try dsimp only
  repeat' (first | with_reducible assumption | intro _ | with_reducible (first | apply ite_kept | apply sdoSend_kept | apply setSdo_kept))

theorem sdoWrite_kept (n : Fin 4) (i : Nat) (j : Nat) (good : Bytes) (l : Bytes) (s : State) (h5 : Kept q s) : Kept q (sdoWrite n i j good l s) := by
  unfold sdoWrite
  try dsimp only
  repeat' (first | with_reducible assumption | intro _ | with_reducible (first | apply ite_kept | apply sdoSend_kept | apply setSdo_kept | apply writeFor_kept))

theorem sdoDownload_kept (n : Fin 4) (f : Bytes) (s : State) (h2 : Kept q s) : Kept q (sdoDownload n f s) := by
  unfold sdoDownload
  try dsimp only
  repeat' (first | with_reducible assumption | intro _ | with_reducible (first | apply ite_kept | apply sdoFail_kept | apply sdoSend_kept | apply sdoWrite_kept | apply setSdo_kept))

theorem sdoDownSeg_kept (n : Fin 4) (x : SdoTransfer) (f : Bytes) (s : State) (h3 : Kept q s) : Kept q (sdoDownSeg n x f s) := by
  unfold sdoDownSeg
  try dsimp only
  repeat' (first | with_reducible assumption | intro _ | with_reducible (first | apply ite_kept | apply sdoFail_kept | apply sdoSend_kept | apply sdoWrite_kept | apply setSdo_kept))

theorem sdoUpload_kept (n : Fin 4) (f : Bytes) (s : State) (h2 : Kept q s) : Kept q (sdoUpload n f s) := by
  unfold sdoUpload
  try dsimp only
  repeat' (first | with_reducible assumption | intro _ | with_reducible (first | apply ite_kept | apply askWith_kept | apply readObj_kept | apply sdoSend_kept | apply setSdo_kept | apply settle_kept))

theorem sdoUpSeg_kept (n : Nat) (x : SdoTransfer) (f : Bytes) (s : State) (h3 : Kept q s) : Kept q (sdoUpSeg n x f s) := by
  unfold sdoUpSeg
  try dsimp only
  repeat' (first | with_reducible assumption | intro _ | with_reducible (first | apply ite_kept | apply sdoFail_kept | apply sdoSend_kept | apply setSdo_kept))

theorem sdoBlockUpload_kept (n : Fin 4) (f : Bytes) (s : State) (h2 : Kept q s) : Kept q (sdoBlockUpload n f s) := by
  unfold sdoBlockUpload
  try dsimp only
  repeat' (first | with_reducible assumption | intro _ | with_reducible (first | apply ite_kept | apply askWith_kept | apply readObj_kept | apply sdoFail_kept | apply sdoSend_kept | apply setSdo_kept | apply settle_kept))

theorem sdoSendBlock_kept (n : Nat) (x : SdoTransfer) (s : State) (h2 : Kept q s) : Kept q (sdoSendBlock n x s) := by
  unfold sdoSendBlock
  try dsimp only
  repeat' (first | with_reducible assumption | intro _ | with_reducible (first | apply ite_kept | apply each_kept | apply sdoSend_kept | apply setSdo_kept))

theorem sdoUpBlock_kept (n : Nat) (x : SdoTransfer) (f : Bytes) (s : State) (h3 : Kept q s) : Kept q (sdoUpBlock n x f s) := by
  unfold sdoUpBlock
  try dsimp only
  repeat' (first | with_reducible assumption | intro _ | with_reducible (first | apply ite_kept | apply sdoFail_kept | apply sdoSend_kept | apply sdoSendBlock_kept | apply setSdo_kept) | simp only [mk_kept_iff] | split)

theorem sdoBlockDownload_kept (n : Nat) (f : Bytes) (s : State) (h2 : Kept q s) : Kept q (sdoBlockDownload n f s) := by
  unfold sdoBlockDownload
  try dsimp only
  repeat' (first | with_reducible assumption | intro _ | with_reducible (first | apply ite_kept | apply sdoFail_kept | apply sdoSend_kept | apply setSdo_kept))

theorem sdoDownBlock_kept (n : Nat) (x : SdoTransfer) (f : Bytes) (s : State) (h3 : Kept q s) : Kept q (sdoDownBlock n x f s) := by
  unfold sdoDownBlock
  try dsimp only
  repeat' (first | with_reducible assumption | intro _ | with_reducible (first | apply ite_kept | apply sdoFail_kept | apply sdoSend_kept | apply setSdo_kept))

theorem sdoDownEnd_kept (n : Fin 4) (x : SdoTransfer) (f : Bytes) (s : State) (h3 : Kept q s) : Kept q (sdoDownEnd n x f s) := by
  unfold sdoDownEnd
  try dsimp only
  repeat' (first | with_reducible assumption | intro _ | with_reducible (first | apply sdoFail_kept | apply sdoWrite_kept) | simp only [mk_kept_iff] | split)

theorem sdoCommand_kept (n : Fin 4) (f : Bytes) (s : State) (h2 : Kept q s) : Kept q (sdoCommand n f s) := by
  unfold sdoCommand
  try dsimp only
  repeat' (first | with_reducible assumption | intro _ | with_reducible (first | apply ite_kept | apply sdoBlockDownload_kept | apply sdoBlockUpload_kept | apply sdoDownEnd_kept | apply sdoDownSeg_kept | apply sdoDownload_kept | apply sdoFail_kept | apply sdoUpBlock_kept | apply sdoUpSeg_kept | apply sdoUpload_kept | apply setSdo_kept) | simp only [mk_kept_iff] | split)

theorem execSdoRequest_kept (server : Fin 4) (data : List Byte) (s : State) (h2 : Kept q s) : KeptOut q (execSdoRequest server data s) := by
  show Kept q _
  try dsimp only
  repeat' (first | with_reducible assumption | intro _ | with_reducible (first | apply sdoCommand_kept | apply sdoDownBlock_kept | apply sdoSend_kept | apply touch_kept) | simp only [mk_kept_iff] | split)

theorem execSdoSegmentTimeout_kept (server : Fin 4) (s : State) (h1 : Kept q s) : KeptOut q (execSdoSegmentTimeout server s) := by
  show Kept q _
  try dsimp only
  repeat' (first | with_reducible assumption | intro _ | with_reducible (first | apply sdoFail_kept) | simp only [mk_kept_iff] | split)

theorem pxpDiscard_kept (s : State) (h0 : Kept q s) : Kept q (pxpDiscard s) := by
  unfold pxpDiscard
  try dsimp only
  repeat' (first | with_reducible assumption | intro _ | with_reducible (first | apply count_kept))

theorem pxpTake_kept (msg : Bytes) (f : State → State) (s : State) (h1 : ∀ s, Kept q s → Kept q (f s)) (h2 : Kept q s) : Kept q (pxpTake msg f s) := by
  unfold pxpTake
  try dsimp only
  repeat' (first | with_reducible assumption | intro _ | with_reducible (first | apply pxpDiscard_kept | apply h1) | simp only [mk_kept_iff] | split)

theorem pxpPlain_kept (dest : PxpSource) (op : Nat) (head : Bytes) (code : Nat) (data : Bytes) (s : State) (h5 : Kept q s) : Kept q (pxpPlain dest op head code data s) := by
  unfold pxpPlain
  try dsimp only
  repeat' (first | with_reducible assumption | intro _ | with_reducible (first | apply pxpSend_kept))

theorem countPxp_kept (s : State) (h0 : Kept q s) : Kept q (countPxp s) := by
  unfold countPxp
  try dsimp only
  repeat' (first | with_reducible assumption | intro _ | with_reducible (first | apply setReg_kept))

theorem pxpOffer_kept (source : PxpSource) (msg : Bytes) (s : State) (h2 : Kept q s) : Kept q (pxpOffer source msg s) := by
  unfold pxpOffer
  try dsimp only
  repeat' (first | with_reducible assumption | intro _ | with_reducible (first | apply pxpPlain_kept | apply setPxp_kept | apply useFree_kept) | simp only [mk_kept_iff] | split)

theorem execPxpOpen_kept (source : PxpSource) (msg : List Byte) (s : State) (h2 : Kept q s) : KeptOut q (execPxpOpen source msg s) := by
  show Kept q _
  try dsimp only
  repeat' (first | with_reducible assumption | intro _ | with_reducible (first | apply pxpOffer_kept | apply pxpPlain_kept | apply pxpTake_kept) | simp only [mk_kept_iff] | split)

theorem pxpProof_kept (n : Fin 8) (x : PxpSession) (source : PxpSource) (msg : Bytes) (s : State) (h4 : Kept q s) : Kept q (pxpProof n x source msg s) := by
  unfold pxpProof
  try dsimp only
  repeat' (first | with_reducible assumption | intro _ | with_reducible (first | apply countPxp_kept | apply credentialFails_kept | apply grantRole_kept | apply pxpDiscard_kept | apply pxpReply_kept | apply setPxp_kept) | simp only [mk_kept_iff] | split)

theorem execPxpProve_kept (source : PxpSource) (msg : List Byte) (s : State) (h2 : Kept q s) : KeptOut q (execPxpProve source msg s) := by
  show Kept q _
  try dsimp only
  repeat' (first | with_reducible assumption | intro _ | with_reducible (first | apply pxpDiscard_kept | apply pxpProof_kept | apply pxpTake_kept | apply settle_kept) | simp only [mk_kept_iff] | split)

theorem pxpAccept_kept (source : PxpSource) (msg : Bytes) (f : Fin 8 → State → State) (s : State) (h2 : ∀ a0 s, Kept q s → Kept q (f a0 s)) (h3 : Kept q s) : Kept q (pxpAccept source msg f s) := by
  unfold pxpAccept
  try dsimp only
  repeat' (first | with_reducible assumption | intro _ | with_reducible (first | apply endSession_kept | apply pxpDiscard_kept | apply pxpSend_kept | apply setPxp_kept | apply settle_kept | apply h2) | simp only [mk_kept_iff] | split)

theorem pxpServed_kept (source : PxpSource) (msg : Bytes) (f : Fin 8 → State → State) (s : State) (h2 : ∀ a0 s, Kept q s → Kept q (f a0 s)) (h3 : Kept q s) : Kept q (pxpServed source msg f s) := by
  unfold pxpServed
  try dsimp only
  repeat' (first | with_reducible assumption | intro _ | with_reducible (first | apply pxpAccept_kept | apply pxpPlain_kept | apply pxpTake_kept | apply h2) | simp only [mk_kept_iff] | split)

theorem execPxpRead_kept (source : PxpSource) (msg : List Byte) (s : State) (h2 : Kept q s) : KeptOut q (execPxpRead source msg s) := by
  show Kept q _
  try dsimp only
  repeat' (first | with_reducible assumption | intro _ | with_reducible (first | apply pathRead_kept | apply pxpServed_kept))

theorem execPxpWrite_kept (source : PxpSource) (msg : List Byte) (s : State) (h2 : Kept q s) : KeptOut q (execPxpWrite source msg s) := by
  show Kept q _
  try dsimp only
  repeat' (first | with_reducible assumption | intro _ | with_reducible (first | apply pathWrite_kept | apply pxpServed_kept))

theorem execPxpKeepalive_kept (source : PxpSource) (msg : List Byte) (s : State) (h2 : Kept q s) : KeptOut q (execPxpKeepalive source msg s) := by
  show Kept q _
  try dsimp only
  repeat' (first | with_reducible assumption | intro _ | with_reducible (first | apply pxpAccept_kept | apply pxpReply_kept | apply pxpTake_kept))

theorem execPxpClose_kept (source : PxpSource) (msg : List Byte) (s : State) (h2 : Kept q s) : KeptOut q (execPxpClose source msg s) := by
  show Kept q _
  try dsimp only
  repeat' (first | with_reducible assumption | intro _ | with_reducible (first | apply endSession_kept | apply pxpAccept_kept | apply pxpReply_kept | apply pxpTake_kept | apply settle_kept))

theorem execPxpIdleTimeout_kept (session : Fin 8) (s : State) (h1 : Kept q s) : KeptOut q (execPxpIdleTimeout session s) := by
  show Kept q _
  try dsimp only
  repeat' (first | with_reducible assumption | intro _ | with_reducible (first | apply countPxp_kept | apply endSession_kept | apply settle_kept) | simp only [mk_kept_iff] | split)

theorem mailboxRing_kept (m : Fin 4) (clear : Nat) (f : State → State) (s : State) (h2 : ∀ s, Kept q s → Kept q (f s)) (h3 : Kept q s) : Kept q (mailboxRing m clear f s) := by
  unfold mailboxRing
  try dsimp only
  repeat' (first | with_reducible assumption | intro _ | with_reducible (first | apply setMailbox_kept | apply h2) | simp only [mk_kept_iff] | split)

theorem execMailboxRead_kept (mbox : Fin 4) (clear : Fin 4) (device : Byte) (index : Fin 65536) (sub : Fin 256) (offset : Fin 65536) (length : Fin 65536) (s : State) (h7 : Kept q s) : KeptOut q (execMailboxRead mbox clear device index sub offset length s) := by
  show Kept q _
  try dsimp only
  repeat' (first | with_reducible assumption | intro _ | with_reducible (first | apply mailboxRing_kept | apply pathRead_kept))

theorem execMailboxWrite_kept (mbox : Fin 4) (clear : Fin 4) (device : Byte) (index : Fin 65536) (sub : Fin 256) (offset : Fin 65536) (data : List Byte) (s : State) (h7 : Kept q s) : KeptOut q (execMailboxWrite mbox clear device index sub offset data s) := by
  show Kept q _
  try dsimp only
  repeat' (first | with_reducible assumption | intro _ | with_reducible (first | apply mailboxRing_kept | apply pathWrite_kept))

theorem spiRequest_kept (head : Bytes) (data : Bytes) (crc : Nat) (f : State → State) (s : State) (h3 : ∀ s, Kept q s → Kept q (f s)) (h4 : Kept q s) : Kept q (spiRequest head data crc f s) := by
  unfold spiRequest
  try dsimp only
  repeat' (first | with_reducible assumption | intro _ | with_reducible (first | apply count_kept | apply setReg_kept | apply h3) | simp only [mk_kept_iff] | split)

theorem execSpiRead_kept (device : Byte) (index : Fin 65536) (sub : Fin 256) (offset : Fin 65536) (length : Fin 65536) (crc : Fin 65536) (s : State) (h6 : Kept q s) : KeptOut q (execSpiRead device index sub offset length crc s) := by
  show Kept q _
  try dsimp only
  repeat' (first | with_reducible assumption | intro _ | with_reducible (first | apply pathRead_kept | apply spiRequest_kept))

theorem execSpiWrite_kept (device : Byte) (index : Fin 65536) (sub : Fin 256) (offset : Fin 65536) (length : Fin 65536) (data : List Byte) (crc : Fin 65536) (s : State) (h7 : Kept q s) : KeptOut q (execSpiWrite device index sub offset length data crc s) := by
  show Kept q _
  try dsimp only
  repeat' (first | with_reducible assumption | intro _ | with_reducible (first | apply pathWrite_kept | apply spiRequest_kept))

theorem execSpiFetch_kept (s : State) (h0 : Kept q s) : KeptOut q (execSpiFetch s) := by
  show Kept q _
  try dsimp only
  repeat' (first | with_reducible assumption | intro _ | with_reducible (first | apply emit_kept) | simp only [mk_kept_iff] | split)

theorem copyRead_kept (e : CopyEnd) (p : Nat × Nat) (host : Bytes) (s : State) (h3 : Kept q s) : Kept q (copyRead e p host s).2 := by
  unfold copyRead
  try dsimp only
  repeat' (first | with_reducible assumption | intro _ | with_reducible (first | apply emit_kept | apply readPart_kept) | simp only [mk_kept_iff] | split)

theorem copyWrite_kept (e : CopyEnd) (p : Nat × Nat) (l : Bytes) (s : State) (h3 : Kept q s) : Kept q (copyWrite e p l s).2 := by
  unfold copyWrite
  try dsimp only
  repeat' (first | with_reducible assumption | intro _ | with_reducible (first | apply emit_kept | apply writeObj_kept) | simp only [mk_kept_iff] | split)

theorem copyRun_kept (src : CopyEnd) (dst : CopyEnd) (h : HostRead) (a : Nat) (x4 : Nat) (x5 : List (Nat × Nat)) (x6 : List (Nat × Nat)) (x7 : Bytes) (x8 : Bytes) (x9 : Nat) (x10 : State) (h10 : Kept q x10) : Kept q (copyRun src dst h a x4 x5 x6 x7 x8 x9 x10).2.2 := by
  induction a generalizing x4 x5 x6 x7 x8 x9 x10 with
  | zero => unfold copyRun; exact h10
  | succ k ih =>
    cases x6 with
    | nil => unfold copyRun; exact h10
    | cons p t =>
      unfold copyRun
      dsimp only
      split
      · split
        · exact ih _ _ _ _ _ _ _ (copyWrite_kept _ _ _ _ h10)
        · exact copyWrite_kept _ _ _ _ h10
      · split
        · exact h10
        · rename_i c d e
          have h2 := copyRead_kept src d x7 _ h10
          generalize copyRead src d x7 x10 = r at h2 ⊢
          obtain ⟨o, t⟩ := r
          generalize (if src.device = true then 1 else hostStatus h x4) = bad
          dsimp only at h2 ⊢
          by_cases hb : bad ≠ 1
          · rw [if_pos hb]; exact h2
          · rw [if_neg hb]
            cases o with
            | none => exact h2
            | some l => exact ih _ _ _ _ _ _ _ h2

theorem execCopyDescriptor_kept (channel : Fin 64) (data : List Byte) (host : HostRead) (s : State) (h3 : Kept q s) : KeptOut q (execCopyDescriptor channel data host s) := by
  show Kept q _
  try dsimp only
  repeat' (first | with_reducible assumption | intro _ | with_reducible (first | apply copyRun_kept | apply dmaEnd_kept | apply refuseHeads_kept | apply setDma_kept | apply settle_kept) | simp only [mk_kept_iff] | split)

theorem tickCounts_kept (s : State) (h0 : Kept q s) : Kept q (tickCounts s) := by
  unfold tickCounts
  try dsimp only
  repeat' (first | with_reducible assumption | intro _ | with_reducible (first | apply ite_kept) | simp only [mk_kept_iff])

theorem tickCluster_kept (c : Nat) (s : State) (h1 : Kept q s) : Kept q (tickCluster c s) := by
  unfold tickCluster
  try dsimp only
  repeat' (first | with_reducible assumption | intro _ | with_reducible (first | apply finishWaking_kept | apply setCluster_kept | apply setClusterState_kept) | simp only [mk_kept_iff] | split)

theorem tick_kept (s : State) (h0 : Kept q s) : Kept q (tick s) := by
  unfold tick
  try dsimp only
  repeat' (first | with_reducible assumption | intro _ | with_reducible (first | apply ite_kept | apply creditsStep_kept | apply each_kept | apply pulsesDone_kept | apply pulsesEnd_kept | apply settle_kept | apply sleepCheck_kept | apply sweep_kept | apply tickCluster_kept | apply tickCounts_kept))

end Sys2Proof.Machine
end

