-- ==== Sys2Proof/Laws/Service.lean ====
section
/-!
SUPPORT. Service.lean: what the service of a session's command does (`serve`, `serveData`, `touch`), the firing of a source, and the lengths and
CMACs of messages.
-/
-- One declaration after the other: it keeps the memory of the package as one text within bounds.
set_option Elab.async false

namespace Sys2Proof.Machine

/-! ### The access of a lock holder -/

@[simp] theorem touch_holder (ses : Session) (s : State) : (touch ses s).access.holder = s.access.holder := by unfold touch; split <;> rfl

@[simp] theorem touch_validating (ses : Session) (s : State) : (touch ses s).access.validating = s.access.validating := by
  unfold touch; split <;> rfl

@[simp] theorem touch_evicted (ses : Session) (s : State) : (touch ses s).access.evicted = s.access.evicted := by unfold touch; split <;> rfl

@[simp] theorem srcClass_touch (n : Nat) (ses : Session) (s : State) : srcClass n (touch ses s) = srcClass n s := by unfold touch; split <;> rfl

@[simp] theorem srcEnabled_touch (n : Nat) (ses : Session) (s : State) : srcEnabled n (touch ses s) = srcEnabled n s := by simp [srcEnabled]

@[simp] theorem srcSet_touch (n : Nat) (ses : Session) (s : State) : srcSet n (touch ses s) = srcSet n s := by simp [srcSet]

/-- What does not read the lock's idle time is as before an access. -/
theorem touch_same {α : Type} (f : State → α) (hf : ∀ s n, f { s with access := { s.access with holderSince := n } } = f s) (ses : Session)
    (s : State) : f (touch ses s) = f s := by
  unfold touch
  split
  · exact hf _ _
  · rfl

/-! ### Service -/

/-- A command of a session that is served: its effect after the access, then the answer. -/
theorem serve_served (ses : Session) (f : Svc) (s : State) (h : Served ses s) :
    serve ses f s = emit (.answer ses (f (touch ses s)).2 []) (f (touch ses s)).1 := by
  obtain ⟨a, b, c, d, e⟩ := h
  simp [serve, serveWith, evict, *]

/-- The same for a command that returns data, which comes with the code 0 only. -/
theorem serveData_served (ses : Session) (f : SvcD) (s : State) (h : Served ses s) :
    serveData ses f s =
      emit (.answer ses (f (touch ses s)).2.1 (if (f (touch ses s)).2.1 == 0 then (f (touch ses s)).2.2 else [])) (f (touch ses s)).1 := by
  obtain ⟨a, b, c, d, e⟩ := h
  simp [serveData, *]

/-- A command of a path that is not in use, or in Boot or Catch, has no effect. -/
theorem serve_not_live (ses : Session) (f : Svc) (s : State) (h : s.dev = .boot ∨ s.dev = .catch_ ∨ sessionLive ses s = false) : serve ses f s = s := by
  rcases h with h | h | h <;> simp [serve, h]

/-! ### Firing -/

/-- A disabled source's report changes nothing (R405). -/
theorem fireRaw_disabled (n d : Nat) (s : State) (h : srcEnabled n s = false) : fireRaw n d s = s := by simp [fireRaw, h]

/-- A firing's record touches the objects of its source only. -/
@[simp] theorem recordFiring_faults (n d : Nat) (s : State) : (recordFiring n d s).faults = s.faults := by
  unfold recordFiring
  simp only [apply_ite State.faults, setReg_faults, count_faults, ite_self]

@[simp] theorem recordFiring_nowNs (n d : Nat) (s : State) : nowNs (recordFiring n d s) = nowNs s := by
  unfold recordFiring
  simp only [apply_ite nowNs, setReg_nowNs', count_nowNs', ite_self]

/-- The first-fault captures touch 0x5800 and 0x5801 only. -/
@[simp] theorem captureFirst_faults (n c : Nat) (s : State) : (captureFirst n c s).faults = s.faults := by
  unfold captureFirst
  simp only [apply_ite State.faults, setReg_faults, ite_self]

@[simp] theorem captureFirst_nowNs (n c : Nat) (s : State) : nowNs (captureFirst n c s) = nowNs s := by
  unfold captureFirst
  simp only [apply_ite nowNs, setReg_nowNs', ite_self]

/-- Nothing follows where no firing waits. -/
theorem settle_none (k : Nat) (s : State) (h : s.faults.due = []) : settle k s = s := by cases k <;> simp [settle, h]

/-! ### Bytes and CMACs -/

theorem leBytes_length (n v : Nat) : (leBytes n v).length = n := by induction n generalizing v <;> simp [leBytes, *]

theorem macBytes_length (slot : Nat) (b : Bytes) (s : State) : (macBytes slot 4 b s).length = 4 := by simp [macBytes, beBytes, leBytes_length]

/-- A signed message's CMAC verifies. -/
theorem signed_mac (slot : Nat) (b : Bytes) (s : State) : pmMac slot (signed slot b s) s = true := by simp [pmMac, signed, macBytes_length]

theorem byteAt_signed (slot : Nat) (b : Bytes) (s : State) (k : Nat) (h : k < b.length) : byteAt (signed slot b s) k = byteAt b k := by
  simp [byteAt, signed, List.head?_drop, List.getElem?_append_left h]

end Sys2Proof.Machine
end

