-- ==== Sys2Proof/WellFormed.lean ====
section
/-!
DEFINITION. WellFormed.lean: what the senders outside can send at all: lengths, identifiers and offsets that the formats admit. The meanings
do not lean on these checks.
-/
namespace Sys2Proof

/-- A received frame has its addresses and EtherType and fits the largest frame size that a port can be given (R67). -/
def EthFrame.wf (f : EthFrame) : Bool := decide (14 ≤ f.bytes.length) && decide (f.bytes.length ≤ 9216)

/-- Largest payload of a format, and whether a remote frame exists in it (R169, R209). -/
def BusFmt.room (f : BusFmt) : Nat :=
  match f with
  | .classical => 8
  | .fd => 64
  | .fdBrs => 64
  | .xl => 2048
  | .lin => 8

/-- Identifier and payload fit the format. -/
def BusFrame.wf (f : BusFrame) : Bool :=
  decide (f.data.length ≤ f.fmt.room) && (!f.remote || f.fmt = .classical) &&
    (if f.fmt = .lin then !f.ext && decide (f.ident.val < 64)
     else if f.fmt = .xl then !f.ext && decide (f.ident.val < 2048) && decide (1 ≤ f.data.length)
     else f.ext || decide (f.ident.val < 2048))

/-- An access of at most one BAR0 aperture block. -/
def HostAccess.wf (a : HostAccess) : Bool :=
  match a with
  | .read n => decide (1 ≤ n) && decide (n ≤ 4096)
  | .write l => decide (1 ≤ l.length) && decide (l.length ≤ 4096)

/-- The senders of a command can form it. -/
def Instr.wf (i : Instr) : Bool :=
  match i with
  | .dictionaryWrite _ _ _ off data => decide (off.val + data.length ≤ 4096)
  | .sdoRequest _ data => data.length == 8
  | .pxpOpen _ msg => decide (msg.length ≤ 1428)
  | .pxpProve _ msg => decide (msg.length ≤ 1428)
  | .pxpRead _ msg => decide (msg.length ≤ 1428)
  | .pxpWrite _ msg => decide (msg.length ≤ 1428)
  | .pxpKeepalive _ msg => decide (msg.length ≤ 1428)
  | .pxpClose _ msg => decide (msg.length ≤ 1428)
  | .mailboxWrite _ _ _ _ _ _ data => decide (data.length ≤ 4096)
  | .spiWrite _ _ _ _ _ data _ => decide (data.length ≤ 256)
  | .ethernetFrameReceive _ f => f.wf
  | .canFrameReceive _ f _ => f.wf && f.fmt ≠ .lin
  | .guardSpoof _ _ f => f.wf
  | .linResponseReceive _ r => decide (r.data.length ≤ 8)
  | .remoteApertureAccess off a => decide (0x8000 ≤ off.val) && a.wf
  | .transportFrameReceive f => decide (f.length ≤ 1078)
  | .helloReceive f => decide (f.length ≤ 1078)
  | .descriptorFetch _ l => l.length % 32 == 0 && decide (1 ≤ l.length / 32) && decide (l.length / 32 ≤ 8)
  | .phaseReread _ l => l.length == 32
  | .transmitFrameFromHost _ f _ => decide (f.length ≤ 9212)
  | .copyDescriptor _ l _ => decide (l.length < 16777216)
  | .credentialResponse _ l => l.length == 97
  | .idRecordRead _ _ l => decide (l.length ≤ 128)
  | .grantReceive m => decide (m.length ≤ 32)
  | .releaseReceive m => decide (m.length ≤ 32)
  | .leaseAckReceive _ m => decide (m.length ≤ 32)
  | .healthReportReceive m => decide (m.length ≤ 32)
  | .pcieLinkUp g n => decide (1 ≤ g.val) && (n.val == 1 || n.val == 2 || n.val == 4)
  | _ => true

end Sys2Proof
end

