-- ==== Sys2Proof/Tests/Slice0.lean ====
section
/-!
SUPPORT. Slice0.lean: ill-formed commands that WellFormed refuses, and states and operands that meet the hypotheses of the statements.
-/
set_option linter.unusedVariables false
-- One declaration after the other: it keeps the memory of the package as one text within bounds.
set_option Elab.async false

namespace Sys2Proof.Tests
open Sys2Proof Sys2Proof.Machine

/-! ### States -/

/-- A device in Operate, its dictionary within reach. -/
def on : State :=
  { State.reset with
    dev := .operate
    access := { State.reset.access with coreUp := true, available := true }
    time := { State.reset.time with tclk := true }
    power := { State.reset.power with loaded := true } }

/-- A committed object or table field is set. -/
def withCfg (i j v : Nat) (s : State) : State := { s with cfg := { s.cfg with objs := sset s.cfg.objs (okey i j) v } }

def withCfgE (e i j v : Nat) (s : State) : State := { s with cfg := { s.cfg with objs := sset s.cfg.objs (ekey e i j) v } }

/-- Time has come to ns nanoseconds. -/
def atNs (ns : Nat) (s : State) : State := { s with time := { s.time with wall := ns, loc := ns * 2 ^ 32, mono := ns * 2 ^ 32 } }

/-- Port 3 enabled in mode 5 with its pecks granted, and a record that fits port 1. -/
def bbUp : State :=
  setRegE 8 0x5001 5 2 (setReg (0x3F10) 0x0A 2 (setReg 0x5020 2 0xFFFFFF (withCfg (pB 3) 1 1 (withCfg (pB 3) 2 3 (withCfg (pI 3) 1 0 on)))))

def spUp : State := setRegE 29 0x5001 5 2 (setReg 0x3F10 0x0A 2 (setReg 0x5020 2 0xFFFFFF (withCfg (pB 20) 1 1 on)))

/-- An unsigned record for port 1 (R73): mode 0x03 at rate code 6. -/
def goodRecord : List Byte :=
  let l : Bytes := [0x51, 0x5A, 1, 1, 0, 6, 3, 1, 1, 1] ++ List.replicate 52 0
  l ++ leBytes 2 (crc16 0xFFFF l) ++ List.replicate 64 0

/-- PXP enabled, its TRNG at work. -/
def pxpOn : State := setReg 0x6000 8 1 (setReg 0x1210 4 10 (withCfg 0x1210 1 1 on))

def pxpSes (phase role : Nat) : PxpSession := ⟨phase, 0, ⟨1, 2⟩, role, [], [], 0, 0, [], 0⟩

/-- An OPEN of 41 bytes, version 1. -/
def pxpOpenMsg : List Byte := [1, 1] ++ List.replicate 39 0

def pxpClient : PxpSource := ⟨1, 2⟩

/-- A message of session 0 with sequence number 5, without its CMAC. -/
def pxpBody0 : List Byte := [1, 3, 0, 0, 5, 0, 0, 0] ++ List.replicate 8 0

/-- The SPI slave is enabled and a result waits. -/
def spiWaits : State := { withCfg 0x1230 1 1 on with access := { on.access with spi := some (0, [1, 2]) } }

/-- In Configure, the lock with the SPI session. -/
def inConf : State := { on with dev := .configure, access := { on.access with holder := some .spi } }

/-- A staged configuration whose source 0x26 has a class that is not its own, in validation. -/
def badCommit : State := stage 0x5926 2 0 { inConf with access := { inConf.access with validating := true } }

/-- One frame, one copy of it, its decision with no pass-pair left, and a bus record. -/
def oneDec : Decision :=
  { id := 0, bus := false, lane := 0, source := 3, zone := 0, zones := [0], epoch := 0, express := [], final := [], pairs := [], retry := false
    deep := false, outcome := 0, malformed := false, checks := 0, flow := 0, noHits := false, trapMP := false }

def oneFrame : Frame :=
  { id := 0, data := List.replicate 60 0, port := 3, err := 0, errAt := 0, length := 64, stored := false, epoch := 0, vid := 1, fid := 1
    prio := 0, dei := false, tpid := 0, tagged := false, colour := 0, bushel := 0, ells := [0], used := false, cand := [], mirrors := []
    sink := 0, stream := none, entry := none, streamDeep := false, rtag := none, seqGen := none, stamp := 0, declared := 0, lenField := 0
    sample := 14, rel := 14, early := [], staged := none, released := false }

def oneCopy : Copy :=
  { frame := 0, port := 31, queue := 0, charge := 1, mirror := none, cut := false, stomp := 0, rewrite := false, since := 0, endAt := 0
    data := List.replicate 60 0 }

def oneRec : BusRec :=
  { id := 0, stamp := 0, frame := ⟨.classical, false, false, 5, 0, 0, 0, false, false, false, 0, []⟩, source := 33, busId := 0, ethPort := 0, ells := []
    epoch := 0, routes := [], server := none, permitted := [], released := false }

def oneIn : State := { on with decs := [oneDec], buf := { buf0 with frames := [oneFrame], fresh := 1, nextFrame := 1 } }

/-- Port 3 runs a list of two entries. -/
def gatedOn : State := { withCfg 0x3503 1 1 on with gates := [(3, ⟨some ⟨0, 1000, 0, [(500, 1, 0), (500, 2, 0)]⟩, none, 0⟩)] }

/-- CAN engine 5 error-active with one slot; the same under a lease that has ended; LIN bus 2 as a responder. -/
def oneSlot : Slot := ⟨7, oneRec.frame, 0, false, none, false⟩

def fdSlot : Slot := { oneSlot with locked := true, frame := { oneRec.frame with fmt := .fd } }

def canOn : State := setReg (cE 5 + 3) 3 2 (setReg (cE 5 + 2) 1 3 (setCan 5 { canSt0 with slots := [oneSlot] } on))

def leasedCan : State := { setReg 0x5400 1 1 (setReg 0x5401 2 1 (withCfg 0x5400 3 32 canOn)) with pair := { pair0 with monoEnd := 10 } }

def linHeard : State := withCfg (lB 2) 2 1 (setReg (lB 2 + 3) 1 4 (setLin 2 { linSt0 with mode := 3 } on))

/-- Route 7 is periodic, its period over; an AVTP frame of stream 0 and its header. -/
def periodicOn : State := withCfgE 7 0x3C10 2 1 (withCfgE 7 0x3C10 0x0E 1 (atNs 1000000000 on))

def avtpFrame : List Byte := List.replicate 12 0 ++ [0x22, 0xF0, 0x82, 0, 0, 0] ++ List.replicate 8 0

def avtpHead : Avtp := ⟨26, 0, 0, 0⟩

/-- Port 3 is up and the slave and capable port of steering instance 0. -/
def slaveOn : State :=
  withCfg 0x3800 3 1 (withCfg 0x3810 1 1 (withCfg 0x3823 1 1 (withCfg 0x3823 2 2 (setReg 0x3823 0x0A 1 (setReg (pS 3) 1 1 bbUp)))))

/-- Five seconds after the start, cluster 0 (CAN engine 5) in a given state; all that a state of the device's wake needs. -/
def clusterIn (v : Nat) : State := atNs 5000000000 (setReg (nP 0) 0x0A v (withCfg (nP 0) 1 32 on))

/-- The device asleep at a depth, all its supplies up. -/
def asleep (depth : Nat) : State :=
  let s := clusterIn 0
  { s with dev := .boot, access := { s.access with coreUp := false, available := false }, power := { s.power with sleep := depth, reset := 0, busUp := true, aonUp := true } }

/-- Awake, supplies up, no reset asserted. -/
def awakeOn : State := atNs 1000000000 { on with power := { on.power with reset := 0, sleep := 0, busUp := true, aonUp := true, extending := none } }

def wakeOf (f : WakeSt → WakeSt) (s : State) : State := { s with wake := f s.wake }

def powerOf (f : PowerSt → PowerSt) (s : State) : State := { s with power := f s.power }

def fwInfo : ImageInfo := ⟨1, 0, 0, false, 0⟩

def confImage : ConfigImage := ⟨fwInfo, [], [], []⟩

/-- A member of pair 0 and its referee, a second after the start; a member that reports, able and synchronised. -/
def memberOn : State := atNs 1000000000 (setReg 0x5400 1 1 (withCfg 0x5400 5 1 on))

def refereeOn : State := atNs 1000000000 (setReg 0x5400 1 3 (withCfg (rP 0) 1 1 on))

def reporting (m : Nat) (s : State) : State := setMember 0 m { memberSt0 with at_ := some (wall s), state := 2, eligible := true } s

/-- The backbone transport enabled, a second after the start, and with the link to device 1 up. -/
def transOn : State := withCfg 0x5C20 1 1 awakeOn

def linkOn : State := setReg (pP 1) 3 1 (setReg (pP 1) 1 1 transOn)

/-- The PCIe link up. -/
def pcieOn : State := setReg 0x5020 2 0xFFFFFF (setReg 0x5C00 1 2 { awakeOn with bridge := { awakeOn.bridge with perst := false } })

/-- Ethernet header of a frame of the transport, and the first four bytes of a transport header of a type, from device 1 to device 0. -/
def transEth : List Byte := List.replicate 12 0 ++ [0x88, 0xB5]

def transHead (type cls : Byte) : List Byte := [1, type, 1 + 64 * cls, 0] ++ [0, 0, 1, 0] ++ List.replicate 20 0

/-- Channel 3 running, of a kind, its ring of 256 descriptors with ten posted. -/
def dmaOn (kind : Nat) : State := setReg (dP 3) 0x0A 10 (setReg (dP 3) 0x0D 2 (withCfg (dP 3) 1 kind pcieOn))

/-- A receive or transmit descriptor of the expected phase: a buffer of 64 bytes, end of frame. -/
def desc1 : List Byte := List.replicate 16 0 ++ [64, 0, 0, 0, 5, 0, 0, 0] ++ List.replicate 8 0

def dmaHolds (kind : Nat) : State := setDma 3 { dma 3 (dmaOn kind) with fetched := [(0, desc1)] } (dmaOn kind)

/-- A copy of 64 bytes from host memory to an object that does not exist. -/
def copyRefused : List Byte := List.replicate 16 0 ++ [64, 0, 0, 0, 1, 0, 2, 0] ++ List.replicate 8 0

/-- A frame that port 30 has dequeued, with a buffer of 128 bytes in hand. -/
def hostFrameWaits : State :=
  let d : List Byte := List.replicate 16 0 ++ [128, 0, 0, 0, 5, 0, 0, 0] ++ List.replicate 8 0
  let s := setDma 3 { dma 3 (dmaOn 1) with fetched := [(0, d)] } (dmaOn 1)
  setEgr 30 { egr 30 s with cur := some { oneCopy with port := 30 } } { s with buf := { oneIn.buf with frames := [{ oneFrame with released := true }] } }

/-- The same with a buffer of 64 bytes. -/
def hostFrameLong : State := setDma 3 { dma 3 hostFrameWaits with fetched := [(0, desc1)] } hostFrameWaits

/-- The SPI session holds a role. -/
def asRank (r : Nat) (s : State) : State := { s with crust := { s.crust with roles := [(0x30, r)] } }

/-- The TRNG works. -/
def trngOn : State := setReg 0x6000 8 1 on

/-- Slot n holds a key of a type and usage. -/
def keyed (n type usage : Nat) (s : State) : State := { s with crust := { s.crust with slots := tset keySlot0 s.crust.slots n ⟨type, usage, 1, false, 5⟩ } }

/-- Slot 5 is selected, the input holds a blob for it with usage SecOC. -/
def blobIn : State := asRank 2 (setReg 0x6020 7 (5 + 256 * 1 + 2 ^ 16 * 8) (setReg 0x6020 1 5 on))

def sealed1 : SealedRec := ⟨1, 1, 0, 0, 0, 0, [], 0, 0⟩

def logged (s : State) : State := { s with crust := { s.crust with flash := [sealed1] } }

def macsecNear : State :=
  withCfg (pM 3) 1 1 (setSa (saKey 3 0 0 0) { secAssoc0 with nextPn := 0xC0000000 } on)

def exporting1 : State := { logged on with crust := { (logged on).crust with exporting := some (1, 1) } }

def upd (f : UpdateSt → UpdateSt) (s : State) : State := { s with update := f s.update }

/-- The recovery loader runs, with no result waiting; the CRC of a loader request. -/
def loaderOn : State := powerOf (fun p => { p with recovery := true, reset := 0 }) { on with access := { on.access with spi := none } }

def loaderCrc (op : Nat) (data : List Byte) : Fin 65536 := Fin.ofNat _ (crc16 0xFFFF (loaderHeader op 1 0 data.length ++ data))

/-- A firmware package of four bytes is expected and held. -/
def packIn (st : Nat) : State :=
  upd (fun u => { u with package := [1, 2, 3, 4], armed := 0 }) (setReg 0x6800 1 1 (setReg 0x6800 2 0 (setReg 0x6800 3 4 (setReg 0x6800 7 st (asRank 1 on)))))

/-- A proofing window of firmware has been open for a second, its time 0. -/
def proofing : State := upd (fun u => { u with proof := 1, openedAt := 0 }) (withCfg 0x6810 1 1 (asRank 1 awakeOn))

/-! ### Ill-formed commands: one for each check of WellFormed -/

def busFrame (fmt : BusFmt) (ext remote : Bool) (ident : Fin 536870912) (n : Nat) : BusFrame :=
  ⟨fmt, ext, remote, ident, 0, 0, 0, false, false, false, 0, List.replicate n 0⟩

def ethFrame (n : Nat) : EthFrame := ⟨List.replicate n 0, true, .sfd, false⟩

theorem test_wf_write_past_offset : Instr.wf (.dictionaryWrite .spi 0x1000 1 4095 [0, 0]) = false := by decide
theorem test_wf_sdo_frame_length : Instr.wf (.sdoRequest 0 [0, 0, 0]) = false := by decide
theorem test_wf_pxp_open : Instr.wf (.pxpOpen ⟨1, 2⟩ (List.replicate 1429 0)) = false := by decide +kernel
theorem test_wf_pxp_prove : Instr.wf (.pxpProve ⟨1, 2⟩ (List.replicate 1429 0)) = false := by decide +kernel
theorem test_wf_pxp_read : Instr.wf (.pxpRead ⟨1, 2⟩ (List.replicate 1429 0)) = false := by decide +kernel
theorem test_wf_pxp_write : Instr.wf (.pxpWrite ⟨1, 2⟩ (List.replicate 1429 0)) = false := by decide +kernel
theorem test_wf_pxp_keepalive : Instr.wf (.pxpKeepalive ⟨1, 2⟩ (List.replicate 1429 0)) = false := by decide +kernel
theorem test_wf_pxp_close : Instr.wf (.pxpClose ⟨1, 2⟩ (List.replicate 1429 0)) = false := by decide +kernel
theorem test_wf_mailbox_data : Instr.wf (.mailboxWrite 0 0 0 0 0 0 (List.replicate 4097 0)) = false := by decide +kernel
theorem test_wf_spi_data : Instr.wf (.spiWrite 0 0 0 0 0 (List.replicate 257 0) 0) = false := by decide +kernel
theorem test_wf_eth_short : Instr.wf (.ethernetFrameReceive 0 (ethFrame 13)) = false := by decide
theorem test_wf_eth_long : Instr.wf (.ethernetFrameReceive 0 (ethFrame 9217)) = false := by decide +kernel
theorem test_wf_bus_payload : Instr.wf (.canFrameReceive 0 (busFrame .classical false false 1 9) 0) = false := by decide
theorem test_wf_bus_remote_fd : Instr.wf (.canFrameReceive 0 (busFrame .fd false true 1 0) 0) = false := by decide
theorem test_wf_bus_base_ident : Instr.wf (.canFrameReceive 0 (busFrame .fd false false 2048 0) 0) = false := by decide
theorem test_wf_bus_xl_empty : Instr.wf (.canFrameReceive 0 (busFrame .xl false false 1 0) 0) = false := by decide
theorem test_wf_bus_xl_ident : Instr.wf (.canFrameReceive 0 (busFrame .xl false false 2048 1) 0) = false := by decide
theorem test_wf_bus_xl_extended : Instr.wf (.canFrameReceive 0 (busFrame .xl true false 1 1) 0) = false := by decide
theorem test_wf_can_not_lin : Instr.wf (.canFrameReceive 0 (busFrame .lin false false 1 1) 0) = false := by decide
theorem test_wf_spoof_lin_ident : Instr.wf (.guardSpoof 48 .foreign (busFrame .lin false false 64 1)) = false := by decide
theorem test_wf_spoof_lin_extended : Instr.wf (.guardSpoof 48 .foreign (busFrame .lin true false 1 1)) = false := by decide
theorem test_wf_lin_response : Instr.wf (.linResponseReceive 0 ⟨List.replicate 9 0, true, true, false, false⟩) = false := by decide
theorem test_wf_aperture_offset : Instr.wf (.remoteApertureAccess 0x7FFF (.read 4)) = false := by decide
theorem test_wf_aperture_read_none : Instr.wf (.remoteApertureAccess 0x8000 (.read 0)) = false := by decide
theorem test_wf_aperture_read_long : Instr.wf (.remoteApertureAccess 0x8000 (.read 4097)) = false := by decide
theorem test_wf_aperture_write_none : Instr.wf (.remoteApertureAccess 0x8000 (.write [])) = false := by decide
theorem test_wf_aperture_write_long : Instr.wf (.remoteApertureAccess 0x8000 (.write (List.replicate 4097 0))) = false := by decide +kernel
theorem test_wf_transport : Instr.wf (.transportFrameReceive (List.replicate 1079 0)) = false := by decide +kernel
theorem test_wf_hello : Instr.wf (.helloReceive (List.replicate 1079 0)) = false := by decide +kernel
theorem test_wf_descriptor_part : Instr.wf (.descriptorFetch 0 (List.replicate 31 0)) = false := by decide
theorem test_wf_descriptor_none : Instr.wf (.descriptorFetch 0 []) = false := by decide
theorem test_wf_descriptor_many : Instr.wf (.descriptorFetch 0 (List.replicate 288 0)) = false := by decide +kernel
theorem test_wf_phase_reread : Instr.wf (.phaseReread 0 (List.replicate 64 0)) = false := by decide
theorem test_wf_transmit : Instr.wf (.transmitFrameFromHost 0 (List.replicate 9213 0) .good) = false := by decide +kernel
theorem test_wf_copy (l : List Byte) (h : l.length = 16777216) : Instr.wf (.copyDescriptor 0 l .good) = false := by simp [Instr.wf, h]
theorem test_wf_credential : Instr.wf (.credentialResponse .spi [0]) = false := by decide
theorem test_wf_id_record : Instr.wf (.idRecordRead 0 true (List.replicate 129 0)) = false := by decide +kernel
theorem test_wf_grant : Instr.wf (.grantReceive (List.replicate 33 0)) = false := by decide
theorem test_wf_release : Instr.wf (.releaseReceive (List.replicate 33 0)) = false := by decide
theorem test_wf_ack : Instr.wf (.leaseAckReceive 0 (List.replicate 33 0)) = false := by decide
theorem test_wf_health : Instr.wf (.healthReportReceive (List.replicate 33 0)) = false := by decide
theorem test_wf_link_gen : Instr.wf (.pcieLinkUp 0 1) = false := by decide
theorem test_wf_link_lanes : Instr.wf (.pcieLinkUp 3 3) = false := by decide
theorem test_wf_good_frame : Instr.wf (.canFrameReceive 0 (busFrame .xl false false 5 1) 0) = true := by decide

/-! ### States of the statements about every command -/

theorem witness_storesOk : Stores.ok on ∧ Stores.ok (setReg 0x7000 1 5 on) := by
  unfold Stores.ok; decide +kernel

theorem witness_equalStores :
    tabWf keyDflt [(0x200001, 7)] = true ∧ ∀ k, sget [(0x200001, 7)] k = sget [(0x200001, 7)] k :=
  ⟨by decide +kernel, fun _ => rfl⟩

theorem witness_step_steprunsthefrontcommand1 :
    (fun (s : State) =>
      (s.pending = [])) (on) := by
  beta_reduce; decide +kernel

theorem witness_bytes_valuesarecarriedasbytes0 :
    (fun (n v : Nat) =>
      (v < 256 ^ n)) (3) (0x123456) := by
  beta_reduce; decide +kernel

theorem witness_bytes_valuesarecarriedasbytes2 :
    (fun (t : Nat) =>
      (t / 1000000000 < 2 ^ 48)) (1234567890123) := by
  beta_reduce; decide +kernel

theorem witness_count_counterssaturate0 :
    (fun (k i j : Nat) (s : State) =>
      (reg i j s ≤ 0xFFFFFFFF)) (3) (0x7000) (1) (setReg 0x7000 1 0xFFFFFFFE on) := by
  beta_reduce; decide +kernel

theorem witness_refill_coupledmetertokens0 :
    (fun (b : Bank) (m now : Nat) (x : MeterSt) =>
      (bit (bkE b m 0x3230 6) 1 = true)) ((withCfgE 3 0x3230 6 2 on).cfg) (3) (10) (⟨65536, 0, 5, 0, 0⟩) := by
  beta_reduce; decide +kernel

theorem witness_refill_coupledmetertokens1 :
    (fun (b : Bank) (m now : Nat) (x : MeterSt) =>
      (bit (bkE b m 0x3230 6) 1 = false)) (on.cfg) (3) (10) (⟨65536, 0, 5, 0, 0⟩) := by
  beta_reduce; decide +kernel

theorem witness_source_fire_reservedsourcesareinert0 :
    (fun (n : Fin 256) (d : Nat) (s : State) =>
      (sourceRow n.val = none)) (0x0F) (3) (on) := by
  beta_reduce; decide +kernel

theorem witness_source_fire_reservedsourcesareinert1 :
    (fun (n : Fin 256) (d : Fin 4294967296) (s : State) =>
      (sourceRow n.val = none) ∧
      (s.faults.due = [])) (0x0F) (3) (on) := by
  beta_reduce; decide +kernel

theorem witness_dictionary_write_reservedsourcesareinert2 :
    (fun (ses : Session) (n : Fin 256) (s : State) =>
      (sourceRow n.val = none)) (.spi) (0x0F) (on) := by
  beta_reduce; decide +kernel

theorem witness_dictionary_write_reservedsourcesareinert3 :
    (fun (ses : Session) (n : Fin 256) (i : Fin 65536) (j : Fin 256) (o : Fin 4096) (l : List Byte) (s : State) =>
      (Served ses s) ∧
      (ses ≠ .bar0) ∧
      (s.faults.due = []) ∧
      (sourceRow n.val = none) ∧
      (i.val = 0x5900 + n.val) ∧
      (existCode i.val j.val = 0)) (.spi) (0x0F) (0x590F) (1) (0) ([1]) (on) := by
  beta_reduce; decide +kernel

theorem witness_lin_table_request_lintablewriteswaitfortheslot0 :
    (fun (ses : Session) (m : Fin 16) (t : Byte) (s : State) =>
      (Served ses s) ∧
      (s.dev ≠ .terminal) ∧
      (t.toNat ≤ 7 ∨ t.toNat = 0xFF) ∧
      (cfg (lB m.val) 2 s = 0)) (.spi) (2) (0xFF) (setLin 2 { linSt0 with req := some (3, 1) } on) := by
  beta_reduce; decide +kernel

theorem witness_lin_slot_start_lintablewriteswaitfortheslot1 :
    (fun (m : Fin 16) (s : State) =>
      (nowNs s < (lin m.val s).slotEnd)) (2) (setLin 2 { linSt0 with slotEnd := 5000 } on) := by
  beta_reduce; decide +kernel

theorem witness_lin_slot_start_lintablewriteswaitfortheslot2 :
    (fun (m : Fin 16) (t e : Nat) (s : State) =>
      (schedulesRun s = true) ∧
      (commands m.val s = true) ∧
      (nowNs s % max 1 (linBase m.val s) < 1000) ∧
      ((lin m.val s).slotEnd ≤ nowNs s) ∧
      ((lin m.val s).notBefore ≤ nowNs s) ∧
      ((lin m.val s).own = false) ∧
      ((lin m.val s).toSleep = false) ∧
      ((lin m.val s).req = some (t, e)) ∧
      (t ≤ 7)) (2) (3) (1) (setReg (lB 2 + 1) 3 0 (setReg (lB 2 + 3) 1 3 (setLin 2 { linSt0 with mode := 3, req := some (3, 1) } on))) := by
  beta_reduce; decide +kernel

theorem witness_lin_slot_start_lintablewriteswaitfortheslot3 :
    (fun (m : Fin 16) (e : Nat) (s : State) =>
      (schedulesRun s = true) ∧
      (commands m.val s = true) ∧
      (nowNs s % max 1 (linBase m.val s) < 1000) ∧
      ((lin m.val s).slotEnd ≤ nowNs s) ∧
      ((lin m.val s).notBefore ≤ nowNs s) ∧
      ((lin m.val s).own = false) ∧
      ((lin m.val s).toSleep = false) ∧
      ((lin m.val s).req = some (0xFF, e))) (2) (1) (setReg (lB 2 + 1) 3 0 (setReg (lB 2 + 3) 1 3 (setLin 2 { linSt0 with mode := 3, req := some (0xFF, 1) } on))) := by
  beta_reduce; decide +kernel

theorem witness_configure_request_theconfigurelockanditscommit0 :
    (fun (ses : Session) (s : State) =>
      (Served ses s) ∧
      (s.dev = .operate) ∧
      (bit s.update.proof 1 = false)) (.spi) (on) := by
  beta_reduce; decide +kernel

theorem witness_configure_request_theconfigurelockanditscommit1 :
    (fun (ses h : Session) (s : State) =>
      (Served ses s) ∧
      (s.dev = .configure) ∧
      (s.access.holder = some h) ∧
      (h ≠ ses) ∧
      (s.faults.due = [])) (.spi) (.mailbox 0) ({ on with dev := .configure, access := { on.access with holder := some (.mailbox 0) } }) := by
  beta_reduce; decide +kernel

theorem witness_commit_theconfigurelockanditscommit2 :
    (fun (ses : Session) (s : State) =>
      (Served ses s) ∧
      (s.dev = .configure) ∧
      (s.access.holder = some ses) ∧
      (s.access.validating = false) ∧
      (reg 0x6800 7 s ≠ 2)) (.spi) ({ on with dev := .configure, access := { on.access with holder := some .spi } }) := by
  beta_reduce; decide +kernel

theorem witness_commit_validation_complete_theconfigurelockanditscommit3 :
    (fun (h : Session) (s : State) =>
      (s.access.holder = some h) ∧
      (s.access.validating = true) ∧
      (s.dev = .configure) ∧
      (s.sieve.waitingWrites = []) ∧
      (firstOffence (commitChecks (roleOf h s) s.cfg s.staged { s with sieve := { s.sieve with waitingWrites := [], refreshing := false } }) = none)) (.spi) ({ on with dev := .configure, access := { on.access with holder := some .spi, validating := true } }) := by
  beta_reduce; decide +kernel

theorem witness_commit_validation_complete_theconfigurelockanditscommit4 :
    (fun (h : Session) (x : Nat × Nat × Nat) (s : State) =>
      (s.access.holder = some h) ∧
      (s.access.validating = true) ∧
      (s.dev = .configure) ∧
      (s.sieve.waitingWrites = []) ∧
      (firstOffence (commitChecks (roleOf h s) s.cfg s.staged { s with sieve := { s.sieve with waitingWrites := [], refreshing := false } }) = some x)) (.spi) ((0x5926, 2, 0x06090030)) (badCommit) := by
  beta_reduce; decide +kernel

theorem witness_discard_theconfigurelockanditscommit5 :
    (fun (ses : Session) (s : State) =>
      (Served ses s) ∧
      (s.dev = .configure) ∧
      (s.access.holder = some ses) ∧
      (s.access.validating = false)) (.spi) ({ on with dev := .configure, access := { on.access with holder := some .spi } }) := by
  beta_reduce; decide +kernel

theorem witness_configure_idle_release_theconfigurelockanditscommit6 :
    (fun (h : Session) (s : State) =>
      (s.dev = .configure) ∧
      (s.access.holder = some h) ∧
      (s.access.validating = false) ∧
      (due s.access.holderSince (reg 0x1002 3 s * 1000000000) s = true)) (.spi) (atNs 60000000000 (setReg 0x1002 3 60 { on with dev := .configure, access := { on.access with holder := some .spi } })) := by
  beta_reduce; decide +kernel

theorem witness_session_loss_theconfigurelockanditscommit7 :
    (fun (n : Fin 4) (s : State) =>
      (Past s) ∧
      (s.access.holder ≠ some (.sdo n)) ∧
      (s.faults.due = [])) (1) ({ on with crust := { on.crust with roles := [(1, 2)] } }) := by
  beta_reduce; decide +kernel

theorem witness_session_loss_theconfigurelockanditscommit8 :
    (fun (n : Fin 4) (s : State) =>
      (Past s) ∧
      (s.access.holder = some (.sdo n)) ∧
      (s.dev = .configure)) (1) ({ on with dev := .configure, access := { on.access with holder := some (.sdo 1) } }) := by
  beta_reduce; decide +kernel

theorem witness_dictionary_write_dictionarywritesbyaccessclass0 :
    (fun (ses : Session) (i : Fin 65536) (j : Fin 256) (o : Fin 4096) (l : List Byte) (s : State) =>
      (Served ses s) ∧
      (ses ≠ .bar0) ∧
      (s.faults.due = []) ∧
      (existCode i.val j.val ≠ 0) ∧
      (i.val ≠ 0x1002 ∧ i.val ≠ 0x5050)) (.spi) (0x110D) (1) (0) ([0]) (on) := by
  beta_reduce; decide +kernel

theorem witness_dictionary_write_dictionarywritesbyaccessclass1 :
    (fun (ses : Session) (i : Fin 65536) (j : Fin 256) (o : Fin 4096) (l : List Byte) (s : State) =>
      (Served ses s) ∧
      (ses ≠ .bar0) ∧
      (s.faults.due = []) ∧
      (existCode i.val j.val = 0) ∧
      (i.val ≠ 0x1002 ∧ i.val ≠ 0x5050) ∧
      ((rowOf i.val j.val).acc = .ro ∨ (readRole i.val j.val = 0 ∧ lengthFits (rowOf i.val j.val).ty o.val l.length = false)) ∧
      (reservedRecord i.val = false)) (.spi) (0x1000) (0) (0) ([0]) (on) := by
  beta_reduce; decide +kernel

theorem witness_dictionary_write_dictionarywritesbyaccessclass2 :
    (fun (ses : Session) (i : Fin 65536) (j : Fin 256) (l : List Byte) (s : State) =>
      (Served ses s) ∧
      (ses ≠ .bar0) ∧
      (s.faults.due = []) ∧
      (existCode i.val j.val = 0) ∧
      ((rowOf i.val j.val).acc = .w1c) ∧
      (readRole i.val j.val = 0) ∧
      (isOctet (rowOf i.val j.val).ty = false) ∧
      (l.length = (rowOf i.val j.val).ty.size) ∧
      (i.val ≠ 0x1002 ∧ i.val ≠ 0x5050) ∧
      (reservedSet i.val j.val (leNat l) (touch ses s) = false) ∧
      (checkValue i.val j.val (leNat l) (rowOf i.val j.val) (touch ses s) = 0) ∧
      (reservedRecord i.val = false)) (.spi) (0x1003) (6) ([1,0,0,0]) (on) := by
  beta_reduce; decide +kernel

theorem witness_dictionary_write_dictionarywritesbyaccessclass3 :
    (fun (ses : Session) (i : Fin 65536) (j : Fin 256) (l : List Byte) (s : State) =>
      (Served ses s) ∧
      (ses ≠ .bar0) ∧
      (s.dev = .configure) ∧
      (s.access.holder = some ses) ∧
      (s.access.validating = false) ∧
      (s.faults.due = []) ∧
      (existCode i.val j.val = 0) ∧
      ((rowOf i.val j.val).acc = .rwc) ∧
      (readRole i.val j.val = 0) ∧
      (isOctet (rowOf i.val j.val).ty = false) ∧
      (l.length = (rowOf i.val j.val).ty.size) ∧
      (i.val < 0x4000 ∨ 0x4050 ≤ i.val) ∧
      (i.val ≠ 0x1002 ∧ i.val ≠ 0x5050) ∧
      (reservedSet i.val j.val (leNat l) (touch ses s) = false) ∧
      (checkValue i.val j.val (leNat l) (rowOf i.val j.val) (touch ses s) = 0) ∧
      (reservedRecord i.val = false)) (.spi) (0x2000) (1) ([1]) ({ on with dev := .configure, access := { on.access with holder := some .spi } }) := by
  beta_reduce; decide +kernel

theorem witness_dictionary_write_dictionarywritesbyaccessclass4 :
    (fun (i : Fin 65536) (j : Fin 256) (o : Fin 4096) (l : List Byte) (s : State) =>
      (Past s) ∧
      (bar0Up s = true) ∧
      (isHot i.val j.val = false)) (0x2000) (1) (0) ([1]) (setReg 0x5C00 1 2 on) := by
  beta_reduce; decide +kernel

theorem witness_sdo_request_sdoserversanswer0 :
    (fun (n : Fin 4) (l : List Byte) (s : State) =>
      (pathOn (.sdo n) s = true) ∧
      (l.length = 8) ∧
      (byteAt l 0 ≠ 0x80) ∧
      (reachable s = false)) (0) ([0x40, 0, 0x10, 0, 0, 0, 0, 0]) ({ on with dev := .headless }) := by
  beta_reduce; decide +kernel

theorem witness_sdo_request_sdoserversanswer1 :
    (fun (n : Fin 4) (l : List Byte) (s : State) =>
      (pathOn (.sdo n) s = true) ∧
      (l.length = 8) ∧
      (reachable s = true) ∧
      (sdoOpen n.val (touch (.sdo n) s) = none) ∧
      (sdoOpen n.val s = none) ∧
      (byteAt l 0 = 0x21) ∧
      (leNat (slice 4 4 l) ≤ 4096)) (0) ([0x21, 0, 0x40, 1, 16, 0, 0, 0]) (on) := by
  beta_reduce; decide +kernel

theorem witness_sdo_request_sdoserversanswer2 :
    (fun (n : Fin 4) (x : SdoTransfer) (l : List Byte) (s : State) =>
      (pathOn (.sdo n) s = true) ∧
      (l.length = 8) ∧
      (reachable s = true) ∧
      (sdoOpen n.val (touch (.sdo n) s) = some x) ∧
      (sdoOpen n.val s = some x) ∧
      (x.upload = false) ∧
      (x.block = false) ∧
      (x.toggle = false) ∧
      (x.buf.length ≤ 4089) ∧
      (byteAt l 0 = 0)) (0) (⟨false, false, 0x4001, 1, [], 16, false, 0, 0, false, false, 0⟩) ([0, 1, 2, 3, 4, 5, 6, 7]) (setSdo 0 (some ⟨false, false, 0x4001, 1, [], 16, false, 0, 0, false, false, 0⟩) on) := by
  beta_reduce; decide +kernel

theorem witness_sdo_segment_timeout_sdoserversanswer3 :
    (fun (n : Fin 4) (x : SdoTransfer) (s : State) =>
      (sdoOpen n.val s = some x) ∧
      (due x.since (ms (reg (0x1200 + n.val) 5 s)) s = true)) (0) (⟨false, false, 0x4001, 1, [], 16, false, 0, 0, false, false, 0⟩) (atNs 5000000000 (setSdo 0 (some ⟨false, false, 0x4001, 1, [], 16, false, 0, 0, false, false, 0⟩) on)) := by
  beta_reduce; decide +kernel

theorem witness_pxp_open_pxpsessionsareserved0 :
    (fun (src : PxpSource) (msg : List Byte) (n : Nat) (s : State) =>
      (bridgeOn s = true) ∧
      (cfg 0x1210 1 s = 1) ∧
      (24 ≤ msg.length) ∧
      (byteAt msg 0 = 1) ∧
      ((pxpData msg).length = 17) ∧
      (s.access.opens = []) ∧
      (0 < reg 0x1210 4 s) ∧
      (reachable s = true) ∧
      (trngWorks s = true) ∧
      (((List.range 8).find? fun n => (pxp n s).isNone) = some n)) (pxpClient) (pxpOpenMsg) (0) (pxpOn) := by
  beta_reduce; decide +kernel

theorem witness_pxp_prove_pxpsessionsareserved1 :
    (fun (src : PxpSource) (msg : List Byte) (n : Fin 8) (x : PxpSession) (s : State) =>
      (bridgeOn s = true) ∧
      (cfg 0x1210 1 s = 1) ∧
      (24 ≤ msg.length) ∧
      (byteAt msg 0 = 1) ∧
      (pxpFind 1 msg s = some n) ∧
      (pxp n.val s = some x) ∧
      (x.role = 0) ∧
      (reachable s = true)) (pxpClient) (pxpOpenMsg) (0) (pxpSes 1 0) (setPxp 0 (pxpSes 1 0) pxpOn) := by
  beta_reduce; decide +kernel

theorem witness_pxp_read_pxpsessionsareserved2 :
    (fun (src : PxpSource) (body : List Byte) (n : Fin 8) (x : PxpSession) (s : State) =>
      (bridgeOn s = true) ∧
      (cfg 0x1210 1 s = 1) ∧
      (16 ≤ body.length) ∧
      (byteAt body 0 = 1) ∧
      (pxpFind 2 body s = some n) ∧
      (pxp n.val s = some x) ∧
      (x.lastIn < leNat (slice 4 4 body)) ∧
      (leNat (slice 4 4 body) < 0xFFFFFFFF)) (pxpClient) (pxpBody0) (0) (pxpSes 2 0) (setPxp 0 (pxpSes 2 0) pxpOn) := by
  beta_reduce; decide +kernel

theorem witness_pxp_write_pxpsessionsareserved3 :
    (fun (src : PxpSource) (body : List Byte) (n : Fin 8) (x : PxpSession) (s : State) =>
      (bridgeOn s = true) ∧
      (cfg 0x1210 1 s = 1) ∧
      (16 ≤ body.length) ∧
      (byteAt body 0 = 1) ∧
      (pxpFind 2 body s = some n) ∧
      (pxp n.val s = some x) ∧
      (x.lastIn < leNat (slice 4 4 body)) ∧
      (leNat (slice 4 4 body) < 0xFFFFFFFF)) (pxpClient) (pxpBody0) (0) (pxpSes 2 0) (setPxp 0 (pxpSes 2 0) pxpOn) := by
  beta_reduce; decide +kernel

theorem witness_pxp_keepalive_pxpsessionsareserved4 :
    (fun (src : PxpSource) (body : List Byte) (n : Fin 8) (x : PxpSession) (s : State) =>
      (bridgeOn s = true) ∧
      (cfg 0x1210 1 s = 1) ∧
      (16 ≤ body.length) ∧
      (byteAt body 0 = 1) ∧
      (pxpFind 2 body s = some n) ∧
      (pxp n.val s = some x) ∧
      (leNat (slice 4 4 body) < 0xFFFFFFFF)) (pxpClient) (pxpBody0) (0) (pxpSes 2 0) (setPxp 0 (pxpSes 2 0) pxpOn) := by
  beta_reduce; decide +kernel

theorem witness_pxp_close_pxpsessionsareserved5 :
    (fun (src : PxpSource) (body : List Byte) (n : Fin 8) (x : PxpSession) (s : State) =>
      (bridgeOn s = true) ∧
      (cfg 0x1210 1 s = 1) ∧
      (16 ≤ body.length) ∧
      (byteAt body 0 = 1) ∧
      (pxpFind 2 body s = some n) ∧
      (pxp n.val s = some x) ∧
      (x.lastIn < leNat (slice 4 4 body)) ∧
      (leNat (slice 4 4 body) < 0xFFFFFFFF)) (pxpClient) (pxpBody0) (0) (pxpSes 2 0) (setPxp 0 (pxpSes 2 0) pxpOn) := by
  beta_reduce; decide +kernel

theorem witness_pxp_read_pxpsessionsareserved6 :
    (fun (src : PxpSource) (msg : List Byte) (s : State) =>
      (bridgeOn s = true) ∧
      (cfg 0x1210 1 s = 1) ∧
      (24 ≤ msg.length) ∧
      (byteAt msg 0 = 1) ∧
      (pxpFind 2 msg s = none) ∧
      (reachable s = true)) (pxpClient) (pxpOpenMsg) (pxpOn) := by
  beta_reduce; decide +kernel

theorem witness_pxp_idle_timeout_pxpsessionsareserved7 :
    (fun (n : Fin 8) (x : PxpSession) (s : State) =>
      (pxp n.val s = some x) ∧
      (due x.since (reg 0x1210 3 s * 1000000000) s = true)) (0) (pxpSes 2 0) (atNs 60000000000 (setPxp 0 (pxpSes 2 0) pxpOn)) := by
  beta_reduce; decide +kernel

theorem witness_mailbox_read_mailboxesandspiareserved0 :
    (fun (m c : Fin 4) (dev : Byte) (i : Fin 65536) (j : Fin 256) (o n : Fin 65536) (s : State) =>
      (bridgeOn s = true) ∧
      (bar0Up s = true) ∧
      (mailbox m.val s = mailbox0) ∧
      (ownNumber dev.toNat s = true) ∧
      (n.val ≤ 4096)) (0) (0) (0xFF) (0x1000) (0) (0) (4) (setReg 0x5C00 1 2 on) := by
  beta_reduce; decide +kernel

theorem witness_mailbox_write_mailboxesandspiareserved1 :
    (fun (m c : Fin 4) (dev : Byte) (i : Fin 65536) (j : Fin 256) (o : Fin 65536) (l : List Byte) (s : State) =>
      (bridgeOn s = true) ∧
      (bar0Up s = true) ∧
      (mailbox m.val s = mailbox0) ∧
      (ownNumber dev.toNat s = true) ∧
      (l.length ≤ 4096)) (0) (0) (0xFF) (0x1003) (6) (0) ([1, 0, 0, 0]) (setReg 0x5C00 1 2 on) := by
  beta_reduce; decide +kernel

theorem witness_mailbox_write_mailboxesandspiareserved2 :
    (fun (m : Fin 4) (dev : Byte) (i : Fin 65536) (j : Fin 256) (o n : Fin 65536) (l : List Byte) (s : State) =>
      (bridgeOn s = true) ∧
      (bar0Up s = true) ∧
      ((mailbox m.val s).done = true)) (0) (0xFF) (0x1003) (6) (0) (4) ([1, 0, 0, 0]) (setMailbox 0 ⟨0, [], true, false, false⟩ (setReg 0x5C00 1 2 on)) := by
  beta_reduce; decide +kernel

theorem witness_spi_read_mailboxesandspiareserved3 :
    (fun (dev : Byte) (i : Fin 65536) (j : Fin 256) (o n : Fin 65536) (crc : Fin 65536) (s : State) =>
      (pathOn .spi s = true) ∧
      (crc16 0xFFFF (spiHeader 0x10 dev.toNat i.val j.val o.val n.val) = crc.val) ∧
      (spiBusy s = false) ∧
      (ownNumber dev.toNat s = true) ∧
      (n.val ≤ 256)) (0xFF) (0x1000) (0) (0) (4) ((Fin.ofNat 65536 (crc16 0xFFFF (spiHeader 0x10 0xFF 0x1000 0 0 4)))) (withCfg 0x1230 1 1 on) := by
  beta_reduce; decide +kernel

theorem witness_spi_write_mailboxesandspiareserved4 :
    (fun (dev : Byte) (i : Fin 65536) (j : Fin 256) (o n : Fin 65536) (l : List Byte) (crc : Fin 65536) (s : State) =>
      (pathOn .spi s = true) ∧
      (crc16 0xFFFF (spiHeader 0x11 dev.toNat i.val j.val o.val n.val ++ l) = crc.val) ∧
      (spiBusy s = false) ∧
      (ownNumber dev.toNat s = true) ∧
      (n.val ≤ 256) ∧
      (l.length = n.val)) (0xFF) (0x1003) (6) (0) (4) ([1, 0, 0, 0]) ((Fin.ofNat 65536 (crc16 0xFFFF (spiHeader 0x11 0xFF 0x1003 6 0 4 ++ [1, 0, 0, 0])))) (withCfg 0x1230 1 1 on) := by
  beta_reduce; decide +kernel

theorem witness_spi_read_mailboxesandspiareserved5 :
    (fun (dev : Byte) (i : Fin 65536) (j : Fin 256) (o n : Fin 65536) (crc : Fin 65536) (s : State) =>
      (pathOn .spi s = true)) (0xFF) (0x1000) (0) (0) (4) (0) (withCfg 0x1230 1 1 on) := by
  beta_reduce; decide +kernel

theorem witness_spi_fetch_mailboxesandspiareserved6 :
    (fun (r : Nat × Bytes) (s : State) =>
      (pathOn .spi s = true) ∧
      (s.access.spi = some r)) ((0, [1, 2])) (spiWaits) := by
  beta_reduce; decide +kernel

theorem witness_remote_response_timeout_mailboxesandspiareserved7 :
    (fun (r : RemoteReq) (s : State) =>
      (s.access.remote = [r]) ∧
      (r.device < 8) ∧
      (s.bridge.reads = []) ∧
      (due r.since (ms (reg 0x1010 2 s)) s = true)) (⟨.spi, 2, false, 0x1000, 1, 0, 4, 7, 0, true, []⟩) (atNs 1000000000 { on with access := { on.access with remote := [⟨.spi, 2, false, 0x1000, 1, 0, 4, 7, 0, true, []⟩] } }) := by
  beta_reduce; decide +kernel

theorem witness_id_record_read_identityrecordsaresettled0 :
    (fun (slot : Fin 24) (record : List Byte) (s : State) =>
      (slot.val < 8) ∧
      (record.length = 128) ∧
      (recordFits slot.val (leNat record) = true) ∧
      (recByte (leNat record) 42 ≠ 1) ∧
      (cfg (pI slot.val) 2 s ≠ 1)) (1) (goodRecord) (on) := by
  beta_reduce; decide +kernel

theorem witness_id_record_read_identityrecordsaresettled1 :
    (fun (slot : Fin 24) (record : List Byte) (s : State) =>
      (slot.val < 8)) (1) ([]) (on) := by
  beta_reduce; decide +kernel

theorem witness_id_bus_stretch_timeout_identityrecordsaresettled2 :
    (fun (slot : Fin 24) (s : State) =>
      (slot.val < 8)) (1) (on) := by
  beta_reduce; decide +kernel

theorem witness_record_signature_check_identityrecordsaresettled3 :
    (fun (slot : Fin 24) (p r : Nat) (s : State) =>
      (tget 0 s.idWait slot.val = r + 1) ∧
      (slotPort slot.val r = some p)) (1) (1) (7) ({ on with idWait := [(1, 8)] }) := by
  beta_reduce; decide +kernel

theorem witness_port_bring_up_portsarebroughtup0 :
    (fun (p : Fin 30) (id : Fin 4294967296) (c : PortCfg) (s : State) =>
      (granted (portConsumer p.val) s = true) ∧
      (portUp p.val s = false) ∧
      (16 ≤ p.val) ∧
      (portSettings p.val s = (0, c)) ∧
      ((fixedRate c.mode && overCap p.val ((modeRates c.mode).headD 0) c s) = false)) (20) (5) ((portSettings 20 spUp).2) (spUp) := by
  beta_reduce; decide +kernel

theorem witness_port_bring_up_portsarebroughtup1 :
    (fun (p : Fin 30) (id : Fin 4294967296) (c : PortCfg) (s : State) =>
      (granted (portConsumer p.val) s = true) ∧
      (portUp p.val s = false) ∧
      (p.val < 16) ∧
      (portSettings p.val s = (0, c)) ∧
      (c.phy = true) ∧
      (fixedRate c.mode = false) ∧
      (let t := setPrt p.val { prt p.val s with inUse := (if reg (pI p.val) 4 s == 2 || reg (pI p.val) 4 s == 3 then reg (pI p.val) 5 s else 0), phase := 0 } s;
        mdioClash p.val t = [] ∧ laneClash p.val t = []) ∧
      (id.val ≠ 0xFFFFFFFF) ∧
      (c.expected = 0 ∨ c.expected = id.val)) (3) (5) ((portSettings 3 bbUp).2) (bbUp) := by
  beta_reduce; decide +kernel

theorem witness_phy_identifier_retry_portsarebroughtup2 :
    (fun (p : Fin 30) (id : Fin 4294967296) (s : State) =>
      ((prt p.val s).phase = 1) ∧
      (due (prt p.val s).since (ms 1000) s = true)) (3) (5) (atNs 2000000000 (setPrt 3 { prt 3 bbUp with phase := 1 } bbUp)) := by
  beta_reduce; decide +kernel

theorem witness_init_entry_delay_end_portsarebroughtup3 :
    (fun (p : Fin 30) (s : State) =>
      ((prt p.val s).phase = 2) ∧
      (due (prt p.val s).since (ms (initByte p.val ((prt p.val s).entry - 1) 5 s)) s = true) ∧
      ((prt p.val s).entry < 40) ∧
      (initByte p.val (prt p.val s).entry 0 s ≠ 0xFF)) (3) (withCfg (pB 3 + 7) 0 0 (setPrt 3 { prt 3 bbUp with phase := 2, entry := 1 } bbUp)) := by
  beta_reduce; decide +kernel

theorem witness_init_entry_delay_end_portsarebroughtup4 :
    (fun (p : Fin 30) (s : State) =>
      ((prt p.val s).phase = 2) ∧
      (due (prt p.val s).since (ms (initByte p.val ((prt p.val s).entry - 1) 5 s)) s = true) ∧
      ((prt p.val s).entry = 40 ∨ initByte p.val (prt p.val s).entry 0 s = 0xFF)) (3) (withCfg (pB 3 + 7) 0 0xFF (setPrt 3 { prt 3 bbUp with phase := 2 } bbUp)) := by
  beta_reduce; decide +kernel

theorem witness_link_poll_linksfollowpcsandphy0 :
    (fun (p : Fin 16) (s : State) =>
      ((prt p.val s).phase = 3)) (3) (setPrt 3 { prt 3 bbUp with phase := 3 } bbUp) := by
  beta_reduce; decide +kernel

theorem witness_pcs_loss_linksfollowpcsandphy1 :
    (fun (p : Fin 33) (s : State) =>
      (p.val < 30) ∧
      (portUp p.val s = true)) (3) (setReg (pS 3) 1 1 on) := by
  beta_reduce; decide +kernel

theorem witness_link_up_linksfollowpcsandphy2 :
    (fun (p : Fin 33) (rate : Fin 8) (c : PortCfg) (s : State) =>
      (p.val < 30) ∧
      ((prt p.val s).phase = 3) ∧
      (portUp p.val s = false) ∧
      (portSettings p.val s = (0, c)) ∧
      ((prt p.val s).reread = false) ∧
      (granted (portConsumer p.val) s = true) ∧
      (fixedRate c.mode = false) ∧
      ((modeRates c.mode).contains rate.val = true)) (3) (5) ((portSettings 3 bbUp).2) (setPrt 3 { prt 3 bbUp with phase := 3 } bbUp) := by
  beta_reduce; decide +kernel

theorem witness_in_band_rate_change_linksfollowpcsandphy3 :
    (fun (p : Fin 16) (rate : Fin 8) (s : State) =>
      (portUp p.val s = true) ∧
      (fixedRate (portSettings p.val s).2.mode = false) ∧
      (rate.val ≠ reg (pS p.val) 3 s) ∧
      ((modeRates (portSettings p.val s).2.mode).contains rate.val = true) ∧
      (let t := setPrt p.val { prt p.val (portDown p.val 8 s) with reread := false } (portDown p.val 8 s);
        overCap p.val rate.val (portSettings p.val s).2 t = false)) (3) (5) (setReg (pS 3) 1 1 bbUp) := by
  beta_reduce; decide +kernel

theorem witness_mdio_read_mdioframesareservedinturn0 :
    (fun (ses : Session) (p : Fin 16) (s : State) =>
      (Served ses s) ∧
      (s.dev ≠ .terminal) ∧
      (reg (pB p.val + 3) 4 s ≠ 1) ∧
      ((mdioSt (mdioBus p.val) s).busy = none)) (.spi) (3) (bbUp) := by
  beta_reduce; decide +kernel

theorem witness_mdio_write_mdioframesareservedinturn1 :
    (fun (ses : Session) (p : Fin 16) (x : Nat × Nat) (s : State) =>
      (Served ses s) ∧
      (s.dev ≠ .terminal) ∧
      (reg (pB p.val + 3) 4 s ≠ 1) ∧
      ((mdioSt (mdioBus p.val) s).busy = some x)) (.spi) (3) ((4, 1)) (setMdio 0 ⟨some (4, 1), []⟩ bbUp) := by
  beta_reduce; decide +kernel

theorem witness_mdio_write_mdioframesareservedinturn2 :
    (fun (ses : Session) (p : Fin 16) (s : State) =>
      (Served ses s) ∧
      (s.dev ≠ .terminal) ∧
      (reg (pB p.val + 3) 4 s ≠ 1) ∧
      ((mdioSt (mdioBus p.val) s).busy = none)) (.spi) (3) (bbUp) := by
  beta_reduce; decide +kernel

theorem witness_mdio_frame_complete_mdioframesareservedinturn3 :
    (fun (bus : Fin 2) (result : Fin 65536) (p : Nat) (s : State) =>
      ((mdioSt bus.val s).busy = some (p, 1)) ∧
      (readsIdentifier p s = false) ∧
      ((mdioSt bus.val s).waiting = [])) (0) (9) (4) (setReg (pB 4 + 3) 1 5 (setMdio 0 ⟨some (4, 1), []⟩ bbUp)) := by
  beta_reduce; decide +kernel

theorem witness_foreign_beacon_mdioframesareservedinturn4 :
    (fun (p : Fin 33) (s : State) =>
      (portUp p.val s = true) ∧
      (22 ≤ p.val ∧ p.val < 30) ∧
      (coordinator p.val s = true)) (22) (withCfg (pB 22 + 5) 1 1 (setReg (pS 22) 1 1 on)) := by
  beta_reduce; decide +kernel

theorem witness_fdb_ageing_scan_fdbentriesageandareflushed0 :
    (fun (s : State) =>
      (cfg 0x3000 2 s ≠ 0) ∧
      (due s.agedAt (ms (250 * cfg 0x3000 2 s)) s = true)) (atNs 75000000000 { withCfg 0x3000 2 300 on with dyn := [(7, ⟨3, 4, 0⟩), (8, ⟨4, 0, 1⟩)] }) := by
  beta_reduce; decide +kernel

theorem witness_fdb_flush_all_fdbentriesageandareflushed1 :
    (fun (ses : Session) (s : State) =>
      (Served ses s) ∧
      (s.dev ≠ .terminal) ∧
      (s.flush = none)) (.spi) (on) := by
  beta_reduce; decide +kernel

theorem witness_fdb_flush_all_fdbentriesageandareflushed2 :
    (fun (ses : Session) (x : Nat × Nat × Nat) (s : State) =>
      (Served ses s) ∧
      (s.dev ≠ .terminal) ∧
      (s.flush = some x)) (.spi) ((1, 0, 0)) ({ on with flush := some (1, 0, 0) }) := by
  beta_reduce; decide +kernel

theorem witness_fdb_flush_complete_fdbentriesageandareflushed3 :
    (fun (sel arg lim : Nat) (s : State) =>
      (s.flush = some (sel, arg, lim))) (2) (3) (9) ({ on with flush := some (2, 3, 9) }) := by
  beta_reduce; decide +kernel

theorem witness_fdb_look_up_fdbentriesageandareflushed4 :
    (fun (ses : Session) (x : Nat × Bool) (s : State) =>
      (Served ses s) ∧
      (s.dev ≠ .terminal) ∧
      (staticGet (touch ses s).cfg (fdbSelected (touch ses s)) = some x)) (.spi) ((5, false)) ({ on with cfg := { on.cfg with fdb := [(0, 5 + 2 ^ 41)] } }) := by
  beta_reduce; decide +kernel

theorem witness_fdb_look_up_fdbentriesageandareflushed5 :
    (fun (ses : Session) (e : DynEntry) (s : State) =>
      (Served ses s) ∧
      (s.dev ≠ .terminal) ∧
      (staticGet (touch ses s).cfg (fdbSelected (touch ses s)) = none) ∧
      (dynGet (fdbSelected (touch ses s)) (touch ses s) = some e)) (.spi) (⟨3, 4, 0⟩) ({ on with dyn := [(0, ⟨3, 4, 0⟩)] }) := by
  beta_reduce; decide +kernel

theorem witness_fdb_write_static_fdbentriesageandareflushed6 :
    (fun (ses : Session) (s : State) =>
      (Served ses s) ∧
      (stageCode ses s = 0)) (.spi) (inConf) := by
  beta_reduce; decide +kernel

theorem witness_fdb_delete_static_fdbentriesageandareflushed7 :
    (fun (ses : Session) (s : State) =>
      (Served ses s) ∧
      (stageCode ses s = 0)) (.spi) (inConf) := by
  beta_reduce; decide +kernel

theorem witness_read_committed_tableentriesarereadstagedandcleared0 :
    (fun (ses : Session) (t : TableRec) (s : State) =>
      (Served ses s) ∧
      (s.dev ≠ .terminal) ∧
      (t ≠ .flow)) (.spi) (.meter) (on) := by
  beta_reduce; decide +kernel

theorem witness_read_committed_tableentriesarereadstagedandcleared1 :
    (fun (ses : Session) (s : State) =>
      (Served ses s) ∧
      (s.dev ≠ .terminal)) (.spi) (on) := by
  beta_reduce; decide +kernel

theorem witness_write_staged_tableentriesarereadstagedandcleared2 :
    (fun (ses : Session) (t : TableRec) (s : State) =>
      (Served ses s) ∧
      (stageCode ses s = 0) ∧
      (t ≠ .flow ∧ t ≠ .peck) ∧
      ((tabRec t).sieve = false)) (.spi) (.meter) (inConf) := by
  beta_reduce; decide +kernel

theorem witness_write_staged_tableentriesarereadstagedandcleared3 :
    (fun (ses : Session) (s : State) =>
      (Served ses s) ∧
      (stageCode ses s = 0) ∧
      (s.sieve.refreshing = true)) (.spi) ({ inConf with sieve := { inConf.sieve with refreshing := true } }) := by
  beta_reduce; decide +kernel

theorem witness_clear_entry_counters_tableentriesarereadstagedandcleared4 :
    (fun (ses : Session) (t : TableRec) (s : State) =>
      (Served ses s) ∧
      (s.dev ≠ .terminal) ∧
      (t ≠ .flow ∧ t ≠ .guard) ∧
      ((tabRec t).clear ≠ [])) (.spi) (.meter) (on) := by
  beta_reduce; decide +kernel

theorem witness_flow_delete_staged_tableentriesarereadstagedandcleared5 :
    (fun (ses : Session) (s : State) =>
      (Served ses s) ∧
      (stageCode ses s = 0) ∧
      (s.sieve.refreshing = false)) (.spi) (inConf) := by
  beta_reduce; decide +kernel

theorem witness_staged_bank_refresh_complete_tableentriesarereadstagedandcleared6 :
    (fun (s : State) =>
      (s.sieve.refreshing = true)) ({ on with sieve := { on.sieve with refreshing := true, waitingWrites := [(5, 6)] } }) := by
  beta_reduce; decide +kernel

theorem witness_zone_pair_counters_read_tableentriesarereadstagedandcleared7 :
    (fun (ses : Session) (s : State) =>
      (Served ses s) ∧
      (s.dev ≠ .terminal)) (.spi) (on) := by
  beta_reduce; decide +kernel

theorem witness_zone_pair_counters_clear_tableentriesarereadstagedandcleared8 :
    (fun (ses : Session) (s : State) =>
      (Served ses s) ∧
      (s.dev ≠ .terminal)) (.spi) (on) := by
  beta_reduce; decide +kernel

theorem witness_freshness_flash_copy_tableentriesarereadstagedandcleared9 :
    (fun (r : Nat) (s : State) =>
      (s.access.coreUp = true) ∧
      (freshProfiles s = [r])) (5) (setRegE 5 0x4020 8 77 on) := by
  beta_reduce; decide +kernel

theorem witness_ethernet_frame_receive_framesarereceivedandreleased0 :
    (fun (p : Fin 33) (f : EthFrame) (s : State) =>
      (¬ Past s ∨ portUp p.val s = false)) (3) (⟨[], true, .sfd, false⟩) (on) := by
  beta_reduce; decide +kernel

theorem witness_ethernet_frame_receive_framesarereceivedandreleased1 :
    (fun (p : Fin 33) (f : EthFrame) (s : State) =>
      (Past s) ∧
      (portUp p.val s = true) ∧
      (30 ≤ p.val) ∧
      (f.start = .sfd) ∧
      (f.truncated = false) ∧
      (f.fcsGood = true) ∧
      (60 ≤ f.bytes.length) ∧
      (f.bytes.length ≤ 9212)) (31) (⟨List.replicate 60 0, true, .sfd, false⟩) (on) := by
  beta_reduce; decide +kernel

theorem witness_ethernet_frame_receive_framesarereceivedandreleased2 :
    (fun (p : Fin 33) (f : EthFrame) (s : State) =>
      (Past s) ∧
      (portUp p.val s = true) ∧
      (p.val < 30) ∧
      (macsecOn p.val s = false) ∧
      (f.start = .sfd) ∧
      (f.truncated = false) ∧
      (f.bytes.length < 18)) (20) (⟨[], true, .sfd, false⟩) (setReg (pS 20) 1 1 spUp) := by
  beta_reduce; decide +kernel

theorem witness_verdict_release_framesarereceivedandreleased3 :
    (fun (n : Nat) (d : Decision) (f : Frame) (s : State) =>
      (decOf n s = some d) ∧
      (d.pairs = []) ∧
      (frameOf n s = some f)) (0) (oneDec) (oneFrame) (oneIn) := by
  beta_reduce; decide +kernel

theorem witness_verdict_release_framesarereceivedandreleased4 :
    (fun (n : Nat) (d : Decision) (r : BusRec) (s : State) =>
      (decOf n s = some d) ∧
      (d.pairs = []) ∧
      (frameOf n s = none) ∧
      ((s.braid.recs.find? fun r => r.id == n) = some r)) (0) (oneDec) (oneRec) ({ oneIn with buf := buf0, braid := { braid0 with recs := [oneRec] } }) := by
  beta_reduce; decide +kernel

theorem witness_verdict_release_framesarereceivedandreleased5 :
    (fun (n : Nat) (d : Decision) (s : State) =>
      (decOf n s = some d) ∧
      (d.pairs ≠ [])) (0) ({ oneDec with pairs := [0] }) ({ oneIn with decs := [{ oneDec with pairs := [0] }] }) := by
  beta_reduce; decide +kernel

theorem witness_orphan_scan_framesarereceivedandreleased6 :
    (fun (s : State) =>
      (due s.buf.scanAt (ms 1000) s = true) ∧
      (s.buf.doomed = []) ∧
      (s.buf.retired = [])) (atNs 1000000000 { on with buf := { on.buf with orphans := [4, 5] } }) := by
  beta_reduce; decide +kernel

theorem witness_overload_tick_framesarereceivedandreleased7 :
    (fun (s : State) =>
      (s.buf.tick < nowNs s / 1000000) ∧
      (s.buf.refusedNow = []) ∧
      (s.buf.dropRuns = [])) (atNs 1000000000 on) := by
  beta_reduce; decide +kernel

theorem witness_transmission_selection_framesareselectedandsent0 :
    (fun (p : Fin 33) (s : State) =>
      (portUp p.val s = false ∨ (p.val < 30 ∧ outputsSafe s = true))) (3) (on) := by
  beta_reduce; decide +kernel

theorem witness_transmission_selection_framesareselectedandsent1 :
    (fun (p : Fin 33) (s : State) =>
      (portUp p.val s = true) ∧
      (30 ≤ p.val)) (31) (on) := by
  beta_reduce; decide +kernel

theorem witness_frame_transmit_end_framesareselectedandsent2 :
    (fun (p : Fin 33) (c : Copy) (seen : TxEnd) (s : State) =>
      (p.val ≠ 30) ∧
      ((egr p.val s).cur = some c)) (31) (oneCopy) (⟨[], false⟩) (setEgr 31 { egr 31 oneIn with cur := some oneCopy } oneIn) := by
  beta_reduce; decide +kernel

theorem witness_host_ring_drop_framesareselectedandsent3 :
    (fun (q : Fin 8) (c : Copy) (s : State) =>
      ((egr 30 s).cur = some c) ∧
      (c.queue = q.val) ∧
      (receiver q.val s = none)) (2) ({ oneCopy with queue := 2, port := 30 }) (setEgr 30 { egr 30 oneIn with cur := some { oneCopy with queue := 2, port := 30 } } oneIn) := by
  beta_reduce; decide +kernel

theorem witness_pass_pair_outcome_passpairsarecompared0 :
    (fun (n : Fin 2) (d : Decision) (s : State) =>
      ((s.decs.find? fun d => d.lane == n.val && !d.pairs.isEmpty) = some d) ∧
      (d.retry = false)) (0) ({ oneDec with pairs := [0] }) ({ oneIn with decs := [{ oneDec with pairs := [0] }] }) := by
  beta_reduce; decide +kernel

theorem witness_pass_pair_outcome_passpairsarecompared1 :
    (fun (n : Fin 2) (d : Decision) (x : PassPair) (s : State) =>
      ((s.decs.find? fun d => d.lane == n.val && !d.pairs.isEmpty) = some d) ∧
      (d.retry = false) ∧
      (x.stage4Parity = false) ∧
      (x.bufferParity = false) ∧
      (x.word0.val ≠ 0) ∧
      (let b := bankOf d.epoch s;
        let p := d.pairs.headD 0;
        consequential d.zones p (word0 b d p) (word1 b d p) x.word0.val x.word1.val 0 x.word0.val = true)) (0) ({ oneDec with pairs := [0] }) (⟨Fin.ofNat _ (2 ^ 32), 0, 0, false, false, false, false⟩) ({ oneIn with decs := [{ oneDec with pairs := [0] }] }) := by
  beta_reduce; decide +kernel

theorem witness_comparator_fault_passpairsarecompared2 :
    (fun (n : Fin 2) (d : Decision) (s : State) =>
      ((s.decs.find? fun d => d.lane == n.val && !d.pairs.isEmpty) = some d)) (0) ({ oneDec with pairs := [0] }) ({ oneIn with decs := [{ oneDec with pairs := [0] }] }) := by
  beta_reduce; decide +kernel

theorem witness_comparator_fault_passpairsarecompared3 :
    (fun (n : Fin 2) (s : State) =>
      ((s.decs.find? fun d => d.lane == n.val && !d.pairs.isEmpty) = none)) (0) (on) := by
  beta_reduce; decide +kernel

theorem witness_lane_drain_end_lanesarewithdrawnandrestored0 :
    (fun (s : State) =>
      (reg 0x4050 1 s = 1) ∧
      ((s.decs.any fun d => d.lane == 0 && !d.pairs.isEmpty) = false)) (setReg 0x4050 1 1 on) := by
  beta_reduce; decide +kernel

theorem witness_lane_drain_end_lanesarewithdrawnandrestored1 :
    (fun (s : State) =>
      (reg 0x4050 2 s = 1) ∧
      ((s.decs.any fun d => d.lane == 1 && !d.pairs.isEmpty) = false)) (setReg 0x4050 2 1 on) := by
  beta_reduce; decide +kernel

theorem witness_restore_lane_lanesarewithdrawnandrestored2 :
    (fun (ses : Session) (n : Fin 2) (s : State) =>
      (Served ses s) ∧
      (s.dev ≠ .terminal) ∧
      (reg 0x4050 (n.val + 1) s = 2) ∧
      (srcSet (0x22 + n.val) s = false)) (.spi) (0) (setReg 0x4050 1 2 on) := by
  beta_reduce; decide +kernel

theorem witness_restore_lane_lanesarewithdrawnandrestored3 :
    (fun (ses : Session) (n : Fin 2) (s : State) =>
      (Served ses s) ∧
      (reg 0x4050 (n.val + 1) s ≠ 2 ∨ srcSet (0x22 + n.val) s = true)) (.spi) (0) (on) := by
  beta_reduce; decide +kernel

theorem witness_lane_self_test_complete_lanesarewithdrawnandrestored4 :
    (fun (n : Fin 2) (s : State) =>
      (laneTests n.val s = true) ∧
      (reg 0x4050 7 s ≠ 1)) (0) (on) := by
  beta_reduce; decide +kernel

theorem witness_lane_self_test_complete_lanesarewithdrawnandrestored5 :
    (fun (n : Fin 2) (s : State) =>
      (laneTests n.val s = true) ∧
      (reg 0x4050 7 s ≠ 1) ∧
      (reg 0x4050 (2 - n.val) s = 0)) (0) (setReg 0x4050 2 0 on) := by
  beta_reduce; decide +kernel

theorem witness_seeded_comparator_test_lanesarewithdrawnandrestored6 :
    (fun (n : Fin 2) (s : State) =>
      (reg 0x4050 (n.val + 1) s = 0) ∧
      ((lane n.val s).testing = false)) (0) ({ on with lanes := [] }) := by
  beta_reduce; decide +kernel

theorem witness_gate_entry_change_gatelistsrunandswitch0 :
    (fun (p : Fin 22) (l : GateList) (s : State) =>
      (listsRun s = true) ∧
      (gated p.val s = true) ∧
      ((gateOf p.val s).oper = some l) ∧
      ((egr p.val s).cur = none)) (3) (⟨0, 1000, 0, [(500, 1, 0), (500, 2, 0)]⟩) (gatedOn) := by
  beta_reduce; decide +kernel

theorem witness_gate_entry_change_gatelistsrunandswitch1 :
    (fun (p : Fin 22) (l : GateList) (c : Copy) (s : State) =>
      (listsRun s = true) ∧
      (gated p.val s = true) ∧
      ((gateOf p.val s).oper = some l) ∧
      ((egr p.val s).cur = some c) ∧
      ((egr p.val s).overrun = false) ∧
      (let t := setReg (0x3500 + p.val) 0x0E (entryAt l (nowNs s)).1 s;
        gateOpen p.val c.queue t = false ∧ (p.val < 16 ∧ preemptable p.val c.queue t = true → False))) (3) (⟨0, 1000, 0, [(500, 1, 0), (500, 2, 0)]⟩) ({ oneCopy with queue := 5 }) (setEgr 3 { egressSt0 with cur := some { oneCopy with queue := 5 } } gatedOn) := by
  beta_reduce; decide +kernel

theorem witness_gate_list_switch_over_gatelistsrunandswitch2 :
    (fun (p : Fin 22) (a : GateList) (s : State) =>
      (listsRun s = true) ∧
      (gated p.val s = true) ∧
      (16 ≤ p.val) ∧
      ((gateOf p.val s).admin = some a) ∧
      ((gateOf p.val s).changeAt ≤ nowNs s)) (17) (⟨0, 1000, 0, [(500, 1, 0), (500, 2, 0)]⟩) ({ withCfg 0x3511 1 1 on with gates := [(17, ⟨none, some ⟨0, 1000, 0, [(500, 1, 0), (500, 2, 0)]⟩, 0⟩)] }) := by
  beta_reduce; decide +kernel

theorem witness_stream_gate_entry_change_gatelistsrunandswitch3 :
    (fun (g : Fin 256) (a : GateList) (s : State) =>
      ((sgateOf g.val s).admin = some a) ∧
      ((sgateOf g.val s).changeAt ≤ nowNs s) ∧
      (cfgE g.val 0x3220 2 s = 1)) (7) (⟨0, 1000, 0, [(500, 1, 0), (500, 2, 0)]⟩) ({ withCfgE 7 0x3220 2 1 on with streamGates := [(7, ⟨none, some ⟨0, 1000, 0, [(500, 1, 0), (500, 2, 0)]⟩, 0⟩)] }) := by
  beta_reduce; decide +kernel

theorem witness_gate_entry_read_gatelistsrunandswitch4 :
    (fun (ses : Session) (l : GateList) (s : State) =>
      (Served ses s) ∧
      (s.dev ≠ .terminal) ∧
      (reg 0x3540 2 s = 1) ∧
      ((gateOf (reg 0x3540 1 s) s).oper = some l)) (.spi) (⟨0, 1000, 0, [(500, 1, 0), (500, 2, 0)]⟩) (setReg 0x3540 1 3 (setReg 0x3540 2 1 gatedOn)) := by
  beta_reduce; decide +kernel

theorem witness_gate_entry_write_staged_gatelistsrunandswitch5 :
    (fun (ses : Session) (s : State) =>
      (Served ses s) ∧
      (stageCode ses s = 0) ∧
      (reg 0x3540 2 s ≠ 1)) (.spi) (inConf) := by
  beta_reduce; decide +kernel

theorem witness_hold_assert_preemptionholdsandisverified0 :
    (fun (p : Fin 16) (s : State) =>
      (listsRun s = true) ∧
      (gated p.val s = true) ∧
      (reg (0x3580 + p.val) 8 s = 0) ∧
      (holdEntry p.val 1 (cfg (0x3500 + p.val) 7 s) s = true)) (3) ({ gatedOn with gates := [(3, ⟨some ⟨0, 1000, 0, [(1000, 1, 1)]⟩, none, 0⟩)] }) := by
  beta_reduce; decide +kernel

theorem witness_hold_release_preemptionholdsandisverified1 :
    (fun (p : Fin 16) (s : State) =>
      (listsRun s = true) ∧
      (gated p.val s = true) ∧
      (holdEntry p.val 2 (cfg (0x3500 + p.val) 8 s) s = true)) (3) ({ gatedOn with gates := [(3, ⟨some ⟨0, 1000, 0, [(1000, 1, 2)]⟩, none, 0⟩)] }) := by
  beta_reduce; decide +kernel

theorem witness_verify_mpacket_send_preemptionholdsandisverified2 :
    (fun (p : Fin 16) (s : State) =>
      (portUp p.val s = true) ∧
      (cfg (0x3580 + p.val) 1 s = 1) ∧
      (cfg (0x3580 + p.val) 4 s = 1) ∧
      (reg (0x3580 + p.val) 6 s = 1 ∨ reg (0x3580 + p.val) 6 s = 2) ∧
      ((egr p.val s).verifyTries = 0 ∨ due (egr p.val s).verifyAt (ms (cfg (0x3580 + p.val) 5 s)) s = true)) (3) (setReg 0x3583 6 1 (withCfg 0x3583 4 1 (withCfg 0x3583 1 1 (setReg (pS 3) 1 1 bbUp)))) := by
  beta_reduce; decide +kernel

theorem witness_verify_mpacket_receive_preemptionholdsandisverified3 :
    (fun (p : Fin 16) (s : State) =>
      (portUp p.val s = true)) (3) (setReg (pS 3) 1 1 bbUp) := by
  beta_reduce; decide +kernel

theorem witness_respond_mpacket_receive_preemptionholdsandisverified4 :
    (fun (p : Fin 16) (s : State) =>
      (portUp p.val s = true) ∧
      (cfg (0x3580 + p.val) 1 s ≠ 0) ∧
      (reg (0x3580 + p.val) 6 s = 1 ∨ reg (0x3580 + p.val) 6 s = 2)) (3) (setReg 0x3583 6 1 (withCfg 0x3583 4 1 (withCfg 0x3583 1 1 (setReg (pS 3) 1 1 bbUp)))) := by
  beta_reduce; decide +kernel

theorem witness_frer_reset_timeout_streamlatchesandrecovery0 :
    (fun (n : Fin 4096) (r : Nat) (s : State) =>
      ((frerOf n.val s).recent = some r) ∧
      (due (frerOf n.val s).last (ms (cfgE n.val 0x3200 0x0B s)) s = true)) (9) (5) (atNs 5000000000 { on with frer := [(9, { frerSt0 with recent := some 5 })] }) := by
  beta_reduce; decide +kernel

theorem witness_stream_gate_clear_latch_streamlatchesandrecovery1 :
    (fun (ses : Session) (s : State) =>
      (Served ses s) ∧
      (s.dev ≠ .terminal)) (.spi) (on) := by
  beta_reduce; decide +kernel

theorem witness_filter_clear_blocked_streamlatchesandrecovery2 :
    (fun (ses : Session) (s : State) =>
      (Served ses s) ∧
      (s.dev ≠ .terminal)) (.spi) (on) := by
  beta_reduce; decide +kernel

theorem witness_meter_clear_latch_streamlatchesandrecovery3 :
    (fun (ses : Session) (s : State) =>
      (Served ses s) ∧
      (s.dev ≠ .terminal)) (.spi) (on) := by
  beta_reduce; decide +kernel

theorem witness_can_frame_receive_canframesarereceived0 :
    (fun (n : Fin 48) (f : BusFrame) (d : Fin 4294967296) (s : State) =>
      (canHears n.val s = false ∨ fmtReceived (can n.val s).mode f.fmt = false) ∧
      (s.faults.due = [])) (5) (oneRec.frame) (0) (on) := by
  beta_reduce; decide +kernel

theorem witness_can_frame_receive_canframesarereceived1 :
    (fun (n : Fin 48) (f : BusFrame) (d : Fin 4294967296) (s : State) =>
      (canState n.val s = 6) ∧
      (fmtReceived (can n.val s).mode f.fmt = true) ∧
      ((staged n.val s).length < 2)) (5) (oneRec.frame) (0) (setReg (cE 5 + 2) 1 6 on) := by
  beta_reduce; decide +kernel

theorem witness_can_frame_receive_canframesarereceived2 :
    (fun (n : Fin 48) (f : BusFrame) (d : Fin 4294967296) (s : State) =>
      (canState n.val s = 6) ∧
      (fmtReceived (can n.val s).mode f.fmt = true) ∧
      ((staged n.val s).length = 2)) (5) (oneRec.frame) (0) (setCan 5 { canSt0 with recent := [0, 0] } (setReg (cE 5 + 2) 1 6 on)) := by
  beta_reduce; decide +kernel

theorem witness_protocol_exception_canframesarereceived3 :
    (fun (n : Fin 48) (s : State) =>
      (canHears n.val s = true) ∧
      ((can n.val s).mode < 2) ∧
      (cfg (cE n.val) 5 s = 1)) (5) (withCfg (cE 5) 5 1 (setReg (cE 5 + 2) 1 3 on)) := by
  beta_reduce; decide +kernel

theorem witness_can_clear_counters_canframesarereceived4 :
    (fun (ses : Session) (n : Fin 48) (s : State) =>
      (Served ses s) ∧
      (s.dev ≠ .terminal)) (.spi) (5) (on) := by
  beta_reduce; decide +kernel

theorem witness_transmit_slot_selection_canframesaresent0 :
    (fun (n : Fin 48) (x : Slot) (s : State) =>
      (mayStart n.val s = true) ∧
      (bestSlot n.val s = some x) ∧
      (leased n.val s = false)) (5) (oneSlot) (canOn) := by
  beta_reduce; decide +kernel

theorem witness_transmit_slot_selection_canframesaresent1 :
    (fun (n : Fin 48) (x : Slot) (s : State) =>
      (mayStart n.val s = true) ∧
      (bestSlot n.val s = some x) ∧
      (leased n.val s = true) ∧
      (leaseHolds (worstNs s.cfg n.val x.frame) s = false)) (5) (oneSlot) (leasedCan) := by
  beta_reduce; decide +kernel

theorem witness_transmit_confirmation_canframesaresent2 :
    (fun (n : Fin 48) (d : Fin 4096) (x : Slot) (s : State) =>
      (lockedSlot n.val s = some x) ∧
      (canState n.val s = 6) ∧
      (x.kept = true) ∧
      (x.frame.fmt = .classical)) (5) (9) ({ oneSlot with locked := true, kept := true }) (setReg (cE 5 + 2) 1 6 (setCan 5 { canSt0 with slots := [{ oneSlot with locked := true, kept := true }] } canOn)) := by
  beta_reduce; decide +kernel

theorem witness_transmit_confirmation_canframesaresent3 :
    (fun (n : Fin 48) (d : Fin 4096) (x : Slot) (s : State) =>
      (lockedSlot n.val s = some x) ∧
      (x.frame.fmt ≠ .classical) ∧
      (cfg (cE n.val + 1) 9 s = 1)) (5) (300) (fdSlot) (withCfg (cE 5 + 1) 9 1 (setCan 5 { canSt0 with slots := [fdSlot] } canOn)) := by
  beta_reduce; decide +kernel

theorem witness_transmit_attempt_failed_canframesaresent4 :
    (fun (n : Fin 48) (x : Slot) (b : Bool) (s : State) =>
      (lockedSlot n.val s = some x) ∧
      (cfg (cE n.val) 4 s = 1) ∧
      (x.kept = false) ∧
      (x.shadow = none)) (5) ({ oneSlot with locked := true }) (true) (setCan 5 { canSt0 with slots := [{ oneSlot with locked := true }] } (withCfg (cE 5) 4 1 canOn)) := by
  beta_reduce; decide +kernel

theorem witness_can_bus_error_canerrorsandbusoff0 :
    (fun (n : Fin 48) (e : CanError) (s : State) =>
      (canActive n.val s = true) ∧
      (shadowed n.val s = false) ∧
      (braidStill s = false) ∧
      (e.inXlData = false) ∧
      (e.transmitter = true) ∧
      (e.exempt = false) ∧
      (247 < tec n.val s)) (5) (⟨.ack, true, false, false, false⟩) (setReg (cE 5 + 2) 2 248 canOn) := by
  beta_reduce; decide +kernel

theorem witness_can_bus_error_canerrorsandbusoff1 :
    (fun (n : Fin 48) (e : CanError) (s : State) =>
      (canState n.val s = 6 ∨ canState n.val s = 7)) (5) (⟨.ack, true, false, false, false⟩) (setReg (cE 5 + 2) 1 6 canOn) := by
  beta_reduce; decide +kernel

theorem witness_bus_off_hold_off_end_canerrorsandbusoff2 :
    (fun (n : Fin 48) (s : State) =>
      ((can n.val s).recov = 1) ∧
      (trans n.val s = 2) ∧
      (due (can n.val s).offAt (ms (holdOff n.val s)) s = true)) (5) (atNs 5000000000 (setCan 5 { canSt0 with recov := 1 } canOn)) := by
  beta_reduce; decide +kernel

theorem witness_bus_off_recovery_complete_canerrorsandbusoff3 :
    (fun (n : Fin 48) (s : State) =>
      (canState n.val s = 5) ∧
      ((can n.val s).recov = 2) ∧
      (trans n.val s = 2) ∧
      (cfg (cE n.val) 3 s ≠ 1)) (5) (setReg (cE 5 + 2) 1 5 (setCan 5 { canSt0 with recov := 2 } canOn)) := by
  beta_reduce; decide +kernel

theorem witness_can_recover_canerrorsandbusoff4 :
    (fun (ses : Session) (n : Fin 48) (s : State) =>
      (Served ses s) ∧
      (s.dev ≠ .terminal)) (.spi) (5) (on) := by
  beta_reduce; decide +kernel

theorem witness_engine_settings_takeover_enginesjoinandleavetheirbuses0 :
    (fun (n : Fin 48) (s : State) =>
      ((can n.val s).takeover = true) ∧
      ((can n.val s).retime = true) ∧
      (lockedSlot n.val s = none) ∧
      (capturing n.val s = false) ∧
      (canState n.val s = 3)) (5) (setCan 5 { canSt0 with takeover := true, retime := true } canOn) := by
  beta_reduce; decide +kernel

theorem witness_transceiver_standby_request_enginesjoinandleavetheirbuses1 :
    (fun (n : Fin 64) (s : State) =>
      (n.val < 48) ∧
      (cfg (cE n.val + 3) 1 s ≠ 1) ∧
      (trans n.val s = 2) ∧
      (lockedSlot n.val s = none) ∧
      (canState n.val s = 3)) (5) (canOn) := by
  beta_reduce; decide +kernel

theorem witness_transceiver_standby_request_enginesjoinandleavetheirbuses2 :
    (fun (n : Fin 64) (s : State) =>
      (n.val < 48) ∧
      (cfg (cE n.val + 3) 1 s = 1)) (5) (withCfg (cE 5 + 3) 1 1 canOn) := by
  beta_reduce; decide +kernel

theorem witness_transceiver_mode_change_end_enginesjoinandleavetheirbuses3 :
    (fun (n : Fin 64) (s : State) =>
      (n.val < 48) ∧
      (trans n.val s = 1) ∧
      (due (can n.val s).modeAt (us (cfg (cE n.val + 3) 2 s)) s = true) ∧
      (canState n.val s = 1)) (5) (atNs 5000000000 (setReg (cE 5 + 2) 1 1 (setReg (cE 5 + 3) 3 1 on))) := by
  beta_reduce; decide +kernel

theorem witness_transceiver_mode_change_end_enginesjoinandleavetheirbuses4 :
    (fun (n : Fin 64) (s : State) =>
      (48 ≤ n.val) ∧
      ((lin (n.val - 48) s).mode = 1) ∧
      (due (lin (n.val - 48) s).modeAt 50000 s = true)) (50) (atNs 5000000000 (setLin 2 { linSt0 with mode := 1 } on)) := by
  beta_reduce; decide +kernel

theorem witness_integration_complete_enginesjoinandleavetheirbuses5 :
    (fun (n : Fin 64) (s : State) =>
      (n.val < 48) ∧
      ((can n.val s).held = false) ∧
      (canState n.val s = 2) ∧
      (trans n.val s = 2) ∧
      (capturing n.val s = true)) (5) (setReg (cE 5 + 2) 1 2 { canOn with dev := .catch_ }) := by
  beta_reduce; decide +kernel

theorem witness_bus_held_dominant_enginesjoinandleavetheirbuses6 :
    (fun (n : Fin 64) (s : State) =>
      (n.val < 48) ∧
      (trans n.val s = 2) ∧
      ((can n.val s).held = false)) (5) (canOn) := by
  beta_reduce; decide +kernel

theorem witness_capture_join_enginesjoinandleavetheirbuses7 :
    (fun (s : State) =>
      (s.dev = .boot) ∧
      (s.power.reset = 0) ∧
      (s.power.extending = none) ∧
      (bit (reg 0x5030 1 s) 2 = true) ∧
      (due s.power.started 200000 s = true)) (atNs 200000 (setReg 0x5030 1 4 State.reset)) := by
  beta_reduce; decide +kernel

theorem witness_lin_slot_start_linschedulesrun0 :
    (fun (m : Fin 16) (s : State) =>
      (schedulesRun s = true) ∧
      (commands m.val s = true) ∧
      (nowNs s % max 1 (linBase m.val s) < 1000) ∧
      ((lin m.val s).slotEnd ≤ nowNs s) ∧
      ((lin m.val s).notBefore ≤ nowNs s) ∧
      ((lin m.val s).own = false) ∧
      ((lin m.val s).toSleep = false) ∧
      (linNext m.val (setLin m.val { lin m.val s with ident := none } s) = (none, none))) (2) (setReg (lB 2 + 1) 3 0xFF (setReg (lB 2 + 3) 1 2 (setLin 2 { linSt0 with mode := 3 } on))) := by
  beta_reduce; decide +kernel

theorem witness_lin_slot_start_linschedulesrun1 :
    (fun (m : Fin 16) (s : State) =>
      (schedulesRun s = true) ∧
      (commands m.val s = true) ∧
      (nowNs s % max 1 (linBase m.val s) < 1000) ∧
      ((lin m.val s).slotEnd ≤ nowNs s) ∧
      ((lin m.val s).notBefore ≤ nowNs s)) (2) (setReg (lB 2 + 1) 3 0 (setReg (lB 2 + 3) 1 3 (setLin 2 { linSt0 with mode := 3 } on))) := by
  beta_reduce; decide +kernel

theorem witness_lin_table_request_linschedulesrun2 :
    (fun (ses : Session) (m : Fin 16) (t : Byte) (s : State) =>
      (Served ses s) ∧
      (s.dev ≠ .terminal) ∧
      (t.toNat ≤ 7 ∨ t.toNat = 0xFF) ∧
      (cfg (lB m.val) 2 s = 0)) (.spi) (2) (3) (on) := by
  beta_reduce; decide +kernel

theorem witness_lin_table_request_linschedulesrun3 :
    (fun (ses : Session) (m : Fin 16) (t : Byte) (s : State) =>
      (Served ses s) ∧
      (s.dev ≠ .terminal) ∧
      (7 < t.toNat) ∧
      (t.toNat ≠ 0xFF)) (.spi) (2) (9) (on) := by
  beta_reduce; decide +kernel

theorem witness_lin_wake_up_linschedulesrun4 :
    (fun (ses : Session) (m : Fin 16) (s : State) =>
      (Served ses s) ∧
      (s.dev ≠ .terminal) ∧
      (reg (lB m.val) 0x0B s ≠ 1) ∧
      (braidStill s = false) ∧
      (shadowed (48 + m.val) s = false) ∧
      (engEnabled s.cfg (48 + m.val) s = true)) (.spi) (2) (setReg 0x5020 2 0x30800 (withCfg (lB 2) 1 1 on)) := by
  beta_reduce; decide +kernel

theorem witness_lin_go_to_sleep_linschedulesrun5 :
    (fun (ses : Session) (m : Fin 16) (s : State) =>
      (Served ses s) ∧
      (s.dev ≠ .terminal) ∧
      (cfg (lB m.val) 2 s ≠ 1) ∧
      (reg (lB m.val) 0x0B s ≠ 1)) (.spi) (2) (on) := by
  beta_reduce; decide +kernel

theorem witness_lin_go_to_sleep_linschedulesrun6 :
    (fun (ses : Session) (m : Fin 16) (s : State) =>
      (Served ses s) ∧
      (reg (lB m.val) 0x0B s = 1) ∧
      (cfg (lB m.val) 2 s ≠ 1)) (.spi) (2) (setReg (lB 2) 0x0B 1 on) := by
  beta_reduce; decide +kernel

theorem witness_lin_clear_counters_linschedulesrun7 :
    (fun (ses : Session) (m : Fin 16) (s : State) =>
      (Served ses s) ∧
      (s.dev ≠ .terminal)) (.spi) (2) (on) := by
  beta_reduce; decide +kernel

theorem witness_lin_header_receive_linheadersandresponses0 :
    (fun (m : Fin 16) (i : Fin 64) (r : Fin 65536) (s : State) =>
      (linHears m.val s = true) ∧
      ((lin m.val s).mode = 3) ∧
      ((lin m.val s).own = false) ∧
      (syncTaken m.val r.val (setLin m.val { lin m.val s with ident := none, lastAt := wall s } s) = false)) (2) (3) (1) (linHeard) := by
  beta_reduce; decide +kernel

theorem witness_lin_header_receive_linheadersandresponses1 :
    (fun (m : Fin 16) (i : Fin 64) (r : Fin 65536) (s : State) =>
      (linState m.val s = 5) ∧
      ((lin m.val s).mode = 3) ∧
      ((lin m.val s).own = false) ∧
      (syncTaken m.val r.val (setLin m.val { lin m.val s with ident := none, lastAt := wall s } s) = true)) (2) (3) (19200) (setReg (lB 2 + 3) 1 5 { linHeard with braid := { linHeard.braid with kept := some [(okey (lB 2) 3, 19200)] } }) := by
  beta_reduce; decide +kernel

theorem witness_lin_response_receive_linheadersandresponses2 :
    (fun (m : Fin 16) (i : Nat) (x : LinResponse) (s : State) =>
      ((lin m.val s).ident = some (i, 0)) ∧
      ((lin m.val s).own = false) ∧
      (x.checksumGood = false)) (2) (3) (⟨[], false, false, false, false⟩) (setLin 2 { lin 2 linHeard with ident := some (3, 0) } linHeard) := by
  beta_reduce; decide +kernel

theorem witness_lin_response_receive_linheadersandresponses3 :
    (fun (m : Fin 16) (i : Nat) (x : LinResponse) (s : State) =>
      ((lin m.val s).ident = some (i, 0)) ∧
      ((lin m.val s).own = false) ∧
      (x.checksumGood = true)) (2) (3) (⟨[1, 2], true, false, false, false⟩) (setLin 2 { lin 2 linHeard with ident := some (3, 0) } linHeard) := by
  beta_reduce; decide +kernel

theorem witness_lin_response_timeout_linheadersandresponses4 :
    (fun (m : Fin 16) (i ty : Nat) (b : Bool) (s : State) =>
      ((lin m.val s).ident = some (i, ty)) ∧
      ((lin m.val s).own = false) ∧
      ((lin m.val s).stamp + tFrameNs s.cfg m.val (linLen s.cfg m.val i) ≤ nowNs s) ∧
      (ty ≠ 1)) (2) (3) (0) (true) (atNs 90000000000 (setLin 2 { lin 2 linHeard with ident := some (3, 0) } linHeard)) := by
  beta_reduce; decide +kernel

theorem witness_go_to_sleep_receive_linheadersandresponses5 :
    (fun (m : Fin 16) (s : State) =>
      (linState m.val s = 4)) (2) (linHeard) := by
  beta_reduce; decide +kernel

theorem witness_guard_spoof_guardsreacttospoofs0 :
    (fun (e : Fin 64) (k : SpoofKind) (f : BusFrame) (g : Nat) (s : State) =>
      (guardOf s.cfg e.val f = some g) ∧
      (k ≠ .foreign) ∧
      (leased e.val s = false)) (5) (.replayed) (oneRec.frame) (0) (withCfgE 0 0x4030 2 1 (withCfgE 0 0x4030 3 5 (withCfgE 0 0x4030 5 5 (withCfgE 0 0x4030 4 5 on)))) := by
  beta_reduce; decide +kernel

theorem witness_guard_spoof_guardsreacttospoofs1 :
    (fun (e : Fin 64) (k : SpoofKind) (f : BusFrame) (s : State) =>
      (guardOf s.cfg e.val f = none) ∧
      (s.faults.due = [])) (5) (.replayed) (oneRec.frame) (on) := by
  beta_reduce; decide +kernel

theorem witness_quarantine_end_guardsreacttospoofs2 :
    (fun (e : Fin 64) (s : State) =>
      (tget 0 s.sieve.quarantine e.val ≤ monoGrains s)) (5) (atNs 1000 { on with sieve := { on.sieve with quarantine := [(5, 100)] } }) := by
  beta_reduce; decide +kernel

theorem witness_guard_clear_counters_guardsreacttospoofs3 :
    (fun (ses : Session) (s : State) =>
      (Served ses s) ∧
      (s.dev ≠ .terminal) ∧
      (2 ≤ roleOf ses s)) (.spi) ({ on with crust := { on.crust with roles := [(0x30, 2)] } }) := by
  beta_reduce; decide +kernel

theorem witness_guard_clear_counters_guardsreacttospoofs4 :
    (fun (ses : Session) (s : State) =>
      (Served ses s) ∧
      (s.dev ≠ .terminal) ∧
      (roleOf ses s < 2)) (.spi) (on) := by
  beta_reduce; decide +kernel

theorem witness_route_execute_routesrunbytheirmodes0 :
    (fun (x : BusRec) (s : State) =>
      ((s.braid.recs.find? (·.released)) = some x) ∧
      (braidStill s = true)) ({ oneRec with released := true }) ({ on with dev := .safe, braid := { on.braid with recs := [{ oneRec with released := true }] } }) := by
  beta_reduce; decide +kernel

theorem witness_route_execute_routesrunbytheirmodes1 :
    (fun (x : BusRec) (s : State) =>
      ((s.braid.recs.find? (·.released)) = some x) ∧
      (braidStill s = false)) ({ oneRec with released := true }) ({ on with braid := { on.braid with recs := [{ oneRec with released := true }] } }) := by
  beta_reduce; decide +kernel

theorem witness_periodic_transmit_routesrunbytheirmodes2 :
    (fun (r : Fin 12288) (s : State) =>
      (rt s.cfg r.val 2 = 1) ∧
      (rtMode s.cfg r.val = 1) ∧
      (braidStill s = false) ∧
      ((route r.val s).perAt < periodNow r.val s) ∧
      (rtEgress s.cfg r.val < 48) ∧
      ((route r.val s).ever = true) ∧
      ((route r.val s).box ≠ []) ∧
      ((route r.val s).joined = true)) (7) (setRoute 7 { routeSt0 with ever := true, joined := true, box := [(oneRec.frame, [])] } (periodicOn)) := by
  beta_reduce; decide +kernel

theorem witness_periodic_transmit_routesrunbytheirmodes3 :
    (fun (r : Fin 12288) (s : State) =>
      (rt s.cfg r.val 2 = 1) ∧
      (rtMode s.cfg r.val = 1) ∧
      (braidStill s = false) ∧
      ((route r.val s).perAt < periodNow r.val s) ∧
      (rtEgress s.cfg r.val < 48) ∧
      ((route r.val s).ever = true) ∧
      ((route r.val s).box ≠ []) ∧
      ((route r.val s).joined = false) ∧
      ((route r.val s).owed = false) ∧
      (inTransmission r.val (rtEgress s.cfg r.val) s = false)) (7) (setRoute 7 { routeSt0 with ever := true, box := [(oneRec.frame, [])] } (periodicOn)) := by
  beta_reduce; decide +kernel

theorem witness_minimum_interval_end_routesrunbytheirmodes4 :
    (fun (r : Fin 12288) (s : State) =>
      (rtMode s.cfg r.val = 3) ∧
      (braidStill s = false) ∧
      ((route r.val s).joined = false) ∧
      (inTransmission r.val (rtEgress s.cfg r.val) s = false)) (7) (withCfgE 7 0x3C10 0x0E 3 (setRoute 7 { routeSt0 with ever := true, box := [(oneRec.frame, [])] } on)) := by
  beta_reduce; decide +kernel

theorem witness_limiter_token_release_routesrunbytheirmodes5 :
    (fun (l : Fin 1024) (e : Nat × RouteSt) (s : State) =>
      ((s.braid.routes.find? fun e => e.2.held && rtLimiter s.cfg e.1 == l.val) = some e) ∧
      (braidStill s = false)) (9) ((7, { routeSt0 with held := true })) (withCfgE 7 0x3C10 0x14 9 (setRoute 7 { routeSt0 with held := true } on)) := by
  beta_reduce; decide +kernel

theorem witness_transmit_window_edge_routesrunbytheirmodes6 :
    (fun (n : Fin 48) (s : State) =>
      (windowed n.val s = true) ∧
      (braidStill s = false) ∧
      (listsRun s = true) ∧
      ((windowSt n.val s).admin = none)) (5) (withCfg 0x3C45 1 1 on) := by
  beta_reduce; decide +kernel

theorem witness_container_deadline_close_containerscloseandareunpacked0 :
    (fun (k : Fin 64) (s : State) =>
      (braidStill s = false) ∧
      (((streamSt k.val s).msgs.any fun m => decide (m.2 ≤ monoNs s)) = true)) (2) ({ on with braid := { on.braid with streams := [(2, ⟨[([1, 2], 0)]⟩)] } }) := by
  beta_reduce; decide +kernel

theorem witness_container_unpack_containerscloseandareunpacked1 :
    (fun (u : Unpack) (l : List Unpack) (s : State) =>
      (s.braid.unpack = u :: l) ∧
      (avtpOf u.data = none)) (⟨[1, 2], 3, 0⟩) ([]) ({ on with braid := { on.braid with unpack := [⟨[1, 2], 3, 0⟩] } }) := by
  beta_reduce; decide +kernel

theorem witness_container_unpack_containerscloseandareunpacked2 :
    (fun (u : Unpack) (l : List Unpack) (a : Avtp) (e : Nat) (s : State) =>
      (s.braid.unpack = u :: l) ∧
      (avtpOf u.data = some a) ∧
      (entryFor s.cfg u.port a.id = some e)) (⟨avtpFrame, 3, 0⟩) ([]) (avtpHead) (2) (withCfgE 2 0x3C21 4 8 (withCfgE 2 0x3C21 2 1 { on with braid := { on.braid with unpack := [⟨avtpFrame, 3, 0⟩] } })) := by
  beta_reduce; decide +kernel

theorem witness_beacon_alignment_containerscloseandareunpacked3 :
    (fun (k : Fin 8) (s : State) =>
      (coordinator (22 + k.val) s = true) ∧
      (portUp (22 + k.val) s = true) ∧
      (cfg (0x3C80 + k.val) 1 s = 1) ∧
      (tget 0 s.braid.gridAt k.val = 0)) (0) (withCfg 0x3C80 1 1 (withCfg (pB 22 + 5) 1 1 (setReg (pS 22) 1 1 on))) := by
  beta_reduce; decide +kernel

theorem witness_plca_takeover_containerscloseandareunpacked4 :
    (fun (k : Fin 8) (s : State) =>
      (cfg (0x3C80 + k.val) 3 s = 1) ∧
      (cfg (pB (22 + k.val) + 5) 1 s = 1) ∧
      (coordinator (22 + k.val) s = false) ∧
      (portUp (22 + k.val) s = true) ∧
      (due (tget 0 s.braid.beaconAt k.val) (ms (cfg (0x3C80 + k.val) 4 s)) s = true)) (0) (atNs 9000000000 (withCfg 0x3C80 3 1 (withCfg (pB 22 + 5) 2 3 (withCfg (pB 22 + 5) 1 1 (setReg (pS 22) 1 1 on))))) := by
  beta_reduce; decide +kernel

theorem witness_replay_record_submit_caughtframesarereplayed0 :
    (fun (x : BusRec) (l : List BusRec) (s : State) =>
      (reg 0x3C90 2 s = 1) ∧
      (s.braid.replay = x :: l)) (oneRec) ([]) (setReg 0x3C90 2 1 { on with braid := { on.braid with replay := [oneRec] } }) := by
  beta_reduce; decide +kernel

theorem witness_replay_record_submit_caughtframesarereplayed1 :
    (fun (x : BusRec) (s : State) =>
      (reg 0x3C90 2 s = 1) ∧
      (s.braid.replay = [x]) ∧
      (let t := noteHeld x.source (releaseCatch x { s with braid := { s.braid with replay := [] } });
        x.stamp + ms (cfg 0x5010 2 t) < nowNs t)) (oneRec) (atNs 900000000000 (setReg 0x3C90 2 1 { on with braid := { on.braid with replay := [oneRec] } })) := by
  beta_reduce; decide +kernel

theorem witness_replay_end_caughtframesarereplayed2 :
    (fun (s : State) =>
      (reg 0x3C90 2 s = 1) ∧
      (s.braid.replay = [])) (setReg 0x3C90 2 1 on) := by
  beta_reduce; decide +kernel

theorem witness_sync_receive_localtimeissteered0 :
    (fun (m : SyncInfo) (s : State) =>
      (cfg 0x3800 3 s = 1) ∧
      (cfg (iP (cfg 0x3800 4 s)) 1 s = 1) ∧
      (ptpRuns s = true) ∧
      (((List.range 22).any fun p => steersFrom p s && portUp p s && reg (0x3820 + p) 0x0A s == 1) = true)) (⟨5, 0⟩) (slaveOn) := by
  beta_reduce; decide +kernel

theorem witness_sync_receive_localtimeissteered1 :
    (fun (m : SyncInfo) (s : State) =>
      (cfg 0x3800 3 s = 1) ∧
      (cfg (iP (cfg 0x3800 4 s)) 1 s = 1) ∧
      (ptpRuns s = false)) (⟨5, 0⟩) ({ slaveOn with dev := .headless }) := by
  beta_reduce; decide +kernel

theorem witness_pps_in_edge_localtimeissteered2 :
    (fun (s : State) =>
      (cfg 0x3800 3 s = 2) ∧
      (ptpRuns s = true)) (withCfg 0x3800 3 2 on) := by
  beta_reduce; decide +kernel

theorem witness_sync_receipt_timeout_localtimeissteered3 :
    (fun (s : State) =>
      (cfg 0x3800 3 s = 1) ∧
      (reg (iP (cfg 0x3800 4 s)) 9 s = 1) ∧
      (due (ptpInst (cfg 0x3800 4 s) s).lastSync (cfg (iP (cfg 0x3800 4 s)) 7 s * syncInterval (cfg 0x3800 4 s) s) s = true) ∧
      (cfg (iP (cfg 0x3800 4 s)) 3 s = 0) ∧
      (reg 0x3800 6 s = 3)) (atNs 90000000000 (withCfg 0x3810 3 0 (setReg 0x3810 9 1 (setReg 0x3800 6 3 (withCfg 0x3800 3 1 on))))) := by
  beta_reduce; decide +kernel

theorem witness_pps_in_timeout_localtimeissteered4 :
    (fun (s : State) =>
      (cfg 0x3800 3 s = 2) ∧
      (due s.time.ppsIn 2000000000 s = true) ∧
      (reg 0x3800 6 s = 3)) (atNs 90000000000 (setReg 0x3800 6 3 (withCfg 0x3800 3 2 on))) := by
  beta_reduce; decide +kernel

theorem witness_holdover_limit_localtimeissteered5 :
    (fun (s : State) =>
      (reg 0x3801 4 s ≠ 0) ∧
      (reg 0x3801 1 s = 1) ∧
      (due s.time.holdAt (ms 1000 * reg 0x3801 4 s) s = true)) (atNs 90000000000 (setReg 0x3801 4 5 (setReg 0x3801 1 1 on))) := by
  beta_reduce; decide +kernel

theorem witness_ptp_message_receive_ptpmessagesareexchanged0 :
    (fun (p : Fin 33) (m : PtpMessage) (s : State) =>
      (p.val < 22) ∧
      (portUp p.val s = true) ∧
      (m.kind.val = 2) ∧
      (ptpRuns s = true)) (3) (⟨2, 0, 0, 0, 0, 0, 0, 0⟩) (slaveOn) := by
  beta_reduce; decide +kernel

theorem witness_ptp_message_receive_ptpmessagesareexchanged1 :
    (fun (p : Fin 33) (m : PtpMessage) (d : Nat) (s : State) =>
      (p.val < 22) ∧
      (portUp p.val s = true) ∧
      (m.kind.val = 0 ∨ m.kind.val = 8) ∧
      (instanceOf p.val m.domain.toNat s = some d) ∧
      (ptpRuns s = true) ∧
      (asCapable p.val s = true) ∧
      (ptpRole s.cfg p.val d = 2)) (3) (⟨0, 0, 0, 0, 0, 0, 0, 0⟩) (0) (slaveOn) := by
  beta_reduce; decide +kernel

theorem witness_link_delay_exchange_ptpmessagesareexchanged2 :
    (fun (p : Fin 22) (x : DelayExchange) (s : State) =>
      (portUp p.val s = true) ∧
      (x.delay ≤ cfg (0x3820 + p.val) 5 s) ∧
      (2 ≤ (ptpPort p.val s).completed)) (3) (⟨300, 0⟩) (withCfg 0x3823 5 800 (setPtpPort 3 { ptpPort0 with completed := 2 } slaveOn)) := by
  beta_reduce; decide +kernel

theorem witness_link_delay_request_send_ptpmessagesareexchanged3 :
    (fun (p : Fin 22) (s : State) =>
      (portUp p.val s = true) ∧
      (Past s) ∧
      (due (ptpPort p.val s).lastSent (logNs (toInt 32 (cfg (0x3820 + p.val) 3 s))) s = true) ∧
      ((ptpPort p.val s).open_ = false) ∧
      (s.faults.due = [])) (3) (atNs 9000000000 slaveOn) := by
  beta_reduce; decide +kernel

theorem witness_grandmaster_sync_send_ptpmessagesareexchanged4 :
    (fun (d : Fin 4) (p : Fin 33) (s : State) =>
      (cfg (iP d.val) 1 s = 1) ∧
      (cfg (iP d.val) 3 s = 0) ∧
      ((masterPorts d.val s).contains p.val = true) ∧
      (ptpRuns s = true) ∧
      (timeActs s = true) ∧
      (due (tget 0 s.time.sent (32 * d.val + p.val)) (syncInterval d.val s) s = true)) (0) (3) (atNs 9000000000 (withCfg 0x3810 3 0 (withCfg 0x3823 2 1 slaveOn))) := by
  beta_reduce; decide +kernel

theorem witness_step_by_timeissteppedlatchedandshown0 :
    (fun (ses : Session) (s : State) =>
      (Served ses s) ∧
      (s.dev ≠ .terminal) ∧
      (2 ≤ roleOf ses s)) (.spi) ({ on with crust := { on.crust with roles := [(0x30, 3)] } }) := by
  beta_reduce; decide +kernel

theorem witness_set_absolute_timeissteppedlatchedandshown1 :
    (fun (ses : Session) (s : State) =>
      (Served ses s) ∧
      (s.dev ≠ .terminal) ∧
      (3 ≤ roleOf ses s)) (.spi) ({ on with crust := { on.crust with roles := [(0x30, 3)] } }) := by
  beta_reduce; decide +kernel

theorem witness_step_by_timeissteppedlatchedandshown2 :
    (fun (ses : Session) (s : State) =>
      (Served ses s) ∧
      (s.dev ≠ .terminal) ∧
      (roleOf ses s < 2)) (.spi) (on) := by
  beta_reduce; decide +kernel

theorem witness_comparator_arm_timeissteppedlatchedandshown3 :
    (fun (ses : Session) (k : Fin 16) (s : State) =>
      (Served ses s) ∧
      (s.dev ≠ .terminal) ∧
      (far (ofTime80 (reg (cP k.val) 1 s)) (nowNs s) = false)) (.spi) (3) (on) := by
  beta_reduce; decide +kernel

theorem witness_comparator_disarm_timeissteppedlatchedandshown4 :
    (fun (ses : Session) (k : Fin 16) (s : State) =>
      (Served ses s) ∧
      (s.dev ≠ .terminal)) (.spi) (3) (on) := by
  beta_reduce; decide +kernel

theorem witness_comparator_fire_timeissteppedlatchedandshown5 :
    (fun (k : Fin 16) (s : State) =>
      (cmpArmed k.val s = true) ∧
      (reached k.val s = true) ∧
      (Past s) ∧
      (s.power.sleep = 0)) (3) (setReg (cP 3) 2 1 on) := by
  beta_reduce; decide +kernel

theorem witness_capture_edge_timeissteppedlatchedandshown6 :
    (fun (c : Fin 12) (r : Bool) (s : State) =>
      (c.val < 9) ∧
      (cfg (capP c.val) 1 s = 1) ∧
      (bit (cfg (capP c.val) 2 s) (if r then 0 else 1) = true) ∧
      (s.power.sleep = 0) ∧
      ((caps c.val s).length < 16) ∧
      (cfg (capP c.val) 9 s = 0xFF)) (3) (true) (withCfg 0x3853 9 0xFF (withCfg 0x3853 2 1 (withCfg 0x3853 1 1 on))) := by
  beta_reduce; decide +kernel

theorem witness_capture_edge_timeissteppedlatchedandshown7 :
    (fun (c : Fin 12) (r : Bool) (s : State) =>
      (c.val < 9) ∧
      (cfg (capP c.val) 1 s = 1) ∧
      (bit (cfg (capP c.val) 2 s) (if r then 0 else 1) = true) ∧
      (s.power.sleep = 0) ∧
      (16 ≤ (caps c.val s).length)) (3) (true) (setCaps 3 (List.replicate 16 ⟨0, 1, 0⟩) (withCfg 0x3853 2 1 (withCfg 0x3853 1 1 on))) := by
  beta_reduce; decide +kernel

theorem witness_capture_pop_timeissteppedlatchedandshown8 :
    (fun (ses : Session) (c : Fin 12) (x : Capture) (l : List Capture) (s : State) =>
      (Served ses s) ∧
      (caps c.val s = x :: l)) (.spi) (3) (⟨0, 1, 0⟩) ([]) (setCaps 3 [⟨0, 1, 0⟩] on) := by
  beta_reduce; decide +kernel

theorem witness_cross_stamp_latch_timeissteppedlatchedandshown9 :
    (fun (ses : Session) (s : State) =>
      (Served ses s) ∧
      (ses ≠ .bar0)) (.spi) (on) := by
  beta_reduce; decide +kernel

theorem witness_pps_out_pulse_timeissteppedlatchedandshown10 :
    (fun (s : State) =>
      (cfg 0x3860 1 s = 1) ∧
      (s.time.acquired = true) ∧
      (timeActs s = true) ∧
      (s.time.drivers = true) ∧
      (nowNs s % 1000000000 < 16)) ({ withCfg 0x3860 1 1 on with time := { on.time with acquired := true, drivers := true } }) := by
  beta_reduce; decide +kernel

theorem witness_nm_pdu_receive_clustersagreetosleep0 :
    (fun (bus : Fin 94) (d : List Byte) (c : Nat) (s : State) =>
      (s.dev ≠ .boot ∧ s.dev ≠ .catch_) ∧
      (s.power.sleep = 0) ∧
      (withheldBy bus.val (nmNode d s) s = some c)) (5) ([7]) (0) (wakeOf (fun w => { w with clusters := [(0, { clusterSt0 with withheld := [(5, 7)] })] }) (clusterIn 2)) := by
  beta_reduce; decide +kernel

theorem witness_nm_pdu_receive_clustersagreetosleep1 :
    (fun (bus : Fin 94) (d : List Byte) (s : State) =>
      (s.dev ≠ .boot ∧ s.dev ≠ .catch_) ∧
      (s.power.sleep = 0) ∧
      (withheldBy bus.val (nmNode d s) s = none)) (5) ([7]) (clusterIn 2) := by
  beta_reduce; decide +kernel

theorem witness_own_nm_pdu_send_clustersagreetosleep2 :
    (fun (c : Fin 8) (s : State) =>
      (s.dev = .operate ∨ s.dev = .configure ∨ s.dev = .headless ∨ s.dev = .sleepPrep) ∧
      (s.power.sleep = 0) ∧
      (ownKeep c.val s = true) ∧
      (clusterState c.val s = 2) ∧
      ((cluster c.val s).ownAt + ms (cfg 0x3F00 7 s) ≤ monoNs s)) (0) (setReg (nP 0) 9 1 (clusterIn 2)) := by
  beta_reduce; decide +kernel

theorem witness_nm_timeout_clustersagreetosleep3 :
    (fun (c : Fin 8) (t : Nat) (s : State) =>
      (s.dev ≠ .boot ∧ s.dev ≠ .catch_) ∧
      (s.power.sleep = 0) ∧
      (clusterState c.val s = 2) ∧
      (ownKeep c.val s = false) ∧
      (linHold c.val s = false) ∧
      ((cluster c.val s).lastPdu = some t) ∧
      (t + nmTimeout c.val s ≤ monoNs s)) (0) (0) (wakeOf (fun w => { w with clusters := [(0, { clusterSt0 with lastPdu := some 0 })] }) (setReg (nP 0) 9 0 (clusterIn 2))) := by
  beta_reduce; decide +kernel

theorem witness_lin_responder_hold_end_clustersagreetosleep4 :
    (fun (m : Fin 16) (t : Nat) (s : State) =>
      ((lin m.val s).headerAt = some t) ∧
      (due t (ms 4000) s = true)) (2) (0) (atNs 5000000000 (setLin 2 { linSt0 with headerAt := some 0 } on)) := by
  beta_reduce; decide +kernel

theorem witness_sleep_commit_clustersagreetosleep5 :
    (fun (c : Fin 8) (s : State) =>
      (s.dev = .operate ∨ s.dev = .configure ∨ s.dev = .sleepPrep) ∧
      (clusterState c.val s = 3) ∧
      ((cluster c.val s).held = []) ∧
      ((cluster c.val s).prepAt + prepareTime c.val s ≤ monoNs s) ∧
      (ownKeep c.val s = false) ∧
      (linHold c.val s = false) ∧
      (heldBuses c.val s = [])) (0) (setReg (nP 0) 9 0 (clusterIn 3)) := by
  beta_reduce; decide +kernel

theorem witness_standby_point_clustersagreetosleep6 :
    (fun (c : Fin 8) (s : State) =>
      (clusterState c.val s = 4) ∧
      ((memberCodes c.val s).all (fun k => memberStill k s) = true)) (0) (withCfg 0x3F10 1 0 (clusterIn 4)) := by
  beta_reduce; decide +kernel

theorem witness_awake_timer_expiry_clustersagreetosleep7 :
    (fun (c : Fin 8) (s : State) =>
      (cfg (nP c.val) 7 s ≠ 0) ∧
      (reg (nP c.val) 9 s = 0) ∧
      (clusterState c.val s = 2 ∨ clusterState c.val s = 3) ∧
      ((cluster c.val s).expired = false) ∧
      (cfg (nP c.val) 7 s * 1000000000 ≤ (cluster c.val s).awake) ∧
      ((cluster c.val s).keepers.filter (fun k => decide (monoNs s < k.2.2 + nmTimeout c.val s)) = [])) (0) (wakeOf (fun w => { w with clusters := [(0, { clusterSt0 with awake := 60000000000 })] }) (setReg (nP 0) 9 0 (withCfg (nP 0) 7 60 (clusterIn 2)))) := by
  beta_reduce; decide +kernel

theorem witness_withholding_end_clustersagreetosleep8 :
    (fun (c : Fin 8) (s : State) =>
      (s.dev = .operate ∨ s.dev = .configure ∨ s.dev = .sleepPrep) ∧
      (clusterState c.val s = 3) ∧
      ((cluster c.val s).held ≠ []) ∧
      ((cluster c.val s).held.all (fun k => busSilent k (nmTimeout c.val s + prepareTime c.val s) s) = true)) (0) (wakeOf (fun w => { w with clusters := [(0, { clusterSt0 with held := [5] })] }) (clusterIn 3)) := by
  beta_reduce; decide +kernel

theorem witness_wake_source_validated_wakesaretaken0 :
    (fun (n : Fin 96) (s : State) =>
      (s.power.aonUp = true) ∧
      (s.power.sleep ≠ 0) ∧
      (64 ≤ n.val ∧ n.val < 68) ∧
      (s.power.busUp = true) ∧
      (bit (cfg 0x5041 1 s) n.val = false)) (64) (withCfg 0x5041 1 0 (asleep 1)) := by
  beta_reduce; decide +kernel

theorem witness_wake_source_validated_wakesaretaken1 :
    (fun (n : Fin 96) (s : State) =>
      (s.power.aonUp = true) ∧
      (s.power.sleep ≠ 0) ∧
      (64 ≤ n.val ∧ n.val < 68) ∧
      (s.power.busUp = true) ∧
      (bit (cfg 0x5041 1 s) n.val = true) ∧
      (s.wake.called = none) ∧
      (due s.wake.sleptAt (deviceDwell (wakeSet n.val s) s) s = true)) (64) (withCfg 0x5041 1 (2 ^ 64) (asleep 1)) := by
  beta_reduce; decide +kernel

theorem witness_wake_source_validated_wakesaretaken2 :
    (fun (n : Fin 96) (s : State) =>
      (s.power.aonUp = true) ∧
      (n.val < 48) ∧
      (s.power.sleep = 0) ∧
      (s.power.reset = 0) ∧
      (trans n.val s ≠ 0)) (5) ({ canOn with power := { canOn.power with aonUp := true, sleep := 0, reset := 0 } }) := by
  beta_reduce; decide +kernel

theorem witness_wake_timer_expiry_wakesaretaken3 :
    (fun (s : State) =>
      (s.power.sleep ≠ 0) ∧
      (cfg 0x5041 8 s ≠ 0) ∧
      (due s.wake.sleptAt (cfg 0x5041 8 s * 1000000000) s = true) ∧
      (s.wake.timerDone = false) ∧
      (bit (cfg 0x5041 1 s) 83 = false)) (withCfg 0x5041 1 0 (withCfg 0x5041 8 1 (asleep 1))) := by
  beta_reduce; decide +kernel

theorem witness_sleep_dwell_end_wakesaretaken4 :
    (fun (c : Fin 8) (n : Nat) (s : State) =>
      (s.power.sleep ≠ 0) ∧
      (s.wake.called = none) ∧
      (s.wake.latched.find? (fun n => due s.wake.sleptAt (deviceDwell (wakeSet n s) s) s) = some n)) (0) (64) (wakeOf (fun w => { w with latched := [64] }) (asleep 1)) := by
  beta_reduce; decide +kernel

theorem witness_sleep_dwell_end_wakesaretaken5 :
    (fun (c : Fin 8) (s : State) =>
      (s.power.sleep = 0) ∧
      (clusterState c.val s = 0) ∧
      ((cluster c.val s).latched = true) ∧
      (dwelled c.val s = true) ∧
      (s.wake.committed = false)) (0) (wakeOf (fun w => { w with clusters := [(0, { clusterSt0 with latched := true })] }) (clusterIn 0)) := by
  beta_reduce; decide +kernel

theorem witness_wake_backoff_end_wakesaretaken6 :
    (fun (s : State) =>
      (s.wake.backoff ≠ 0) ∧
      (s.wake.backoff ≤ wall s)) (wakeOf (fun w => { w with backoff := 5 }) (asleep 1)) := by
  beta_reduce; decide +kernel

theorem witness_tc10_sleep_entry_wakesaretaken7 :
    (fun (p : Fin 33) (a : Bool) (s : State) =>
      (16 ≤ p.val ∧ p.val < 30) ∧
      (reg (pB p.val + 6) 4 s = 1) ∧
      (a = true ∨ due (prt p.val s).tcAt (ms 16) s = true)) (20) (true) (setReg (pB 20 + 6) 4 1 on) := by
  beta_reduce; decide +kernel

theorem witness_tc10_wake_pulse_wakesaretaken8 :
    (fun (p : Fin 33) (s : State) =>
      (16 ≤ p.val ∧ p.val < 30) ∧
      (reg (pB p.val + 6) 4 s = 2) ∧
      (cfg (pB p.val + 6) 2 s = 1) ∧
      (bit (cfg 0x5041 1 s) (p.val + 52) = false)) (20) (withCfg 0x5041 1 0 (setReg (pB 20 + 6) 4 2 on)) := by
  beta_reduce; decide +kernel

theorem witness_sleep_ready_devicesleepsandwakes0 :
    (fun (s : State) =>
      (s.wake.committed = true) ∧
      (s.wake.ready = false) ∧
      (reg 0x5040 8 s = 1) ∧
      (s.access.coreUp = true)) (wakeOf (fun w => { w with committed := true }) (setReg 0x5040 8 1 on)) := by
  beta_reduce; decide +kernel

theorem witness_device_sleep_entry_devicesleepsandwakes1 :
    (fun (s : State) =>
      (s.dev = .sleepPrep) ∧
      (s.wake.committed = true) ∧
      (s.wake.ready = true) ∧
      ((memberClusters s).all (fun c => clusterState c s == 0) = true)) (wakeOf (fun w => { w with committed := true, ready := true }) { clusterIn 0 with dev := .sleepPrep }) := by
  beta_reduce; decide +kernel

theorem witness_warm_dwell_limit_devicesleepsandwakes2 :
    (fun (s : State) =>
      (s.power.sleep = 1) ∧
      (cfg 0x5040 1 s = 2) ∧
      (s.wake.called = none) ∧
      (due s.wake.sleptAt (cfg 0x5040 2 s * 60000000000) s = true)) (withCfg 0x5040 1 2 (withCfg 0x5040 2 0 (asleep 1))) := by
  beta_reduce; decide +kernel

theorem witness_warm_wake_devicesleepsandwakes3 :
    (fun (n : Nat) (s : State) =>
      (s.wake.called = some n) ∧
      (s.power.sleep = 1) ∧
      (s.power.aonUp = true) ∧
      (s.power.retentionLost = false)) (64) (wakeOf (fun w => { w with called := some 64 }) (asleep 1)) := by
  beta_reduce; decide +kernel

theorem witness_warm_wake_devicesleepsandwakes4 :
    (fun (n : Nat) (s : State) =>
      (s.wake.called = some n) ∧
      (s.power.sleep = 1) ∧
      (s.power.aonUp = true) ∧
      (s.power.retentionLost = true)) (64) (wakeOf (fun w => { w with called := some 64 }) (powerOf (fun p => { p with retentionLost := true }) (asleep 1))) := by
  beta_reduce; decide +kernel

theorem witness_cold_wake_devicesleepsandwakes5 :
    (fun (n : Nat) (s : State) =>
      (s.wake.called = some n) ∧
      (s.power.sleep = 2) ∧
      (s.power.busUp = true) ∧
      (s.power.aonUp = true)) (64) (wakeOf (fun w => { w with called := some 64 }) (asleep 2)) := by
  beta_reduce; decide +kernel

theorem witness_wake_done_devicesleepsandwakes6 :
    (fun (s : State) =>
      (reg 0x5040 8 s = 2) ∧
      (s.access.coreUp = true) ∧
      (s.dev = .operate ∨ s.dev = .configure)) (setReg 0x5040 8 2 on) := by
  beta_reduce; decide +kernel

theorem witness_wake_watchdog_expiry_devicesleepsandwakes7 :
    (fun (s : State) =>
      (reg 0x5040 8 s ≠ 0) ∧
      (s.power.reset = 0) ∧
      (s.power.extending = none) ∧
      (s.power.sleep = 0) ∧
      (s.power.aonUp = true) ∧
      (srcSet 0xA2 s = false) ∧
      (field (reg 0x5050 1 s) 0 2 ≠ 1) ∧
      (due s.wake.watchdog (ms 500) s = true)) (setReg 0x5040 8 2 awakeOn) := by
  beta_reduce; decide +kernel

theorem witness_safe_sleep_timeout_devicesleepsandwakes8 :
    (fun (s : State) =>
      (s.dev = .safe ∨ s.dev = .terminal) ∧
      (cfg 0x5040 4 s ≠ 0) ∧
      (due s.wake.safeAt (cfg 0x5040 4 s * 1000000000) s = true) ∧
      (s.power.sleep = 0) ∧
      (s.power.aonUp = true)) (withCfg 0x5040 4 1 { awakeOn with dev := .safe }) := by
  beta_reduce; decide +kernel

theorem witness_porst_n_assert_resetsandsupplies0 :
    (fun (s : State) =>
      (s.power.reset ≠ 1 ∧ s.power.reset ≠ 7) ∧
      (s.power.sleep = 0) ∧
      (s.power.aonUp = true)) (on) := by
  beta_reduce; decide +kernel

theorem witness_porst_n_release_resetsandsupplies1 :
    (fun (v : Fin 1024) (s : State) =>
      (s.power.reset = 1 ∨ s.power.reset = 2 ∨ s.power.reset = 7) ∧
      (s.power.aonUp = true) ∧
      (s.power.busUp = true) ∧
      (s.power.extending = none)) (3) (powerOf (fun p => { p with reset := 2, extending := none }) on) := by
  beta_reduce; decide +kernel

theorem witness_rst_n_reset_resetsandsupplies2 :
    (fun (s : State) =>
      (s.power.reset = 0) ∧
      (s.power.aonUp = true) ∧
      (s.power.sleep ≠ 2)) (awakeOn) := by
  beta_reduce; decide +kernel

theorem witness_rst_n_release_resetsandsupplies3 :
    (fun (s : State) =>
      (s.power.reset = 3) ∧
      (s.power.extending = none) ∧
      (reg 0x5030 2 s = 2)) (setReg 0x5030 2 2 (powerOf (fun p => { p with reset := 3 }) awakeOn)) := by
  beta_reduce; decide +kernel

theorem witness_rst_n_release_resetsandsupplies4 :
    (fun (s : State) =>
      (s.power.reset = 3) ∧
      (s.power.extending = none) ∧
      (reg 0x5030 2 s ≠ 2)) (setReg 0x5030 2 1 (powerOf (fun p => { p with reset := 3 }) awakeOn)) := by
  beta_reduce; decide +kernel

theorem witness_software_reset_resetsandsupplies5 :
    (fun (ses : Session) (s : State) =>
      (Served ses s) ∧
      (sessionLive ses s = true) ∧
      (s.dev ≠ .boot ∧ s.dev ≠ .catch_ ∧ s.dev ≠ .terminal) ∧
      (2 ≤ roleOf ses s)) (.spi) ({ on with crust := { on.crust with roles := [(0x30, 2)] } }) := by
  beta_reduce; decide +kernel

theorem witness_supply_reset_resetsandsupplies6 :
    (fun (s : State) =>
      (s.power.reset = 0) ∧
      (s.power.aonUp = true) ∧
      (s.power.sleep = 0)) (awakeOn) := by
  beta_reduce; decide +kernel

theorem witness_supply_reset_release_resetsandsupplies7 :
    (fun (s : State) =>
      (s.power.reset = 5) ∧
      (s.power.extending = none)) (powerOf (fun p => { p with reset := 5 }) awakeOn) := by
  beta_reduce; decide +kernel

theorem witness_rail_out_of_range_resetsandsupplies8 :
    (fun (r : Fin 16) (low : Bool) (s : State) =>
      (r.val < 8) ∧
      (r.val ≠ 4) ∧
      (s.power.sleep = 0) ∧
      (s.power.reset = 0) ∧
      (s.power.aonUp = true)) (0) (true) (awakeOn) := by
  beta_reduce; decide +kernel

theorem witness_retention_lost_resetsandsupplies9 :
    (fun (s : State) =>
      (s.power.sleep = 1)) (asleep 1) := by
  beta_reduce; decide +kernel

theorem witness_vdd_aon_return_resetsandsupplies11 :
    (fun (s : State) =>
      (s.power.aonUp = false) ∧
      (s.power.busUp = true)) (powerOf (fun p => { p with aonUp := false }) awakeOn) := by
  beta_reduce; decide +kernel

theorem witness_vddio_bus_loss_resetsandsupplies12 :
    (fun (s : State) =>
      (s.power.busUp = true) ∧
      (s.power.reset ≠ 1)) (awakeOn) := by
  beta_reduce; decide +kernel

theorem witness_vddio_bus_return_resetsandsupplies13 :
    (fun (s : State) =>
      (s.power.busUp = false) ∧
      (s.power.aonUp = true)) (powerOf (fun p => { p with busUp := false }) awakeOn) := by
  beta_reduce; decide +kernel

theorem witness_xtal_stable_clocksandimages0 :
    (fun (t : Nat) (s : State) =>
      (s.power.aonUp = true) ∧
      (s.power.sleep ≠ 2) ∧
      (reg 0x5030 2 s ≠ 2) ∧
      (s.power.extending = some t)) (0) (setReg 0x5030 2 1 (powerOf (fun p => { p with extending := some 0 }) awakeOn)) := by
  beta_reduce; decide +kernel

theorem witness_xtal_loss_clocksandimages1 :
    (fun (s : State) =>
      (s.power.aonUp = true) ∧
      (s.power.sleep = 0) ∧
      (s.power.reset = 0)) (awakeOn) := by
  beta_reduce; decide +kernel

theorem witness_pll_lock_clocksandimages2 :
    (fun (k : Fin 10) (s : State) =>
      (s.power.reset = 0) ∧
      (s.power.sleep = 0) ∧
      (s.power.aonUp = true) ∧
      (bit (reg 0x5030 1 s) k.val = false) ∧
      (k.val < 3)) (1) (setReg 0x5030 1 0 awakeOn) := by
  beta_reduce; decide +kernel

theorem witness_pll_unlock_clocksandimages3 :
    (fun (k : Fin 10) (s : State) =>
      (bit (reg 0x5030 1 s) k.val = true) ∧
      (6 ≤ k.val)) (7) (setReg 0x5030 1 255 awakeOn) := by
  beta_reduce; decide +kernel

theorem witness_strap_driver_enable_clocksandimages4 :
    (fun (s : State) =>
      (s.power.reset = 0) ∧
      (s.power.sleep = 0) ∧
      (s.power.extending = none) ∧
      (due s.power.started 20000 s = true)) (awakeOn) := by
  beta_reduce; decide +kernel

theorem witness_firmware_image_verified_clocksandimages5 :
    (fun (image : FirmwareLoad) (m : ImageInfo) (s : State) =>
      (s.access.coreUp = false) ∧
      (s.power.recovery = false) ∧
      (s.power.reset = 0) ∧
      (s.power.extending = none) ∧
      (s.power.sleep = 0) ∧
      (s.power.loaded = false) ∧
      (reg 0x5010 4 s = 0) ∧
      (s.update.flag = 0) ∧
      (image.first = some m) ∧
      (firmwarePasses m s = true)) (⟨some fwInfo, none⟩) (fwInfo) ({ awakeOn with access := { awakeOn.access with coreUp := false }, power := { awakeOn.power with loaded := false } }) := by
  beta_reduce; decide +kernel

theorem witness_firmware_image_verified_clocksandimages6 :
    (fun (image : FirmwareLoad) (s : State) =>
      (s.access.coreUp = false) ∧
      (s.power.recovery = false) ∧
      (s.power.reset = 0) ∧
      (s.power.extending = none) ∧
      (s.power.sleep = 0) ∧
      (s.power.loaded = false) ∧
      (reg 0x5010 4 s = 0) ∧
      (s.update.flag = 0) ∧
      (image.first = none) ∧
      (image.second = none)) (⟨none, none⟩) ({ awakeOn with access := { awakeOn.access with coreUp := false }, power := { awakeOn.power with loaded := false } }) := by
  beta_reduce; decide +kernel

theorem witness_configuration_image_loaded_clocksandimages7 :
    (fun (image : ConfigLoad) (m : ConfigImage) (b : Bank) (s : State) =>
      (s.access.coreUp = true) ∧
      (s.power.loaded = false) ∧
      (reg 0x5010 4 s = 0) ∧
      (s.dev ≠ .boot) ∧
      (s.power.sleep = 0) ∧
      (validImage image.first s = some (m, b))) (⟨some confImage, none⟩) (confImage) (((validImage (some confImage) { awakeOn with dev := .catch_, power := { awakeOn.power with loaded := false } }).map (·.2)).getD bank0) ({ awakeOn with dev := .catch_, power := { awakeOn.power with loaded := false } }) := by
  beta_reduce; decide +kernel

theorem witness_dictionary_available_clocksandimages8 :
    (fun (s : State) =>
      (s.access.available = false) ∧
      (s.access.coreUp = true) ∧
      (s.dev ≠ .boot ∧ s.dev ≠ .catch_) ∧
      (s.power.sleep = 0) ∧
      (s.power.warm = false) ∧
      (s.power.digest = false) ∧
      (due s.power.started (us (max 15000 (reg 0x5010 4 s + 3000))) s = true)) ({ awakeOn with access := { awakeOn.access with available := false } }) := by
  beta_reduce; decide +kernel

theorem witness_peck_request_pecksarearbitrated0 :
    (fun (n : Fin 62) (b : Nat) (s : State) =>
      (n.val ≠ 0) ∧
      (peckState n.val s = 0) ∧
      (consumerDomain n.val = none) ∧
      (consumerBase n.val = some b) ∧
      (granted b s = true) ∧
      (peckPermitted n.val s = true)) (54) (4) (setRegE 4 0x5001 5 2 on) := by
  beta_reduce; decide +kernel

theorem witness_peck_request_pecksarearbitrated1 :
    (fun (n : Fin 62) (s : State) =>
      (n.val ≠ 0) ∧
      (peckState n.val s = 0) ∧
      (peckPermitted n.val s = false)) (54) ({ withCfgE 54 0x5001 4 0 on with power := { on.power with loaded := true } }) := by
  beta_reduce; decide +kernel

theorem witness_peck_grant_pecksarearbitrated2 :
    (fun (n : Fin 62) (s : State) =>
      (peckState n.val s = 1 ∨ peckState n.val s = 3) ∧
      (fitsBudget (peckOf n.val s) s = true) ∧
      (fitsRamp (peckOf n.val s) s = true) ∧
      ((waiters s).any (fun m => holdsBack m n.val s) = false)) (54) (setRegE 54 0x5001 5 1 on) := by
  beta_reduce; decide +kernel

theorem witness_peck_return_pecksarearbitrated3 :
    (fun (n : Fin 62) (s : State) =>
      (n.val ≠ 0) ∧
      (mayReturn n.val s = true) ∧
      (peckState n.val s = 2)) (54) (setRegE 54 0x5001 5 2 on) := by
  beta_reduce; decide +kernel

theorem witness_peck_starvation_pecksarearbitrated4 :
    (fun (n : Fin 62) (s : State) =>
      (peckState n.val s = 1) ∧
      (due (waitSince n.val s) (us 100) s = true)) (54) (atNs 1000000000 (setRegE 54 0x5001 5 1 on)) := by
  beta_reduce; decide +kernel

theorem witness_starved_fallback_pecksarearbitrated5 :
    (fun (p : Fin 16) (s : State) =>
      (p.val < 4) ∧
      (peckState (5 + p.val) s = 3) ∧
      (due (waitSince (5 + p.val) s) (ms 1) s = true) ∧
      (cfg (pB p.val) 0x0A s ≠ 0) ∧
      ((prt p.val s).fallback = false)) (2) (atNs 1000000000 (setRegE 7 0x5001 5 3 (withCfg (pB 2) 0x0A 2 on))) := by
  beta_reduce; decide +kernel

theorem witness_starved_fallback_pecksarearbitrated6 :
    (fun (p : Fin 16) (s : State) =>
      (p.val < 4) ∧
      (peckState (5 + p.val) s = 3) ∧
      (due (waitSince (5 + p.val) s) (ms 1) s = true) ∧
      (cfg (pB p.val) 0x0A s = 0)) (2) (atNs 1000000000 (setRegE 7 0x5001 5 3 (withCfg (pB 2) 0x0A 0 on))) := by
  beta_reduce; decide +kernel

theorem witness_derating_update_pecksarearbitrated7 :
    (fun (tj : Int) (s : State) =>
      (1350 < tj)) (1400) (on) := by
  beta_reduce; decide +kernel

theorem witness_derating_update_pecksarearbitrated8 :
    (fun (tj : Int) (s : State) =>
      (tj ≤ 1200)) (-400) (on) := by
  beta_reduce; decide +kernel

theorem witness_serdes_step_pecksarearbitrated9 :
    (fun (s : State) =>
      (s.power.step < 4) ∧
      (s.power.loaded = true) ∧
      (due s.power.started (stepStart s.power.step s) s = true)) (awakeOn) := by
  beta_reduce; decide +kernel

theorem witness_step_request_withdraw_pecksarearbitrated10 :
    (fun (n : Fin 62) (s : State) =>
      (s.power.issued.contains n.val = true) ∧
      ((consumerPort n.val).isSome = true) ∧
      (peckState n.val s = 1 ∨ peckState n.val s = 3) ∧
      (due s.power.stepAt (ms 1) s = true)) (5) (powerOf (fun p => { p with issued := [5] }) (setRegE 5 0x5001 5 1 awakeOn)) := by
  beta_reduce; decide +kernel

theorem witness_domain_ready_pecksarearbitrated11 :
    (fun (d : Fin 18) (s : State) =>
      (d.val < 16) ∧
      (s.power.reset = 0) ∧
      (s.power.sleep = 0) ∧
      (domainGranted d.val s = true) ∧
      (s.power.broken.contains d.val = false) ∧
      (tget 0 s.power.offAt d.val = 0) ∧
      (powered d.val s = false)) (5) (setReg 0x5020 2 0 (setRegE 55 0x5001 5 2 awakeOn)) := by
  beta_reduce; decide +kernel

theorem witness_domain_power_down_pecksarearbitrated12 :
    (fun (d : Fin 18) (s : State) =>
      (domainRests d.val s = true ∨ domainRevoked d.val s = true)) (5) (setReg (nP 0) 0x0A 0 on) := by
  beta_reduce; decide +kernel

theorem witness_domain_drain_end_pecksarearbitrated13 :
    (fun (d : Fin 18) (s : State) =>
      (draining d.val s = true) ∧
      (drained d.val s = true)) (5) (setReg 0x5020 4 32 awakeOn) := by
  beta_reduce; decide +kernel

theorem witness_domain_drain_end_pecksarearbitrated14 :
    (fun (d : Fin 18) (s : State) =>
      (draining d.val s = true) ∧
      (drained d.val s = false) ∧
      (due (tget 0 s.power.drainAt d.val) (us (cfg 0x5020 1 s)) s = true)) (0) (setEgr 1 { egr 1 awakeOn with cur := some oneCopy } (setReg 0x5020 4 1 awakeOn)) := by
  beta_reduce; decide +kernel

theorem witness_power_switch_fault_pecksarearbitrated15 :
    (fun (d : Fin 18) (s : State) =>
      (d.val < 16)) (15) (on) := by
  beta_reduce; decide +kernel

theorem witness_grant_receive_memberholdsitslease0 :
    (fun (b : List Byte) (s : State) =>
      (b.length = 12) ∧
      (memberHears 1 (signed (cfg 0x5400 9 s) b s) s = true) ∧
      (s.pair.seen.contains (pmSeq (signed (cfg 0x5400 9 s) b s)) = false) ∧
      (tget 0 s.pair.seqs 0 < pmSeq (signed (cfg 0x5400 9 s) b s)) ∧
      (pmDev (signed (cfg 0x5400 9 s) b s) = ownDev s) ∧
      (mayHold s = true) ∧
      (pairSync (cfg 0x5400 0x0A s) s = false) ∧
      (reg 0x5401 2 s = 1)) ([1, 0, 5, 0, 0, 0, 0, 0, 0, 0, 0, 0]) (setReg 0x5401 2 1 memberOn) := by
  beta_reduce; decide +kernel

theorem witness_grant_receive_memberholdsitslease1 :
    (fun (m : List Byte) (s : State) =>
      (m.length = 12) ∧
      (memberHears 1 (signed (cfg 0x5400 9 s) m s) s = true) ∧
      (s.pair.seen.contains (pmSeq (signed (cfg 0x5400 9 s) m s)) = true)) ([1, 0, 5, 0, 0, 0, 0, 0, 0, 0, 0, 0]) ({ memberOn with pair := { memberOn.pair with seen := [5] } }) := by
  beta_reduce; decide +kernel

theorem witness_grant_receive_memberholdsitslease2 :
    (fun (m : List Byte) (s : State) =>
      (memberHears 1 m s = true) ∧
      (m.length ≠ 16)) ([1, 0, 5, 0]) (memberOn) := by
  beta_reduce; decide +kernel

theorem witness_release_receive_memberholdsitslease3 :
    (fun (b : List Byte) (s : State) =>
      (b.length = 12) ∧
      (memberHears 3 (signed (cfg 0x5400 9 s) b s) s = true) ∧
      (s.pair.seen.contains (pmSeq (signed (cfg 0x5400 9 s) b s)) = false) ∧
      (tget 0 s.pair.seqs 0 < pmSeq (signed (cfg 0x5400 9 s) b s)) ∧
      (pmDev (signed (cfg 0x5400 9 s) b s) = ownDev s)) ([3, 0, 5, 0, 0, 0, 0, 0, 0, 0, 0, 0]) (memberOn) := by
  beta_reduce; decide +kernel

theorem witness_lease_yield_memberholdsitslease4 :
    (fun (s : State) =>
      (s.pair.yielding = true) ∧
      (leasedIdle s = true) ∧
      (reg 0x5401 2 s = 1)) (setReg 0x5401 2 1 { memberOn with pair := { memberOn.pair with yielding := true } }) := by
  beta_reduce; decide +kernel

theorem witness_lease_yield_memberholdsitslease5 :
    (fun (s : State) =>
      (s.pair.yielding = true) ∧
      (leasedIdle s = false)) ({ leasedCan with pair := { leasedCan.pair with yielding := true }, braid := { leasedCan.braid with can := (setCan 5 { can 5 leasedCan with slots := [{ oneSlot with locked := true }] } leasedCan).braid.can } }) := by
  beta_reduce; decide +kernel

theorem witness_lease_end_memberholdsitslease6 :
    (fun (s : State) =>
      (reg 0x5401 2 s = 1) ∧
      (leaseHolds 0 s = false) ∧
      (s.pair.yielding = false)) (setReg 0x5401 2 1 memberOn) := by
  beta_reduce; decide +kernel

theorem witness_health_report_send_memberholdsitslease7 :
    (fun (s : State) =>
      (member s = true) ∧
      (s.dev ≠ .boot ∧ s.dev ≠ .catch_) ∧
      (s.power.sleep = 0) ∧
      (s.pair.healthAt + ms 10 ≤ monoNs s)) (memberOn) := by
  beta_reduce; decide +kernel

theorem witness_health_report_receive_memberholdsitslease8 :
    (fun (b : List Byte) (s : State) =>
      (b.length = 28) ∧
      (memberHears 4 (signed (cfg 0x5400 9 s) b s) s = true) ∧
      (pmDev (signed (cfg 0x5400 9 s) b s) = cfg 0x5400 5 s) ∧
      (s.pair.seen.contains (2 ^ 32 + pmSeq (signed (cfg 0x5400 9 s) b s)) = false) ∧
      (tget 0 s.pair.seqs 1 < pmSeq (signed (cfg 0x5400 9 s) b s))) ([4, 1, 5, 0, 0, 0, 0, 0, 0, 0, 0, 0, 0, 0, 0, 0, 0, 0, 0, 0, 0, 0, 0, 0, 0, 0, 0, 0]) (memberOn) := by
  beta_reduce; decide +kernel

theorem witness_partner_health_timeout_memberholdsitslease9 :
    (fun (s : State) =>
      (member s = true) ∧
      (due s.pair.partnerAt (ms 30) s = true)) (memberOn) := by
  beta_reduce; decide +kernel

theorem witness_referee_lost_memberholdsitslease10 :
    (fun (s : State) =>
      (member s = true) ∧
      (reg 0x5401 6 s = 1) ∧
      (due s.pair.heardAt (ms 3) s = true)) (setReg 0x5401 6 1 memberOn) := by
  beta_reduce; decide +kernel

theorem witness_shadow_omission_memberholdsitslease11 :
    (fun (e : Fin 48) (s : State) =>
      (shadowed e.val s = true)) (5) (withCfg 0x5400 3 32 memberOn) := by
  beta_reduce; decide +kernel

theorem witness_transmit_without_lease_memberholdsitslease12 :
    (fun (e : Fin 48) (s : State) =>
      (shadowed e.val s = true)) (5) (withCfg 0x5400 3 32 memberOn) := by
  beta_reduce; decide +kernel

theorem witness_referee_grant_renewal_refereemovesthelease0 :
    (fun (k : Fin 3) (s : State) =>
      (grants k.val s = true) ∧
      (holder k.val s ≠ 0) ∧
      ((referee k.val s).withheld = false) ∧
      ((referee k.val s).releasing = false) ∧
      ((referee k.val s).clash = false) ∧
      (eligibleNow k.val (holder k.val s) s = true) ∧
      ((referee k.val s).sentAt + 1000000 ≤ monoNs s)) (0) (setReg (rP 0) 8 1 (reporting 1 refereeOn)) := by
  beta_reduce; decide +kernel

theorem witness_referee_ack_timeout_refereemovesthelease1 :
    (fun (k : Fin 3) (s : State) =>
      (holder k.val s ≠ 0) ∧
      ((referee k.val s).awaiting = true) ∧
      ((referee k.val s).sentAt + 500000 ≤ monoNs s) ∧
      ((referee k.val s).withheld = false)) (0) (setReferee 0 { referee 0 refereeOn with awaiting := true } (setReg (rP 0) 8 1 refereeOn)) := by
  beta_reduce; decide +kernel

theorem witness_referee_health_timeout_refereemovesthelease2 :
    (fun (k : Fin 3) (s : State) =>
      (holder k.val s ≠ 0) ∧
      (reports k.val (holder k.val s) s = false) ∧
      ((referee k.val s).withheld = false)) (0) (setReg (rP 0) 8 1 refereeOn) := by
  beta_reduce; decide +kernel

theorem witness_referee_lease_lapse_refereemovesthelease3 :
    (fun (k : Fin 3) (s : State) =>
      (grants k.val s = true) ∧
      (holder k.val s ≠ 0) ∧
      ((referee k.val s).withheld = true) ∧
      (leaseEnded k.val (other (holder k.val s)) s = true)) (0) (setReferee 0 { referee 0 refereeOn with withheld := true } (setReg (rP 0) 8 1 refereeOn)) := by
  beta_reduce; decide +kernel

theorem witness_lease_ack_receive_refereemovesthelease4 :
    (fun (k : Fin 3) (b : List Byte) (s : State) =>
      (grants k.val s = true) ∧
      (b.length = 12) ∧
      (pmType (signed (cfg (rP k.val) 6 s) b s) = 2) ∧
      (pmPair (signed (cfg (rP k.val) 6 s) b s) = k.val) ∧
      (devMember k.val (pmDev (signed (cfg (rP k.val) 6 s) b s)) s = 1) ∧
      (s.pair.seen.contains ((2 * k.val + 2) * 2 ^ 32 + pmSeq (signed (cfg (rP k.val) 6 s) b s)) = false) ∧
      (tget 0 s.pair.seqs (2 * k.val + 2) < pmSeq (signed (cfg (rP k.val) 6 s) b s))) (0) ([2, 0, 5, 0, 0, 0, 0, 0, 0, 0, 0, 0]) (refereeOn) := by
  beta_reduce; decide +kernel

theorem witness_referee_first_grant_refereemovesthelease5 :
    (fun (k : Fin 3) (s : State) =>
      (grants k.val s = true) ∧
      ((referee k.val s).started = false) ∧
      ((referee k.val s).stopped = false) ∧
      ((referee k.val s).firstAt ≠ 0) ∧
      (due (referee k.val s).firstAt (ms 30) s = true) ∧
      (eligibleNow k.val 1 s = true) ∧
      (reports k.val 2 s = false)) (0) (setReferee 0 { referee 0 (reporting 1 refereeOn) with firstAt := 1 } (reporting 1 refereeOn)) := by
  beta_reduce; decide +kernel

theorem witness_hand_over_refereemovesthelease6 :
    (fun (ses : Session) (k : Fin 3) (s : State) =>
      (Served ses s) ∧
      (s.dev ≠ .terminal) ∧
      (grants k.val s = true) ∧
      (holder k.val s ≠ 0) ∧
      (eligibleNow k.val (other (holder k.val s)) s = true)) (.spi) (0) (setReg (rP 0) 8 1 (reporting 2 refereeOn)) := by
  beta_reduce; decide +kernel

theorem witness_hand_over_refereemovesthelease7 :
    (fun (ses : Session) (k : Fin 3) (s : State) =>
      (Served ses s) ∧
      (s.dev ≠ .terminal) ∧
      (holder k.val s = 0)) (.spi) (0) (refereeOn) := by
  beta_reduce; decide +kernel

theorem witness_release_all_refereemovesthelease8 :
    (fun (ses : Session) (k : Fin 3) (s : State) =>
      (Served ses s) ∧
      (s.dev ≠ .terminal) ∧
      (holder k.val s = 0)) (.spi) (0) (refereeOn) := by
  beta_reduce; decide +kernel

theorem witness_resume_refereemovesthelease9 :
    (fun (ses : Session) (k : Fin 3) (s : State) =>
      (Served ses s) ∧
      (s.dev ≠ .terminal) ∧
      (holder k.val s ≠ 0)) (.spi) (0) (setReg (rP 0) 8 1 refereeOn) := by
  beta_reduce; decide +kernel

theorem witness_transport_frame_receive_transportcarriesmessages0 :
    (fun (e b : List Byte) (s : State) =>
      (e.length = 14) ∧
      (beNat (slice 12 2 e) = 0x88B5) ∧
      (b.length = 28 + dataLen b) ∧
      (hLen b ≤ 1024) ∧
      (byteAt b 0 = 1) ∧
      (transportOn s = true) ∧
      (hType b ≠ 1) ∧
      (hDest b = ownDev s) ∧
      (peerUp (hSource b) s = true) ∧
      (hEpoch b = reg (pP (hSource b)) 6 s) ∧
      (hClass b ≠ 3) ∧
      (hSeq b = (peer (hSource b) (takeAck (hSource b) (carried b s) s)).expect)) (transEth) (transHead 0x20 0) (linkOn) := by
  beta_reduce; decide +kernel

theorem witness_transport_ack_due_transportcarriesmessages1 :
    (fun (p : Fin 8) (s : State) =>
      (transportOn s = true) ∧
      (peerUp p.val s = true) ∧
      ((peer p.val s).ackOwed.isSome = true)) (1) (setPeer 1 { peer 1 linkOn with ackOwed := some 5 } linkOn) := by
  beta_reduce; decide +kernel

theorem witness_retransmit_timeout_transportcarriesmessages2 :
    (fun (p : Fin 8) (s : State) =>
      (transportOn s = true) ∧
      (peerUp p.val s = true) ∧
      ((peer p.val s).unacked ≠ []) ∧
      (due (peer p.val s).progressAt (us (cfg 0x5C20 7 s)) s = true) ∧
      ((peer p.val s).retries < cfg 0x5C20 8 s)) (1) (setPeer 1 { peer 1 linkOn with unacked := [tMsg 0 0x20 0 []] } linkOn) := by
  beta_reduce; decide +kernel

theorem witness_retransmit_timeout_transportcarriesmessages3 :
    (fun (p : Fin 8) (s : State) =>
      (transportOn s = true) ∧
      (peerUp p.val s = true) ∧
      ((peer p.val s).unacked ≠ []) ∧
      (due (peer p.val s).progressAt (us (cfg 0x5C20 7 s)) s = true) ∧
      (cfg 0x5C20 8 s ≤ (peer p.val s).retries)) (1) (setPeer 1 { peer 1 linkOn with unacked := [tMsg 0 0x20 0 []], retries := 8 } linkOn) := by
  beta_reduce; decide +kernel

theorem witness_hello_send_transportcarriesmessages4 :
    (fun (s : State) =>
      (transportOn s = true) ∧
      (s.faults.forced = false) ∧
      (s.dev ≠ .safe ∧ s.dev ≠ .terminal) ∧
      (due s.bridge.helloAt (ms (cfg 0x5C20 9 s)) s = true)) ({ transOn with faults := { transOn.faults with forced := false } }) := by
  beta_reduce; decide +kernel

theorem witness_hello_receive_transportcarriesmessages5 :
    (fun (e b : List Byte) (s : State) =>
      (e.length = 14) ∧
      (beNat (slice 12 2 e) = 0x88B5) ∧
      (b.length = 28 + dataLen b) ∧
      (hLen b ≤ 1024) ∧
      (byteAt b 0 = 1) ∧
      (transportOn s = true) ∧
      (hType b = 1) ∧
      (hSource b ≠ ownDev s)) (transEth) (transHead 1 3) (transOn) := by
  beta_reduce; decide +kernel

theorem witness_peer_discovery_timeout_transportcarriesmessages6 :
    (fun (p : Fin 8) (s : State) =>
      (reg (pP p.val) 1 s = 1) ∧
      (due (peer p.val s).helloAt (helloSpan s) s = true)) (1) (linkOn) := by
  beta_reduce; decide +kernel

theorem witness_event_message_receive_transportcarriesmessages7 :
    (fun (p : Fin 8) (d : List Byte) (s : State) =>
      (transportOn s = true) ∧
      (wellTaken (d ++ leBytes 8 0) = true) ∧
      (hType d = 0x20) ∧
      (hStatus d % 65536 = 3 ∨ hStatus d % 65536 = 7) ∧
      (hSub d = 2)) (1) ([1, 0x20, 1, 0] ++ List.replicate 12 0 ++ [2] ++ List.replicate 7 0 ++ [7, 0, 0, 0]) (linkOn) := by
  beta_reduce; decide +kernel

theorem witness_event_export_transportcarriesmessages8 :
    (fun (e : Fin 32) (x : Nat × Bytes) (s : State) =>
      (s.bridge.leaving.find? (fun x => x.1 == e.val) = some x) ∧
      (bridgeOn s = true)) (2) ((2, [1])) ({ linkOn with bridge := { linkOn.bridge with leaving := [(2, [1])] } }) := by
  beta_reduce; decide +kernel

theorem witness_software_event_send_transportcarriesmessages9 :
    (fun (ses : Session) (s : State) =>
      (Served ses s) ∧
      (s.dev ≠ .terminal) ∧
      (peerUp (reg 0x5C22 1 s) s = false)) (.spi) (on) := by
  beta_reduce; decide +kernel

theorem witness_software_event_send_transportcarriesmessages10 :
    (fun (ses : Session) (e : Nat) (s : State) =>
      (Served ses s) ∧
      (s.dev ≠ .terminal) ∧
      (peerUp (reg 0x5C22 1 s) s = true) ∧
      ((List.range 32).find? (fun e => cfgE e 0x5C21 2 s == 1 && cfgE e 0x5C21 3 s == 7 && cfgE e 0x5C21 5 s == reg 0x5C22 1 s) = some e)) (.spi) (4) (withCfgE 4 0x5C21 2 1 (withCfgE 4 0x5C21 3 7 (withCfgE 4 0x5C21 5 1 (setReg 0x5C22 1 1 linkOn)))) := by
  beta_reduce; decide +kernel

theorem witness_prefetch_hold_end_transportcarriesmessages11 :
    (fun (w : Fin 32) (s : State) =>
      (s.bridge.prefetched.any (fun p => p.window == w.val && p.value.isSome && due p.since (us (win w.val 6 s)) s) = false)) (2) (on) := by
  beta_reduce; decide +kernel

theorem witness_prefetch_hold_end_transportcarriesmessages12 :
    (fun (w : Fin 32) (p : Prefetched) (s : State) =>
      (s.bridge.prefetched = [p]) ∧
      (p.window = w.val) ∧
      (p.value.isSome = true) ∧
      (p.served = true) ∧
      (due p.since (us (win w.val 6 s)) s = true)) (2) (⟨2, 1, 0x1001, 0, 7, some [0], false, true, false, 0⟩) ({ awakeOn with bridge := { awakeOn.bridge with prefetched := [⟨2, 1, 0x1001, 0, 7, some [0], false, true, false, 0⟩] } }) := by
  beta_reduce; decide +kernel

theorem witness_pe_perst_n_hostbridgeanswers0 :
    (fun (s : State) =>
      (s.bridge.perst = false)) (pcieOn) := by
  beta_reduce; decide +kernel

theorem witness_pe_perst_n_hostbridgeanswers1 :
    (fun (s : State) =>
      (s.bridge.perst = true)) (on) := by
  beta_reduce; decide +kernel

theorem witness_function_level_reset_hostbridgeanswers2 :
    (fun (s : State) =>
      (bar0Up s = true)) (pcieOn) := by
  beta_reduce; decide +kernel

theorem witness_unsupported_access_hostbridgeanswers3 :
    (fun (s : State) =>
      (bar0Up s = true)) (pcieOn) := by
  beta_reduce; decide +kernel

theorem witness_unsupported_access_hostbridgeanswers4 :
    (fun (s : State) =>
      (bar0Up s = true)) (pcieOn) := by
  beta_reduce; decide +kernel

theorem witness_time80_low_half_read_hostbridgeanswers5 :
    (fun (s : State) =>
      (Past s) ∧
      (bar0Up s = true)) (pcieOn) := by
  beta_reduce; decide +kernel

theorem witness_remote_aperture_access_hostbridgeanswers6 :
    (fun (o : Fin 65536) (n : Nat) (r : Nat × Nat × Nat) (s : State) =>
      (0x8000 ≤ o.val) ∧
      (bridgeOn s = true) ∧
      (bar0Up s = true) ∧
      (upperHalf (o.val % 0x1000) n = false) ∧
      (apertureObj (o.val % 0x1000) n = some r) ∧
      ((o.val - 0x8000) / 0x1000 ≠ ownDev s) ∧
      (discovered ((o.val - 0x8000) / 0x1000) s = false)) (0x9000) (4) ((0x1001, 0, 4)) (pcieOn) := by
  beta_reduce; decide +kernel

theorem witness_remote_aperture_access_hostbridgeanswers7 :
    (fun (o : Fin 65536) (n : Nat) (i j w : Nat) (s : State) =>
      (0x8000 ≤ o.val) ∧
      (bridgeOn s = true) ∧
      (bar0Up s = true) ∧
      (upperHalf (o.val % 0x1000) n = false) ∧
      (apertureObj (o.val % 0x1000) n = some (i, j, w)) ∧
      ((o.val - 0x8000) / 0x1000 = ownDev s)) (0x8000) (4) (0x1001) (0) (4) (pcieOn) := by
  beta_reduce; decide +kernel

theorem witness_pcie_configuration_request_hostbridgeanswers8 :
    (fun (s : State) =>
      (bar0Up s = true) ∧
      (s.bridge.answers = true)) ({ pcieOn with bridge := { pcieOn.bridge with answers := true } }) := by
  beta_reduce; decide +kernel

theorem witness_pcie_configuration_request_hostbridgeanswers9 :
    (fun (s : State) =>
      (bar0Up s = true) ∧
      (s.bridge.answers = false) ∧
      (due s.bridge.perstAt 1000000000 s = false)) (atNs 1000 { pcieOn with bridge := { pcieOn.bridge with answers := false } }) := by
  beta_reduce; decide +kernel

theorem witness_pme_turn_off_hostbridgeanswers10 :
    (fun (s : State) =>
      (bar0Up s = true) ∧
      (s.bridge.reads = [])) (pcieOn) := by
  beta_reduce; decide +kernel

theorem witness_pcie_link_up_hostbridgeanswers11 :
    (fun (g l : Fin 5) (s : State) =>
      (g.val ≠ 0) ∧
      (l.val = 1 ∨ l.val = 2 ∨ l.val = 4) ∧
      (bar0Up s = false) ∧
      (s.power.sleep = 0) ∧
      (reg 0x5C00 1 (linkTrains s) = 1) ∧
      (reg 0x5010 7 s ≠ 0xFFFFFFFF)) (4) (4) (setReg 0x5010 7 9 (setReg 0x5C00 1 1 pcieOn)) := by
  beta_reduce; decide +kernel

theorem witness_pcie_link_down_hostbridgeanswers12 :
    (fun (s : State) =>
      (bar0Up s = true)) (pcieOn) := by
  beta_reduce; decide +kernel

theorem witness_msix_vector_unmask_hostbridgeanswers13 :
    (fun (v : Fin 128) (s : State) =>
      (bar0Up s = true) ∧
      (s.bridge.msixPend.contains v.val = true)) (9) ({ pcieOn with bridge := { pcieOn.bridge with msixPend := [9] } }) := by
  beta_reduce; decide +kernel

theorem witness_dma_doorbell_dmaringsareserved0 :
    (fun (c : Fin 64) (v : Fin 4294967296) (s : State) =>
      (Past s) ∧
      (s.dev ≠ .terminal) ∧
      (bar0Up s = true) ∧
      (leader c.val s = c.val) ∧
      (v.val < ringSize c.val s) ∧
      (v.val < 65536)) (3) (7) (dmaOn 3) := by
  beta_reduce; decide +kernel

theorem witness_dma_doorbell_dmaringsareserved1 :
    (fun (c : Fin 64) (v : Fin 4294967296) (s : State) =>
      (Past s) ∧
      (s.dev ≠ .terminal) ∧
      (bar0Up s = true) ∧
      (v.val < 65536) ∧
      (leader c.val s ≠ c.val ∨ ringSize c.val s ≤ v.val)) (3) (256) (dmaOn 3) := by
  beta_reduce; decide +kernel

theorem witness_dma_start_dmaringsareserved2 :
    (fun (ses : Session) (c : Fin 64) (s : State) =>
      (ses ≠ .bar0) ∧
      (Served ses s) ∧
      (s.dev ≠ .terminal ∧ s.dev ≠ .safe) ∧
      (leader c.val s = c.val) ∧
      (chState c.val s = 1) ∧
      (dmaKind c.val s ≠ 0)) (.spi) (3) (setReg (dP 3) 0x0D 1 (dmaOn 3)) := by
  beta_reduce; decide +kernel

theorem witness_dma_abort_dmaringsareserved3 :
    (fun (ses : Session) (c : Fin 64) (s : State) =>
      (ses ≠ .bar0) ∧
      (Served ses s) ∧
      (s.dev ≠ .terminal) ∧
      (gangSize c.val s = 1) ∧
      (chState c.val s = 2) ∧
      (inHand c.val s ≠ 0)) (.spi) (3) (dmaHolds 3) := by
  beta_reduce; decide +kernel

theorem witness_dma_disable_dmaringsareserved4 :
    (fun (ses : Session) (c : Fin 64) (s : State) =>
      (ses ≠ .bar0) ∧
      (Served ses s) ∧
      (s.dev ≠ .terminal) ∧
      (leader c.val s = c.val)) (.spi) (3) (dmaOn 3) := by
  beta_reduce; decide +kernel

theorem witness_dma_reset_ring_dmaringsareserved5 :
    (fun (ses : Session) (c : Fin 64) (s : State) =>
      (ses ≠ .bar0) ∧
      (Served ses s) ∧
      (s.dev ≠ .terminal) ∧
      (leader c.val s = c.val) ∧
      (chState c.val s = 1 ∨ chState c.val s = 5)) (.spi) (3) (setReg (dP 3) 0x0D 5 (dmaOn 3)) := by
  beta_reduce; decide +kernel

theorem witness_descriptor_fetch_dmaringsareserved6 :
    (fun (c : Fin 64) (b : List Byte) (s : State) =>
      (dmaRuns c.val s = true) ∧
      ((dma c.val s).rereads = 0) ∧
      (b.length % 32 = 0) ∧
      (32 ≤ b.length ∧ b.length ≤ 256) ∧
      (b.length / 32 + inHand c.val s ≤ posted c.val s) ∧
      (readIdx c.val s + b.length / 32 ≤ ringSize c.val s)) (3) (desc1) (dmaOn 1) := by
  beta_reduce; decide +kernel

theorem witness_phase_reread_dmaringsareserved7 :
    (fun (c : Fin 64) (b : List Byte) (s : State) =>
      (dmaRuns c.val s = true) ∧
      ((dma c.val s).rereads ≠ 0) ∧
      (b.length = 32) ∧
      (due (dma c.val s).readAt 1000 s = true) ∧
      (bit (byteAt b 20) 0 = phaseAt c.val 0 s)) (3) (desc1) (setDma 3 { dma 3 (dmaOn 1) with rereads := 2 } (dmaOn 1)) := by
  beta_reduce; decide +kernel

theorem witness_phase_reread_dmaringsareserved8 :
    (fun (c : Fin 64) (b : List Byte) (s : State) =>
      (dmaRuns c.val s = true) ∧
      ((dma c.val s).rereads = 4) ∧
      (inHand c.val s = 0) ∧
      (b.length = 32) ∧
      (due (dma c.val s).readAt 1000 s = true) ∧
      (bit (byteAt b 20) 0 ≠ phaseAt c.val 0 s)) (3) (List.replicate 32 0) (setDma 3 { dma 3 (dmaOn 1) with rereads := 4 } (dmaOn 1)) := by
  beta_reduce; decide +kernel

theorem witness_descriptor_write_back_dmaringsareserved9 :
    (fun (c : Fin 64) (e : DmaEnd) (s : State) =>
      (leader c.val s = c.val) ∧
      (bar0Up s = true) ∧
      (chState c.val s = 2) ∧
      ((dma c.val s).ended.head? = some e) ∧
      (e.status ≠ 9 ∧ e.status ≠ 5)) (3) (⟨0, desc1, 64, 1, true⟩) (setDma 3 { dma 3 (dmaOn 1) with ended := [⟨0, desc1, 64, 1, true⟩] } (dmaOn 1)) := by
  beta_reduce; decide +kernel

theorem witness_completion_pop_dmaringsareserved10 :
    (fun (ses : Session) (c : Fin 64) (r : Bytes) (t : List Bytes) (s : State) =>
      (ses ≠ .bar0) ∧
      (Served ses s) ∧
      ((dma c.val s).fifo = r :: t)) (.spi) (3) ([1]) ([]) (setDma 3 { dma 3 on with fifo := [[1]] } on) := by
  beta_reduce; decide +kernel

theorem witness_completion_pop_dmaringsareserved11 :
    (fun (c : Fin 64) (s : State) =>
      (Past s) ∧
      (bar0Up s = true) ∧
      ((dma c.val s).fifo = [])) (3) (pcieOn) := by
  beta_reduce; decide +kernel

theorem witness_dma_domain_loss_dmaringsareserved12 :
    (fun (c : Fin 64) (s : State) =>
      (leader c.val s = c.val) ∧
      (chState c.val s = 2 ∨ chState c.val s = 3) ∧
      (domainGoes 12 s = true ∨ bar0Up s = false) ∧
      (gangSize c.val s = 1)) (3) (setReg 0x5C00 1 0 (dmaOn 1)) := by
  beta_reduce; decide +kernel

theorem witness_receive_frame_to_host_dmamovesdata0 :
    (fun (n : Fin 64) (seen : TxEnd) (c : Copy) (s t : State) =>
      ((egr 30 s).cur = some c) ∧
      (dmaRuns n.val s = true) ∧
      (dmaKind n.val s = 1) ∧
      (cfg (dP n.val) 3 s = c.queue) ∧
      ((dma n.val s).fetched ≠ []) ∧
      (closeFrame 30 c seen s = (false, t)) ∧
      (max 1 ((receivedBytes c seen false s).drop (dma n.val s).taken).length ≤
        (frameBuffers n.val (max 1 ((receivedBytes c seen false s).drop (dma n.val s).taken).length) s).foldl (fun a x => a + x.2) 0)) (3) (⟨[], false⟩) ({ oneCopy with port := 30 }) (hostFrameWaits) ((closeFrame 30 { oneCopy with port := 30 } ⟨[], false⟩ hostFrameWaits).2) := by
  beta_reduce; decide +kernel

theorem witness_receive_frame_to_host_dmamovesdata1 :
    (fun (n : Fin 64) (seen : TxEnd) (c : Copy) (s t : State) =>
      ((egr 30 s).cur = some c) ∧
      (dmaRuns n.val s = true) ∧
      (dmaKind n.val s = 1) ∧
      (gangSize n.val s = 1) ∧
      (cfg (dP n.val) 3 s = c.queue) ∧
      ((dma n.val s).fetched ≠ []) ∧
      (closeFrame 30 c seen s = (false, t)) ∧
      ((frameBuffers n.val (max 1 ((receivedBytes c seen false s).drop (dma n.val s).taken).length) s).foldl (fun a x => a + x.2) 0 <
        max 1 ((receivedBytes c seen false s).drop (dma n.val s).taken).length)) (3) (⟨[], false⟩) ({ oneCopy with port := 30 }) (hostFrameLong) ((closeFrame 30 { oneCopy with port := 30 } ⟨[], false⟩ hostFrameLong).2) := by
  beta_reduce; decide +kernel

theorem witness_transmit_frame_from_host_dmamovesdata2 :
    (fun (n : Fin 64) (l : List Byte) (d : Nat × Bytes) (s : State) =>
      (dmaRuns n.val s = true) ∧
      (dmaKind n.val s = 2) ∧
      ((dma n.val s).fetched = [d]) ∧
      (dEof d.2 = true) ∧
      (dRefused 2 d.2 = false) ∧
      (l.length = dLen d.2) ∧
      (l.length ≤ 9212)) (3) (List.replicate 64 0) ((0, desc1)) (dmaHolds 2) := by
  beta_reduce; decide +kernel

theorem witness_copy_descriptor_dmamovesdata3 :
    (fun (n : Fin 64) (data : List Byte) (h : HostRead) (f : Nat × Bytes) (t : List (Nat × Bytes)) (s : State) =>
      ((dma n.val s).fetched = f :: t) ∧
      (dmaRuns n.val s = true) ∧
      (dmaKind n.val s = 3) ∧
      (endpointGoes n.val s = false) ∧
      ((copySrc f.2).device = true ∨ data.length = dLen f.2) ∧
      (endRefused (copySrc f.2) (dLen f.2) false (setDma n.val { dma n.val s with fetched := t } s) = false) ∧
      (endRefused (copyDst f.2) (dLen f.2) true (setDma n.val { dma n.val s with fetched := t } s) = false)) (3) (List.replicate 64 0) (.good) ((0, desc1)) ([]) (dmaHolds 3) := by
  beta_reduce; decide +kernel

theorem witness_copy_descriptor_dmamovesdata4 :
    (fun (n : Fin 64) (data : List Byte) (h : HostRead) (f : Nat × Bytes) (t : List (Nat × Bytes)) (s : State) =>
      ((dma n.val s).fetched = f :: t) ∧
      (dmaRuns n.val s = true) ∧
      (dmaKind n.val s = 3) ∧
      (endpointGoes n.val s = false) ∧
      ((copySrc f.2).device = true ∨ data.length = dLen f.2) ∧
      (endRefused (copyDst f.2) (dLen f.2) true (setDma n.val { dma n.val s with fetched := t } s) = true)) (3) (List.replicate 64 0) (.good) ((0, copyRefused)) ([]) (setDma 3 { dma 3 (dmaOn 3) with fetched := [(0, copyRefused)] } (dmaOn 3)) := by
  beta_reduce; decide +kernel

theorem witness_challenge_read_crustgrantsroles0 :
    (fun (ses : Session) (s : State) =>
      (Served ses s) ∧
      (trngWorks s = true) ∧
      (lockedRole (requestedRole ses s) s = false)) (.spi) (trngOn) := by
  beta_reduce; decide +kernel

theorem witness_credential_response_crustgrantsroles1 :
    (fun (ses : Session) (l : List Byte) (c : Challenge) (s : State) =>
      (Served ses s) ∧
      (s.dev ≠ .terminal) ∧
      (l.length = 97) ∧
      (tget none s.crust.challenges (sesCode ses) = some c) ∧
      (wall s ≤ c.since + 60000000000) ∧
      (lockedRole c.role s = false) ∧
      (lifecycle s ≠ 3)) (.spi) (List.replicate 97 0) (⟨[], 2, 0⟩) ({ trngOn with crust := { trngOn.crust with challenges := [(0x30, some ⟨[], 2, 0⟩)] } }) := by
  beta_reduce; decide +kernel

theorem witness_role_release_crustgrantsroles2 :
    (fun (ses : Session) (s : State) =>
      (Served ses s) ∧
      (s.dev ≠ .terminal)) (.spi) (asRank 2 on) := by
  beta_reduce; decide +kernel

theorem witness_lockout_end_crustgrantsroles3 :
    (fun (r : Fin 4) (s : State) =>
      (tget 0 s.crust.lockEnd (r.val + 1) ≠ 0) ∧
      (tget 0 s.crust.lockEnd (r.val + 1) ≤ wall s)) (1) ({ awakeOn with crust := { awakeOn.crust with lockEnd := [(2, 5)] } }) := by
  beta_reduce; decide +kernel

theorem witness_sealed_record_write_crustgrantsroles4 :
    (fun (r : SealedRec) (t : List SealedRec) (s : State) =>
      (s.crust.queue = r :: t) ∧
      (s.access.coreUp = true) ∧
      (s.crust.flash.length < 4096)) (sealed1) ([]) ({ on with crust := { on.crust with queue := [sealed1] } }) := by
  beta_reduce; decide +kernel

theorem witness_log_acknowledge_crustgrantsroles5 :
    (fun (ses : Session) (n : Fin 18446744073709551616) (s : State) =>
      (Served ses s) ∧
      (s.dev ≠ .terminal) ∧
      (2 ≤ roleOf ses s) ∧
      (reg 0x6040 5 s ≤ n.val)) (.spi) (7) (asRank 2 on) := by
  beta_reduce; decide +kernel

theorem witness_log_export_crustgrantsroles6 :
    (fun (ses : Session) (s : State) =>
      (Served ses s) ∧
      (s.dev ≠ .terminal) ∧
      (1 ≤ roleOf ses s) ∧
      (s.crust.exporting = none) ∧
      (rangeHeld (reg 0x6040 8 s) (reg 0x6040 9 s) s = true)) (.spi) (setReg 0x6040 8 1 (setReg 0x6040 9 1 (logged (asRank 1 on)))) := by
  beta_reduce; decide +kernel

theorem witness_log_export_complete_crustgrantsroles7 :
    (fun (a b : Nat) (s : State) =>
      (s.crust.exporting = some (a, b)) ∧
      (rangeHeld a b s = true)) (1) (1) (exporting1) := by
  beta_reduce; decide +kernel

theorem witness_tamper_event_crustgrantsroles8 :
    (fun (k : Fin 4) (s : State) =>
      (s.power.sleep = 0) ∧
      (tamperResponse k.val s ≠ 2)) (1) (awakeOn) := by
  beta_reduce; decide +kernel

theorem witness_tamper_event_crustgrantsroles9 :
    (fun (s : State) =>
      (s.power.sleep ≠ 0)) (asleep 1) := by
  beta_reduce; decide +kernel

theorem witness_tamper_latch_clear_crustgrantsroles10 :
    (fun (ses : Session) (v : Byte) (s : State) =>
      (Served ses s) ∧
      (s.dev ≠ .terminal) ∧
      (2 ≤ roleOf ses s) ∧
      (v.toNat < 16)) (.spi) (3) (asRank 2 on) := by
  beta_reduce; decide +kernel

theorem witness_jtag_instruction_crustgrantsroles12 :
    (fun (s : State) =>
      (reg 0x6000 2 s = 1)) (setReg 0x6000 2 1 on) := by
  beta_reduce; decide +kernel

theorem witness_lifecycle_transition_crustgrantsroles13 :
    (fun (ses : Session) (s : State) =>
      (Served ses s) ∧
      (s.dev ≠ .terminal) ∧
      (lifecycle s = 1) ∧
      (4 ≤ roleOf ses s)) (.spi) (setReg 0x6000 1 1 (asRank 4 on)) := by
  beta_reduce; decide +kernel

theorem witness_root_key_revocation_crustgrantsroles14 :
    (fun (ses : Session) (k : Fin 4) (s : State) =>
      (Served ses s) ∧
      (s.dev ≠ .terminal) ∧
      (3 ≤ roleOf ses s) ∧
      (lifecycle s ≠ 0)) (.spi) (2) (setReg 0x6000 1 1 (asRank 3 on)) := by
  beta_reduce; decide +kernel

theorem witness_load_wrapped_blob_crustholdskeys0 :
    (fun (ses : Session) (s : State) =>
      (Served ses s) ∧
      (s.dev ≠ .terminal) ∧
      (lifecycle s ≠ 3) ∧
      (keySelect s = byteAt (keyInput s) 0) ∧
      (byteAt (keyInput s) 1 = 1 ∨ byteAt (keyInput s) 1 = 2) ∧
      (symmetricFits (keySelect s) (leNat (slice 2 2 (keyInput s))) = true) ∧
      (leNat (slice 5 3 (keyInput s)) = 0 ∧ byteAt (keyInput s) 4 = 0) ∧
      (usageRole (keySelect s) (leNat (slice 2 2 (keyInput s))) ≤ roleOf ses s) ∧
      (slotInUse (keySelect s) s = false)) (.spi) (blobIn) := by
  beta_reduce; decide +kernel

theorem witness_import_public_key_crustholdskeys1 :
    (fun (ses : Session) (s : State) =>
      (Served ses s) ∧
      (s.dev ≠ .terminal) ∧
      (lifecycle s ≠ 3) ∧
      (keySelect s = 0xE5) ∧
      (byteAt (keyInput s) 0 = 4) ∧
      (3 ≤ roleOf ses s)) (.spi) (asRank 3 (setReg 0x6020 7 4 (setReg 0x6020 1 0xE5 on))) := by
  beta_reduce; decide +kernel

theorem witness_unwrap_sak_crustholdskeys2 :
    (fun (ses : Session) (s : State) =>
      (Served ses s) ∧
      (s.dev ≠ .terminal) ∧
      (lifecycle s ≠ 3) ∧
      (keySelect s < 0xE0) ∧
      (trngWorks s = true) ∧
      (slotInUse (keySelect s) s = false ∧ saUses (keySelect s) s = false) ∧
      (bit (keySlot (reg 0x6030 1 s) s).usage 1 = true) ∧
      (leNat (slice 24 16 (keyInput s)) = 0)) (.spi) (keyed 9 1 2 (setReg 0x6030 1 9 (setReg 0x6020 1 5 trngOn))) := by
  beta_reduce; decide +kernel

theorem witness_erase_key_crustholdskeys3 :
    (fun (ses : Session) (s : State) =>
      (Served ses s) ∧
      (s.dev ≠ .terminal) ∧
      (lifecycle s ≠ 3) ∧
      (keySelect s < 0xE0) ∧
      (usageRole (keySelect s) (keySlot (keySelect s) s).usage ≤ roleOf ses s) ∧
      (slotInUse (keySelect s) s = false)) (.spi) (asRank 2 (keyed 5 1 8 (setReg 0x6020 1 5 on))) := by
  beta_reduce; decide +kernel

theorem witness_clear_import_crustholdskeys4 :
    (fun (ses : Session) (s : State) =>
      (Served ses s) ∧
      (s.dev ≠ .terminal) ∧
      (lifecycle s = 1) ∧
      (4 ≤ roleOf ses s) ∧
      (keySelect s = byteAt (keyInput s) 0) ∧
      (byteAt (keyInput s) 1 = 2) ∧
      (symmetricFits (keySelect s) (leNat (slice 2 2 (keyInput s))) = true) ∧
      (leNat (slice 5 3 (keyInput s)) = 0 ∧ byteAt (keyInput s) 4 = 0) ∧
      (leNat (slice 44 84 (keyInput s)) = 0) ∧
      (slotInUse (keySelect s) s = false)) (.spi) (asRank 4 (setReg 0x6000 1 1 (setReg 0x6020 7 (5 + 256 * 2 + 2 ^ 16 * 8) (setReg 0x6020 1 5 on)))) := by
  beta_reduce; decide +kernel

theorem witness_key_parity_error_crustholdskeys5 :
    (fun (n : Fin 256) (s : State) =>
      (keySlot n.val s ≠ keySlot0)) (5) (keyed 5 1 8 on) := by
  beta_reduce; decide +kernel

theorem witness_trng_health_failure_crustholdskeys6 :
    (fun (s : State) =>
      (trngWorks s = true)) (trngOn) := by
  beta_reduce; decide +kernel

theorem witness_trng_start_up_test_crustholdskeys7 :
    (fun (s : State) =>
      (reg 0x6000 8 s = 0)) (setReg 0x6000 8 0 on) := by
  beta_reduce; decide +kernel

theorem witness_trng_start_up_test_crustholdskeys8 :
    (fun (s : State) =>
      (reg 0x6000 8 s = 0)) (setReg 0x6000 8 0 on) := by
  beta_reduce; decide +kernel

theorem witness_auth_unit_self_test_crustholdskeys9 :
    (fun (s : State) =>
      (s.crust.authWorking = true)) ({ on with crust := { on.crust with authWorking := true } }) := by
  beta_reduce; decide +kernel

theorem witness_auth_unit_self_test_crustholdskeys10 :
    (fun (s : State) =>
      (s.dev = .boot ∨ s.dev = .catch_)) ({ on with dev := .catch_ }) := by
  beta_reduce; decide +kernel

theorem witness_transmit_an_write_crustholdskeys11 :
    (fun (ses : Session) (p : Fin 16) (an : Byte) (s : State) =>
      (Served ses s) ∧
      (s.dev ≠ .terminal) ∧
      (an.toNat ≤ 3)) (.spi) (3) (2) (on) := by
  beta_reduce; decide +kernel

theorem witness_sa_read_crustholdskeys12 :
    (fun (ses : Session) (s : State) =>
      (Served ses s) ∧
      (s.dev = .configure ∨ s.dev = .operate ∨ s.dev = .safe)) (.spi) (on) := by
  beta_reduce; decide +kernel

theorem witness_sa_write_crustholdskeys13 :
    (fun (ses : Session) (s : State) =>
      (Served ses s) ∧
      (s.dev = .configure ∨ s.dev = .operate ∨ s.dev = .safe) ∧
      (reg 0x6180 0x0A s = 0) ∧
      (reg 0x6180 7 s ≤ pnMax (reg 0x6180 1 s) s)) (.spi) (setReg 0x6180 0x0A 0 on) := by
  beta_reduce; decide +kernel

theorem witness_pn_exhaustion_crustholdskeys14 :
    (fun (p : Fin 16) (s : State) =>
      (macsecOn p.val s = true) ∧
      (isXpn p.val s = false) ∧
      (0xC0000000 ≤ (sa (txSa p.val s) s).nextPn)) (3) (macsecNear) := by
  beta_reduce; decide +kernel

theorem witness_derive_kek_ick_crustholdskeys15 :
    (fun (ses : Session) (s : State) =>
      (Served ses s) ∧
      (s.dev ≠ .terminal) ∧
      (bit (keySlot (reg 0x6030 3 s) s).usage 1 = true) ∧
      ((keySlot (reg 0x6030 3 s) s).type = 1) ∧
      (slotInUse (reg 0x6030 1 s) s = false ∧ slotInUse (reg 0x6030 2 s) s = false) ∧
      (saUses (reg 0x6030 1 s) s = false ∧ saUses (reg 0x6030 2 s) s = false)) (.spi) (keyed 9 1 2 (setReg 0x6030 1 10 (setReg 0x6030 2 11 (setReg 0x6030 3 9 on)))) := by
  beta_reduce; decide +kernel

theorem witness_compute_icv_crustholdskeys16 :
    (fun (ses : Session) (s : State) =>
      (Served ses s) ∧
      (s.dev ≠ .terminal) ∧
      (bit (keySlot (reg 0x6030 2 s) s).usage 1 = true)) (.spi) (keyed 11 1 2 (setReg 0x6030 2 11 on)) := by
  beta_reduce; decide +kernel

theorem witness_module_bind_crustholdskeys17 :
    (fun (ses : Session) (p : Fin 16) (s : State) =>
      (Served ses s) ∧
      (s.dev ≠ .terminal) ∧
      (2 ≤ roleOf ses s) ∧
      (reg (pI p.val) 4 s = 2)) (.spi) (3) (asRank 2 (setReg (pI 3) 4 2 on)) := by
  beta_reduce; decide +kernel

theorem witness_module_unbind_crustholdskeys18 :
    (fun (ses : Session) (p : Fin 16) (s : State) =>
      (Served ses s) ∧
      (s.dev ≠ .terminal) ∧
      (2 ≤ roleOf ses s) ∧
      (reg (pI p.val) 4 s = 2)) (.spi) (3) (asRank 2 (setReg (pI 3) 4 2 on)) := by
  beta_reduce; decide +kernel

theorem witness_update_begin_packagesareinstalled0 :
    (fun (ses : Session) (s : State) =>
      (Served ses s) ∧
      (s.dev ≠ .terminal) ∧
      (1 ≤ roleOf ses s) ∧
      (reg 0x6800 7 s ≠ 2) ∧
      (bit s.update.armed (packageKind s) = false)) (.spi) (packIn 0) := by
  beta_reduce; decide +kernel

theorem witness_update_data_packagesareinstalled1 :
    (fun (ses : Session) (l : List Byte) (s : State) =>
      (Served ses s) ∧
      (s.dev ≠ .terminal) ∧
      (l ≠ []) ∧
      (l.length ≤ 4096) ∧
      (reg 0x6800 7 s = 1) ∧
      (reg 0x6800 4 s + l.length ≤ reg 0x6800 3 s)) (.spi) ([9]) (packIn 1) := by
  beta_reduce; decide +kernel

theorem witness_update_install_packagesareinstalled2 :
    (fun (ses : Session) (s : State) =>
      (Served ses s) ∧
      (s.dev ≠ .terminal) ∧
      (1 ≤ roleOf ses s) ∧
      (reg 0x6800 7 s = 1) ∧
      (bit s.update.armed (packageKind s) = false) ∧
      (reg 0x6800 2 s = 0)) (.spi) (packIn 1) := by
  beta_reduce; decide +kernel

theorem witness_update_discard_packagesareinstalled3 :
    (fun (ses : Session) (s : State) =>
      (Served ses s) ∧
      (s.dev ≠ .terminal) ∧
      (1 ≤ roleOf ses s) ∧
      (bit s.update.armed (packageKind s) = false)) (.spi) (packIn 3) := by
  beta_reduce; decide +kernel

theorem witness_install_complete_packagesareinstalled4 :
    (fun (base : List Byte) (s : State) =>
      (reg 0x6800 7 s = 2) ∧
      (s.access.coreUp = true) ∧
      (reg 0x6800 2 s = 0)) ([]) (packIn 2) := by
  beta_reduce; decide +kernel

theorem witness_install_complete_packagesareinstalled5 :
    (fun (base : List Byte) (s : State) =>
      (reg 0x6800 7 s = 2) ∧
      (s.access.coreUp = true) ∧
      (wrongBase s = false)) ([]) (packIn 2) := by
  beta_reduce; decide +kernel

theorem witness_activation_arm_packagesareinstalled6 :
    (fun (ses : Session) (s : State) =>
      (Served ses s) ∧
      (s.dev ≠ .terminal) ∧
      (1 ≤ roleOf ses s) ∧
      (armRefusal (reg 0x6808 2 s) (ofTime80 (reg 0x6808 1 s)) true s = none) ∧
      (s.update.flag = 0)) (.spi) (setReg 0x6801 3 3 (setReg 0x6808 2 1 (setReg 0x6808 1 (time80 1500000000) (setReg 0x3800 6 3 (asRank 1 awakeOn))))) := by
  beta_reduce; decide +kernel

theorem witness_activation_arm_now_packagesareinstalled7 :
    (fun (ses : Session) (s : State) =>
      (Served ses s) ∧
      (s.dev ≠ .terminal) ∧
      (1 ≤ roleOf ses s) ∧
      (armRefusal (reg 0x6808 2 s) (nowNs s + ms 100) false s = none) ∧
      (s.update.flag = 0)) (.spi) (setReg 0x6801 3 3 (setReg 0x6808 2 1 (asRank 1 awakeOn))) := by
  beta_reduce; decide +kernel

theorem witness_activation_cancel_packagesareinstalled8 :
    (fun (ses : Session) (s : State) =>
      (Served ses s) ∧
      (s.dev ≠ .terminal) ∧
      (1 ≤ roleOf ses s) ∧
      (s.update.armed ≠ 0)) (.spi) (upd (fun u => { u with armed := 1 }) (asRank 1 on)) := by
  beta_reduce; decide +kernel

theorem witness_activation_cancel_packagesareinstalled9 :
    (fun (ses : Session) (s : State) =>
      (Served ses s) ∧
      (s.dev ≠ .terminal) ∧
      (1 ≤ roleOf ses s) ∧
      (s.update.armed = 0)) (.spi) (asRank 1 on) := by
  beta_reduce; decide +kernel

theorem witness_activation_header_deadline_packagesareinstalled10 :
    (fun (s : State) =>
      (s.update.armed ≠ 0) ∧
      (s.update.flag = 0) ∧
      (s.update.target ≤ nowNs s + ms 50)) (upd (fun u => { u with armed := 1, target := 0 }) awakeOn) := by
  beta_reduce; decide +kernel

theorem witness_activation_header_deadline_packagesareinstalled11 :
    (fun (s : State) =>
      (s.update.armed ≠ 0) ∧
      (s.update.flag = 0) ∧
      (s.update.target ≤ nowNs s + ms 50)) (upd (fun u => { u with armed := 1, target := 0 }) awakeOn) := by
  beta_reduce; decide +kernel

theorem witness_activation_packagesareinstalled12 :
    (fun (m : ConfigImage) (s : State) =>
      (activationDue s = true) ∧
      (s.dev ≠ .safe ∧ s.dev ≠ .terminal) ∧
      (reg 0x3800 6 s ≠ 4) ∧
      (s.update.flag ≠ 0)) (confImage) (upd (fun u => { u with armed := 2, target := 0, flag := 2 }) awakeOn) := by
  beta_reduce; decide +kernel

theorem witness_activation_packagesareinstalled13 :
    (fun (m : ConfigImage) (s : State) =>
      (activationDue s = true) ∧
      (s.dev = .safe ∨ s.dev = .terminal)) (confImage) (upd (fun u => { u with armed := 2, target := 0, flag := 2 }) { awakeOn with dev := .safe }) := by
  beta_reduce; decide +kernel

theorem witness_firmware_confirm_imagesareproofed0 :
    (fun (b : Bool) (s : State) =>
      (s.update.proof ≠ 0) ∧
      (reg 0x6810 2 s = 0) ∧
      (firmwareHealthy s = true) ∧
      (cfg 0x6810 3 s = 0)) (true) (setReg 0x6810 2 0 (upd (fun u => { u with servedSince := 1 }) (withCfg 0x6810 3 0 (atNs 9000000000 proofing)))) := by
  beta_reduce; decide +kernel

theorem witness_host_confirm_imagesareproofed1 :
    (fun (ses : Session) (b : Bool) (s : State) =>
      (Served ses s) ∧
      (s.dev ≠ .terminal) ∧
      (1 ≤ roleOf ses s) ∧
      (s.update.proof ≠ 0) ∧
      (reg 0x6810 2 s ≠ 1)) (.spi) (true) (setReg 0x6810 2 0 proofing) := by
  beta_reduce; decide +kernel

theorem witness_host_confirm_imagesareproofed2 :
    (fun (ses : Session) (b : Bool) (s : State) =>
      (Served ses s) ∧
      (s.dev ≠ .terminal) ∧
      (1 ≤ roleOf ses s) ∧
      (s.update.proof ≠ 0) ∧
      (reg 0x6810 2 s = 1)) (.spi) (true) (setReg 0x6810 2 1 proofing) := by
  beta_reduce; decide +kernel

theorem witness_host_reject_imagesareproofed3 :
    (fun (ses : Session) (s : State) =>
      (Served ses s) ∧
      (s.dev ≠ .terminal) ∧
      (1 ≤ roleOf ses s) ∧
      (s.update.proof ≠ 0)) (.spi) (proofing) := by
  beta_reduce; decide +kernel

theorem witness_proofing_window_expiry_imagesareproofed4 :
    (fun (s : State) =>
      (s.update.proof ≠ 0) ∧
      (due s.update.openedAt (cfg 0x6810 1 s * 1000000000) s = true)) (proofing) := by
  beta_reduce; decide +kernel

theorem witness_revert_configuration_switch_imagesareproofed5 :
    (fun (m : ConfigImage) (s : State) =>
      (s.update.revertAt ≠ none)) (confImage) (upd (fun u => { u with revertAt := some 5 }) on) := by
  beta_reduce; decide +kernel

theorem witness_thermometer_burn_retry_imagesareproofed6 :
    (fun (s : State) =>
      (s.update.burnDue = true) ∧
      (s.access.coreUp = true) ∧
      (s.update.proof = 0) ∧
      (majorAbove s = true)) (upd (fun u => { u with burnDue := true }) (setReg 0x6801 6 1 (setReg 0x6801 7 1 (setReg 0x6000 6 0 on)))) := by
  beta_reduce; decide +kernel

theorem witness_recovery_erase_imagesareproofed7 :
    (fun (k : Byte) (o : Fin 4294967296) (n c : Fin 65536) (s : State) =>
      (s.power.recovery = true) ∧
      (s.power.reset = 0) ∧
      (crc16 0xFFFF (loaderHeader 0x20 k.toNat o.val n.val) = c.val) ∧
      (s.access.spi = none) ∧
      (k.toNat ≤ 3) ∧
      (n.val ≤ 256) ∧
      (o.val + n.val ≤ 2097152)) (1) (0) (0) (loaderCrc 0x20 []) (loaderOn) := by
  beta_reduce; decide +kernel

theorem witness_recovery_erase_imagesareproofed8 :
    (fun (k : Byte) (o : Fin 4294967296) (n c : Fin 65536) (s : State) =>
      (s.power.recovery = true) ∧
      (s.power.reset = 0) ∧
      (crc16 0xFFFF (loaderHeader 0x20 k.toNat o.val n.val) ≠ c.val)) (1) (0) (0) (loaderCrc 0x21 []) (loaderOn) := by
  beta_reduce; decide +kernel

theorem witness_recovery_write_imagesareproofed9 :
    (fun (k : Byte) (o : Fin 4294967296) (n : Fin 65536) (l : List Byte) (c : Fin 65536) (s : State) =>
      (s.power.recovery = true) ∧
      (s.power.reset = 0) ∧
      (crc16 0xFFFF (loaderHeader 0x21 k.toNat o.val n.val ++ l) = c.val) ∧
      (s.access.spi = none) ∧
      (k.toNat ≤ 3) ∧
      (n.val ≤ 256) ∧
      (l.length = n.val) ∧
      (o.val + n.val ≤ 2097152) ∧
      (((slotBytes k.toNat s).getD []).length = o.val)) (1) (0) (2) ([8, 9]) (loaderCrc 0x21 [8, 9]) (loaderOn) := by
  beta_reduce; decide +kernel

theorem witness_recovery_verify_imagesareproofed10 :
    (fun (k : Byte) (o : Fin 4294967296) (n c : Fin 65536) (l : List Byte) (s : State) =>
      (s.power.recovery = true) ∧
      (s.power.reset = 0) ∧
      (crc16 0xFFFF (loaderHeader 0x22 k.toNat o.val n.val) = c.val) ∧
      (s.access.spi = none) ∧
      (k.toNat ≤ 3) ∧
      (n.val ≤ 256) ∧
      (slotBytes k.toNat s = some l) ∧
      (l.length = 512 + leNat (slice 12 4 l))) (1) (0) (0) (loaderCrc 0x22 []) (List.replicate 512 0) (upd (fun u => { u with recov := [(1, some (List.replicate 512 0))] }) loaderOn) := by
  beta_reduce; decide +kernel

theorem witness_recovery_restart_imagesareproofed11 :
    (fun (k : Byte) (o : Fin 4294967296) (n c : Fin 65536) (s : State) =>
      (s.power.recovery = true) ∧
      (s.power.reset = 0) ∧
      (crc16 0xFFFF (loaderHeader 0x23 k.toNat o.val n.val) = c.val) ∧
      (s.access.spi = none) ∧
      (k.toNat ≤ 3) ∧
      (n.val ≤ 256)) (1) (0) (0) (loaderCrc 0x23 []) (loaderOn) := by
  beta_reduce; decide +kernel

theorem witness_source_fire_firingsarerecorded0 :
    (fun (n : Fin 256) (d : Fin 4294967296) (s : State) =>
      (coreOn s = true) ∧
      (n.val < 0xE8 ∨ 0xEF < n.val) ∧
      (n.val ≠ 0x87 ∧ n.val ≠ 0xF0) ∧
      (n.val ≠ 0x05 ∧ n.val ≠ 0xE2 ∧ n.val ≠ 0xA3 ∧ n.val ≠ 0xA4 ∧ n.val ≠ 0xA7) ∧
      (srcEnabled n.val s = true) ∧
      (srcLevel n.val = false) ∧
      (srcClass n.val s = 0) ∧
      (s.faults.due = []) ∧
      (s.faults.reaction ≠ 0) ∧
      (s.faults.source ≠ n.val)) (0x60) (3) ({ on with faults := { on.faults with reaction := 2, source := 0x26 } }) := by
  beta_reduce; decide +kernel

theorem witness_source_fire_firingsarerecorded1 :
    (fun (n : Fin 256) (d : Fin 4294967296) (s : State) =>
      (coreOn s = true) ∧
      (n.val < 0xE8 ∨ 0xEF < n.val) ∧
      (n.val ≠ 0x87 ∧ n.val ≠ 0xF0 ∧ n.val ≠ 0xA3 ∧ n.val ≠ 0xA4 ∧ n.val ≠ 0xA7) ∧
      (srcEnabled n.val s = true) ∧
      (srcLevel n.val = false) ∧
      (s.faults.due = []) ∧
      (s.faults.reaction ≠ 0) ∧
      (s.faults.source = n.val)) (0x26) (3) ({ on with faults := { on.faults with reaction := 2, source := 0x26 } }) := by
  beta_reduce; decide +kernel

theorem witness_source_fire_firingsarerecorded2 :
    (fun (n : Fin 256) (d : Fin 4294967296) (s : State) =>
      (coreOn s = true) ∧
      (n.val ≠ 0x87 ∧ n.val ≠ 0xF0 ∧ n.val ≠ 0xA3 ∧ n.val ≠ 0xA4 ∧ n.val ≠ 0xA7) ∧
      (srcEnabled n.val s = false) ∧
      (s.faults.due = [])) (0x10) (3) (on) := by
  beta_reduce; decide +kernel

theorem witness_source_fire_firingsarerecorded3 :
    (fun (n : Fin 256) (d : Fin 4294967296) (s : State) =>
      (coreOn s = true) ∧
      (n.val = 0x87 ∨ n.val = 0xF0)) (0xF0) (3) (on) := by
  beta_reduce; decide +kernel

theorem witness_err_in_n_assert_firingsarerecorded4 :
    (fun (s : State) =>
      (coreOn s = true) ∧
      (srcEnabled 0xE0 s = true) ∧
      (s.faults.condition.contains 0xE0 = true) ∧
      (s.faults.due = [])) ({ on with faults := { on.faults with condition := [0xE0] } }) := by
  beta_reduce; decide +kernel

theorem witness_force_source_firingsarerecorded5 :
    (fun (ses : Session) (n : Fin 256) (s : State) =>
      (Served ses s) ∧
      (s.dev ≠ .terminal) ∧
      (sourceRow n.val ≠ none) ∧
      (srcEnabled n.val s = true) ∧
      (srcClass n.val s < 3) ∧
      (srcSecurity n.val = false) ∧
      (1 ≤ roleOf ses s)) (.spi) (0x60) ({ on with crust := { on.crust with roles := [(0x30, 1)] } }) := by
  beta_reduce; decide +kernel

theorem witness_force_source_firingsarerecorded6 :
    (fun (ses : Session) (n : Fin 256) (s : State) =>
      (Served ses s) ∧
      (s.dev ≠ .terminal) ∧
      (sourceRow n.val ≠ none) ∧
      (srcClass n.val s = 3 ∨ srcSecurity n.val = true) ∧
      (roleOf ses s < 2)) (.spi) (0xAF) ({ on with crust := { on.crust with roles := [(0x30, 1)] } }) := by
  beta_reduce; decide +kernel

theorem witness_reaction_complete_reactionsendandsourcesclear0 :
    (fun (s : State) =>
      (s.faults.reaction = 2) ∧
      (s.dev ≠ .terminal) ∧
      (s.power.recovery = false)) ({ on with faults := { on.faults with reaction := 2, source := 0x26, forced := true } }) := by
  beta_reduce; decide +kernel

theorem witness_reaction_complete_reactionsendandsourcesclear1 :
    (fun (s : State) =>
      (s.faults.reaction = 1) ∧
      (s.faults.pending = []) ∧
      (s.faults.due = []) ∧
      (s.dev ≠ .safe)) ({ on with faults := { on.faults with reaction := 1, source := 0x63 } }) := by
  beta_reduce; decide +kernel

theorem witness_clear_source_reactionsendandsourcesclear2 :
    (fun (ses : Session) (n : Fin 256) (s : State) =>
      (Served ses s) ∧
      (sourceRow n.val ≠ none) ∧
      (s.dev ≠ .terminal) ∧
      (s.faults.terminal = false) ∧
      (srcClass n.val s < 3) ∧
      (srcSecurity n.val = false) ∧
      (1 ≤ roleOf ses s) ∧
      (srcLevel n.val = false) ∧
      (srcSet n.val s = true)) (.spi) (0x63) (setReg 0x5963 4 1 { on with crust := { on.crust with roles := [(0x30, 1)] } }) := by
  beta_reduce; decide +kernel

theorem witness_clear_source_reactionsendandsourcesclear3 :
    (fun (ses : Session) (n : Fin 256) (s : State) =>
      (Served ses s) ∧
      (sourceRow n.val ≠ none) ∧
      (s.dev = .terminal ∨ s.faults.terminal = true ∨ srcClass n.val s = 3 ∨ (srcLevel n.val = true ∧ s.faults.condition.contains n.val = true ∧ 2 ≤ roleOf ses s))) (.spi) (0x40) ({ on with faults := { on.faults with condition := [0x40] }, crust := { on.crust with roles := [(0x30, 2)] } }) := by
  beta_reduce; decide +kernel

theorem witness_clear_first_faults_reactionsendandsourcesclear4 :
    (fun (ses : Session) (s : State) =>
      (Served ses s) ∧
      (s.dev ≠ .terminal) ∧
      (1 ≤ roleOf ses s)) (.spi) ({ on with crust := { on.crust with roles := [(0x30, 1)] } }) := by
  beta_reduce; decide +kernel

theorem witness_safe_n_readback_mismatch_reactionsendandsourcesclear5 :
    (fun (s : State) =>
      (coreOn s = true) ∧
      (safeNLow s = true) ∧
      (s.faults.ballLow = true)) (on) := by
  beta_reduce; decide +kernel

theorem witness_level_condition_end_reactionsendandsourcesclear6 :
    (fun (n : Fin 256) (s : State) =>
      (s.faults.condition.contains n.val = true) ∧
      (n.val ≠ 0x40 ∧ n.val ≠ 0x47 ∧ n.val ≠ 0x48)) (0xE0) ({ on with faults := { on.faults with condition := [0xE0] } }) := by
  beta_reduce; decide +kernel

theorem witness_management_core_watchdog_managementcorerestarts0 :
    (fun (s : State) =>
      (coreOn s = true) ∧
      (Past s)) (on) := by
  beta_reduce; decide +kernel

theorem witness_firmware_return_managementcorerestarts1 :
    (fun (s : State) =>
      (s.access.coreUp = false) ∧
      (Past s)) ({ on with dev := .headless, access := { on.access with coreUp := false } }) := by
  beta_reduce; decide +kernel

theorem witness_headless_timeout_managementcorerestarts2 :
    (fun (s : State) =>
      (s.access.coreUp = false) ∧
      (Past s) ∧
      (due s.access.headlessSince (ms 1000) s = true) ∧
      (srcSet 0xE1 s = false)) (atNs 1000000000 { on with dev := .headless, access := { on.access with coreUp := false } }) := by
  beta_reduce; decide +kernel

end Sys2Proof.Tests
end

section
/-!
Values as bytes (R4, R28) and times as TIME80 (R28, R266): how the byte functions of the model read and write, and O6.
-/
namespace Sys2Proof.Machine

/-! ### Bytes of a string, by their place -/

@[simp] theorem byteAt_cons_zero (b : Byte) (l : Bytes) : byteAt (b :: l) 0 = b.toNat := rfl

@[simp] theorem byteAt_cons_succ (b : Byte) (l : Bytes) (k : Nat) : byteAt (b :: l) (k + 1) = byteAt l k := rfl

/-! ### Little-endian values -/

theorem byteAt_leBytes (n v k : Nat) (hk : k < n) : byteAt (leBytes n v) k = v / 256 ^ k % 256 := by
  induction n generalizing v k with
  | zero => omega
  | succ n ih =>
    cases k with
    | zero => simp [leBytes]
    | succ k =>
      rw [leBytes, byteAt_cons_succ, ih (v / 256) k (by omega), Nat.div_div_eq_div_mul, Nat.pow_succ']

/-- What does not fit n bytes is cut off. -/
theorem leNat_leBytes (n v : Nat) : leNat (leBytes n v) = v % 256 ^ n := by
  induction n generalizing v with
  | zero => simp [leBytes, leNat, Nat.mod_one]
  | succ n ih =>
    rw [leBytes, leNat, ih, Nat.pow_succ', Nat.mod_mul, BitVec.toNat_ofNat]

theorem leBytes_leNat (l : Bytes) : leBytes l.length (leNat l) = l := by
  induction l with
  | nil => rfl
  | cons b l ih =>
    have hb : b.toNat < 256 := b.isLt
    have hhead : BitVec.ofNat 8 (b.toNat + 256 * leNat l) = b := by
      apply BitVec.eq_of_toNat_eq
      rw [BitVec.toNat_ofNat]
      omega
    have htail : (b.toNat + 256 * leNat l) / 256 = leNat l := by omega
    rw [List.length_cons, leNat, leBytes, hhead, htail, ih]

/-! ### Network order is little-endian order reversed -/

theorem leNat_eq_foldr (l : Bytes) : leNat l = l.foldr (fun b a => a * 256 + b.toNat) 0 := by
  induction l with
  | nil => rfl
  | cons b l ih => rw [leNat, ih, List.foldr_cons, Nat.add_comm, Nat.mul_comm]

theorem beNat_reverse (l : Bytes) : beNat l.reverse = leNat l := by
  rw [beNat, List.foldl_reverse, leNat_eq_foldr]

theorem beNat_beBytes (n v : Nat) : beNat (beBytes n v) = v % 256 ^ n := by
  rw [beBytes, beNat_reverse, leNat_leBytes]

theorem beBytes_beNat (l : Bytes) : beBytes l.length (beNat l) = l := by
  have hle := leBytes_leNat l.reverse
  rw [← beNat_reverse, List.reverse_reverse, List.length_reverse] at hle
  rw [beBytes, hle, List.reverse_reverse]

/-! ### Times -/

/-- Seconds that fit their 48 bits stand below the nanoseconds, so that each part is found again (R28). -/
theorem ofTime80_time80 (t : Nat) (ht : t / 1000000000 < 2 ^ 48) : ofTime80 (time80 t) = t := by
  have hsec : time80 t % 2 ^ 48 = t / 1000000000 := by
    rw [time80, Nat.add_mul_mod_self_right, Nat.mod_mod, Nat.mod_eq_of_lt ht]
  have hns : time80 t / 2 ^ 48 = t % 1000000000 := by
    rw [time80, Nat.add_mul_div_right _ _ (Nat.two_pow_pos 48), Nat.mod_eq_of_lt ht, Nat.div_eq_of_lt ht, Nat.zero_add]
  rw [ofTime80, hsec, hns, Nat.div_add_mod']

/-- Settles O6: each direction of both byte orders by induction on the bytes, network order as the reverse of
little-endian order. -/
theorem valuesAreCarriedAsBytes : Obligations.ValuesAreCarriedAsBytes := by
  refine ⟨fun n v hv => ⟨leBytes_length n v, ?_, ?_, byteAt_leBytes n v⟩,
    fun l => ⟨leBytes_leNat l, beBytes_beNat l⟩, ofTime80_time80⟩
  · rw [leNat_leBytes, Nat.mod_eq_of_lt hv]
  · rw [beNat_beBytes, Nat.mod_eq_of_lt hv]

end Sys2Proof.Machine
end

section
/-!
The restart of the management core (R23, R25, R36, R37, R79): its watchdog, the firmware's return and the 1,000 ms limit, and O60.
-/
namespace Sys2Proof.Machine

/-- The watchdog's report counts in a running core only (R409). -/
theorem exec_managementCoreWatchdog (s : State) (hon : coreOn s = true) (hpast : Past s) :
    exec .managementCoreWatchdog s = .next (fire 0xE2 0 s) := by
  obtain ⟨hboot, hcatch⟩ := hpast
  have hcond : (coreOn s && s.dev ≠ .boot && s.dev ≠ .catch_) = true := by simp [hon, hboot, hcatch]
  exact congrArg Host.Outcome.next (if_pos hcond)

/-- Headless is the one state that the firmware's return ends (R36, R37), and from it alone do ports have a record to read
again (R79). -/
theorem exec_firmwareReturn (s : State) (hdown : s.access.coreUp = false) (hpast : Past s) :
    exec .firmwareReturn s = .next (settle 4 (refreshEval (proofReturn (sleepCheck
      (let t := { s with access := { s.access with coreUp := true } };
      if s.dev = .headless then rereadLost (setDev .operate t) else t))))) := by
  obtain ⟨hboot, hcatch⟩ := hpast
  have hcond : ¬ (s.access.coreUp || s.dev = .boot || s.dev = .catch_) = true := by simp [hdown, hboot, hcatch]
  exact congrArg Host.Outcome.next (if_neg hcond)

/-- Source 0xE1 fires at the limit where it is not set yet (R25), whatever state the device waits in (R37). -/
theorem exec_headlessTimeout (s : State) (hdown : s.access.coreUp = false) (hpast : Past s)
    (hdue : due s.access.headlessSince (ms 1000) s = true) (hset : srcSet 0xE1 s = false) :
    exec .headlessTimeout s = .next (fire 0xE1 0 s) := by
  obtain ⟨hboot, hcatch⟩ := hpast
  have hcond : (!s.access.coreUp && s.dev ≠ .boot && s.dev ≠ .catch_ && due s.access.headlessSince (ms 1000) s &&
      !srcSet 0xE1 s) = true := by simp [hdown, hboot, hcatch, hdue, hset]
  exact congrArg Host.Outcome.next (if_pos hcond)

/-- Settles O60: the guard of each of the three commands holds in the states of its clause. -/
theorem managementCoreRestarts : Obligations.ManagementCoreRestarts :=
  ⟨exec_managementCoreWatchdog, exec_firmwareReturn, exec_headlessTimeout⟩

end Sys2Proof.Machine
end

section
/-!
What a command and a step answer (R30, R33, R38): a next state, with canonical stores and the queue that the command was given. One arm per
command, each the lemma of its meaning under Sys2Proof/Laws; then O4, O1 and O3. That commands wait in a queue and that none of them faults
or is refused are the model's choices (assumption log 2, 4).
-/
namespace Sys2Proof.Machine

variable {q : List Instr}

/-- Every command keeps the form of the stores and the queue, each by the lemma of its own meaning. -/
theorem exec_kept (c : Instr) (s : State) (h : Kept q s) : KeptOut q (exec c s) :=
  match c with
  | .dictionaryWrite _ _ _ _ _ => execDictionaryWrite_kept _ _ _ _ _ _ h
  | .configureRequest _ => execConfigureRequest_kept _ _ h
  | .commit _ => execCommit_kept _ _ h
  | .commitValidationComplete => execCommitValidationComplete_kept _ h
  | .discard _ => execDiscard_kept _ _ h
  | .configureIdleRelease => execConfigureIdleRelease_kept _ h
  | .sessionLoss _ => execSessionLoss_kept _ _ h
  | .sdoRequest _ _ => execSdoRequest_kept _ _ _ h
  | .sdoSegmentTimeout _ => execSdoSegmentTimeout_kept _ _ h
  | .pxpOpen _ _ => execPxpOpen_kept _ _ _ h
  | .pxpProve _ _ => execPxpProve_kept _ _ _ h
  | .pxpRead _ _ => execPxpRead_kept _ _ _ h
  | .pxpWrite _ _ => execPxpWrite_kept _ _ _ h
  | .pxpKeepalive _ _ => execPxpKeepalive_kept _ _ _ h
  | .pxpClose _ _ => execPxpClose_kept _ _ _ h
  | .pxpIdleTimeout _ => execPxpIdleTimeout_kept _ _ h
  | .mailboxRead _ _ _ _ _ _ _ => execMailboxRead_kept _ _ _ _ _ _ _ _ h
  | .mailboxWrite _ _ _ _ _ _ _ => execMailboxWrite_kept _ _ _ _ _ _ _ _ h
  | .spiRead _ _ _ _ _ _ => execSpiRead_kept _ _ _ _ _ _ _ h
  | .spiWrite _ _ _ _ _ _ _ => execSpiWrite_kept _ _ _ _ _ _ _ _ h
  | .spiFetch => execSpiFetch_kept _ h
  | .remoteResponseTimeout _ => execRemoteResponseTimeout_kept _ _ h
  | .managementCoreWatchdog => execManagementCoreWatchdog_kept _ h
  | .firmwareReturn => execFirmwareReturn_kept _ h
  | .headlessTimeout => execHeadlessTimeout_kept _ h
  | .portBringUp _ _ => execPortBringUp_kept _ _ _ h
  | .phyIdentifierRetry _ _ => execPhyIdentifierRetry_kept _ _ _ h
  | .initEntryDelayEnd _ => execInitEntryDelayEnd_kept _ _ h
  | .linkPoll _ _ => execLinkPoll_kept _ _ _ h
  | .pcsLoss _ => execPcsLoss_kept _ _ h
  | .linkUp _ _ => execLinkUp_kept _ _ _ h
  | .inBandRateChange _ _ => execInBandRateChange_kept _ _ _ h
  | .starvedFallback _ => execStarvedFallback_kept _ _ h
  | .mdioRead _ _ => execMdioRead_kept _ _ _ h
  | .mdioWrite _ _ => execMdioWrite_kept _ _ _ h
  | .idRecordRead _ _ _ => execIdRecordRead_kept _ _ _ _ h
  | .idBusStretchTimeout _ => execIdBusStretchTimeout_kept _ _ h
  | .recordSignatureCheck _ => execRecordSignatureCheck_kept _ _ h
  | .foreignBeacon _ => execForeignBeacon_kept _ _ h
  | .tc10SleepEntry _ _ => execTc10SleepEntry_kept _ _ _ h
  | .tc10WakePulse _ => execTc10WakePulse_kept _ _ h
  | .ethernetFrameReceive _ _ => execEthernetFrameReceive_kept _ _ _ h
  | .verdictRelease _ => execVerdictRelease_kept _ _ h
  | .transmissionSelection _ => execTransmissionSelection_kept _ _ h
  | .frameTransmitEnd _ _ => execFrameTransmitEnd_kept _ _ _ h
  | .fdbAgeingScan => execFdbAgeingScan_kept _ h
  | .fdbFlushAll _ => execFdbFlushAll_kept _ _ h
  | .fdbFlushByPort _ => execFdbFlushByPort_kept _ _ h
  | .fdbFlushByFid _ => execFdbFlushByFid_kept _ _ h
  | .fdbFlushComplete => execFdbFlushComplete_kept _ h
  | .fdbLookUp _ => execFdbLookUp_kept _ _ h
  | .fdbWriteStatic _ => execFdbWriteStatic_kept _ _ h
  | .fdbDeleteStatic _ => execFdbDeleteStatic_kept _ _ h
  | .readCommitted _ _ => execReadCommitted_kept _ _ _ h
  | .writeStaged _ _ => execWriteStaged_kept _ _ _ h
  | .clearEntryCounters _ _ => execClearEntryCounters_kept _ _ _ h
  | .flowDeleteStaged _ => execFlowDeleteStaged_kept _ _ h
  | .frerResetTimeout _ => execFrerResetTimeout_kept _ _ h
  | .orphanScan => execOrphanScan_kept _ h
  | .overloadTick => execOverloadTick_kept _ h
  | .hostRingDrop _ => execHostRingDrop_kept _ _ h
  | .streamGateEntryChange _ => execStreamGateEntryChange_kept _ _ h
  | .streamGateClearLatch _ => execStreamGateClearLatch_kept _ _ h
  | .filterClearBlocked _ => execFilterClearBlocked_kept _ _ h
  | .meterClearLatch _ => execMeterClearLatch_kept _ _ h
  | .gateEntryChange _ => execGateEntryChange_kept _ _ h
  | .gateListSwitchOver _ => execGateListSwitchOver_kept _ _ h
  | .gateEntryRead _ => execGateEntryRead_kept _ _ h
  | .gateEntryWriteStaged _ => execGateEntryWriteStaged_kept _ _ h
  | .holdAssert _ => execHoldAssert_kept _ _ h
  | .holdRelease _ => execHoldRelease_kept _ _ h
  | .verifyMpacketSend _ => execVerifyMpacketSend_kept _ _ h
  | .verifyMpacketReceive _ => execVerifyMpacketReceive_kept _ _ h
  | .respondMpacketReceive _ => execRespondMpacketReceive_kept _ _ h
  | .passPairOutcome _ _ => execPassPairOutcome_kept _ _ _ h
  | .laneDrainEnd _ => execLaneDrainEnd_kept _ _ h
  | .restoreLane _ _ => execRestoreLane_kept _ _ _ h
  | .laneSelfTestComplete _ _ => execLaneSelfTestComplete_kept _ _ _ h
  | .seededComparatorTest _ => execSeededComparatorTest_kept _ _ h
  | .comparatorFault _ => execComparatorFault_kept _ _ h
  | .guardSpoof _ _ _ => execGuardSpoof_kept _ _ _ _ h
  | .quarantineEnd _ => execQuarantineEnd_kept _ _ h
  | .guardClearCounters _ => execGuardClearCounters_kept _ _ h
  | .zonePairCountersRead _ => execZonePairCountersRead_kept _ _ h
  | .zonePairCountersClear _ => execZonePairCountersClear_kept _ _ h
  | .freshnessFlashCopy => execFreshnessFlashCopy_kept _ h
  | .canFrameReceive _ _ _ => execCanFrameReceive_kept _ _ _ _ h
  | .protocolException _ => execProtocolException_kept _ _ h
  | .canBusError _ _ => execCanBusError_kept _ _ _ h
  | .busOffHoldOffEnd _ => execBusOffHoldOffEnd_kept _ _ h
  | .busOffRecoveryComplete _ => execBusOffRecoveryComplete_kept _ _ h
  | .canRecover _ _ => execCanRecover_kept _ _ _ h
  | .canClearCounters _ _ => execCanClearCounters_kept _ _ _ h
  | .transmitSlotSelection _ => execTransmitSlotSelection_kept _ _ h
  | .transmitConfirmation _ _ => execTransmitConfirmation_kept _ _ _ h
  | .transmitAttemptFailed _ _ _ => execTransmitAttemptFailed_kept _ _ _ _ h
  | .busHeldDominant _ => execBusHeldDominant_kept _ _ h
  | .engineSettingsTakeover _ => execEngineSettingsTakeover_kept _ _ h
  | .captureJoin => execCaptureJoin_kept _ h
  | .linSlotStart _ => execLinSlotStart_kept _ _ h
  | .linHeaderReceive _ _ _ => execLinHeaderReceive_kept _ _ _ _ h
  | .linResponseReceive _ _ => execLinResponseReceive_kept _ _ _ h
  | .linResponseTimeout _ _ => execLinResponseTimeout_kept _ _ _ h
  | .linTableRequest _ _ _ => execLinTableRequest_kept _ _ _ _ h
  | .linWakeUp _ _ => execLinWakeUp_kept _ _ _ h
  | .linGoToSleep _ _ => execLinGoToSleep_kept _ _ _ h
  | .linClearCounters _ _ => execLinClearCounters_kept _ _ _ h
  | .goToSleepReceive _ => execGoToSleepReceive_kept _ _ h
  | .transceiverStandbyRequest _ => execTransceiverStandbyRequest_kept _ _ h
  | .transceiverModeChangeEnd _ => execTransceiverModeChangeEnd_kept _ _ h
  | .routeExecute => execRouteExecute_kept _ h
  | .periodicTransmit _ => execPeriodicTransmit_kept _ _ h
  | .minimumIntervalEnd _ => execMinimumIntervalEnd_kept _ _ h
  | .limiterTokenRelease _ => execLimiterTokenRelease_kept _ _ h
  | .transmitWindowEdge _ => execTransmitWindowEdge_kept _ _ h
  | .containerDeadlineClose _ => execContainerDeadlineClose_kept _ _ h
  | .containerUnpack => execContainerUnpack_kept _ h
  | .beaconAlignment _ => execBeaconAlignment_kept _ _ h
  | .plcaTakeover _ => execPlcaTakeover_kept _ _ h
  | .replayRecordSubmit => execReplayRecordSubmit_kept _ h
  | .replayEnd => execReplayEnd_kept _ h
  | .ptpMessageReceive _ _ => execPtpMessageReceive_kept _ _ _ h
  | .syncReceive _ => execSyncReceive_kept _ _ h
  | .ppsInEdge => execPpsInEdge_kept _ h
  | .linkDelayExchange _ _ => execLinkDelayExchange_kept _ _ _ h
  | .syncReceiptTimeout => execSyncReceiptTimeout_kept _ h
  | .ppsInTimeout => execPpsInTimeout_kept _ h
  | .holdoverLimit => execHoldoverLimit_kept _ h
  | .stepBy _ => execStepBy_kept _ _ h
  | .setAbsolute _ => execSetAbsolute_kept _ _ h
  | .comparatorArm _ _ => execComparatorArm_kept _ _ _ h
  | .comparatorDisarm _ _ => execComparatorDisarm_kept _ _ _ h
  | .comparatorFire _ => execComparatorFire_kept _ _ h
  | .captureEdge _ _ => execCaptureEdge_kept _ _ _ h
  | .capturePop _ _ => execCapturePop_kept _ _ _ h
  | .crossStampLatch _ => execCrossStampLatch_kept _ _ h
  | .ppsOutPulse => execPpsOutPulse_kept _ h
  | .wakeSourceValidated _ => execWakeSourceValidated_kept _ _ h
  | .wakeTimerExpiry => execWakeTimerExpiry_kept _ h
  | .nmPduReceive _ _ => execNmPduReceive_kept _ _ _ h
  | .ownNmPduSend _ => execOwnNmPduSend_kept _ _ h
  | .nmTimeout _ => execNmTimeout_kept _ _ h
  | .linResponderHoldEnd _ => execLinResponderHoldEnd_kept _ _ h
  | .sleepCommit _ => execSleepCommit_kept _ _ h
  | .standbyPoint _ => execStandbyPoint_kept _ _ h
  | .sleepDwellEnd _ => execSleepDwellEnd_kept _ _ h
  | .sleepReady => execSleepReady_kept _ h
  | .deviceSleepEntry => execDeviceSleepEntry_kept _ h
  | .warmDwellLimit => execWarmDwellLimit_kept _ h
  | .warmWake => execWarmWake_kept _ h
  | .coldWake => execColdWake_kept _ h
  | .wakeDone => execWakeDone_kept _ h
  | .awakeTimerExpiry _ => execAwakeTimerExpiry_kept _ _ h
  | .withholdingEnd _ => execWithholdingEnd_kept _ _ h
  | .wakeWatchdogExpiry => execWakeWatchdogExpiry_kept _ h
  | .wakeBackoffEnd => execWakeBackoffEnd_kept _ h
  | .safeSleepTimeout => execSafeSleepTimeout_kept _ h
  | .grantReceive _ => execGrantReceive_kept _ _ h
  | .releaseReceive _ => execReleaseReceive_kept _ _ h
  | .leaseYield => execLeaseYield_kept _ h
  | .leaseEnd => execLeaseEnd_kept _ h
  | .leaseAckReceive _ _ => execLeaseAckReceive_kept _ _ _ h
  | .healthReportSend => execHealthReportSend_kept _ h
  | .healthReportReceive _ => execHealthReportReceive_kept _ _ h
  | .partnerHealthTimeout => execPartnerHealthTimeout_kept _ h
  | .refereeGrantRenewal _ => execRefereeGrantRenewal_kept _ _ h
  | .refereeAckTimeout _ => execRefereeAckTimeout_kept _ _ h
  | .refereeLeaseLapse _ => execRefereeLeaseLapse_kept _ _ h
  | .refereeLost => execRefereeLost_kept _ h
  | .shadowOmission _ => execShadowOmission_kept _ _ h
  | .transmitWithoutLease _ => execTransmitWithoutLease_kept _ _ h
  | .handOver _ _ => execHandOver_kept _ _ _ h
  | .releaseAll _ _ => execReleaseAll_kept _ _ _ h
  | .resume _ _ => execResume_kept _ _ _ h
  | .pePerstN _ => execPePerstN_kept _ _ h
  | .functionLevelReset => execFunctionLevelReset_kept _ h
  | .unsupportedAccess _ => execUnsupportedAccess_kept _ _ h
  | .time80LowHalfRead _ => execTime80LowHalfRead_kept _ _ h
  | .remoteApertureAccess _ _ => execRemoteApertureAccess_kept _ _ _ h
  | .transportFrameReceive _ => execTransportFrameReceive_kept _ _ h
  | .transportAckDue _ => execTransportAckDue_kept _ _ h
  | .retransmitTimeout _ => execRetransmitTimeout_kept _ _ h
  | .helloSend => execHelloSend_kept _ h
  | .helloReceive _ => execHelloReceive_kept _ _ h
  | .peerDiscoveryTimeout _ => execPeerDiscoveryTimeout_kept _ _ h
  | .eventMessageReceive _ _ => execEventMessageReceive_kept _ _ _ h
  | .eventExport _ => execEventExport_kept _ _ h
  | .softwareEventSend _ => execSoftwareEventSend_kept _ _ h
  | .prefetchHoldEnd _ => execPrefetchHoldEnd_kept _ _ h
  | .dmaDoorbell _ _ => execDmaDoorbell_kept _ _ _ h
  | .dmaStart _ _ => execDmaStart_kept _ _ _ h
  | .dmaAbort _ _ => execDmaAbort_kept _ _ _ h
  | .dmaDisable _ _ => execDmaDisable_kept _ _ _ h
  | .dmaResetRing _ _ => execDmaResetRing_kept _ _ _ h
  | .descriptorFetch _ _ => execDescriptorFetch_kept _ _ _ h
  | .phaseReread _ _ => execPhaseReread_kept _ _ _ h
  | .descriptorWriteBack _ => execDescriptorWriteBack_kept _ _ h
  | .completionPop _ _ => execCompletionPop_kept _ _ _ h
  | .receiveFrameToHost _ _ => execReceiveFrameToHost_kept _ _ _ h
  | .transmitFrameFromHost _ _ _ => execTransmitFrameFromHost_kept _ _ _ _ h
  | .copyDescriptor _ _ _ => execCopyDescriptor_kept _ _ _ _ h
  | .dmaDomainLoss _ => execDmaDomainLoss_kept _ _ h
  | .challengeRead _ => execChallengeRead_kept _ _ h
  | .credentialResponse _ _ => execCredentialResponse_kept _ _ _ h
  | .roleRelease _ => execRoleRelease_kept _ _ h
  | .lockoutEnd _ => execLockoutEnd_kept _ _ h
  | .loadWrappedBlob _ => execLoadWrappedBlob_kept _ _ h
  | .importPublicKey _ => execImportPublicKey_kept _ _ h
  | .unwrapSak _ => execUnwrapSak_kept _ _ h
  | .eraseKey _ => execEraseKey_kept _ _ h
  | .clearImport _ => execClearImport_kept _ _ h
  | .keyParityError _ => execKeyParityError_kept _ _ h
  | .trngHealthFailure => execTrngHealthFailure_kept _ h
  | .trngStartUpTest _ => execTrngStartUpTest_kept _ _ h
  | .authUnitSelfTest _ => execAuthUnitSelfTest_kept _ _ h
  | .transmitAnWrite _ _ _ => execTransmitAnWrite_kept _ _ _ _ h
  | .saRead _ => execSaRead_kept _ _ h
  | .saWrite _ => execSaWrite_kept _ _ h
  | .pnExhaustion _ => execPnExhaustion_kept _ _ h
  | .deriveKekIck _ => execDeriveKekIck_kept _ _ h
  | .computeIcv _ => execComputeIcv_kept _ _ h
  | .sealedRecordWrite => execSealedRecordWrite_kept _ h
  | .logAcknowledge _ _ => execLogAcknowledge_kept _ _ _ h
  | .logExport _ => execLogExport_kept _ _ h
  | .moduleBind _ _ => execModuleBind_kept _ _ _ h
  | .moduleUnbind _ _ => execModuleUnbind_kept _ _ _ h
  | .tamperEvent _ => execTamperEvent_kept _ _ h
  | .tamperLatchClear _ _ => execTamperLatchClear_kept _ _ _ h
  | .jtagInstruction _ => execJtagInstruction_kept _ _ h
  | .sourceFire _ _ => execSourceFire_kept _ _ _ h
  | .reactionComplete => execReactionComplete_kept _ h
  | .forceSource _ _ => execForceSource_kept _ _ _ h
  | .clearSource _ _ => execClearSource_kept _ _ _ h
  | .clearFirstFaults _ => execClearFirstFaults_kept _ _ h
  | .errInNAssert => execErrInNAssert_kept _ h
  | .safeNReadbackMismatch => execSafeNReadbackMismatch_kept _ h
  | .levelConditionEnd _ => execLevelConditionEnd_kept _ _ h
  | .updateBegin _ => execUpdateBegin_kept _ _ h
  | .updateData _ _ => execUpdateData_kept _ _ _ h
  | .updateInstall _ => execUpdateInstall_kept _ _ h
  | .updateDiscard _ => execUpdateDiscard_kept _ _ h
  | .installComplete _ _ => execInstallComplete_kept _ _ _ h
  | .activationArm _ => execActivationArm_kept _ _ h
  | .activationCancel _ => execActivationCancel_kept _ _ h
  | .activationArmNow _ => execActivationArmNow_kept _ _ h
  | .activationHeaderDeadline _ => execActivationHeaderDeadline_kept _ _ h
  | .activation _ => execActivation_kept _ _ h
  | .firmwareConfirm _ => execFirmwareConfirm_kept _ _ h
  | .hostConfirm _ _ => execHostConfirm_kept _ _ _ h
  | .hostReject _ => execHostReject_kept _ _ h
  | .proofingWindowExpiry => execProofingWindowExpiry_kept _ h
  | .thermometerBurnRetry _ => execThermometerBurnRetry_kept _ _ h
  | .recoveryErase _ _ _ _ => execRecoveryErase_kept _ _ _ _ _ h
  | .recoveryWrite _ _ _ _ _ => execRecoveryWrite_kept _ _ _ _ _ _ h
  | .recoveryVerify _ _ _ _ _ => execRecoveryVerify_kept _ _ _ _ _ _ h
  | .recoveryRestart _ _ _ _ => execRecoveryRestart_kept _ _ _ _ _ h
  | .porstNAssert => execPorstNAssert_kept _ h
  | .porstNRelease _ => execPorstNRelease_kept _ _ h
  | .rstNReset => execRstNReset_kept _ h
  | .softwareReset _ => execSoftwareReset_kept _ _ h
  | .supplyReset => execSupplyReset_kept _ h
  | .railOutOfRange _ _ => execRailOutOfRange_kept _ _ _ h
  | .retentionLost => execRetentionLost_kept _ h
  | .vddAonLoss => execVddAonLoss_kept _ h
  | .vddioBusLoss => execVddioBusLoss_kept _ h
  | .vddioBusReturn => execVddioBusReturn_kept _ h
  | .xtalStable => execXtalStable_kept _ h
  | .xtalLoss => execXtalLoss_kept _ h
  | .pllLock _ => execPllLock_kept _ _ h
  | .pllUnlock _ => execPllUnlock_kept _ _ h
  | .strapDriverEnable => execStrapDriverEnable_kept _ h
  | .peckRequest _ => execPeckRequest_kept _ _ h
  | .peckGrant _ => execPeckGrant_kept _ _ h
  | .peckReturn _ => execPeckReturn_kept _ _ h
  | .peckStarvation _ => execPeckStarvation_kept _ _ h
  | .deratingUpdate _ => execDeratingUpdate_kept _ _ h
  | .serdesStep => execSerdesStep_kept _ h
  | .stepRequestWithdraw _ => execStepRequestWithdraw_kept _ _ h
  | .domainReady _ => execDomainReady_kept _ _ h
  | .domainPowerDown _ => execDomainPowerDown_kept _ _ h
  | .domainDrainEnd _ => execDomainDrainEnd_kept _ _ h
  | .powerSwitchFault _ => execPowerSwitchFault_kept _ _ h
  | .firmwareImageVerified _ => execFirmwareImageVerified_kept _ _ h
  | .configurationImageLoaded _ => execConfigurationImageLoaded_kept _ _ h
  | .dictionaryAvailable => execDictionaryAvailable_kept _ h
  | .stagedBankRefreshComplete => execStagedBankRefreshComplete_kept _ h
  | .mdioFrameComplete _ _ => execMdioFrameComplete_kept _ _ _ h
  | .integrationComplete _ => execIntegrationComplete_kept _ _ h
  | .grandmasterSyncSend _ _ => execGrandmasterSyncSend_kept _ _ _ h
  | .linkDelayRequestSend _ => execLinkDelayRequestSend_kept _ _ h
  | .refereeHealthTimeout _ => execRefereeHealthTimeout_kept _ _ h
  | .refereeFirstGrant _ => execRefereeFirstGrant_kept _ _ h
  | .pcieConfigurationRequest => execPcieConfigurationRequest_kept _ h
  | .pmeTurnOff => execPmeTurnOff_kept _ h
  | .pcieLinkUp _ _ => execPcieLinkUp_kept _ _ _ h
  | .pcieLinkDown => execPcieLinkDown_kept _ h
  | .msixVectorUnmask _ => execMsixVectorUnmask_kept _ _ h
  | .lifecycleTransition _ _ => execLifecycleTransition_kept _ _ _ h
  | .rootKeyRevocation _ _ => execRootKeyRevocation_kept _ _ _ h
  | .rstNRelease => execRstNRelease_kept _ h
  | .supplyResetRelease => execSupplyResetRelease_kept _ h
  | .vddAonReturn => execVddAonReturn_kept _ h
  | .logExportComplete => execLogExportComplete_kept _ h
  | .revertConfigurationSwitch _ => execRevertConfigurationSwitch_kept _ _ h

/-- No meaning of a command ends in a fault or a refusal (assumption log 4). -/
theorem exec_next (c : Instr) (s : State) : ∃ t, exec c s = .next t := by
  cases c <;> exact ⟨_, rfl⟩

/-- A command's next state has canonical stores and the queue before it. -/
theorem exec_next_kept (c : Instr) (s : State) (h : Kept q s) : ∃ t, exec c s = .next t ∧ Kept q t := by
  obtain ⟨t, ht⟩ := exec_next c s
  have hkept : KeptOut q (exec c s) := exec_kept c s h
  rw [ht] at hkept
  exact ⟨t, ht, hkept⟩

/-- Settles O4: a state with canonical stores keeps them and its own queue under every command. -/
theorem commandsKeepTheStoresAndTheQueue : Obligations.CommandsKeepTheStoresAndTheQueue :=
  fun c s hok => exec_next_kept c s ⟨hok, rfl⟩

/-- A waiting command is taken from the queue before it acts. -/
theorem step_cons (c : Instr) (rest : List Instr) (s : State) (h : s.pending = c :: rest) :
    step s = exec c { s with pending := rest } := by
  unfold step
  rw [h]

/-- With no command waiting one TCLK edge passes (R266). -/
theorem step_nil (s : State) (h : s.pending = []) : step s = .next (tick s) := by
  unfold step
  rw [h]

/-- Settles O1: the two branches of a step. -/
theorem stepRunsTheFrontCommand : Obligations.StepRunsTheFrontCommand :=
  ⟨fun c q s => step_cons c q { s with pending := c :: q } rfl, step_nil⟩

/-- Settles O3: an edge leaves the empty queue as it is, and a command acts on the state with the rest of the queue. -/
theorem stepKeepsTheStores : Obligations.StepKeepsTheStores := by
  intro s hok
  cases hq : s.pending with
  | nil => exact ⟨tick s, step_nil s hq, tick_kept s ⟨hok, hq⟩⟩
  | cons c rest =>
    rw [step_cons c rest s hq]
    exact exec_next_kept c { s with pending := rest } ⟨hok, rfl⟩

end Sys2Proof.Machine
end

section
/-!
The Configure lock (R36, R38, R39, R40, R45): what the session requests of 0x1002:01 do where they are not refused, the end of a validation,
the loss of the lock, and O11.
-/
namespace Sys2Proof.Machine

/-! ### Service of a command -/

theorem each_nil {α : Type} (f : α → State → State) (s : State) : each [] f s = s := rfl

/-- A CMD object is written outside Terminal (R35). -/
theorem notTerminal_past (f : Svc) (s : State) (h : s.dev ≠ .terminal) : notTerminal f s = f s := if_neg h

/-- A command that is carried out is answered with the code 0. -/
theorem serve_done (ses : Session) (f : Svc) (s t : State) (h : Served ses s) (hf : f (touch ses s) = (t, 0)) :
    serve ses f s = answered ses t := by
  rw [serve_served ses f s h, hf]
  rfl

/-- A command of a served session with a later answer waits for the end of validation (R40). -/
theorem serveLate_done (ses : Session) (f : Svc) (s t : State) (h : Served ses s) (hf : f (touch ses s) = (t, 0)) :
    serveLate ses f s = deferCommit ses false [] t := by
  obtain ⟨hboot, hcatch, hlive, hreach, hevict⟩ := h
  simp [serveLate, serveWith, evict, *]

/-- An access of the lock holder restarts its idle time (R39). -/
theorem touch_of_holder (ses : Session) (s : State) (h : s.access.holder = some ses) :
    touch ses s = { s with access := { s.access with holderSince := wall s } } := if_pos h

/-! ### Requests of the lock (R38) -/

theorem configureRequest_operate (ses : Session) (s : State) (hdev : s.dev = .operate) (hproof : bit s.update.proof 1 = false) :
    configureRequest ses s = (setDev .configure (takeLock ses s), 0) := by
  rw [configureRequest, notTerminal_past _ _ (by simp [hdev])]
  simp only [hdev, hproof]
  rfl

theorem configureRequest_of_held (ses h : Session) (s : State) (hdev : s.dev = .configure) (hh : s.access.holder = some h)
    (hne : h ≠ ses) : configureRequest ses s = (s, 0x08000021) := by
  rw [configureRequest, notTerminal_past _ _ (by simp [hdev])]
  simp only [hdev, hh, if_neg hne]

/-- The lock holder's request outside validation is carried out. -/
theorem byHolder_holder (ses : Session) (f : Svc) (s : State) (hdev : s.dev = .configure) (hh : s.access.holder = some ses)
    (hval : s.access.validating = false) : byHolder ses f s = f s := by
  rw [byHolder, notTerminal_past _ _ (by simp [hdev])]
  simp [hdev, hh, hval]

theorem exec_configureRequest_operate (ses : Session) (s : State) (hs : Served ses s) (hdev : s.dev = .operate)
    (hproof : bit s.update.proof 1 = false) :
    exec (.configureRequest ses) s = .next (settle 8 (answered ses (setDev .configure (takeLock ses (touch ses s))))) := by
  have hreq := configureRequest_operate ses (touch ses s) (by simp [hdev]) (by simp [hproof])
  exact congrArg (fun t => Host.Outcome.next (settle 8 t)) (serve_done ses _ s _ hs hreq)

theorem exec_configureRequest_of_held (ses h : Session) (s : State) (hs : Served ses s) (hdev : s.dev = .configure)
    (hh : s.access.holder = some h) (hne : h ≠ ses) (hdue : s.faults.due = []) :
    exec (.configureRequest ses) s = .next (emit (.answer ses 0x08000021 []) (touch ses s)) := by
  have hreq := configureRequest_of_held ses h (touch ses s) (by simp [hdev]) (by simp [hh]) hne
  have hserve : serve ses (configureRequest ses) s = emit (.answer ses 0x08000021 []) (touch ses s) := by
    rw [serve_served ses _ s hs, hreq]
  have hsettle : settle 8 (serve ses (configureRequest ses) s) = emit (.answer ses 0x08000021 []) (touch ses s) := by
    rw [hserve, settle_none _ _ (by simp [hdue])]
  exact congrArg Host.Outcome.next hsettle

/-! ### Commit (R39, R40) -/

/-- A commit outside the installation of an image (R432) starts its validation. -/
theorem commitRequest_holder (ses : Session) (s : State) (hdev : s.dev = .configure) (hh : s.access.holder = some ses)
    (hval : s.access.validating = false) (himage : reg 0x6800 7 s ≠ 2) :
    commitRequest ses s = ({ s with access := { s.access with validating := true } }, 0) := by
  rw [commitRequest, byHolder_holder ses _ s hdev hh hval]
  simp [himage, done]

theorem exec_commit_holder (ses : Session) (s : State) (hs : Served ses s) (hdev : s.dev = .configure)
    (hh : s.access.holder = some ses) (hval : s.access.validating = false) (himage : reg 0x6800 7 s ≠ 2) :
    exec (.commit ses) s = .next (deferCommit ses false []
      { s with access := { s.access with holderSince := wall s, validating := true } }) := by
  have hreq := commitRequest_holder ses (touch ses s) (by simp [hdev]) (by simp [hh]) (by simp [hval]) (by simpa using himage)
  have hlate := serveLate_done ses _ s _ hs hreq
  rw [touch_of_holder ses s hh] at hlate
  exact congrArg Host.Outcome.next hlate

/-- The state in which a validation judges the staged configuration: the writes that waited for the refresh stand (R191). -/
def judged (s : State) : State :=
  each s.sieve.waitingWrites (fun w s => stageWrite w.1 w.2 s) { s with sieve := { s.sieve with waitingWrites := [], refreshing := false } }

theorem endValidation_clean (h : Session) (s t : State) (ht : judged s = t)
    (hcheck : firstOffence (commitChecks (roleOf h t) t.cfg t.staged t) = none) :
    endValidation h s = answerCommit 0 (switchTables t.staged t) := by
  unfold judged at ht
  unfold endValidation
  rw [ht]
  simp only [hcheck]

theorem endValidation_offence (h : Session) (x : Nat × Nat × Nat) (s t : State) (ht : judged s = t)
    (hcheck : firstOffence (commitChecks (roleOf h t) t.cfg t.staged t) = some x) :
    endValidation h s = answerCommit 0x080000A4 (recordRefusal 0x080000A4 x.1 x.2.1 x.2.2
      { t with access := { t.access with validating := false } }) := by
  unfold judged at ht
  unfold endValidation
  rw [ht]
  simp only [hcheck]
theorem judged_of_none_waiting (s : State) (h : s.sieve.waitingWrites = []) :
    judged s = { s with sieve := { s.sieve with waitingWrites := [], refreshing := false } } := by
  rw [judged, h, each_nil]
/-- A session's role does not rest on the Sieve. -/
theorem roleOf_setSieve (h : Session) (x : SieveSt) (s : State) : roleOf h { s with sieve := x } = roleOf h s := id rfl

/-- A validation whose lock is still held ends in Configure. -/
theorem exec_commitValidationComplete (h : Session) (s : State) (hh : s.access.holder = some h) (hval : s.access.validating = true)
    (hdev : s.dev = .configure) : exec .commitValidationComplete s = .next (settle 8 (endValidation h s)) := by
  change execCommitValidationComplete s = _
  simp [execCommitValidationComplete, hh, hval, hdev]

/-! ### The end of the lock (R39, R45) -/

theorem exec_discard_holder (ses : Session) (s : State) (hs : Served ses s) (hdev : s.dev = .configure)
    (hh : s.access.holder = some ses) (hval : s.access.validating = false) :
    exec (.discard ses) s = .next (settle 8 (answered ses (sleepCheck (setDev .operate (touch ses s))))) := by
  have hreq : discardEdits ses (touch ses s) = (sleepCheck (setDev .operate (touch ses s)), 0) := by
    rw [discardEdits, byHolder_holder ses _ _ (by simp [hdev]) (by simp [hh]) (by simp [hval])]
    rfl
  exact congrArg (fun t => Host.Outcome.next (settle 8 t)) (serve_done ses _ s _ hs hreq)

theorem exec_configureIdleRelease (h : Session) (s : State) (hdev : s.dev = .configure) (hh : s.access.holder = some h)
    (hval : s.access.validating = false) (hdue : due s.access.holderSince (reg 0x1002 3 s * 1000000000) s = true) :
    exec .configureIdleRelease s = .next (settle 8 (loseLock s)) := by
  change execConfigureIdleRelease s = _
  simp [execConfigureIdleRelease, execConfigureIdleRelease.cfgIdle, hh, hval, hdev, hdue]

/-- A session's credentials and the answers that it waits for are gone (R45). -/
def withoutSession (n : Fin 4) (s : State) : State :=
  { s with
    crust := { s.crust with
      roles := tdel s.crust.roles n.val, requested := tdel s.crust.requested n.val, challenges := tdel s.crust.challenges n.val }
    access := { s.access with remote := s.access.remote.filter fun r => r.ses ≠ .sdo n } }

/-- Past Boot and Catch the end of an SDO session takes its credentials, and the lock where it holds it. -/
theorem exec_sessionLoss_sdo (n : Fin 4) (s : State) (hpast : Past s) :
    exec (.sessionLoss (.sdo n)) s = .next (settle 8 (
      if s.access.holder = some (.sdo n) && s.dev = .configure then loseLock (withoutSession n s) else withoutSession n s)) := by
  obtain ⟨hboot, hcatch⟩ := hpast
  have hcond : ¬ (s.dev = .boot || s.dev = .catch_) = true := by simp [hboot, hcatch]
  exact congrArg Host.Outcome.next (if_neg hcond)

theorem exec_sessionLoss_free (n : Fin 4) (s : State) (hpast : Past s) (hh : s.access.holder ≠ some (.sdo n))
    (hdue : s.faults.due = []) : exec (.sessionLoss (.sdo n)) s = .next (withoutSession n s) := by
  rw [exec_sessionLoss_sdo n s hpast, if_neg (by simp [hh]), settle_none 8 (withoutSession n s) hdue]

theorem exec_sessionLoss_holder (n : Fin 4) (s : State) (hpast : Past s) (hh : s.access.holder = some (.sdo n))
    (hdev : s.dev = .configure) : exec (.sessionLoss (.sdo n)) s = .next (settle 8 (loseLock (withoutSession n s))) := by
  rw [exec_sessionLoss_sdo n s hpast, if_pos (by simp [hh, hdev])]

/-- Settles O11: the requests of the lock where they are served, the two ends of a validation, and the two losses of the lock. -/
theorem theConfigureLockAndItsCommit : Obligations.TheConfigureLockAndItsCommit := by
  refine ⟨exec_configureRequest_operate, exec_configureRequest_of_held, exec_commit_holder, ?_, ?_, exec_discard_holder,
    exec_configureIdleRelease, exec_sessionLoss_free, exec_sessionLoss_holder⟩
  · intro h s hh hval hdev hw hcheck
    rw [← roleOf_setSieve] at hcheck
    rw [exec_commitValidationComplete h s hh hval hdev, endValidation_clean h s _ (judged_of_none_waiting s hw) hcheck]
  · intro h x s hh hval hdev hw hcheck
    rw [← roleOf_setSieve] at hcheck
    rw [exec_commitValidationComplete h s hh hval hdev, endValidation_offence h x s _ (judged_of_none_waiting s hw) hcheck]

end Sys2Proof.Machine
end

section
/-!
The SDO servers (R47, R48): which function takes a request, what an initiated download and its segments do, and O13. The command specifiers
and the toggle bit are those of CiA 301 (assumption log 25).
-/
namespace Sys2Proof.Machine

/-! ### Which function takes a request -/

/-- A whole request on a path in use, with the dictionary out of reach: the hardware aborts it, unless it is itself an abort (R47). -/
theorem exec_sdoRequest_unreachable (n : Fin 4) (l : List Byte) (s : State) (hon : pathOn (.sdo n) s = true) (hlen : l.length = 8)
    (habort : byteAt l 0 ≠ 0x80) (hreach : reachable s = false) :
    exec (.sdoRequest n l) s = .next (sdoSend n.val (leBytes 1 0x80 ++ slice 1 3 l ++ leBytes 4 0x08000022) s) := by
  change execSdoRequest n l s = _
  simp [execSdoRequest, hon, hlen, hreach, habort, sdoAbort]

/-- A frame with no transfer open is a command. -/
theorem exec_sdoRequest_closed (n : Fin 4) (l : List Byte) (s : State) (hon : pathOn (.sdo n) s = true) (hlen : l.length = 8)
    (hreach : reachable s = true) (hopen : sdoOpen n.val s = none) :
    exec (.sdoRequest n l) s = .next (sdoCommand n l (touch (.sdo n) s)) := by
  change execSdoRequest n l s = _
  simp [execSdoRequest, hon, hlen, hreach, hopen]

/-- A frame outside a block download is a command. -/
theorem exec_sdoRequest_segmented (n : Fin 4) (x : SdoTransfer) (l : List Byte) (s : State) (hon : pathOn (.sdo n) s = true)
    (hlen : l.length = 8) (hreach : reachable s = true) (hopen : sdoOpen n.val s = some x) (hblock : x.block = false) :
    exec (.sdoRequest n l) s = .next (sdoCommand n l (touch (.sdo n) s)) := by
  change execSdoRequest n l s = _
  simp [execSdoRequest, hon, hlen, hreach, hopen, hblock]

/-- Command specifier 1 initiates a download and ends what is open. -/
theorem sdoCommand_download (n : Fin 4) (f : Bytes) (s : State) (hc : byteAt f 0 / 32 = 1) :
    sdoCommand n f s = sdoDownload n f (setSdo n.val none s) := by
  simp only [sdoCommand, hc]

/-- Command specifier 0 is a segment of the download that is open. -/
theorem sdoCommand_segment (n : Fin 4) (x : SdoTransfer) (f : Bytes) (s : State) (hc : byteAt f 0 / 32 = 0)
    (hopen : sdoOpen n.val s = some x) (hup : x.upload = false) (hblock : x.block = false) :
    sdoCommand n f s = sdoDownSeg n x f s := by
  simp [sdoCommand, hc, hopen, hup, hblock]

/-! ### A segmented download -/

theorem wall_setSdo (n : Nat) (x : Option SdoTransfer) (s : State) : wall (setSdo n x s) = wall s := id rfl

/-- Initiated with its size and without the expedited bit, a download within 4096 bytes is opened and confirmed. -/
theorem sdoDownload_sized (n : Fin 4) (f : Bytes) (s : State) (hc : byteAt f 0 = 0x21) (hsize : leNat (slice 4 4 f) ≤ 4096) :
    sdoDownload n f s = sdoSend n.val (pad8 (leBytes 1 0x60 ++ slice 1 3 f))
      (setSdo n.val (some ⟨false, false, leNat (slice 1 2 f), byteAt f 3, [], leNat (slice 4 4 f), false, 0, 0, false, false, wall s⟩) s) := by
  simp [sdoDownload, hc, bit, Nat.not_lt.mpr hsize]

theorem slice_length_le (o n : Nat) (l : Bytes) : (slice o n l).length ≤ n := List.length_take_le n (l.drop o)

/-- A first segment of 7 bytes that is not the last is stored and confirmed. -/
theorem sdoDownSeg_first (n : Fin 4) (x : SdoTransfer) (f : Bytes) (s : State) (htoggle : x.toggle = false)
    (hroom : x.buf.length ≤ 4089) (hc : byteAt f 0 = 0) :
    sdoDownSeg n x f s = sdoSend n.val (pad8 (leBytes 1 0x20))
      (setSdo n.val (some { x with buf := x.buf ++ slice 1 7 f, toggle := true, since := wall s }) s) := by
  have hfits : ¬ 4096 < x.buf.length + (slice 1 7 f).length := by
    have hseg := slice_length_le 1 7 f
    omega
  simp [sdoDownSeg, hc, htoggle, bit, b2n, hfits]

/-- A wrong toggle bit ends the transfer. -/
theorem sdoDownSeg_wrong_toggle (n : Fin 4) (x : SdoTransfer) (f : Bytes) (s : State) (htoggle : bit (byteAt f 0) 4 ≠ x.toggle) :
    sdoDownSeg n x f s = sdoFail n.val (muxBytes x.index x.sub) 0x05030000 s := if_pos htoggle

theorem exec_sdoSegmentTimeout (n : Fin 4) (x : SdoTransfer) (s : State) (hopen : sdoOpen n.val s = some x)
    (hdue : due x.since (ms (reg (0x1200 + n.val) 5 s)) s = true) :
    exec (.sdoSegmentTimeout n) s = .next (sdoFail n.val (muxBytes x.index x.sub) 0x05040000 s) := by
  change execSdoSegmentTimeout n s = _
  simp [execSdoSegmentTimeout, hopen, hdue]

/-- Settles O13: the function that takes each request, then what it does. -/
theorem sdoServersAnswer : Obligations.SdoServersAnswer := by
  refine ⟨exec_sdoRequest_unreachable, ?_, ?_, exec_sdoSegmentTimeout⟩
  · intro n l s hon hlen hreach _ hopen hc hsize
    rw [exec_sdoRequest_closed n l s hon hlen hreach hopen, sdoCommand_download n l _ (by rw [hc]),
      sdoDownload_sized n l _ hc hsize, wall_setSdo, touch_wall']
  · intro n x l s hon hlen hreach hopen' hopen hup hblock htoggle hroom hc
    constructor
    · rw [exec_sdoRequest_segmented n x l s hon hlen hreach hopen hblock,
        sdoCommand_segment n x l _ (by rw [hc]) hopen' hup hblock, sdoDownSeg_first n x l _ htoggle hroom hc, touch_wall']
    · rw [exec_sdoRequest_segmented n x _ s hon rfl hreach hopen hblock,
        sdoCommand_segment n x _ _ (by decide) hopen' hup hblock, sdoDownSeg_wrong_toggle n x _ _ (by rw [htoggle]; decide)]
      rfl

end Sys2Proof.Machine
end

section
/-!
Mailboxes, the SPI slave and requests to other devices (R45, R47, R52, R53, R54, R55, R57): when a request is taken, what its path does with
it, and O15. The forms of SPI transactions are the model's choice (assumption log 28).
-/
namespace Sys2Proof.Machine

/-! ### Requests for this device (R45) -/

/-- A read within the room of its path, for this device, is served and answered on the path. -/
theorem pathRead_own (ses : Session) (room : Nat) (head : Bytes) (device i j off len : Nat) (s : State)
    (hown : ownNumber device s = true) (hlen : len ≤ room) :
    pathRead ses room head device i j off len s = settle 8 (pathReply ses head (askWith ses (readPart ses i j off len) s).2.1
      (askWith ses (readPart ses i j off len) s).2.2 (askWith ses (readPart ses i j off len) s).1) := by
  simp [pathRead, hown, Nat.not_lt.mpr hlen]

/-- A write of as many bytes as its header states, within the room of its path, for this device, is carried out. -/
theorem pathWrite_own (ses : Session) (room : Nat) (head : Bytes) (device i j off len : Nat) (data : Bytes) (s : State)
    (hown : ownNumber device s = true) (hdata : data.length = len) (hlen : len ≤ room) :
    pathWrite ses room head device i j off len data s =
      writeFor ses true head i j off data (fun c s => pathReply ses head c [] s) s := by
  simp [pathWrite, hown, hdata, Nat.not_lt.mpr hlen]

/-! ### Mailboxes (R52, R53) -/

theorem ownNumber_setMailbox (device m : Nat) (x : Mailbox) (s : State) :
    ownNumber device (setMailbox m x s) = ownNumber device s := id rfl

/-- A doorbell of a mailbox with nothing to fetch and no request running starts the request. -/
theorem mailboxRing_idle (m : Fin 4) (clear : Nat) (f : State → State) (s : State) (hbridge : bridgeOn s = true)
    (hbar : bar0Up s = true) (hidle : mailbox m.val s = mailbox0) :
    mailboxRing m clear f s = f (setMailbox m.val ⟨0, [], false, false, true⟩ s) := by
  simp [mailboxRing, hbridge, hbar, hidle, mailbox0]

/-- A doorbell while Done is set marks the overrun and does nothing else. -/
theorem mailboxRing_done (m : Fin 4) (f : State → State) (s : State) (hbridge : bridgeOn s = true) (hbar : bar0Up s = true)
    (hdone : (mailbox m.val s).done = true) :
    mailboxRing m 0 f s = setMailbox m.val { mailbox m.val s with overrun := true } s := by
  simp [mailboxRing, hbridge, hbar, hdone, bit]

/-! ### The SPI slave (R54, R55) -/

/-- A request transaction on a path in use: what its CRC and a waiting result say. -/
theorem spiRequest_on (head data : Bytes) (crc : Nat) (f : State → State) (s : State) (hon : pathOn .spi s = true) :
    spiRequest head data crc f s = if crc16 0xFFFF (head ++ data) ≠ crc then count 0x1230 2 s
      else if spiBusy s then setReg 0x1230 3 1 s else f s := by
  simp only [spiRequest, hon, Bool.not_true, Bool.false_eq_true, if_false]

theorem spiRequest_taken (head data : Bytes) (crc : Nat) (f : State → State) (s : State) (hon : pathOn .spi s = true)
    (hcrc : crc16 0xFFFF (head ++ data) = crc) (hfree : spiBusy s = false) : spiRequest head data crc f s = f s := by
  rw [spiRequest_on head data crc f s hon, if_neg (not_not.mpr hcrc), hfree, if_neg Bool.false_ne_true]

theorem exec_spiFetch_waiting (r : Nat × Bytes) (s : State) (hon : pathOn .spi s = true) (hwait : s.access.spi = some r) :
    exec .spiFetch s = .next (emit (.ball "MS_INT_N" 1) (emit
      (.spi (leBytes 4 r.1 ++ r.2 ++ beBytes 2 (crc16 0xFFFF (leBytes 4 r.1 ++ r.2))))
      { s with access := { s.access with spi := none } })) := by
  change execSpiFetch s = _
  simp [execSpiFetch, hon, hwait, emit]

/-! ### A request to another device (R57) -/

/-- The one request that waits, past its limit: it is answered as late, and the count of such requests rises. -/
theorem exec_remoteResponseTimeout_single (r : RemoteReq) (s : State) (hremote : s.access.remote = [r]) (hdevice : r.device < 8)
    (hreads : s.bridge.reads = []) (hdue : due r.since (ms (reg 0x1010 2 s)) s = true) :
    exec (.remoteResponseTimeout r.tag) s =
      .next (lateReply r 0x05040000 [] (count 0x1010 3 { s with access := { s.access with remote := [] } })) := by
  have hbridge : { s.bridge with reads := [] } = s.bridge := by rw [← hreads]
  change execRemoteResponseTimeout r.tag s = _
  simp [execRemoteResponseTimeout, hremote, hdevice, hreads, hdue, hbridge, each, remoteFails]

/-- Settles O15: when each path takes a request, then what the request does. -/
theorem mailboxesAndSpiAreServed : Obligations.MailboxesAndSpiAreServed := by
  refine ⟨?_, ?_, ?_, ?_, ?_, ?_, exec_spiFetch_waiting, exec_remoteResponseTimeout_single⟩
  · intro m c dev i j o n s hbridge hbar hidle hown hlen
    change Host.Outcome.next (mailboxRing m c.val _ s) = _
    rw [mailboxRing_idle m _ _ s hbridge hbar hidle,
      pathRead_own _ _ _ _ _ _ _ _ _ (by rw [ownNumber_setMailbox, hown]) hlen]
    rfl
  · intro m c dev i j o l s hbridge hbar hidle hown hlen
    change Host.Outcome.next (mailboxRing m c.val _ s) = _
    rw [mailboxRing_idle m _ _ s hbridge hbar hidle,
      pathWrite_own _ _ _ _ _ _ _ _ _ _ (by rw [ownNumber_setMailbox, hown]) rfl hlen]
    rfl
  · intro m dev i j o n l s hbridge hbar hdone
    exact ⟨congrArg Host.Outcome.next (mailboxRing_done m _ s hbridge hbar hdone),
      congrArg Host.Outcome.next (mailboxRing_done m _ s hbridge hbar hdone)⟩
  · intro dev i j o n crc s hon hcrc hfree hown hlen
    change Host.Outcome.next (spiRequest _ _ _ _ s) = _
    rw [spiRequest_taken _ _ _ _ s hon (by rw [List.append_nil, hcrc]) hfree, pathRead_own _ _ _ _ _ _ _ _ _ hown hlen]
    rfl
  · intro dev i j o n l crc s hon hcrc hfree hown hlen hdata
    change Host.Outcome.next (spiRequest _ _ _ _ s) = _
    rw [spiRequest_taken _ _ _ _ s hon hcrc hfree, pathWrite_own _ _ _ _ _ _ _ _ _ _ hown hdata hlen]
    rfl
  · intro dev i j o n crc s hon
    change Host.Outcome.next (spiRequest _ _ _ _ s) = _
    rw [spiRequest_on _ _ _ _ s hon, List.append_nil]

end Sys2Proof.Machine
end

section
/-!
The table-access records (R38, R174, R182, R191, R192): what their commands do, the end of the refresh of the staged bank, and O21.
-/
namespace Sys2Proof.Machine

/-! ### Reads of the access that a command's service makes -/

@[simp] theorem selected_touch (t : TableRec) (ses : Session) (s : State) : selected t (touch ses s) = selected t s := by
  simp [selected]

@[simp] theorem stageCode_touch (ses ses' : Session) (s : State) : stageCode ses (touch ses' s) = stageCode ses s := by
  simp [stageCode]

/-- Who may stage is in Configure (R30, R38). -/
theorem dev_of_stageCode (ses : Session) (s : State) (h : stageCode ses s = 0) : s.dev = .configure := by
  by_contra hdev
  simp [stageCode, hdev] at h

/-- A staged write of the lock holder is carried out. -/
theorem notTerminal_staging (ses : Session) (f : Svc) (s : State) (h : stageCode ses s = 0) :
    notTerminal (staging ses f) s = f s := by
  rw [notTerminal_past _ _ (by simp [dev_of_stageCode ses s h])]
  exact if_pos h

/-! ### The commands (R191) -/

theorem readCommitted_entry (t : TableRec) (s : State) (hdev : s.dev ≠ .terminal) (ht : t ≠ .flow) :
    readCommitted t s = (setReg (tabRec t).index (tabRec t).cmd 2
      ((tabRec t).fields.foldl (fun u j => setReg (tabRec t).index j (cfgE (selected t s) (tabRec t).index j u) u) s), 0) := by
  rw [readCommitted, notTerminal_past _ _ hdev]
  exact if_neg ht

/-- A flow is looked up by its key (R174). -/
theorem readCommitted_flow (s : State) (hdev : s.dev ≠ .terminal) :
    readCommitted .flow s = (if tget 0 s.cfg.flows (reg 0x4013 1 s) = 0 then setReg 0x4013 3 3 s
      else setReg 0x4013 3 2 (setReg 0x4013 2 (tget 0 s.cfg.flows (reg 0x4013 1 s)) s), 0) := by
  rw [readCommitted, notTerminal_past _ _ hdev]
  simp only [if_true]
  split
  · next hnone => rw [hnone]; rfl
  · next hsome => rw [if_neg hsome]; rfl

/-- A record outside the Sieve, but that of the peck consumers, stages all its fields. -/
theorem writeStaged_entry (ses : Session) (t : TableRec) (s : State) (hcode : stageCode ses s = 0) (hflow : t ≠ .flow)
    (hpeck : t ≠ .peck) (hsieve : (tabRec t).sieve = false) :
    writeStaged ses t s = (setReg (tabRec t).index (tabRec t).cmd 2
      ((tabRec t).fields.foldl (fun u j => stageE (selected t s) (tabRec t).index j (reg (tabRec t).index j u) u) s), 0) := by
  rw [writeStaged, notTerminal_staging _ _ _ hcode]
  simp [hflow, hpeck, hsieve, each, done]

/-- A staged flow waits while the staged bank is being refreshed. -/
theorem writeStaged_flow_refreshing (ses : Session) (s : State) (hcode : stageCode ses s = 0) (hrefresh : s.sieve.refreshing = true) :
    writeStaged ses .flow s = ({ s with sieve := { s.sieve with
      waitingWrites := s.sieve.waitingWrites ++ [(flowMark + reg 0x4013 1 s, reg 0x4013 2 s)] } }, 0) := by
  rw [writeStaged, notTerminal_staging _ _ _ hcode]
  simp only [if_true, sieveStage, hrefresh]
  rfl

theorem clearCounters_entry (ses : Session) (t : TableRec) (s : State) (hdev : s.dev ≠ .terminal) (hflow : t ≠ .flow)
    (hguard : t ≠ .guard) (hclear : (tabRec t).clear ≠ []) :
    clearCounters ses t s = (setReg (tabRec t).index (tabRec t).cmd 2
      ((tabRec t).clear.foldl (fun u j => setRegE (selected t s) (tabRec t).index j 0 u) s), 0) := by
  rw [clearCounters, notTerminal_past _ _ hdev]
  simp [hflow, hguard, hclear, each, done]

/-- The mark of a flow write is taken off again where it takes effect. -/
theorem stageWrite_flow_zero (k : Nat) (s : State) : stageWrite (flowMark + k) 0 s = flowUnstage k s := by
  rw [stageWrite, if_pos (Nat.le_add_right _ _), Nat.add_sub_cancel_left]
  rfl

theorem flowDelete_now (ses : Session) (s : State) (hcode : stageCode ses s = 0) (hrefresh : s.sieve.refreshing = false) :
    flowDelete ses s = (flowUnstage (reg 0x4013 1 s) s, 0) := by
  rw [flowDelete, notTerminal_staging _ _ _ hcode]
  simp [sieveStage, hrefresh, stageWrite_flow_zero, done]

/-! ### The refresh of the staged bank (R191), and freshness in flash (R182) -/

theorem exec_stagedBankRefreshComplete (s : State) (h : s.sieve.refreshing = true) :
    exec .stagedBankRefreshComplete s = .next (s.sieve.waitingWrites.foldl (fun t x => stageWrite x.1 x.2 t)
      { s with sieve := { s.sieve with refreshing := false, waitingWrites := [] } }) :=
  congrArg Host.Outcome.next (if_pos h)

theorem exec_freshnessFlashCopy_single (r : Nat) (s : State) (hcore : s.access.coreUp = true) (hone : freshProfiles s = [r]) :
    exec .freshnessFlashCopy s = .next { s with sieve := { s.sieve with
      flashFreshness := tset (0, 0, 0) s.sieve.flashFreshness r (regE r 0x4020 8 s, cfgE r 0x4020 2 s, cfgE r 0x4020 3 s) } } := by
  change execFreshnessFlashCopy s = _
  simp [execFreshnessFlashCopy, hcore, copyFreshness, hone, each]

/-- Settles O21: what each command does after the access of its session, then its answer. -/
theorem tableEntriesAreReadStagedAndCleared : Obligations.TableEntriesAreReadStagedAndCleared := by
  refine ⟨?_, ?_, ?_, ?_, ?_, ?_, exec_stagedBankRefreshComplete, ?_, ?_, exec_freshnessFlashCopy_single⟩
  · intro ses t s hs hdev ht
    exact congrArg Host.Outcome.next (serve_done ses _ s _ hs (readCommitted_entry t _ (by simpa using hdev) ht))
  · intro ses s hs hdev
    have hread := readCommitted_flow (touch ses s) (by simpa using hdev)
    rw [touch_cfg, touch_reg'] at hread
    exact congrArg Host.Outcome.next (serve_done ses _ s _ hs hread)
  · intro ses t s hs hcode ht hsieve
    obtain ⟨hflow, hpeck⟩ := ht
    exact congrArg Host.Outcome.next (serve_done ses _ s _ hs (writeStaged_entry ses t _ (by simpa using hcode) hflow hpeck hsieve))
  · intro ses s hs hcode hrefresh
    have hwrite := writeStaged_flow_refreshing ses (touch ses s) (by simpa using hcode) (by simpa using hrefresh)
    rw [touch_sieve, touch_reg', touch_reg'] at hwrite
    exact congrArg Host.Outcome.next (serve_done ses _ s _ hs hwrite)
  · intro ses t s hs hdev ht hclear
    obtain ⟨hflow, hguard⟩ := ht
    exact congrArg Host.Outcome.next
      (serve_done ses _ s _ hs (clearCounters_entry ses t _ (by simpa using hdev) hflow hguard hclear))
  · intro ses s hs hcode hrefresh
    have hdelete := flowDelete_now ses (touch ses s) (by simpa using hcode) (by simpa using hrefresh)
    rw [touch_reg'] at hdelete
    exact congrArg Host.Outcome.next (serve_done ses _ s _ hs hdelete)
  · intro ses s hs hdev
    exact congrArg Host.Outcome.next (serve_done ses zonePairRead s _ hs (notTerminal_past _ _ (by simpa using hdev)))
  · intro ses s hs hdev
    exact congrArg Host.Outcome.next (serve_done ses zonePairClear s _ hs (notTerminal_past _ _ (by simpa using hdev)))

end Sys2Proof.Machine
end

section
/-!
How bus engines join and leave their buses (R36, R214, R223, R225, R226, R234, R235): reads of an engine past its own updates, the rows of
settings, transceivers and integration, and O32.
-/
namespace Sys2Proof.Machine

/-! ### Reads of an engine -/

theorem canState_setCan (n m : Nat) (x : CanSt) (s : State) : canState n (setCan m x s) = canState n s := id rfl

/-- The transceiver's state stands in another record than the engine's. -/
theorem canState_setTrans (n v : Nat) (s : State) : canState n (setReg (cE n + 3) 3 v s) = canState n s :=
  reg_setReg_ne _ _ _ _ _ _ (by simp only [okey]; omega)

theorem trans_setTrans (n v : Nat) (s : State) : trans n (setReg (cE n + 3) 3 v s) = v := reg_setReg_same _ _ _ _

theorem lockedSlot_setReg (n i j v : Nat) (s : State) : lockedSlot n (setReg i j v s) = lockedSlot n s := id rfl

/-! ### Settings, transceivers and integration -/

/-- New timing makes a running engine integrate anew (R214, R226). -/
theorem exec_engineSettingsTakeover_retime (n : Fin 48) (s : State) (htake : (can n.val s).takeover = true)
    (hretime : (can n.val s).retime = true) (hidle : lockedSlot n.val s = none) (hcapture : capturing n.val s = false)
    (hstate : canState n.val s = 3) :
    exec (.engineSettingsTakeover n) s = .next (setReg (cE n.val + 2) 1 2
      (setCan n.val { can n.val s with takeover := false, retime := false, mode := cfg (cE n.val) 2 s } s)) := by
  change execEngineSettingsTakeover n s = _
  simp [execEngineSettingsTakeover, htake, hretime, hidle, hcapture, canHears, canState_setCan, hstate, setCanState]

/-- With no frame in progress the transceiver of a running engine is in standby at once, and so is the engine (R235). -/
theorem toStandby_idle (n : Nat) (s : State) (hn : n < 48) (htrans : trans n s = 2) (hidle : lockedSlot n s = none)
    (hstate : canState n s = 3) :
    toStandby n s = setReg (cE n + 2) 1 1 (setReg (cE n + 3) 3 0 (setReg (cE n + 3) 3 3 s)) := by
  simp [toStandby, hn, htrans, settleStandby, trans_setTrans, lockedSlot_setReg, hidle, canState_setTrans, hstate, setCanState]

theorem exec_transceiverStandbyRequest_free (n : Fin 64) (s : State) (hfree : cfg (cE n.val + 3) 1 s ≠ 1) :
    exec (.transceiverStandbyRequest n) s = .next (toStandby n.val s) := by
  have hcond : ¬ (n.val < 48 && cfg (cE n.val + 3) 1 s == 1) = true := by simp [hfree]
  exact congrArg Host.Outcome.next (if_neg hcond)

/-- An engine forced to normal mode stays in it: the model's reading (assumption log 64). -/
theorem exec_transceiverStandbyRequest_forced (n : Fin 64) (s : State) (hn : n.val < 48) (hforced : cfg (cE n.val + 3) 1 s = 1) :
    exec (.transceiverStandbyRequest n) s = .next s := by
  have hcond : (n.val < 48 && cfg (cE n.val + 3) 1 s == 1) = true := by simp [hn, hforced]
  exact congrArg Host.Outcome.next (if_pos hcond)

theorem exec_transceiverModeChangeEnd_can (n : Fin 64) (s : State) (hn : n.val < 48) (htrans : trans n.val s = 1)
    (hdue : due (can n.val s).modeAt (us (cfg (cE n.val + 3) 2 s)) s = true) (hstate : canState n.val s = 1) :
    exec (.transceiverModeChangeEnd n) s = .next (setReg (cE n.val + 2) 1 2 (setReg (cE n.val + 3) 3 2 s)) := by
  change execTransceiverModeChangeEnd n s = _
  simp [execTransceiverModeChangeEnd, hn, htrans, hdue, canState_setTrans, hstate, setCanState]

theorem exec_transceiverModeChangeEnd_lin (n : Fin 64) (s : State) (hn : 48 ≤ n.val) (hmode : (lin (n.val - 48) s).mode = 1)
    (hdue : due (lin (n.val - 48) s).modeAt 50000 s = true) :
    exec (.transceiverModeChangeEnd n) s = .next (setLin (n.val - 48) { lin (n.val - 48) s with mode := 2 } s) := by
  change execTransceiverModeChangeEnd n s = _
  simp [execTransceiverModeChangeEnd, Nat.not_lt.mpr hn, hmode, hdue]

/-- An engine that integrates while the device captures joins in capture, state 7 (R225, R226). -/
theorem exec_integrationComplete_capture (n : Fin 64) (s : State) (hn : n.val < 48) (hheld : (can n.val s).held = false)
    (hstate : canState n.val s = 2) (htrans : trans n.val s = 2) (hcapture : capturing n.val s = true) :
    exec (.integrationComplete n) s = .next (fillSlots n.val (setReg (cE n.val + 2) 1 7 s)) := by
  change execIntegrationComplete n s = _
  simp [execIntegrationComplete, hn, hheld, hstate, htrans, hcapture, runState, setCanState]

theorem exec_busHeldDominant_can (n : Fin 64) (s : State) (hn : n.val < 48) (htrans : trans n.val s = 2)
    (hheld : (can n.val s).held = false) :
    exec (.busHeldDominant n) s = .next (fire 0x82 n.val (setCan n.val { can n.val s with held := true } s)) := by
  change execBusHeldDominant n s = _
  simp [execBusHeldDominant, hn, htrans, hheld]

/-- The join after the start, out of any reset and with the BCLK PLL locked (R36, R225). -/
theorem exec_captureJoin (s : State) (hdev : s.dev = .boot) (hreset : s.power.reset = 0) (hext : s.power.extending = none)
    (hlock : bit (reg 0x5030 1 s) 2 = true) (hdue : due s.power.started 200000 s = true) :
    exec .captureJoin s = .next (
      let t := setReg 0x5010 1 (sinceStart s) (captureJoin ((List.range 64).filter fun e => !engAsleep e s) s);
      setDev (if t.faults.terminal then .terminal else .catch_) t) := by
  have hcond : (s.dev = .boot && s.power.reset == 0 && s.power.extending.isNone && bit (reg 0x5030 1 s) 2 &&
      due s.power.started 200000 s) = true := by simp [hdev, hreset, hext, hlock, hdue]
  exact congrArg Host.Outcome.next (if_pos hcond)

/-- Settles O32: the guard of each row holds in the states of its clause. -/
theorem enginesJoinAndLeaveTheirBuses : Obligations.EnginesJoinAndLeaveTheirBuses := by
  refine ⟨exec_engineSettingsTakeover_retime, ?_, exec_transceiverStandbyRequest_forced, exec_transceiverModeChangeEnd_can,
    exec_transceiverModeChangeEnd_lin, exec_integrationComplete_capture, exec_busHeldDominant_can, exec_captureJoin⟩
  intro n s hn hfree htrans hidle hstate
  rw [exec_transceiverStandbyRequest_free n s hfree, toStandby_idle n.val s hn htrans hidle hstate]

end Sys2Proof.Machine
end

section
/-!
Saturating counts (R68): what any number of events does to a counter and leaves of the state, and O7.
-/
namespace Sys2Proof.Machine

theorem reg_iterate_count_same (k i j : Nat) (s : State) (h : reg i j s ≤ 0xFFFFFFFF) :
    reg i j ((count i j)^[k] s) = min 0xFFFFFFFF (reg i j s + k) := by
  induction k with
  | zero => exact (Nat.min_eq_right h).symm
  | succ k ih => rw [Function.iterate_succ_apply', reg_count_same, ih]; omega

/-- What one count leaves as it is, any number of them does. -/
theorem iterate_count_frame {α : Type} (f : State → α) (i j : Nat) (hf : ∀ s, f (count i j s) = f s) (k : Nat) (s : State) :
    f ((count i j)^[k] s) = f s :=
  congrFun (Function.iterate_invariant (funext hf) k) s

/-- Settles O7: the count by induction on the number of events; each other part of the state is one that a single count
leaves as it is. -/
theorem countersSaturate : Obligations.CountersSaturate := by
  intro k i j s h
  exact ⟨reg_iterate_count_same k i j s h,
    fun i' j' hother => iterate_count_frame (reg i' j') i j (reg_count_ne i' j' i j · hother.symm) k s,
    iterate_count_frame State.cfg i j (count_cfg i j) k s, iterate_count_frame State.staged i j (count_staged i j) k s,
    iterate_count_frame State.dev i j (count_dev i j) k s, iterate_count_frame State.time i j (count_time i j) k s⟩

end Sys2Proof.Machine
end

section
/-!
Records of the identity buses (R73 to R77): the slots of IDB0, the read of a slot and the Crust's check of a record, and O16. Which slots
count as a record of a port is the model's choice (assumption log 29).
-/
namespace Sys2Proof.Machine

theorem slotPort_idb0 (slot r : Nat) (h : slot < 8) : slotPort slot r = some slot := if_pos h

theorem slotHolder_idb0 (slot : Nat) (s : State) (h : slot < 8) : slotHolder slot s = some slot := if_pos h

theorem slotRead_idb0 (slot : Nat) (s : State) (h : slot < 8) : slotRead slot s = s := if_pos h

theorem dropSlot_idb0 (slot p : Nat) (s : State) (h : slot < 8) : dropSlot slot p s = recordAbsent p s := by
  simp [dropSlot, h]

theorem slotEmpty_idb0 (slot : Nat) (s : State) (h : slot < 8) : slotEmpty slot s = recordAbsent slot s := by
  simp only [slotEmpty, slotHolder_idb0 slot s h, dropSlot_idb0 slot slot s h, slotRead_idb0 slot _ h]

/-- A record that fits its port begins with the two bytes by which it is known (R73, R75). -/
theorem magic_of_recordFits (p r : Nat) (h : recordFits p r = true) : recByte r 0 = 0x51 ∧ recByte r 1 = 0x5A := by
  simp only [recordFits, Bool.and_eq_true, beq_iff_eq] at h
  tauto

/-- An unsigned record that fits is valid where unsigned records are accepted (R75, R77). -/
theorem slotRecord_idb0_unsigned (slot r : Nat) (s : State) (h : slot < 8) (hfits : recordFits slot r = true)
    (hunsigned : recByte r 42 ≠ 1) (haccept : cfg (pI slot) 2 s ≠ 1) :
    slotRecord slot r s = settleRecord slot slot r 2 s := by
  obtain ⟨h51, h5A⟩ := magic_of_recordFits slot r hfits
  simp [slotRecord, slotHolder_idb0 slot s h, slotPort_idb0 slot r h, slotRead_idb0 slot _ h, h, h51, h5A, hfits, hunsigned, haccept]

theorem exec_idRecordRead_answered (slot : Fin 24) (record : List Byte) (s : State) (hlen : record.length = 128) :
    exec (.idRecordRead slot true record) s = .next (slotRecord slot.val (leNat record) s) := by
  have hcond : (true && record.length == 128) = true := by simp [hlen]
  exact congrArg Host.Outcome.next (if_pos hcond)

theorem exec_idRecordRead_unanswered (slot : Fin 24) (record : List Byte) (s : State) :
    exec (.idRecordRead slot false record) s = .next (slotEmpty slot.val s) := rfl

theorem exec_idBusStretchTimeout_idb0 (slot : Fin 24) (s : State) (h : slot.val < 8) :
    exec (.idBusStretchTimeout slot) s = .next (recordAbsent slot.val (fire 0x65 slot.val (count (pI slot.val) 7 s))) := by
  change execIdBusStretchTimeout slot s = _
  simp [execIdBusStretchTimeout, slotHolder_idb0 slot.val s h, slotEmpty_idb0 slot.val _ h, h]

/-- The key of the check does not depend on which records wait for one. -/
theorem recordSigned_setIdWait (r : Nat) (w : Tab Nat) (s : State) : recordSigned r { s with idWait := w } = recordSigned r s :=
  id rfl

theorem exec_recordSignatureCheck_waiting (slot : Fin 24) (p r : Nat) (s : State) (hwait : tget 0 s.idWait slot.val = r + 1)
    (hport : slotPort slot.val r = some p) :
    exec (.recordSignatureCheck slot) s = .next (settleRecord slot.val p r (if recordSigned r s then 3 else 4)
      { s with idWait := tdel s.idWait slot.val }) := by
  change execRecordSignatureCheck slot s = _
  simp only [execRecordSignatureCheck, hwait, hport, recordSigned_setIdWait]

/-- Settles O16: on IDB0 the slot is the port, so that a read ends in the settling of that port's record or in its absence. -/
theorem identityRecordsAreSettled : Obligations.IdentityRecordsAreSettled := by
  refine ⟨?_, ?_, exec_idBusStretchTimeout_idb0, exec_recordSignatureCheck_waiting⟩
  · intro slot record s hslot hlen hfits hunsigned haccept
    rw [exec_idRecordRead_answered slot record s hlen, slotRecord_idb0_unsigned _ _ s hslot hfits hunsigned haccept]
  · intro slot record s hslot
    rw [exec_idRecordRead_unanswered, slotEmpty_idb0 _ s hslot]

end Sys2Proof.Machine
end

section
/-!
The bring-up of a port (R59, R63, R64, R65, R74, R76): its steps, when each command acts, and O17. That ports come up by commands is the
model's choice (assumption log 31).
-/
namespace Sys2Proof.Machine

/-! ### Steps of a bring-up (R65) -/

/-- A new try to bring port p up on record r (0 none) begins. -/
def newTry (p r : Nat) (s : State) : State := setPrt p { prt p s with inUse := r, phase := 0 } s

/-- The record that a new try of an Ethernet port is on: a valid one (R75), or none. -/
def validRecord (p : Nat) (s : State) : Nat :=
  if reg (pI p) 4 s == 2 || reg (pI p) 4 s == 3 then reg (pI p) 5 s else 0

/-- Port p waits for its link, with down reason 8 (R62, R65). -/
def awaitLink (p : Nat) (s : State) : State :=
  setPrt p { prt p (setReg (pS p) 4 8 s) with phase := 3, since := wall s } (setReg (pS p) 4 8 s)

/-- Entry e of the initialisation list of port p goes out on its MDIO bus to a PHY address (R65). -/
def writeEntry (p e addr : Nat) (s : State) : State :=
  emit (.mdio (mdioBus p) true addr (initByte p e 0 s) (initByte p e 1 s + 256 * initByte p e 2 s)
    (initByte p e 3 s + 256 * initByte p e 4 s)) s

theorem initNext_entry (p : Nat) (c : PortCfg) (s : State) (hentry : (prt p s).entry < 40)
    (hmore : initByte p (prt p s).entry 0 s ≠ 0xFF) :
    initNext p c s = setPrt p { prt p (writeEntry p (prt p s).entry c.mdio s) with
      phase := 2, entry := (prt p s).entry + 1, since := wall (writeEntry p (prt p s).entry c.mdio s) }
      (writeEntry p (prt p s).entry c.mdio s) := by
  have hcond : ((prt p s).entry < 40 && initByte p (prt p s).entry 0 s ≠ 0xFF) = true := by simp [hentry, hmore]
  exact if_pos hcond

theorem initNext_last (p : Nat) (c : PortCfg) (s : State)
    (hlast : (prt p s).entry = 40 ∨ initByte p (prt p s).entry 0 s = 0xFF) : initNext p c s = awaitLink p s := by
  have hcond : ¬ ((prt p s).entry < 40 && initByte p (prt p s).entry 0 s ≠ 0xFF) = true := by
    rcases hlast with hlast | hlast <;> simp [hlast]
  exact if_neg hcond

/-- A PHY that answers with the identifier expected of it, or of which none is expected, is initialised. -/
theorem bringUpPhy_expected (p id : Nat) (c : PortCfg) (s : State) (hid : id ≠ 0xFFFFFFFF)
    (hexpected : c.expected = 0 ∨ c.expected = id) :
    bringUpPhy p id c s =
      initNext p c (setPrt p { prt p (setReg (pS p) 7 id s) with entry := 0 } (setReg (pS p) 7 id s)) := by
  have hmatch : ¬ (c.expected ≠ 0 && c.expected ≠ id) = true := by
    rcases hexpected with hexpected | hexpected <;> simp [hexpected]
  exact (if_neg (by simpa using hid)).trans (if_neg hmatch)

/-- A TP or SP port has no PHY and no record: it waits for its link at once. -/
theorem bringUp_withoutPhy (p id : Nat) (c : PortCfg) (s : State) (hp : 16 ≤ p) (hset : portSettings p s = (0, c))
    (hcap : (fixedRate c.mode && overCap p ((modeRates c.mode).headD 0) c s) = false) :
    bringUp p id s = awaitLink p (newTry p 0 s) := by
  simp only [bringUp, hset, hcap]
  simp [hp, Nat.not_lt.mpr hp, awaitLink, newTry]

/-- An Ethernet port that clashes with no other and whose rate is not fixed goes on with the identifier of its PHY. -/
theorem bringUp_withPhy (p id : Nat) (c : PortCfg) (s : State) (hp : p < 16) (hset : portSettings p s = (0, c)) (hphy : c.phy = true)
    (hrate : fixedRate c.mode = false) (hmdio : mdioClash p (newTry p (validRecord p s) s) = [])
    (hlane : laneClash p (newTry p (validRecord p s) s) = []) :
    bringUp p id s = bringUpPhy p id c (newTry p (validRecord p s) s) := by
  have hrecord : (if (0 == 0 && (reg (pI p) 4 s == 2 || reg (pI p) 4 s == 3) && p < 16 : Bool) then reg (pI p) 5 s else 0) =
      validRecord p s := by simp [hp, validRecord]
  simp only [bringUp, hset, hrecord]
  rw [newTry] at hmdio hlane ⊢
  simp [hmdio, hlane, hrate, hphy, Nat.not_le.mpr hp]

/-! ### When each command acts -/

theorem exec_portBringUp_granted (p : Fin 30) (id : Fin 4294967296) (s : State) (hgrant : granted (portConsumer p.val) s = true)
    (hdown : portUp p.val s = false) : exec (.portBringUp p id) s = .next (settle 4 (bringUp p.val id.val s)) := by
  have hcond : (granted (portConsumer p.val) s && !portUp p.val s) = true := by simp [hgrant, hdown]
  exact congrArg Host.Outcome.next (if_pos hcond)

theorem exec_phyIdentifierRetry_due (p : Fin 30) (id : Fin 4294967296) (s : State) (hphase : (prt p.val s).phase = 1)
    (hdue : due (prt p.val s).since (ms 1000) s = true) :
    exec (.phyIdentifierRetry p id) s = .next (settle 4 (bringUp p.val id.val s)) := by
  have hcond : ((prt p.val s).phase == 1 && due (prt p.val s).since (ms 1000) s) = true := by simp [hphase, hdue]
  exact congrArg Host.Outcome.next (if_pos hcond)

theorem exec_initEntryDelayEnd_due (p : Fin 30) (s : State) (hphase : (prt p.val s).phase = 2)
    (hdue : due (prt p.val s).since (ms (initByte p.val ((prt p.val s).entry - 1) 5 s)) s = true) :
    exec (.initEntryDelayEnd p) s = .next (initNext p.val (portSettings p.val s).2 s) := by
  have hcond : ((prt p.val s).phase == 2 &&
      due (prt p.val s).since (ms (initByte p.val ((prt p.val s).entry - 1) 5 s)) s) = true := by simp [hphase, hdue]
  exact congrArg Host.Outcome.next (if_pos hcond)

/-- Settles O17: when each command acts, then the branch of the bring-up that its clause names. -/
theorem portsAreBroughtUp : Obligations.PortsAreBroughtUp := by
  refine ⟨?_, ?_, exec_phyIdentifierRetry_due, ?_, ?_⟩
  · intro p id c s hgrant hdown hp hset hcap
    rw [exec_portBringUp_granted p id s hgrant hdown, bringUp_withoutPhy _ _ c s hp hset hcap]
    rfl
  · intro p id c s hgrant hdown hp hset hphy hrate hclash hid hexpected
    obtain ⟨hmdio, hlane⟩ := hclash
    rw [exec_portBringUp_granted p id s hgrant hdown, bringUp_withPhy _ _ c s hp hset hphy hrate hmdio hlane,
      bringUpPhy_expected _ _ c _ hid hexpected]
    rfl
  · intro p s hphase hdue hentry hmore
    rw [exec_initEntryDelayEnd_due p s hphase hdue, initNext_entry _ _ s hentry hmore]
    rfl
  · intro p s hphase hdue hlast
    rw [exec_initEntryDelayEnd_due p s hphase hdue, initNext_last _ _ s hlast]
    rfl

end Sys2Proof.Machine
end

section
/-!
How the link of a port falls and rises (R59, R61, R62, R69, R79, R100): when each command acts, and O18. The count at a loss of the PCS and
the steps of the link after it are the model's choices (assumption log 31).
-/
namespace Sys2Proof.Machine

theorem exec_linkPoll_clear (p : Fin 16) (s : State) (hphase : (prt p.val s).phase = 3) :
    exec (.linkPoll p false) s = .next (settle 4 (portDown p.val 8 (setPrt p.val { prt p.val s with phyLink := false } s))) :=
  congrArg Host.Outcome.next (if_pos (beq_iff_eq.mpr hphase))

theorem exec_linkPoll_set (p : Fin 16) (s : State) (hphase : (prt p.val s).phase = 3) :
    exec (.linkPoll p true) s = .next (setPrt p.val { prt p.val s with phyLink := true } s) :=
  congrArg Host.Outcome.next (if_pos (beq_iff_eq.mpr hphase))

theorem exec_pcsLoss_up (p : Fin 33) (s : State) (hp : p.val < 30) (hup : portUp p.val s = true) :
    exec (.pcsLoss p) s = .next (settle 4 (portDown p.val 8
      (setPrt p.val { prt p.val (count (pC p.val) 6 s) with pcsLock := false } (count (pC p.val) 6 s)))) := by
  have hcond : (p.val < 30 && portUp p.val s) = true := by simp [hp, hup]
  exact congrArg Host.Outcome.next (if_pos hcond)

/-- A rate that the mode offers is taken where no cap forbids it (R59). -/
theorem exec_linkUp_offered (p : Fin 33) (rate : Fin 8) (c : PortCfg) (s : State) (hp : p.val < 30)
    (hphase : (prt p.val s).phase = 3) (hdown : portUp p.val s = false) (hset : portSettings p.val s = (0, c))
    (hread : (prt p.val s).reread = false) (hgrant : granted (portConsumer p.val) s = true) (hrate : fixedRate c.mode = false)
    (hoffer : (modeRates c.mode).contains rate.val = true) :
    exec (.linkUp p rate) s = .next (if overCap p.val rate.val c s then setReg (pS p.val) 4 9 s
      else linkUpAt p.val c.mode rate.val (setPrt p.val { prt p.val s with phyLink := true, pcsLock := true } s)) := by
  have hcond : (p.val < 30 && (prt p.val s).phase == 3 && !portUp p.val s && (portSettings p.val s).1 == 0 &&
      !(prt p.val s).reread && granted (portConsumer p.val) s) = true := by simp [hp, hphase, hdown, hset, hread, hgrant]
  refine congrArg Host.Outcome.next ((if_pos hcond).trans ?_)
  simp only [hset, hrate, hoffer, Bool.false_eq_true, if_false, Bool.true_and]
  cases overCap p.val rate.val c s <;> rfl

/-- The new rate word of a port that is up is judged after the link has dropped (R59, R61). -/
theorem exec_inBandRateChange_offered (p : Fin 16) (rate : Fin 8) (s : State) (hup : portUp p.val s = true)
    (hrate : fixedRate (portSettings p.val s).2.mode = false) (hnew : rate.val ≠ reg (pS p.val) 3 s)
    (hoffer : (modeRates (portSettings p.val s).2.mode).contains rate.val = true)
    (hcap : overCap p.val rate.val (portSettings p.val s).2
      (setPrt p.val { prt p.val (portDown p.val 8 s) with reread := false } (portDown p.val 8 s)) = false) :
    exec (.inBandRateChange p rate) s = .next (settle 4 (linkUpAt p.val (portSettings p.val s).2.mode rate.val
      (setPrt p.val { prt p.val (portDown p.val 8 s) with reread := false } (portDown p.val 8 s)))) := by
  have hcond : (portUp p.val s && !fixedRate (portSettings p.val s).2.mode && rate.val ≠ reg (pS p.val) 3 s) = true := by
    simp [hup, hrate, hnew]
  refine congrArg Host.Outcome.next ((if_pos hcond).trans (congrArg (settle 4) (if_pos ?_)))
  rw [hoffer, hcap]
  rfl

/-- Settles O18: the guard of each command holds in the states of its clause. -/
theorem linksFollowPcsAndPhy : Obligations.LinksFollowPcsAndPhy :=
  ⟨fun p s hphase => ⟨exec_linkPoll_clear p s hphase, exec_linkPoll_set p s hphase⟩, exec_pcsLoss_up, exec_linkUp_offered,
    exec_inBandRateChange_offered⟩

end Sys2Proof.Machine
end

section
/-!
Sequence recovery that times out, and the clear commands of the filter, stream-gate and meter records (R92, R138, R139, R144): when each
acts, and O28.
-/
namespace Sys2Proof.Machine

/-! ### Sequence recovery (R92) -/

/-- Sequence recovery that has seen a frame, and none for its reset timeout, starts anew. -/
theorem exec_frerResetTimeout_due (n : Fin 4096) (r : Nat) (s : State) (hseen : (frerOf n.val s).recent = some r)
    (hdue : due (frerOf n.val s).last (ms (cfgE n.val 0x3200 0x0B s)) s = true) :
    exec (.frerResetTimeout n) s = .next (setFrer n.val { frerOf n.val s with recent := none, history := 0 } s) := by
  have hcond : ((frerOf n.val s).recent.isSome && due (frerOf n.val s).last (ms (cfgE n.val 0x3200 0x0B s)) s) = true := by
    simp [hseen, hdue]
  exact congrArg Host.Outcome.next (if_pos hcond)

/-! ### Clear commands of the records (R138, R139, R144) -/

/-- The clear command of record i: the fields of entry e read 0, and the command object cmd reads done. -/
def clearEntry (i cmd : Nat) (fields : List Nat) (e : Nat) (s : State) : State :=
  setReg i cmd 2 (fields.foldl (fun t j => setRegE e i j 0 t) s)

/-- The entry is the one that the record selects before the command, whose access leaves the selector as it is. -/
theorem serve_clearEntry (ses : Session) (i cmd : Nat) (fields : List Nat) (s : State) (hs : Served ses s) (hdev : s.dev ≠ .terminal) :
    serve ses (notTerminal fun t => done (clearEntry i cmd fields (reg i 1 t) t)) s =
      answered ses (clearEntry i cmd fields (reg i 1 s) (touch ses s)) := by
  refine serve_done ses _ s _ hs ?_
  rw [notTerminal_past _ _ (by simpa using hdev), touch_reg']
  rfl

theorem exec_streamGateClearLatch_served (ses : Session) (s : State) (hs : Served ses s) (hdev : s.dev ≠ .terminal) :
    exec (.streamGateClearLatch ses) s = .next (answered ses (clearEntry 0x3220 0x0A [8] (reg 0x3220 1 s) (touch ses s))) :=
  congrArg Host.Outcome.next (serve_clearEntry ses 0x3220 0x0A [8] s hs hdev)

theorem exec_filterClearBlocked_served (ses : Session) (s : State) (hs : Served ses s) (hdev : s.dev ≠ .terminal) :
    exec (.filterClearBlocked ses) s = .next (answered ses
      (clearEntry 0x3210 0x0E [8, 9, 0x0A, 0x0B, 0x0C, 0x0D] (reg 0x3210 1 s) (touch ses s))) :=
  congrArg Host.Outcome.next (serve_clearEntry ses 0x3210 0x0E [8, 9, 0x0A, 0x0B, 0x0C, 0x0D] s hs hdev)

theorem exec_meterClearLatch_served (ses : Session) (s : State) (hs : Served ses s) (hdev : s.dev ≠ .terminal) :
    exec (.meterClearLatch ses) s = .next (answered ses
      (clearEntry 0x3230 0x0D [9, 0x0A, 0x0B, 0x0C] (reg 0x3230 1 s) (touch ses s))) :=
  congrArg Host.Outcome.next (serve_clearEntry ses 0x3230 0x0D [9, 0x0A, 0x0B, 0x0C] s hs hdev)

/-- Settles O28: the reset timeout where it is due, and each clear command as served outside Terminal. -/
theorem streamLatchesAndRecovery : Obligations.StreamLatchesAndRecovery :=
  ⟨exec_frerResetTimeout_due, exec_streamGateClearLatch_served, exec_filterClearBlocked_served, exec_meterClearLatch_served⟩

end Sys2Proof.Machine
end

section
/-!
A meter's two buckets over a refill (R141, R143): what each holds after it, with and without coupling, and O8.
-/
namespace Sys2Proof.Machine

/-- Tokens of the committed bucket with the time since the last refill credited, before its size Cb bounds them (R141). -/
def committedCredited (b : Bank) (m now : Nat) (x : MeterSt) : Nat :=
  x.tc + (x.remC + bkE b m 0x3230 2 * 65536 * (now - x.last)) / 1000000

/-- Tokens of the excess bucket with the time since the last refill credited, before its size Eb bounds them (R141). -/
def excessCredited (b : Bank) (m now : Nat) (x : MeterSt) : Nat :=
  x.te + (x.remE + bkE b m 0x3230 4 * 65536 * (now - x.last)) / 1000000

/-- What overflows the committed bucket at a refill. -/
def committedOverflow (b : Bank) (m now : Nat) (x : MeterSt) : Nat :=
  committedCredited b m now x - bkE b m 0x3230 3 * 65536

theorem refill_tc (b : Bank) (m now : Nat) (x : MeterSt) :
    (refill b m x now).tc = min (committedCredited b m now x) (bkE b m 0x3230 3 * 65536) := rfl

theorem refill_te (b : Bank) (m now : Nat) (x : MeterSt) :
    (refill b m x now).te =
      min (excessCredited b m now x + if bit (bkE b m 0x3230 6) 1 then committedOverflow b m now x else 0)
        (bkE b m 0x3230 5 * 65536) := rfl

/-- With coupling the excess bucket takes the overflow of the committed one. -/
theorem refill_te_of_coupled (b : Bank) (m now : Nat) (x : MeterSt) (hc : bit (bkE b m 0x3230 6) 1 = true) :
    (refill b m x now).te =
      min (excessCredited b m now x + committedOverflow b m now x) (bkE b m 0x3230 5 * 65536) := by
  rw [refill_te, if_pos hc]

/-- Without coupling the overflow is lost: the excess bucket gains its own credit only. -/
theorem refill_te_of_uncoupled (b : Bank) (m now : Nat) (x : MeterSt) (hu : bit (bkE b m 0x3230 6) 1 = false) :
    (refill b m x now).te = min (excessCredited b m now x) (bkE b m 0x3230 5 * 65536) := by
  rw [refill_te, if_neg (Bool.eq_false_iff.mp hu), Nat.add_zero]

/-- Settles O8: the committed bucket is bounded by Cb alike, and the coupling bit decides where its overflow goes. -/
theorem coupledMeterTokens : Obligations.CoupledMeterTokens :=
  ⟨fun b m now x hc => ⟨refill_tc b m now x, refill_te_of_coupled b m now x hc⟩,
    fun b m now x hu => ⟨refill_tc b m now x, refill_te_of_uncoupled b m now x hu⟩⟩

end Sys2Proof.Machine
end

section
/-!
Hold requests and the verification of preemption (R159, R160, R161, R162, R164): when each command acts, and O27.
-/
namespace Sys2Proof.Machine

/-! ### Hold requests (R164) -/

/-- The hold is on before the frame in progress is judged for preemption. -/
theorem exec_holdAssert_entry (p : Fin 16) (s : State) (hrun : listsRun s = true) (hgated : gated p.val s = true)
    (hfree : reg (0x3580 + p.val) 8 s = 0) (hentry : holdEntry p.val 1 (cfg (0x3500 + p.val) 7 s) s = true) :
    exec (.holdAssert p) s = .next (preempt p.val (holdOn p.val s)) := by
  have hcond : (listsRun s && gated p.val s && reg (0x3580 + p.val) 8 s == 0 &&
      holdEntry p.val 1 (cfg (0x3500 + p.val) 7 s) s) = true := by simp [hrun, hgated, hfree, hentry]
  exact congrArg Host.Outcome.next (if_pos hcond)

theorem exec_holdRelease_entry (p : Fin 16) (s : State) (hrun : listsRun s = true) (hgated : gated p.val s = true)
    (hentry : holdEntry p.val 2 (cfg (0x3500 + p.val) 8 s) s = true) :
    exec (.holdRelease p) s = .next (setReg (0x3580 + p.val) 8 0 s) := by
  have hcond : (listsRun s && gated p.val s && holdEntry p.val 2 (cfg (0x3500 + p.val) 8 s) s) = true := by
    simp [hrun, hgated, hentry]
  exact congrArg Host.Outcome.next (if_pos hcond)

/-! ### Verification (R160) -/

/-- Verification of port p waits for a response: it is initial (1) or verifying (2). -/
def Verifying (p : Nat) (s : State) : Prop := reg (0x3580 + p) 6 s = 1 ∨ reg (0x3580 + p) 6 s = 2

/-- One more verify mPacket of port p goes out, and its verify time begins. -/
def sendVerify (p : Nat) (s : State) : State :=
  emit (.mPacket p false) (setReg (0x3580 + p) 6 2
    (setEgr p { egr p s with verifyTries := (egr p s).verifyTries + 1, verifyAt := wall s } s))

/-- The first attempt waits for nothing, each later one and the failure for the verify time of the attempt before. -/
theorem exec_verifyMpacketSend_due (p : Fin 16) (s : State) (hup : portUp p.val s = true)
    (hpre : cfg (0x3580 + p.val) 1 s = 1) (hverify : cfg (0x3580 + p.val) 4 s = 1) (hstate : Verifying p.val s)
    (hdue : (egr p.val s).verifyTries = 0 ∨ due (egr p.val s).verifyAt (ms (cfg (0x3580 + p.val) 5 s)) s = true) :
    exec (.verifyMpacketSend p) s = .next (if 3 ≤ (egr p.val s).verifyTries then setReg (0x3580 + p.val) 6 4 s
      else sendVerify p.val s) := by
  have hverifies : ¬ (!portUp p.val s || cfg (0x3580 + p.val) 1 s == 0 || cfg (0x3580 + p.val) 4 s == 0 ||
      reg (0x3580 + p.val) 6 s == 0 || reg (0x3580 + p.val) 6 s > 2) = true := by
    rcases hstate with hstate | hstate <;> simp [hup, hpre, hverify, hstate]
  have hwaits : ¬ ((egr p.val s).verifyTries ≠ 0 &&
      !due (egr p.val s).verifyAt (ms (cfg (0x3580 + p.val) 5 s)) s) = true := by
    rcases hdue with hdue | hdue <;> simp [hdue]
  exact congrArg Host.Outcome.next ((if_neg hverifies).trans (if_neg hwaits))

theorem exec_verifyMpacketReceive_up (p : Fin 16) (s : State) (hup : portUp p.val s = true) :
    exec (.verifyMpacketReceive p) s = .next (if cfg (0x3580 + p.val) 1 s = 1 then emit (.mPacket p.val true) s
      else count (0x3580 + p.val) 0x0E s) := by
  have hdown : ¬ (!portUp p.val s) = true := by simp [hup]
  refine congrArg Host.Outcome.next ((if_neg hdown).trans ?_)
  simp only [beq_iff_eq]

theorem exec_respondMpacketReceive_verifying (p : Fin 16) (s : State) (hup : portUp p.val s = true)
    (hpre : cfg (0x3580 + p.val) 1 s ≠ 0) (hstate : Verifying p.val s) :
    exec (.respondMpacketReceive p) s = .next (setReg (0x3580 + p.val) 7 1 (setReg (0x3580 + p.val) 6 3 s)) := by
  have hdown : ¬ (!portUp p.val s) = true := by simp [hup]
  have hoff : ¬ (cfg (0x3580 + p.val) 1 s == 0) = true := by simp [hpre]
  have hcond : (reg (0x3580 + p.val) 6 s == 1 || reg (0x3580 + p.val) 6 s == 2) = true := by
    simpa [Verifying] using hstate
  exact congrArg Host.Outcome.next ((if_neg hdown).trans ((if_neg hoff).trans (if_pos hcond)))

/-- Settles O27: the guard of each of the five commands holds in the states of its clause. -/
theorem preemptionHoldsAndIsVerified : Obligations.PreemptionHoldsAndIsVerified :=
  ⟨exec_holdAssert_entry, exec_holdRelease_entry, exec_verifyMpacketSend_due, exec_verifyMpacketReceive_up,
    exec_respondMpacketReceive_verifying⟩

end Sys2Proof.Machine
end

section
/-!
Spoofs that a guard entry names, the end of a quarantine, and the clear command of the guard record (R172, R185, R186): when each acts, and
O35.
-/
namespace Sys2Proof.Machine

/-! ### Spoofs (R185, R186) -/

/-- Membership stands in a plain object (0x5400:01), whose key lies below those of all table entries. -/
theorem member_countE (e i j : Nat) (s : State) : member (countE e i j s) = member s := by
  have hkey : ekey e i j ≠ okey 0x5400 1 := by unfold ekey okey; omega
  simp only [member, countE, reg_setRegE _ _ _ _ _ _ _ hkey]

theorem leased_countE (n e i j : Nat) (s : State) : leased n (countE e i j s) = leased n s := by
  rw [leased, leased, member_countE, countE_cfg']

/-- A spoof by collision or replay on an engine that is not leased: neither the shadow comparison (R313) nor an overlap
interval (R316) takes it. -/
theorem guardSpoof_named (e : Nat) (k : SpoofKind) (f : BusFrame) (g : Nat) (s : State) (hguard : guardOf s.cfg e f = some g)
    (hkind : k ≠ .foreign) (hlease : leased e s = false) :
    guardSpoof e k f s = guardReact g e (kindCode k) (logSpoof g e (kindCode k) f (denySpoofed e f
      (setRegE g 0x4030 0x0B (time80 (nowNs s)) (countE g 0x4030 0x0A s)))) := by
  have hcompared : ¬ (k = .foreign && compares e s && (shadowCandidate e f s).isSome) = true := by simp [hkind]
  have hoverlap : ¬ (leased e (countE g 0x4030 0x0A s) && overlap (countE g 0x4030 0x0A s)) = true := by
    simp [leased_countE, hlease]
  rw [guardSpoof, hguard]
  exact (if_neg hcompared).trans (if_neg hoverlap)

theorem guardSpoof_unnamed (e : Nat) (k : SpoofKind) (f : BusFrame) (s : State) (hguard : guardOf s.cfg e f = none) :
    guardSpoof e k f s = s := by
  rw [guardSpoof, hguard]

theorem exec_guardSpoof_named (e : Fin 64) (k : SpoofKind) (f : BusFrame) (g : Nat) (s : State)
    (hguard : guardOf s.cfg e.val f = some g) (hkind : k ≠ .foreign) (hlease : leased e.val s = false) :
    exec (.guardSpoof e k f) s = .next (settle 4 (guardReact g e.val (kindCode k) (logSpoof g e.val (kindCode k) f
      (denySpoofed e.val f (setRegE g 0x4030 0x0B (time80 (nowNs s)) (countE g 0x4030 0x0A s)))))) :=
  congrArg (fun t => Host.Outcome.next (settle 4 t)) (guardSpoof_named e.val k f g s hguard hkind hlease)

/-- With no firing owed from before, a frame that no entry names leaves the state as it is. -/
theorem exec_guardSpoof_unnamed (e : Fin 64) (k : SpoofKind) (f : BusFrame) (s : State)
    (hguard : guardOf s.cfg e.val f = none) (hdue : s.faults.due = []) : exec (.guardSpoof e k f) s = .next s := by
  have hsettled : settle 4 (guardSpoof e.val k f s) = s := by rw [guardSpoof_unnamed _ _ _ _ hguard, settle_none _ _ hdue]
  exact congrArg Host.Outcome.next hsettled

/-! ### Quarantine (R186) -/

theorem quarantined_eq_false (e : Nat) (s : State) (hover : tget 0 s.sieve.quarantine e ≤ monoGrains s) :
    quarantined e s = false :=
  decide_eq_false (Nat.not_lt.mpr hover)

theorem exec_quarantineEnd_over (e : Fin 64) (s : State) (hover : tget 0 s.sieve.quarantine e.val ≤ monoGrains s) :
    exec (.quarantineEnd e) s =
      .next { s with sieve := { s.sieve with quarantine := tdel s.sieve.quarantine e.val } } := by
  have hended : ¬ quarantined e.val s = true := by simp [quarantined_eq_false _ _ hover]
  exact congrArg Host.Outcome.next (if_neg hended)

/-! ### The clear command (R186, 0x4030:0C) -/

theorem needRole_granted (ses : Session) (r : Nat) (f : Svc) (s : State) (h : r ≤ roleOf ses s) : needRole ses r f s = f s :=
  if_pos h

theorem needRole_refused (ses : Session) (r : Nat) (f : Svc) (s : State) (h : roleOf ses s < r) :
    needRole ses r f s = (s, 0x080000A1) :=
  if_neg (Nat.not_le.mpr h)

/-- Outside Terminal the Workshop credential, rank 2, decides the clear command. -/
theorem guardClear_touch (ses : Session) (s : State) (hdev : s.dev ≠ .terminal) :
    guardClear ses (touch ses s) =
      needRole ses 2 (fun t => done (clearEntry 0x4030 0x0C [0x0B, 0x0A] (reg 0x4030 1 t) t)) (touch ses s) :=
  notTerminal_past _ _ (by simpa using hdev)

theorem exec_guardClearCounters_granted (ses : Session) (s : State) (hs : Served ses s) (hdev : s.dev ≠ .terminal)
    (hrole : 2 ≤ roleOf ses s) :
    exec (.guardClearCounters ses) s =
      .next (answered ses (clearEntry 0x4030 0x0C [0x0B, 0x0A] (reg 0x4030 1 s) (touch ses s))) := by
  refine congrArg Host.Outcome.next (serve_done ses (guardClear ses) s _ hs ?_)
  rw [guardClear_touch ses s hdev, needRole_granted _ _ _ _ (by simpa using hrole), touch_reg']
  rfl

theorem exec_guardClearCounters_refused (ses : Session) (s : State) (hs : Served ses s) (hdev : s.dev ≠ .terminal)
    (hrole : roleOf ses s < 2) :
    exec (.guardClearCounters ses) s = .next (emit (.answer ses 0x080000A1 []) (touch ses s)) := by
  refine congrArg Host.Outcome.next ((serve_served ses (guardClear ses) s hs).trans ?_)
  rw [guardClear_touch ses s hdev, needRole_refused _ _ _ _ (by simpa using hrole)]

/-- Settles O35: a spoof that an entry names and one that none does, the end of a quarantine, and the clear command on either side of the
Workshop rank. -/
theorem guardsReactToSpoofs : Obligations.GuardsReactToSpoofs :=
  ⟨exec_guardSpoof_named, exec_guardSpoof_unnamed, exec_quarantineEnd_over, exec_guardClearCounters_granted,
    exec_guardClearCounters_refused⟩

end Sys2Proof.Machine
end

section
/-!
The drain, the restoration and the test of a Sieve lane (R201, R202, R203, R205): when each command acts, and O25. That a working lane
passes the seeded test of its comparator is the model's choice (assumption log 51).
-/
namespace Sys2Proof.Machine

@[simp] theorem setLane_reg (n : Nat) (x : LaneSt) (s : State) (i j : Nat) : reg i j (setLane n x s) = reg i j s := rfl

/-! ### The end of a drain (R201) -/

/-- Lane 1 alone has a domain and pecks of its own. -/
theorem exec_laneDrainEnd_drained (n : Fin 2) (s : State) (hdrain : reg 0x4050 (n.val + 1) s = 1)
    (hrun : (s.decs.any fun d => d.lane == n.val && !d.pairs.isEmpty) = false) :
    exec (.laneDrainEnd n) s = .next (if n.val == 1 then domainOff 13 (peckReturn 3 (setReg 0x4050 (n.val + 1) 2 s))
      else setReg 0x4050 (n.val + 1) 2 s) := by
  have hcond : (reg 0x4050 (n.val + 1) s == 1 && !(s.decs.any fun d => d.lane == n.val && !d.pairs.isEmpty)) = true := by
    simp only [hdrain, hrun, beq_self_eq_true, Bool.not_false, Bool.and_self]
  exact congrArg Host.Outcome.next (if_pos hcond)

/-! ### The restore command (R202) -/

/-- Lane n waits for its self-test; lane 1 asks for its pecks first. -/
def awaitLaneTest (n : Nat) (s : State) : State :=
  let t := setLane n { lane n s with testing := true, latent := [] } (setReg 0x4050 7 1 s)
  if n = 1 then peckRequest 3 t else t

theorem restoreLane_withdrawn (n : Nat) (s : State) (hdev : s.dev ≠ .terminal) (hstate : reg 0x4050 (n + 1) s = 2)
    (hclear : srcSet (0x22 + n) s = false) : restoreLane n s = done (awaitLaneTest n s) := by
  have hgranted : ¬ (reg 0x4050 (n + 1) s ≠ 2 || srcSet (0x22 + n) s) = true := by simp [hstate, hclear]
  refine (notTerminal_past _ s hdev).trans ((if_neg hgranted).trans ?_)
  simp only [awaitLaneTest, beq_iff_eq]

/-- In Terminal the command is refused with the same code, so that the state of the device does not matter. -/
theorem restoreLane_refused (n : Nat) (s : State) (h : reg 0x4050 (n + 1) s ≠ 2 ∨ srcSet (0x22 + n) s = true) :
    restoreLane n s = (s, 0x08000022) := by
  have hrefused : (reg 0x4050 (n + 1) s ≠ 2 || srcSet (0x22 + n) s) = true := by simpa using h
  by_cases hdev : s.dev = .terminal
  · exact if_pos hdev
  · exact (notTerminal_past _ s hdev).trans (if_pos hrefused)

theorem exec_restoreLane_withdrawn (ses : Session) (n : Fin 2) (s : State) (hs : Served ses s) (hdev : s.dev ≠ .terminal)
    (hstate : reg 0x4050 (n.val + 1) s = 2) (hclear : srcSet (0x22 + n.val) s = false) :
    exec (.restoreLane ses n) s = .next (answered ses (awaitLaneTest n.val (touch ses s))) :=
  congrArg Host.Outcome.next (serve_done ses (restoreLane n.val) s _ hs
    (restoreLane_withdrawn n.val (touch ses s) (by simpa using hdev) (by simpa using hstate) (by simpa using hclear)))

theorem exec_restoreLane_refused (ses : Session) (n : Fin 2) (s : State) (hs : Served ses s)
    (h : reg 0x4050 (n.val + 1) s ≠ 2 ∨ srcSet (0x22 + n.val) s = true) :
    exec (.restoreLane ses n) s = .next (emit (.answer ses 0x08000022 []) (touch ses s)) := by
  refine congrArg Host.Outcome.next ((serve_served ses (restoreLane n.val) s hs).trans ?_)
  rw [restoreLane_refused n.val (touch ses s) (by simpa using h)]

/-! ### The self-test (R202, R203) -/

/-- Lane n waits for no test, and its latent divergences are forgotten. -/
def endLaneTest (n : Nat) (s : State) : State := setLane n { lane n s with testing := false, latent := [] } s

@[simp] theorem endLaneTest_reg (n : Nat) (s : State) (i j : Nat) : reg i j (endLaneTest n s) = reg i j s := rfl

/-- Lane n with the state x and the cause c that its record shows. -/
def showLane (n x c : Nat) (s : State) : State := setReg (0x4051 + n) 0x0B c (setReg 0x4050 (n + 1) x s)

/-- What one lane shows is not the state of the other. -/
theorem showLane_reg_other (n : Fin 2) (x c : Nat) (s : State) :
    reg 0x4050 (1 - n.val + 1) (showLane n.val x c s) = reg 0x4050 (1 - n.val + 1) s := by
  have hcause : okey (0x4051 + n.val) 0x0B ≠ okey 0x4050 (1 - n.val + 1) := by unfold okey; omega
  rw [showLane, reg_setReg_ne _ _ _ _ _ _ hcause, reg_setReg_sub _ _ _ _ _ (by omega)]

/-- Where no restore command waits for the test (0x4050:07 does not read 1), none is answered by it. -/
theorem exec_laneSelfTestComplete_passed (n : Fin 2) (s : State) (htests : laneTests n.val s = true)
    (hcmd : reg 0x4050 7 s ≠ 1) :
    exec (.laneSelfTestComplete n true) s = .next (
      let t := showLane n.val 0 0 (endLaneTest n.val s)
      { t with faults := { s.faults with withdrawn := s.faults.withdrawn.filter fun w => w.1 ≠ .lane n.val } }) := by
  have hnone : ¬ (!laneTests n.val s) = true := by simp [htests]
  have hrestore : ¬ (reg 0x4050 7 s == 1) = true := by simpa using hcmd
  exact congrArg Host.Outcome.next ((if_neg hnone).trans (if_neg hrestore))

/-- With the other lane at work the source 0x28 of no working lane does not fire. -/
theorem exec_laneSelfTestComplete_failed (n : Fin 2) (s : State) (htests : laneTests n.val s = true)
    (hcmd : reg 0x4050 7 s ≠ 1) (hother : reg 0x4050 (1 - n.val + 1) s = 0) :
    exec (.laneSelfTestComplete n false) s = .next (
      fire (0x22 + n.val) (n.val + 256 * 5) (showLane n.val 2 5 (endLaneTest n.val s))) := by
  have hnone : ¬ (!laneTests n.val s) = true := by simp [htests]
  have hrestore : ¬ (reg 0x4050 7 s == 1) = true := by simpa using hcmd
  have hworks : ∀ b : Bool,
      ¬ (reg 0x4050 (1 - n.val + 1) (showLane n.val 2 5 (endLaneTest n.val s)) ≠ 0 && b) = true := by
    simp [showLane_reg_other, hother]
  refine congrArg Host.Outcome.next ((if_neg hnone).trans (congrArg (fire _ _) ?_))
  simp only [if_neg hrestore]
  exact if_neg (hworks _)

/-! ### The test of the comparator (R205) -/

theorem exec_seededComparatorTest_works (n : Fin 2) (s : State) (hworks : reg 0x4050 (n.val + 1) s = 0)
    (htest : (lane n.val s).testing = false) :
    exec (.seededComparatorTest n) s =
      .next (setReg (0x4051 + n.val) 0x0C ((reg (0x4051 + n.val) 0x0C s + 1) % 192) (count (0x4051 + n.val) 7 s)) := by
  have hcond : (reg 0x4050 (n.val + 1) s == 0 && !(lane n.val s).testing) = true := by simp [hworks, htest]
  exact congrArg Host.Outcome.next (if_pos hcond)

/-- Settles O25: each command where it acts, the restore command also where it is refused. -/
theorem lanesAreWithdrawnAndRestored : Obligations.LanesAreWithdrawnAndRestored := by
  refine ⟨exec_laneDrainEnd_drained 0, exec_laneDrainEnd_drained 1, ?_, exec_restoreLane_refused,
    exec_laneSelfTestComplete_passed, ?_, exec_seededComparatorTest_works⟩
  · intro ses n s hs hdev hstate hclear
    rw [exec_restoreLane_withdrawn ses n s hs hdev hstate hclear]
    simp only [awaitLaneTest, setLane, setReg_lanes, touch_lanes]
  · intro n s htests hcmd hother
    have hidx : 1 - n.val + 1 = 2 - n.val := by omega
    rw [exec_laneSelfTestComplete_failed n s htests hcmd (by rwa [hidx])]
    rfl

end Sys2Proof.Machine
end

section
/-!
Schedules of the LIN commanders and the commands at their tables (R208, R229, R230, R231, R233): the entry that a slot serves, the start of a
slot, each command where it is carried out and where it is refused, and O10 and O33. A requested entry past the table's length starts at
entry 0: the model's choice (assumption log 66).
-/
namespace Sys2Proof.Machine

/-! ### Reads of a LIN engine -/

@[simp] theorem lin_setLin_same (m : Nat) (x : LinSt) (s : State) : lin m (setLin m x s) = x := tget_tset_same _ _ _ _

@[simp] theorem touch_lin (m : Nat) (ses : Session) (s : State) : lin m (touch ses s) = lin m s :=
  congrArg (fun b : BraidSt => tget linSt0 b.lin m) (touch_braid ses s)

@[simp] theorem touch_shadowed (e : Nat) (ses : Session) (s : State) : shadowed e (touch ses s) = shadowed e s :=
  touch_same (shadowed e) (fun _ _ => id rfl) ses s

@[simp] theorem touch_engEnabled (b : Bank) (e : Nat) (ses : Session) (s : State) :
    engEnabled b e (touch ses s) = engEnabled b e s :=
  touch_same (engEnabled b e) (fun _ _ => id rfl) ses s

@[simp] theorem touch_braidStill (ses : Session) (s : State) : braidStill (touch ses s) = braidStill s := by
  simp only [braidStill, touch_faults, touch_dev]

/-! ### The entry that a slot serves (R230, R231) -/

theorem linNext_request (m t e : Nat) (s : State) (hreq : (lin m s).req = some (t, e)) (ht : t ≤ 7) :
    linNext m s = (some (t, if e < linCount s.cfg m t then e else 0), none) := by
  rw [linNext, hreq]
  simp only [if_neg (Nat.not_lt.mpr ht)]

/-- A request above 7 stops the schedule, and nothing is left to resume. -/
theorem linNext_stop (m t e : Nat) (s : State) (hreq : (lin m s).req = some (t, e)) (ht : 7 < t) :
    linNext m s = (none, none) := by
  rw [linNext, hreq]
  simp only [if_pos ht]

/-! ### The start of a slot (R229) -/

/-- The header of the slot before is no longer awaited. -/
def forgetHeader (m : Nat) (s : State) : State := setLin m { lin m s with ident := none } s

/-- The slot's entry is chosen: no request and no collision table wait, and r is left to resume. -/
def takeEntry (m : Nat) (r : Option (Nat × Nat)) (s : State) : State :=
  setLin m { lin m s with req := none, collide := none, resume := r } s

/-- The engine shows entry k of table t as the one in service. -/
def showEntry (m t k : Nat) (s : State) : State := setLinState m 3 (setReg (lB m + 1) 4 k (setReg (lB m + 1) 3 t s))

/-- The slot serves the chosen entry, to the tick of the time base at which the slot starts plus the entry's length; with none the schedule
stops. -/
def serveChosen (m : Nat) (c : Option (Nat × Nat)) (s : State) : State :=
  match c with
  | none => setLinState m 2 (setReg (lB m + 1) 3 0xFF s)
  | some (t, k) =>
    let w := linEntry s.cfg m t k
    let tb := max 1 (linBase m s)
    let u := showEntry m t k s
    serveEntry m w (setLin m { lin m u with slotEnd := nowNs u / tb * tb + w.ticks * tb } u)

theorem forgetHeader_req (m : Nat) (s : State) : (lin m (forgetHeader m s)).req = (lin m s).req := by
  rw [forgetHeader, lin_setLin_same]

theorem forgetHeader_toSleep (m : Nat) (s : State) : (lin m (forgetHeader m s)).toSleep = (lin m s).toSleep := by
  rw [forgetHeader, lin_setLin_same]

theorem finishOwn_not_own (m : Nat) (s : State) (hown : (lin m s).own = false) : finishOwn m s = s :=
  if_pos (by simp [hown])

/-- With no response of its own in progress and no go-to-sleep waiting, a slot serves the next entry of the schedule. -/
theorem slotStart_serves_next (m : Nat) (s : State) (hown : (lin m s).own = false) (hsleep : (lin m s).toSleep = false) :
    slotStart m s = serveChosen m (linNext m (forgetHeader m s)).1
      (takeEntry m (linNext m (forgetHeader m s)).2 (forgetHeader m s)) := by
  have hawake : ¬ (lin m (forgetHeader m s)).toSleep = true := by simp [forgetHeader_toSleep, hsleep]
  rw [slotStart, finishOwn_not_own m s hown]
  exact if_neg hawake

theorem exec_linSlotStart_in_progress (m : Fin 16) (s : State) (hslot : nowNs s < (lin m.val s).slotEnd) :
    exec (.linSlotStart m) s = .next s := by
  have hcond : ¬ (schedulesRun s && commands m.val s && nowNs s % max 1 (linBase m.val s) < 1000 &&
      (lin m.val s).slotEnd ≤ nowNs s && (lin m.val s).notBefore ≤ nowNs s) = true := by simp [Nat.not_le.mpr hslot]
  exact congrArg Host.Outcome.next (if_neg hcond)

theorem exec_linSlotStart_tick (m : Fin 16) (s : State) (hrun : schedulesRun s = true) (hcommands : commands m.val s = true)
    (htick : nowNs s % max 1 (linBase m.val s) < 1000) (hslot : (lin m.val s).slotEnd ≤ nowNs s)
    (hbefore : (lin m.val s).notBefore ≤ nowNs s) :
    exec (.linSlotStart m) s = .next (settle 4 (slotStart m.val s)) := by
  have hcond : (schedulesRun s && commands m.val s && nowNs s % max 1 (linBase m.val s) < 1000 &&
      (lin m.val s).slotEnd ≤ nowNs s && (lin m.val s).notBefore ≤ nowNs s) = true := by
    simp only [hrun, hcommands, htick, hslot, hbefore, decide_true, Bool.and_self]
  exact congrArg Host.Outcome.next (if_pos hcond)

/-- A slot with no next entry leaves the engine idle with no table. -/
theorem exec_linSlotStart_stops (m : Fin 16) (s : State) (hrun : schedulesRun s = true) (hcommands : commands m.val s = true)
    (htick : nowNs s % max 1 (linBase m.val s) < 1000) (hslot : (lin m.val s).slotEnd ≤ nowNs s)
    (hbefore : (lin m.val s).notBefore ≤ nowNs s) (hown : (lin m.val s).own = false) (hsleep : (lin m.val s).toSleep = false)
    (hnext : linNext m.val (forgetHeader m.val s) = (none, none)) :
    exec (.linSlotStart m) s =
      .next (settle 4 (setLinState m.val 2 (setReg (lB m.val + 1) 3 0xFF (takeEntry m.val none (forgetHeader m.val s))))) := by
  rw [exec_linSlotStart_tick m s hrun hcommands htick hslot hbefore, slotStart_serves_next m.val s hown hsleep, hnext]
  rfl

/-! ### A request for a table (R230) -/

theorem linTable_request (m t : Nat) (s : State) (hdev : s.dev ≠ .terminal) (ht : t ≤ 7 ∨ t = 0xFF) (hcommander : cfg (lB m) 2 s = 0) :
    linTable m t s = (tableRequest m t s, 0) := by
  have hrange : ¬ (t > 7 && t ≠ 0xFF) = true := by simp; omega
  have hrole : ¬ (cfg (lB m) 2 s == 1) = true := by simp [hcommander]
  exact (notTerminal_past _ s hdev).trans ((if_neg hrange).trans (if_neg hrole))

theorem linTable_past_range (m t : Nat) (s : State) (hdev : s.dev ≠ .terminal) (h7 : 7 < t) (hstop : t ≠ 0xFF) :
    linTable m t s = (s, 0x06090031) := by
  have hrange : (t > 7 && t ≠ 0xFF) = true := by simp [h7, hstop]
  exact (notTerminal_past _ s hdev).trans (if_pos hrange)

theorem tableRequest_touch (ses : Session) (m t : Nat) (s : State) :
    tableRequest m t (touch ses s) =
      setReg (lB m + 1) 1 t (setLin m { lin m s with req := some (t, reg (lB m + 1) 2 s) } (touch ses s)) := by
  simp only [tableRequest, touch_lin, touch_reg']

theorem exec_linTableRequest_granted (ses : Session) (m : Fin 16) (t : Byte) (s : State) (hs : Served ses s)
    (hdev : s.dev ≠ .terminal) (ht : t.toNat ≤ 7 ∨ t.toNat = 0xFF) (hcommander : cfg (lB m.val) 2 s = 0) :
    exec (.linTableRequest ses m t) s = .next (answered ses (setReg (lB m.val + 1) 1 t.toNat
      (setLin m.val { lin m.val s with req := some (t.toNat, reg (lB m.val + 1) 2 s) } (touch ses s)))) := by
  rw [← tableRequest_touch]
  exact congrArg Host.Outcome.next (serve_done ses (linTable m.val t.toNat) s _ hs
    (linTable_request _ _ _ (by simpa using hdev) ht (by simpa using hcommander)))

theorem exec_linTableRequest_refused (ses : Session) (m : Fin 16) (t : Byte) (s : State) (hs : Served ses s)
    (hdev : s.dev ≠ .terminal) (h7 : 7 < t.toNat) (hstop : t.toNat ≠ 0xFF) :
    exec (.linTableRequest ses m t) s = .next (emit (.answer ses 0x06090031 []) (touch ses s)) := by
  refine congrArg Host.Outcome.next ((serve_served ses (linTable m.val t.toNat) s hs).trans ?_)
  rw [linTable_past_range _ _ _ (by simpa using hdev) h7 hstop]

/-- Settles O10: a request of 0xFF is one above 7, and the entry that a request below it names is kept only where the table has it. -/
theorem linTableWritesWaitForTheSlot : Obligations.LinTableWritesWaitForTheSlot := by
  refine ⟨exec_linTableRequest_granted, exec_linSlotStart_in_progress, ?_, ?_⟩
  · intro m t e s hrun hcommands htick hslot hbefore hown hsleep hreq ht
    have hnext := linNext_request m.val t e (forgetHeader m.val s) ((forgetHeader_req m.val s).trans hreq) ht
    rw [exec_linSlotStart_tick m s hrun hcommands htick hslot hbefore, slotStart_serves_next m.val s hown hsleep, hnext]
    rfl
  · intro m e s hrun hcommands htick hslot hbefore hown hsleep hreq
    exact exec_linSlotStart_stops m s hrun hcommands htick hslot hbefore hown hsleep
      (linNext_stop m.val 0xFF e _ ((forgetHeader_req m.val s).trans hreq) (by decide))

/-! ### The wake-up pulse and the go-to-sleep frame (R233) -/

/-- The pulse of L+0x00:0A from now on, and the schedule held for 100 ms after it. -/
def startPulse (m : Nat) (s : State) : State :=
  setLin m { lin m s with
    pulseEnd := wall s + us (cfg (lB m) 0x0A s)
    notBefore := nowNs s + us (cfg (lB m) 0x0A s) + ms 100 } s

/-- Neither in the safe state nor in shadow, an engine that is enabled drives its pulse. -/
theorem linWake_driven (m : Nat) (s : State) (hdev : s.dev ≠ .terminal) (hidle : reg (lB m) 0x0B s ≠ 1)
    (hstill : braidStill s = false) (hshadow : shadowed (48 + m) s = false) (henabled : engEnabled s.cfg (48 + m) s = true) :
    linWake m s = (emit (.linWake m) (setReg (lB m) 0x0B 1 (startPulse m s)), 0) := by
  have hfree : ¬ (reg (lB m) 0x0B s == 1) = true := by simpa using hidle
  have hdriven : ¬ (braidStill s || shadowed (48 + m) s || !engEnabled s.cfg (48 + m) s) = true := by
    simp [hstill, hshadow, henabled]
  exact (notTerminal_past _ s hdev).trans ((if_neg hfree).trans (congrArg done (if_neg hdriven)))

theorem linGoToSleep_commander (m : Nat) (s : State) (hdev : s.dev ≠ .terminal) (hrole : cfg (lB m) 2 s ≠ 1)
    (hidle : reg (lB m) 0x0B s ≠ 1) :
    linGoToSleep m s = (setReg (lB m) 0x0B 1 (setLin m { lin m s with toSleep := true } s), 0) := by
  have hcommander : ¬ (cfg (lB m) 2 s == 1) = true := by simpa using hrole
  have hfree : ¬ (reg (lB m) 0x0B s == 1) = true := by simpa using hidle
  exact (notTerminal_past _ s hdev).trans ((if_neg hcommander).trans (if_neg hfree))

/-- A command that is refused with 0x0800_0022 outside Terminal is refused with it there too (R35). -/
theorem notTerminal_refused (f : Svc) (s : State) (h : f s = (s, 0x08000022)) : notTerminal f s = (s, 0x08000022) := by
  rw [notTerminal, h, ite_self]

theorem linWake_running (m : Nat) (s : State) (hrunning : reg (lB m) 0x0B s = 1) : linWake m s = (s, 0x08000022) := by
  have hbusy : (reg (lB m) 0x0B s == 1) = true := by simp [hrunning]
  exact notTerminal_refused _ s (if_pos hbusy)

theorem linGoToSleep_running (m : Nat) (s : State) (hrole : cfg (lB m) 2 s ≠ 1) (hrunning : reg (lB m) 0x0B s = 1) :
    linGoToSleep m s = (s, 0x08000022) := by
  have hcommander : ¬ (cfg (lB m) 2 s == 1) = true := by simpa using hrole
  have hbusy : (reg (lB m) 0x0B s == 1) = true := by simp [hrunning]
  exact notTerminal_refused _ s ((if_neg hcommander).trans (if_pos hbusy))

theorem exec_linWakeUp_driven (ses : Session) (m : Fin 16) (s : State) (hs : Served ses s) (hdev : s.dev ≠ .terminal)
    (hidle : reg (lB m.val) 0x0B s ≠ 1) (hstill : braidStill s = false) (hshadow : shadowed (48 + m.val) s = false)
    (henabled : engEnabled s.cfg (48 + m.val) s = true) :
    exec (.linWakeUp ses m) s =
      .next (answered ses (emit (.linWake m.val) (setReg (lB m.val) 0x0B 1 (startPulse m.val (touch ses s))))) :=
  congrArg Host.Outcome.next (serve_done ses (linWake m.val) s _ hs
    (linWake_driven _ _ (by simpa using hdev) (by simpa using hidle) (by simpa using hstill) (by simpa using hshadow)
      (by simpa using henabled)))

theorem exec_linWakeUp_running (ses : Session) (m : Fin 16) (s : State) (hs : Served ses s)
    (hrunning : reg (lB m.val) 0x0B s = 1) :
    exec (.linWakeUp ses m) s = .next (emit (.answer ses 0x08000022 []) (touch ses s)) := by
  refine congrArg Host.Outcome.next ((serve_served ses (linWake m.val) s hs).trans ?_)
  rw [linWake_running _ _ (by simpa using hrunning)]

theorem exec_linGoToSleep_commander (ses : Session) (m : Fin 16) (s : State) (hs : Served ses s) (hdev : s.dev ≠ .terminal)
    (hrole : cfg (lB m.val) 2 s ≠ 1) (hidle : reg (lB m.val) 0x0B s ≠ 1) :
    exec (.linGoToSleep ses m) s =
      .next (answered ses (setReg (lB m.val) 0x0B 1 (setLin m.val { lin m.val s with toSleep := true } (touch ses s)))) := by
  rw [← touch_lin m.val ses s]
  exact congrArg Host.Outcome.next (serve_done ses (linGoToSleep m.val) s _ hs
    (linGoToSleep_commander _ _ (by simpa using hdev) (by simpa using hrole) (by simpa using hidle)))

theorem exec_linGoToSleep_running (ses : Session) (m : Fin 16) (s : State) (hs : Served ses s)
    (hrunning : reg (lB m.val) 0x0B s = 1) (hrole : cfg (lB m.val) 2 s ≠ 1) :
    exec (.linGoToSleep ses m) s = .next (emit (.answer ses 0x08000022 []) (touch ses s)) := by
  refine congrArg Host.Outcome.next ((serve_served ses (linGoToSleep m.val) s hs).trans ?_)
  rw [linGoToSleep_running _ _ (by simpa using hrole) (by simpa using hrunning)]

/-! ### The clear command (R208) -/

theorem exec_linClearCounters_served (ses : Session) (m : Fin 16) (s : State) (hs : Served ses s) (hdev : s.dev ≠ .terminal) :
    exec (.linClearCounters ses m) s = .next (answered ses (setReg (lB m.val) 0x0B 2
      ([3, 4, 5, 6, 7, 8, 9, 0x0A, 0x0B, 0x0C].foldl (fun t j => setReg (lB m.val + 3) j 0 t) (touch ses s)))) :=
  congrArg Host.Outcome.next (serve_done ses (linClear m.val) s _ hs (notTerminal_past _ _ (by simpa using hdev)))

/-- Settles O33: a slot with no next entry and any other, and each command of a bus on either side of its check. -/
theorem linSchedulesRun : Obligations.LinSchedulesRun := by
  refine ⟨exec_linSlotStart_stops, exec_linSlotStart_tick, exec_linTableRequest_granted, exec_linTableRequest_refused, ?_,
    exec_linGoToSleep_commander, ?_, exec_linClearCounters_served⟩
  · intro ses m s hs hdev hidle hstill hshadow henabled
    rw [exec_linWakeUp_driven ses m s hs hdev hidle hstill hshadow henabled]
    simp only [startPulse, touch_lin, touch_wall', touch_nowNs', touch_cfg']
  · intro ses m s hs hrunning hrole
    exact ⟨exec_linGoToSleep_running ses m s hs hrunning hrole, exec_linWakeUp_running ses m s hs hrunning⟩

end Sys2Proof.Machine
end

section
/-!
Reception at the CAN engines (R209, R215, R216, R217), the protocol exception and the clear command (R208, R209): what the staging buffer
takes and drops, and O29.
-/
namespace Sys2Proof.Machine

/-! ### Two updates of one engine -/

theorem tput_tput {α : Type} (t : Tab α) (k : Nat) (v w : α) : tput (tput t k v) k w = tput t k w := by
  induction t with
  | nil => simp [tput]
  | cons e t ih =>
    obtain ⟨j, u⟩ := e
    by_cases heq : j = k
    · simp [tput, heq]
    · by_cases hlt : k < j
      · simp [tput, heq, hlt]
      · simp [tput, heq, hlt, ih]

/-- The later of two updates stands alone where both are listed; the table need not be in canonical form. -/
theorem tset_tset_listed {α : Type} [DecidableEq α] (d : α) (t : Tab α) (k : Nat) (v w : α) (hv : v ≠ d) (hw : w ≠ d) :
    tset d (tset d t k v) k w = tset d t k w := by
  simp only [tset, if_neg hv, if_neg hw, tput_tput]

theorem setCan_setCan_listed (n : Nat) (x y : CanSt) (s : State) (hx : x ≠ canSt0) (hy : y ≠ canSt0) :
    setCan n y (setCan n x s) = setCan n y s :=
  congrArg (fun c => { s with braid := { s.braid with can := c } }) (tset_tset_listed canSt0 s.braid.can n x y hx hy)

@[simp] theorem can_setCan_same (n : Nat) (x : CanSt) (s : State) : can n (setCan n x s) = x := tget_tset_same _ _ _ _

/-! ### The staging buffer (R216) -/

/-- An engine that has frames in its staging buffer is not in its state at reset. -/
theorem ne_canSt0_of_recent (x : CanSt) (h : x.recent ≠ []) : x ≠ canSt0 := by
  rintro rfl
  exact h rfl

/-- The staging buffer of engine n holds the frames that ended at the times of l, the last of them now. -/
def bufferFrames (n : Nat) (l : List Nat) (s : State) : State := setCan n { can n s with recent := l, lastAt := wall s } s

theorem bufferFrames_recent (n : Nat) (l : List Nat) (s : State) : (can n (bufferFrames n l s)).recent = l := by
  rw [bufferFrames, can_setCan_same]

/-- Of what the buffer holds, the two oldest frames stay. -/
theorem bufferFrames_take (n : Nat) (l : List Nat) (s : State) (hl : l ≠ []) :
    setCan n { can n (bufferFrames n l s) with recent := (can n (bufferFrames n l s)).recent.take 2 } (bufferFrames n l s) =
      bufferFrames n (l.take 2) s := by
  simp only [bufferFrames, can_setCan_same]
  exact setCan_setCan_listed n _ _ s (ne_canSt0_of_recent _ hl) (ne_canSt0_of_recent _ (by simpa using hl))

theorem receiveCan_not_taken (n : Nat) (f : BusFrame) (stamp : Nat) (s : State)
    (h : canHears n s = false ∨ fmtReceived (can n s).mode f.fmt = false) : receiveCan n f stamp s = s :=
  if_pos (by simpa using h)

/-- An engine's counters after a good frame are those of `goodReception`, whatever becomes of the frame. -/
theorem receiveCan_room (n : Nat) (f : BusFrame) (stamp : Nat) (s g : State) (hhears : canHears n s = true)
    (hfmt : fmtReceived (can n s).mode f.fmt = true) (hgood : goodReception n s = g) (hroom : (staged n g).length < 2) :
    receiveCan n f stamp s = handOn n f stamp (count (cE n + 2) 6 (bufferFrames n (staged n g ++ [wall g]) g)) := by
  have htaken : ¬ (!canHears n s || !fmtReceived (can n s).mode f.fmt) = true := by simp [hhears, hfmt]
  have hfits : ¬ (can n (bufferFrames n (staged n g ++ [wall g]) g)).recent.length > 2 := by
    rw [bufferFrames_recent, List.length_append, List.length_singleton]
    omega
  rw [receiveCan, hgood]
  exact (if_neg htaken).trans (if_neg hfits)

theorem receiveCan_full (n : Nat) (f : BusFrame) (stamp : Nat) (s g : State) (hhears : canHears n s = true)
    (hfmt : fmtReceived (can n s).mode f.fmt = true) (hgood : goodReception n s = g) (hfull : (staged n g).length = 2) :
    receiveCan n f stamp s = fire 0x83 n (count (cE n + 2) 0x0C (bufferFrames n (staged n g) g)) := by
  have htaken : ¬ (!canHears n s || !fmtReceived (can n s).mode f.fmt) = true := by simp [hhears, hfmt]
  have hpast : (can n (bufferFrames n (staged n g ++ [wall g]) g)).recent.length > 2 := by
    rw [bufferFrames_recent, List.length_append, List.length_singleton]
    omega
  have hkept : (staged n g ++ [wall g]).take 2 = staged n g := List.take_left' hfull
  rw [receiveCan, hgood]
  refine (if_neg htaken).trans ((if_pos hpast).trans (congrArg (fun t => fire 0x83 n (count (cE n + 2) 0x0C t)) ?_))
  exact (bufferFrames_take n _ g (by simp)).trans (congrArg (bufferFrames n · g) hkept)

/-! ### A listen-only engine (R217) -/

theorem canHears_listenOnly (n : Nat) (s : State) (hstate : canState n s = 6) : canHears n s = true := by
  simp [canHears, hstate]

/-- Listen-only, an engine keeps no error counters. -/
theorem goodReception_listenOnly (n : Nat) (s : State) (hstate : canState n s = 6) : goodReception n s = s :=
  if_pos (by simp [canActive, hstate])

/-! ### The commands -/

/-- With no firing owed from before, a frame that is not taken leaves the state as it is. -/
theorem exec_canFrameReceive_not_taken (n : Fin 48) (f : BusFrame) (d : Fin 4294967296) (s : State)
    (h : canHears n.val s = false ∨ fmtReceived (can n.val s).mode f.fmt = false) (hdue : s.faults.due = []) :
    exec (.canFrameReceive n f d) s = .next s := by
  have hsettled : settle 4 (receiveCan n.val f (nowNs s - d.val) s) = s := by
    rw [receiveCan_not_taken _ _ _ _ h, settle_none _ _ hdue]
  exact congrArg Host.Outcome.next hsettled

theorem exec_canFrameReceive_room (n : Fin 48) (f : BusFrame) (d : Fin 4294967296) (s : State) (hstate : canState n.val s = 6)
    (hfmt : fmtReceived (can n.val s).mode f.fmt = true) (hroom : (staged n.val s).length < 2) :
    exec (.canFrameReceive n f d) s = .next (settle 4 (handOn n.val f (nowNs s - d.val)
      (count (cE n.val + 2) 6 (bufferFrames n.val (staged n.val s ++ [wall s]) s)))) :=
  congrArg (fun t => Host.Outcome.next (settle 4 t)) (receiveCan_room n.val f _ s s (canHears_listenOnly _ _ hstate) hfmt
    (goodReception_listenOnly _ _ hstate) hroom)

theorem exec_canFrameReceive_full (n : Fin 48) (f : BusFrame) (d : Fin 4294967296) (s : State) (hstate : canState n.val s = 6)
    (hfmt : fmtReceived (can n.val s).mode f.fmt = true) (hfull : (staged n.val s).length = 2) :
    exec (.canFrameReceive n f d) s = .next (settle 4 (fire 0x83 n.val (count (cE n.val + 2) 0x0C
      (bufferFrames n.val (staged n.val s) s)))) :=
  congrArg (fun t => Host.Outcome.next (settle 4 t)) (receiveCan_full n.val f _ s s (canHears_listenOnly _ _ hstate) hfmt
    (goodReception_listenOnly _ _ hstate) hfull)

theorem exec_protocolException_counted (n : Fin 48) (s : State) (hhears : canHears n.val s = true) (hmode : (can n.val s).mode < 2)
    (hhandling : cfg (cE n.val) 5 s = 1) :
    exec (.protocolException n) s = .next (count (cE n.val + 2) 0x0B s) := by
  have hcond : (canHears n.val s && (can n.val s).mode < 2 && cfg (cE n.val) 5 s == 1) = true := by
    simp [hhears, hmode, hhandling]
  exact congrArg Host.Outcome.next (if_pos hcond)

theorem exec_canClearCounters_served (ses : Session) (n : Fin 48) (s : State) (hs : Served ses s) (hdev : s.dev ≠ .terminal) :
    exec (.canClearCounters ses n) s = .next (answered ses (setReg (cE n.val) 0x0D 2
      ([6, 7, 8, 9, 0x0A, 0x0B, 0x0C, 0x0D, 0x0F].foldl (fun t j => setReg (cE n.val + 2) j 0 t) (touch ses s)))) :=
  congrArg Host.Outcome.next (serve_done ses (canClear n.val) s _ hs (notTerminal_past _ _ (by simpa using hdev)))

/-- Settles O29: the frame that is not taken, the one with room and the one without, and the two commands on the counters. -/
theorem canFramesAreReceived : Obligations.CanFramesAreReceived :=
  ⟨exec_canFrameReceive_not_taken, exec_canFrameReceive_room, exec_canFrameReceive_full, exec_protocolException_counted,
    exec_canClearCounters_served⟩

end Sys2Proof.Machine
end

section
/-!
The routes of a record (R240, R245, R248) and what makes a held value be sent (R249, R250, R252, R253, R265): when each command acts, and O36.
That one executor runs the oldest released record, where R240 gives each engine an executor of its own and unpacked PDUs four more, is the
model's choice (assumption log 69).
-/
namespace Sys2Proof.Machine

/-! ### Two updates of one route -/

@[simp] theorem route_setRoute_same (r : Nat) (x : RouteSt) (s : State) : route r (setRoute r x s) = x := tget_tset_same _ _ _ _

/-- What stands in a slot is no part of a route. -/
@[simp] theorem inTransmission_setRoute (r n q : Nat) (x : RouteSt) (s : State) :
    inTransmission r n (setRoute q x s) = inTransmission r n s := rfl

/-- A route that holds a value is not in its state at reset. -/
theorem ne_routeSt0_of_box (x : RouteSt) (h : x.box ≠ []) : x ≠ routeSt0 := by
  rintro rfl
  exact h rfl

theorem setRoute_setRoute_held (r : Nat) (x y : RouteSt) (s : State) (hx : x.box ≠ []) (hy : y.box ≠ []) :
    setRoute r y (setRoute r x s) = setRoute r y s :=
  congrArg (fun t => { s with braid := { s.braid with routes := t } })
    (tset_tset_listed routeSt0 s.braid.routes r x y (ne_routeSt0_of_box x hx) (ne_routeSt0_of_box y hy))

/-! ### The routes of a record (R240) -/

theorem runRecord_still (x : BusRec) (s : State) (hstill : braidStill s = true) : runRecord x s = dropRec x s :=
  congrArg (dropRec x) (if_pos hstill)

theorem runRecord_running (x : BusRec) (s : State) (hstill : braidStill s = false) :
    runRecord x s = dropRec x ((x.routes.filter fun r => x.permitted.contains (zoneOf (bankOf x.epoch s)
      (rtTarget (bankOf x.epoch s) r))).foldl (fun t r => runRoute (bankOf x.epoch s) x r t) s) :=
  congrArg (dropRec x) (if_neg (by simp [hstill]))

theorem exec_routeExecute_released (x : BusRec) (s : State) (holdest : s.braid.recs.find? (·.released) = some x) :
    exec .routeExecute s = .next (settle 4 (runRecord x s)) := by
  change execRouteExecute s = _
  rw [execRouteExecute, holdest]

theorem exec_routeExecute_still (x : BusRec) (s : State) (holdest : s.braid.recs.find? (·.released) = some x)
    (hstill : braidStill s = true) : exec .routeExecute s = .next (settle 4 (dropRec x s)) := by
  rw [exec_routeExecute_released x s holdest, runRecord_still x s hstill]

theorem exec_routeExecute_running (x : BusRec) (s : State) (holdest : s.braid.recs.find? (·.released) = some x)
    (hstill : braidStill s = false) :
    exec .routeExecute s = .next (settle 4 (dropRec x ((x.routes.filter fun r => x.permitted.contains (zoneOf (bankOf x.epoch s)
      (rtTarget (bankOf x.epoch s) r))).foldl (fun t r => runRoute (bankOf x.epoch s) x r t) s))) := by
  rw [exec_routeExecute_released x s holdest, runRecord_running x s hstill]

/-! ### Periodic transmission (R249) -/

/-- A new period of an enabled periodic route to a CAN engine that holds a value: the period is noted, and what is still on its way decides
between a missed period and a transmission. -/
theorem exec_periodicTransmit_due (r : Fin 12288) (s : State) (henabled : rt s.cfg r.val 2 = 1) (hmode : rtMode s.cfg r.val = 1)
    (hstill : braidStill s = false) (hdue : (route r.val s).perAt < periodNow r.val s) (hcan : rtEgress s.cfg r.val < 48)
    (hever : (route r.val s).ever = true) (hbox : (route r.val s).box ≠ []) :
    exec (.periodicTransmit r) s = .next (
      if (route r.val s).joined || (route r.val s).owed || inTransmission r.val (rtEgress s.cfg r.val) s then
        countRoute r.val 0x17 (setRoute r.val { route r.val s with perAt := periodNow r.val s } s)
      else joinNow r.val (setRoute r.val { route r.val s with perAt := periodNow r.val s, owed := true } s)) := by
  have hacts : ¬ (rt s.cfg r.val 2 ≠ 1 || rtMode s.cfg r.val ≠ 1 || braidStill s ||
      periodNow r.val s ≤ (route r.val s).perAt) = true := by
    simp [henabled, hmode, hstill, hdue]
  have hholds : ¬ (!(route r.val s).ever || (route r.val s).box.isEmpty) = true := by simp [hever, hbox]
  have howed : setRoute r.val { route r.val (setRoute r.val { route r.val s with perAt := periodNow r.val s } s) with owed := true }
      (setRoute r.val { route r.val s with perAt := periodNow r.val s } s) =
      setRoute r.val { route r.val s with perAt := periodNow r.val s, owed := true } s := by
    rw [route_setRoute_same]
    exact setRoute_setRoute_held _ _ _ _ hbox hbox
  rw [← howed]
  exact congrArg Host.Outcome.next ((if_neg hacts).trans ((if_neg hholds).trans (if_neg (Nat.not_le.mpr hcan))))

/-- A frame that is still in the pending set makes the period a missed one. -/
theorem exec_periodicTransmit_pending (r : Fin 12288) (s : State) (henabled : rt s.cfg r.val 2 = 1) (hmode : rtMode s.cfg r.val = 1)
    (hstill : braidStill s = false) (hdue : (route r.val s).perAt < periodNow r.val s) (hcan : rtEgress s.cfg r.val < 48)
    (hever : (route r.val s).ever = true) (hbox : (route r.val s).box ≠ []) (hjoined : (route r.val s).joined = true) :
    exec (.periodicTransmit r) s =
      .next (countRoute r.val 0x17 (setRoute r.val { route r.val s with perAt := periodNow r.val s } s)) := by
  rw [exec_periodicTransmit_due r s henabled hmode hstill hdue hcan hever hbox, if_pos (by simp [hjoined])]

theorem exec_periodicTransmit_joins (r : Fin 12288) (s : State) (henabled : rt s.cfg r.val 2 = 1) (hmode : rtMode s.cfg r.val = 1)
    (hstill : braidStill s = false) (hdue : (route r.val s).perAt < periodNow r.val s) (hcan : rtEgress s.cfg r.val < 48)
    (hever : (route r.val s).ever = true) (hbox : (route r.val s).box ≠ []) (hjoined : (route r.val s).joined = false)
    (howed : (route r.val s).owed = false) (hsends : inTransmission r.val (rtEgress s.cfg r.val) s = false) :
    exec (.periodicTransmit r) s =
      .next (joinNow r.val (setRoute r.val { route r.val s with perAt := periodNow r.val s, owed := true } s)) := by
  rw [exec_periodicTransmit_due r s henabled hmode hstill hdue hcan hever hbox, if_neg (by simp [hjoined, howed, hsends])]

/-! ### Minimum intervals, limiters and windows -/

theorem exec_minimumIntervalEnd_offers (r : Fin 12288) (s : State) (hmode : rtMode s.cfg r.val = 3) (hstill : braidStill s = false)
    (hjoined : (route r.val s).joined = false) (hsends : inTransmission r.val (rtEgress s.cfg r.val) s = false) :
    exec (.minimumIntervalEnd r) s = .next (tryJoin r.val s) :=
  congrArg Host.Outcome.next (if_pos (by simp [hmode, hstill, hjoined, hsends]))

theorem exec_limiterTokenRelease_offers (l : Fin 1024) (e : Nat × RouteSt) (s : State)
    (hlowest : (s.braid.routes.find? fun e => e.2.held && rtLimiter s.cfg e.1 == l.val) = some e) (hstill : braidStill s = false) :
    exec (.limiterTokenRelease l) s = .next (tryJoin e.1 s) := by
  change execLimiterTokenRelease l s = _
  rw [execLimiterTokenRelease, hlowest]
  exact congrArg Host.Outcome.next (if_neg (by simp [hstill]))

/-- With no windows that wait to take over, an edge only goes through the routes. -/
theorem exec_transmitWindowEdge_in_force (n : Fin 48) (s : State) (hwindowed : windowed n.val s = true)
    (hstill : braidStill s = false) (hruns : listsRun s = true) (hadmin : (windowSt n.val s).admin = none) :
    exec (.transmitWindowEdge n) s = .next ((s.braid.routes.map (·.1)).foldl (fun t r => windowEdge n.val r t) s) := by
  have hacts : ¬ (!windowed n.val s || braidStill s || !listsRun s) = true := by simp [hwindowed, hstill, hruns]
  change execTransmitWindowEdge n s = _
  rw [execTransmitWindowEdge, if_neg hacts]
  simp only [hadmin, each]

/-- Settles O36: the oldest released record, in the safe state and out of it, and the four occasions on which a held value is offered. -/
theorem routesRunByTheirModes : Obligations.RoutesRunByTheirModes :=
  ⟨exec_routeExecute_still, exec_routeExecute_running, exec_periodicTransmit_pending, exec_periodicTransmit_joins,
    exec_minimumIntervalEnd_offers, exec_limiterTokenRelease_offers, exec_transmitWindowEdge_in_force⟩

end Sys2Proof.Machine
end

section
/-!
The replay of the caught frames (R262 to R264): the age of a record, the end of the replay, and O38.
-/
namespace Sys2Proof.Machine

/-- A record older than the longest age gives its catch space back and is counted as discarded. -/
theorem replayRec_discarded (x : BusRec) (s : State)
    (hage : x.stamp + ms (cfg 0x5010 2 (noteHeld x.source (releaseCatch x s))) < nowNs (noteHeld x.source (releaseCatch x s))) :
    replayRec x s = count 0x3C90 4 (noteHeld x.source (releaseCatch x s)) :=
  if_pos hage

theorem exec_replayRecordSubmit_next (x : BusRec) (l : List BusRec) (s : State) (hruns : reg 0x3C90 2 s = 1)
    (hnext : s.braid.replay = x :: l) :
    exec .replayRecordSubmit s = .next (settle 4 (replayRec x { s with braid := { s.braid with replay := l } })) := by
  change execReplayRecordSubmit s = _
  rw [execReplayRecordSubmit, if_neg (not_not.mpr hruns), hnext]

/-- The last record of the replay, too old to be handed on. -/
theorem exec_replayRecordSubmit_discarded (x : BusRec) (s : State) (hruns : reg 0x3C90 2 s = 1) (hlast : s.braid.replay = [x])
    (hage : let t := noteHeld x.source (releaseCatch x { s with braid := { s.braid with replay := [] } });
      x.stamp + ms (cfg 0x5010 2 t) < nowNs t) :
    exec .replayRecordSubmit s = .next (settle 4 (count 0x3C90 4
      (noteHeld x.source (releaseCatch x { s with braid := { s.braid with replay := [] } })))) := by
  rw [exec_replayRecordSubmit_next x [] s hruns hlast, replayRec_discarded x _ hage]

theorem exec_replayEnd_empty (s : State) (hruns : reg 0x3C90 2 s = 1) (hempty : s.braid.replay = []) :
    exec .replayEnd s = .next (setReg 0x3C90 5 ((wall s - s.braid.replayAt) / 1000) (setReg 0x3C90 2 2 s)) :=
  congrArg Host.Outcome.next (if_pos (by simp [hruns, hempty]))

/-- Settles O38: the next record, the record that is too old, and the end of the replay. -/
theorem caughtFramesAreReplayed : Obligations.CaughtFramesAreReplayed :=
  ⟨exec_replayRecordSubmit_next, exec_replayRecordSubmit_discarded, exec_replayEnd_empty⟩

end Sys2Proof.Machine
end

section
/-!
SUPPORT. The service of a command that is refused, and of a request within a write.
-/
namespace Sys2Proof.Machine

theorem serveWith_served (ses : Session) (f : Svc) (s : State) (h : Served ses s) : serveWith ses f s = f (touch ses s) := by
  obtain ⟨-, -, -, hreach, hevict⟩ := h
  simp [serveWith, evict, hreach, hevict]

/-- A command that is refused is answered with its code. -/
theorem serve_refused (ses : Session) (f : Svc) (s t : State) (c : Nat) (h : Served ses s) (hf : f (touch ses s) = (t, c)) :
    serve ses f s = emit (.answer ses c []) t := by
  rw [serve_served ses f s h, hf]

end Sys2Proof.Machine
end

section
/-!
Reserved fault sources (R424): their reports, their enables, the writes to their records, and O9. That the evaluated configuration is judged
again after every report is the model's choice (assumption log 87).
-/
namespace Sys2Proof.Machine

/-! ### The card of the source records -/

/-- A card's indexes lie between its base and the end of its last stride. -/
theorem cardHas_range (i : Nat) (c : Card) (h : cardHas i c = true) : c.base ≤ i ∧ i < c.base + max 1 c.stride * c.count := by
  simp only [cardHas, Bool.and_eq_true, decide_eq_true_eq, beq_iff_eq] at h
  obtain ⟨⟨hbase, hmod⟩, hcount⟩ := h
  refine ⟨hbase, ?_⟩
  rcases Nat.eq_zero_or_pos c.stride with hzero | hpos
  · rw [hzero, Nat.mod_zero] at hmod
    rw [hzero, Nat.div_zero] at hcount
    rw [hzero, Nat.max_eq_left Nat.one_pos.le, Nat.one_mul]
    omega
  · rw [Nat.max_eq_right hpos]
    have hlt : i - c.base < c.stride * c.count := by rwa [Nat.div_lt_iff_lt_mul hpos, Nat.mul_comm] at hcount
    omega

/-- The cards that reach into the indexes of the source records. -/
def atSources (c : Card) : Bool := c.base < 0x5A00 && 0x5900 < c.base + max 1 c.stride * c.count

theorem cards_atSources : cards.filter atSources = [card5900] := rfl

/-- Every index from 0x5900 to 0x59FF is a source record (R424). -/
theorem cardOf_source (n : Nat) (hn : n < 256) : cardOf (0x5900 + n) = some card5900 := by
  have hnear : ∀ c, cardHas (0x5900 + n) c = decide (atSources c = true ∧ cardHas (0x5900 + n) c = true) := by
    intro c
    by_cases hhas : cardHas (0x5900 + n) c = true
    · have hrange := cardHas_range _ c hhas
      have hat : atSources c = true := by
        simp only [atSources, Bool.and_eq_true, decide_eq_true_eq]
        omega
      simp [hhas, hat]
    · simp [hhas]
  have hhas : cardHas (0x5900 + n) card5900 = true := by simp [cardHas, card5900, hn, Nat.mod_one]
  rw [cardOf, funext hnear, ← List.find?_filter, cards_atSources, List.find?_cons_of_pos hhas]

theorem rowOf_sourceEnable (n : Nat) (hn : n < 256) : rowOf (0x5900 + n) 1 = ⟨1, 1, .bool, .rwc, 0, .any, 0⟩ := by
  rw [rowOf, subOf, cardOf_source n hn]
  rfl

theorem existCode_sourceEnable (n : Nat) (hn : n < 256) : existCode (0x5900 + n) 1 = 0 := by
  have hchain : ¬ (0x110C < 0x5900 + n && 0x5900 + n < 0x1200) = true := by
    simp only [Bool.and_eq_true, decide_eq_true_eq]
    omega
  rw [existCode, if_neg hchain, cardOf_source n hn]
  rfl

/-! ### Reports -/

/-- The sources that only host software forces, those whose events have a counter of their own, and those that bear on the evaluated
configuration are listed. -/
theorem special_is_listed : ∀ n : Fin 256, sourceRow n.val = none →
    (0xE8 ≤ n.val → 0xEF < n.val) ∧ n.val ≠ 0x87 ∧ n.val ≠ 0xF0 ∧ n.val ≠ 0xA7 ∧ n.val ≠ 0xA3 ∧ n.val ≠ 0xA4 := by
  decide +kernel

theorem fireRaw_reserved (n d : Nat) (s : State) (hn : sourceRow n = none) : fireRaw n d s = s :=
  fireRaw_disabled n d s (by simp [srcEnabled, hn])

/-- A firing that no condition of the evaluated configuration names (R402) is followed by what waits alone. -/
theorem fire_unjudged (n d : Nat) (s : State) (h : n ≠ 0xA7 ∧ n ≠ 0xA3 ∧ n ≠ 0xA4) : fire n d s = settle 4 (fireRaw n d s) := by
  obtain ⟨hA7, hA3, hA4⟩ := h
  simp [fire, hA7, hA3, hA4]

theorem exec_sourceFire_reserved (n : Fin 256) (d : Fin 4294967296) (s : State) (hn : sourceRow n.val = none)
    (hdue : s.faults.due = []) : exec (.sourceFire n d) s = .next (if coreOn s = true then refreshEval s else s) := by
  obtain ⟨hforced, h87, hF0, hjudged⟩ := special_is_listed n hn
  have hfire : fire n.val d.val (ownCount n.val s) = s := by
    rw [fire_unjudged _ _ _ hjudged, fireRaw_reserved _ _ _ hn]
    simp [ownCount, h87, hF0, settle_none _ _ hdue]
  change execSourceFire n d s = _
  simp only [execSourceFire, hfire]
  cases coreOn s with
  | false => rfl
  | true =>
    have hcond : ¬ (!true || (0xE8 ≤ n.val && n.val ≤ 0xEF)) = true := by simpa using hforced
    rw [if_neg hcond, if_pos rfl]

/-! ### Reads and writes -/

theorem readCode_sourceEnable (ses : Session) (n : Nat) (s : State) (hn : n < 256) : readCode ses (0x5900 + n) 1 s = 0 := by
  have hrole : readRole (0x5900 + n) 1 = 0 := by simp [readRole]
  simp [readCode, existCode_sourceEnable n hn, rowOf_sourceEnable n hn, hrole]

/-- The enable of a reserved source is a live view that holds 0. -/
theorem viewObj_reservedEnable (ses : Session) (n : Nat) (s : State) (hn : n < 256) (hreserved : sourceRow n = none) :
    viewObj ses (0x5900 + n) 1 ⟨1, 1, .bool, .rwc, 0, .any, 0⟩ s = 0 := by
  have hview : view5000 (0x5900 + n) 1 s = some 0 := by
    have h5800 : 0x5900 + n ≠ 0x5800 := by omega
    have hend : 0x5900 + n < 0x5A00 := by omega
    simp [view5000, hreserved, h5800, hend]
  have hlow : ¬ 0x5900 + n < 0x2000 ∧ ¬ 0x5900 + n < 0x3000 ∧ ¬ 0x5900 + n < 0x4000 ∧ ¬ 0x5900 + n < 0x5000 := by omega
  have hhigh : 0x5900 + n < 0x6000 := by omega
  have hcred : 0x5900 + n ≠ 0x6010 := by omega
  simp [viewObj, hview, hlow, hhigh, hcred]

theorem readObj_reservedEnable (ses : Session) (n : Nat) (s : State) (hn : n < 256) (hreserved : sourceRow n = none) :
    readObj ses (0x5900 + n) 1 s = (s, 0, [0]) := by
  simp [readObj, readCode_sourceEnable ses n s hn, rowOf_sourceEnable n hn, viewObj_reservedEnable ses n s hn hreserved]
  rfl

/-- No object of a reserved source's record is written (R424). -/
theorem writeObj_reserved (ses : Session) (n i j o : Nat) (l : Bytes) (s : State) (hn : n < 256) (hreserved : sourceRow n = none)
    (hi : i = 0x5900 + n) (hexists : existCode i j = 0) : writeObj ses i j o l s = (s, 0x06090030) := by
  have hrecord : reservedRecord i = true := by
    have hend : 0x5900 + n < 0x5A00 := by omega
    simp [reservedRecord, hi, hreserved, hend]
  simp [writeObj, hexists, hrecord, deny]

/-- A write that is refused is answered, and nothing follows it. -/
theorem writeFor_refused (ses : Session) (i j o c : Nat) (l : Bytes) (s : State) (h : Served ses s) (hdue : s.faults.due = [])
    (hc : c ≠ 0) (hwrite : writeObj ses i j o l (touch ses s) = (touch ses s, c)) :
    writeFor ses false [] i j o l (fun c s => emit (.answer ses c []) s) s = emit (.answer ses c []) (touch ses s) := by
  have hsettle : settle 8 (emit (.answer ses c []) (touch ses s)) = emit (.answer ses c []) (touch ses s) :=
    settle_none _ _ (by simp [hdue])
  simp [writeFor, serveWith_served ses _ s h, hwrite, hc, hsettle, afterWrite]

theorem exec_dictionaryWrite_reserved (ses : Session) (n : Fin 256) (i : Fin 65536) (j : Fin 256) (o : Fin 4096) (l : List Byte)
    (s : State) (hs : Served ses s) (hbar : ses ≠ .bar0) (hdue : s.faults.due = []) (hreserved : sourceRow n.val = none)
    (hi : i.val = 0x5900 + n.val) (hexists : existCode i.val j.val = 0) :
    exec (.dictionaryWrite ses i j o l) s = .next (emit (.answer ses 0x06090030 []) (touch ses s)) := by
  obtain ⟨hboot, hcatch, hlive, -⟩ := id hs
  have hwrite := writeObj_reserved ses n.val i.val j.val o.val l (touch ses s) n.isLt hreserved hi hexists
  change execDictionaryWrite ses i j o l s = _
  simp [execDictionaryWrite, hbar, hboot, hcatch, hlive, writeFor_refused ses _ _ _ _ l s hs hdue (by decide) hwrite]

/-- Settles O9: a reserved source is not enabled, its enable is a view of 0, and the check of its record comes before that of the class. -/
theorem reservedSourcesAreInert : Obligations.ReservedSourcesAreInert :=
  ⟨fun n d s hn => fireRaw_reserved n.val d s hn, exec_sourceFire_reserved,
    fun ses n s hn => readObj_reservedEnable ses n.val s n.isLt hn, exec_dictionaryWrite_reserved⟩

end Sys2Proof.Machine
end

section
/-!
How reactions end (R408, R413, R415), how a source's status and the captures are cleared (R410, R414, R420, R423), and the ends of
conditions (R406, R417); then O59.
-/
namespace Sys2Proof.Machine

/-! ### The end of a reaction -/

/-- No reaction is in progress. -/
def withoutReaction (s : State) : State := { s with faults := { s.faults with reaction := 0, source := 0 } }

theorem exec_reactionComplete_runs (s : State) (h : s.faults.reaction ≠ 0) :
    exec .reactionComplete s = .next (settle 4 (safeReverts s (reactionDone s))) :=
  congrArg Host.Outcome.next (if_neg (by simpa using h))

/-- A Safe-State reaction ends in Safe, where the lease is yielded (R319, R415). -/
theorem reactionDone_safe (s : State) (hreaction : s.faults.reaction = 2) (hdev : s.dev ≠ .terminal)
    (hrecovery : s.power.recovery = false) :
    reactionDone s = (let t := withoutReaction (yieldLease (setDev .safe s)); runPending (t.faults.pending.length + 1) t) := by
  simp [reactionDone, hreaction, hdev, hrecovery, withoutReaction]

/-- A Degrade reaction with nothing behind it leaves the collector idle. -/
theorem reactionDone_degrade (s : State) (hreaction : s.faults.reaction = 1) (hpending : s.faults.pending = []) :
    reactionDone s = withoutReaction s := by
  simp [reactionDone, hreaction, hpending, runPending, nextPending, withoutReaction]

theorem safeReverts_elsewhere (old s : State) (hdev : s.dev ≠ .safe) : safeReverts old s = s := by simp [safeReverts, hdev]

theorem exec_reactionComplete_safe (s : State) (hreaction : s.faults.reaction = 2) (hdev : s.dev ≠ .terminal)
    (hrecovery : s.power.recovery = false) :
    exec .reactionComplete s = .next (settle 4 (safeReverts s
      (let t := withoutReaction (yieldLease (setDev .safe s)); runPending (t.faults.pending.length + 1) t))) := by
  rw [exec_reactionComplete_runs s (by simp [hreaction]), reactionDone_safe s hreaction hdev hrecovery]

theorem exec_reactionComplete_degrade (s : State) (hreaction : s.faults.reaction = 1) (hpending : s.faults.pending = [])
    (hdue : s.faults.due = []) (hdev : s.dev ≠ .safe) :
    exec .reactionComplete s = .next (withoutReaction s) := by
  rw [exec_reactionComplete_runs s (by simp [hreaction]), reactionDone_degrade s hreaction hpending,
    safeReverts_elsewhere s (withoutReaction s) hdev, settle_none 4 (withoutReaction s) hdue]

/-! ### Clearing -/

theorem clearSource_set (ses : Session) (n : Nat) (s : State) (hlisted : sourceRow n ≠ none) (hdev : s.dev ≠ .terminal)
    (hterminal : s.faults.terminal = false) (hclass : srcClass n s < 3) (hsecurity : srcSecurity n = false)
    (hrole : 1 ≤ roleOf ses s) (hlevel : srcLevel n = false) (hset : srcSet n s = true) :
    clearSource ses n s = (refreshEval (clearShadow n (rejoinUnits n (setReg (0x5900 + n) 4 0 s))), 0) := by
  have hgrave : srcClass n s ≠ 3 := by omega
  have hgranted : roleOf ses s ≠ 0 := by omega
  simp [clearSource, hlisted, hdev, hterminal, hgrave, hsecurity, hgranted, hlevel, hset, done]

/-- What keeps a status from being cleared: Terminal, class 3, or a condition that persists (R420, R423). -/
theorem clearSource_stands (ses : Session) (n : Nat) (s : State) (hlisted : sourceRow n ≠ none)
    (hstands : s.dev = .terminal ∨ s.faults.terminal = true ∨ srcClass n s = 3 ∨
      (srcLevel n = true ∧ s.faults.condition.contains n = true ∧ 2 ≤ roleOf ses s)) :
    clearSource ses n s = (s, 0x08000022) := by
  by_cases hlatched : (s.dev = .terminal || s.faults.terminal || srcClass n s == 3) = true
  · simp only [clearSource, if_pos hlatched]
    simp [hlisted, deny]
  · have hcondition : srcLevel n = true ∧ s.faults.condition.contains n = true ∧ 2 ≤ roleOf ses s := by
      simp only [Bool.or_eq_true, decide_eq_true_eq, beq_iff_eq] at hlatched
      tauto
    obtain ⟨hlevel, hpersists, hrole⟩ := hcondition
    have hgranted : ¬ roleOf ses s < (if srcSecurity n then 2 else 1) := by split <;> omega
    have hlasts : (srcLevel n && s.faults.condition.contains n) = true := by rw [hlevel, hpersists]; rfl
    simp only [clearSource, if_neg hlatched, if_neg hgranted, if_pos hlasts]
    simp [hlisted, deny]

theorem exec_clearSource_set (ses : Session) (n : Fin 256) (s : State) (hs : Served ses s) (hlisted : sourceRow n.val ≠ none)
    (hdev : s.dev ≠ .terminal) (hterminal : s.faults.terminal = false) (hclass : srcClass n.val s < 3)
    (hsecurity : srcSecurity n.val = false) (hrole : 1 ≤ roleOf ses s) (hlevel : srcLevel n.val = false)
    (hset : srcSet n.val s = true) :
    exec (.clearSource ses n) s = .next (answered ses
      (refreshEval (clearShadow n.val (rejoinUnits n.val (setReg (0x5900 + n.val) 4 0 (touch ses s)))))) :=
  congrArg Host.Outcome.next (serve_done ses _ s _ hs (clearSource_set ses n.val _ hlisted (by simpa using hdev)
    (by simpa using hterminal) (by simpa using hclass) hsecurity (by simpa using hrole) hlevel (by simpa using hset)))

theorem exec_clearSource_stands (ses : Session) (n : Fin 256) (s : State) (hs : Served ses s) (hlisted : sourceRow n.val ≠ none)
    (hstands : s.dev = .terminal ∨ s.faults.terminal = true ∨ srcClass n.val s = 3 ∨
      (srcLevel n.val = true ∧ s.faults.condition.contains n.val = true ∧ 2 ≤ roleOf ses s)) :
    exec (.clearSource ses n) s = .next (emit (.answer ses 0x08000022 []) (touch ses s)) :=
  congrArg Host.Outcome.next (serve_refused ses _ s _ _ hs (clearSource_stands ses n.val _ hlisted (by simpa using hstands)))

theorem clearFirst_granted (ses : Session) (s : State) (hdev : s.dev ≠ .terminal) (hrole : 1 ≤ roleOf ses s) :
    clearFirst ses s = (
      let t := if reg 0x5800 6 s = 3 then s else setReg 0x5800 4 0xFFFF (setReg 0x5800 5 0 (setReg 0x5800 6 0xFF s))
      setReg 0x5800 7 2 (setReg 0x5801 3 0xFFFF (setReg 0x5801 7 0 (setReg 0x5801 2 0xFFFF (setReg 0x5801 6 0
        (setReg 0x5801 1 0xFFFF (setReg 0x5801 5 0 t)))))), 0) := by
  rw [clearFirst, notTerminal_past _ _ hdev, needRole_granted _ _ _ _ hrole]
  simp only [beq_iff_eq]
  rfl

theorem exec_clearFirstFaults_granted (ses : Session) (s : State) (hs : Served ses s) (hdev : s.dev ≠ .terminal)
    (hrole : 1 ≤ roleOf ses s) :
    exec (.clearFirstFaults ses) s = .next (answered ses
      (let t := touch ses s
      let t := if reg 0x5800 6 s = 3 then t else setReg 0x5800 4 0xFFFF (setReg 0x5800 5 0 (setReg 0x5800 6 0xFF t))
      setReg 0x5800 7 2 (setReg 0x5801 3 0xFFFF (setReg 0x5801 7 0 (setReg 0x5801 2 0xFFFF (setReg 0x5801 6 0
        (setReg 0x5801 1 0xFFFF (setReg 0x5801 5 0 t)))))))) := by
  have hclear := clearFirst_granted ses (touch ses s) (by simpa using hdev) (by simpa using hrole)
  rw [touch_reg'] at hclear
  exact congrArg Host.Outcome.next (serve_done ses _ s _ hs hclear)

/-! ### The ball SAFE_N, and the ends of conditions -/

theorem exec_safeNReadbackMismatch_seen (s : State) (hon : coreOn s = true) (hdriven : safeNLow s = true)
    (hball : s.faults.ballLow = true) :
    exec .safeNReadbackMismatch s = .next (fire 0xE3 0 { s with faults := { s.faults with ballLow := false } }) :=
  congrArg Host.Outcome.next (if_pos (by simp [hon, hdriven, hball]))

/-- Sources 0x40, 0x47 and 0x48 alone end more than their condition. -/
theorem exec_levelConditionEnd_plain (n : Fin 256) (s : State) (h40 : n.val ≠ 0x40) (h47 : n.val ≠ 0x47) (h48 : n.val ≠ 0x48) :
    exec (.levelConditionEnd n) s = .next { s with faults := { s.faults with
      condition := setDel n.val s.faults.condition, errInLow := if n.val = 0xE0 then false else s.faults.errInLow } } := by
  change execLevelConditionEnd n s = _
  simp [execLevelConditionEnd, railsBack, h40, h47, h48]

/-- Settles O59: the branch of each command that the state of its clause takes. -/
theorem reactionsEndAndSourcesClear : Obligations.ReactionsEndAndSourcesClear :=
  ⟨exec_reactionComplete_safe, exec_reactionComplete_degrade, exec_clearSource_set, exec_clearSource_stands,
    exec_clearFirstFaults_granted, exec_safeNReadbackMismatch_seen,
    fun n s _ ⟨h40, h47, h48⟩ => exec_levelConditionEnd_plain n s h40 h47 h48⟩

end Sys2Proof.Machine
end

section
/-!
The steering of local time (R266, R272, R274, R275, R276): the Sync and the edge that run the servo, the two losses that lead into holdover,
its limit, and O39. What the servo corrects by and the rate ratio of an edge are left open (assumption log 44).
-/
namespace Sys2Proof.Machine

theorem exec_syncReceive_steers (m : SyncInfo) (s : State) (hsource : cfg 0x3800 3 s = 1) (hinst : cfg (iP (cfg 0x3800 4 s)) 1 s = 1)
    (hruns : ptpRuns s = true)
    (hport : ((List.range 22).any fun p => steersFrom p s && portUp p s && reg (0x3820 + p) 0x0A s == 1) = true) :
    exec (.syncReceive m) s = .next (settle 4 (servo m.offset m.ratio (heardSync (cfg 0x3800 4 s) s))) := by
  change execSyncReceive m s = _
  simp [execSyncReceive, hsource, hinst, hruns, hport]

theorem exec_syncReceive_unprocessed (m : SyncInfo) (s : State) (hsource : cfg 0x3800 3 s = 1)
    (hinst : cfg (iP (cfg 0x3800 4 s)) 1 s = 1) (hruns : ptpRuns s = false) :
    exec (.syncReceive m) s = .next (count (iP (cfg 0x3800 4 s)) 0x0D s) := by
  change execSyncReceive m s = _
  simp [execSyncReceive, hsource, hinst, hruns]

/-- The offset of an instant from its nearest whole second (R274). -/
def secondOffset (t : Nat) : Int :=
  if 500000000 ≤ t % 1000000000 then (t % 1000000000 : Nat) - 1000000000 else (t % 1000000000 : Nat)

theorem exec_ppsInEdge_steers (s : State) (hsource : cfg 0x3800 3 s = 2) (hruns : ptpRuns s = true) :
    exec .ppsInEdge s = .next (settle 4 (servo (secondOffset (nowNs s)) ((freeNow s % 34359739 : Nat) - aLimit)
      (useFree { s with time := { s.time with ppsIn := wall s } }))) := by
  have hcond : ¬ (cfg 0x3800 3 s ≠ 2 || !ptpRuns s) = true := by simp [hsource, hruns]
  exact congrArg Host.Outcome.next (if_neg hcond)

/-! ### Holdover (R276) -/

/-- A locked clock enters holdover: it runs on at its last rate ratio. -/
theorem enterHoldover_locked (start : Nat) (s : State) (hlocked : reg 0x3800 6 s = 3) :
    enterHoldover start s = (
      let t := setReg 0x3800 5 (ofInt 32 s.time.ratio) (setReg 0x3800 6 4 s)
      let t := count 0x3801 5 (setReg 0x3801 2 (time80 start) (setReg 0x3801 1 1 t))
      owe 0xC0 0 { t with time := { s.time with holdAt := wall s, inLock := 0 } }) := by
  simp [enterHoldover, hlocked]

/-- Local time has lost its master; a device that is not set to assume the role of the grandmaster does not. -/
def loseMaster (d : Nat) (s : State) : State := setPtpInst d { ptpInst d s with assumed := false } (setReg (iP d) 9 0 s)

theorem exec_syncReceiptTimeout_due (s : State) (hsource : cfg 0x3800 3 s = 1) (hmaster : reg (iP (cfg 0x3800 4 s)) 9 s = 1)
    (hdue : due (ptpInst (cfg 0x3800 4 s) s).lastSync (cfg (iP (cfg 0x3800 4 s)) 7 s * syncInterval (cfg 0x3800 4 s) s) s = true)
    (hbridge : cfg (iP (cfg 0x3800 4 s)) 3 s = 0) :
    exec .syncReceiptTimeout s = .next (settle 4 (enterHoldover (nowNs s) (loseMaster (cfg 0x3800 4 s) s))) := by
  have hcond : (cfg 0x3800 3 s == 1 && reg (iP (cfg 0x3800 4 s)) 9 s == 1 && due (ptpInst (cfg 0x3800 4 s) s).lastSync
      (cfg (iP (cfg 0x3800 4 s)) 7 s * syncInterval (cfg 0x3800 4 s) s) s) = true := by simp [hsource, hmaster, hdue]
  have hrole : (cfg (iP (cfg 0x3800 4 s)) 3 s == 1 && cfg (iP (cfg 0x3800 4 s)) 8 s == 1) = false := by simp [hbridge]
  refine congrArg Host.Outcome.next ((if_pos hcond).trans ?_)
  rw [hrole]
  rfl

theorem exec_ppsInTimeout_due (s : State) (hsource : cfg 0x3800 3 s = 2) (hdue : due s.time.ppsIn 2000000000 s = true) :
    exec .ppsInTimeout s = .next (settle 4 (enterHoldover (nowNs s) s)) :=
  congrArg Host.Outcome.next (if_pos (by simp [hsource, hdue]))

theorem exec_holdoverLimit_due (s : State) (hlimit : reg 0x3801 4 s ≠ 0) (hheld : reg 0x3801 1 s = 1)
    (hdue : due s.time.holdAt (ms 1000 * reg 0x3801 4 s) s = true) :
    exec .holdoverLimit s = .next (fire 0xC6 0 s) :=
  congrArg Host.Outcome.next (if_pos (by simp [hlimit, hheld, hdue]))

/-- Settles O39: when each event acts, and what it runs. -/
theorem localTimeIsSteered : Obligations.LocalTimeIsSteered := by
  refine ⟨exec_syncReceive_steers, exec_syncReceive_unprocessed, exec_ppsInEdge_steers, ?_, ?_, exec_holdoverLimit_due⟩
  · intro s hsource hmaster hdue hbridge _
    exact exec_syncReceiptTimeout_due s hsource hmaster hdue hbridge
  · intro s hsource hdue hlocked
    rw [exec_ppsInTimeout_due s hsource hdue, enterHoldover_locked (nowNs s) s hlocked]

end Sys2Proof.Machine
end

section
/-!
The device's sleep and wake (R290, R292, R293, R301, R303, R304, R450) and the fail-safe path (R308, R309, R310), and O44. What the report
of sleep-ready seals for a depth is the model's choice (assumption log 87).
-/
namespace Sys2Proof.Machine

/-! ### Going to sleep (R290, R292, R293, R301) -/

theorem exec_sleepReady_committed (s : State) (hcommitted : s.wake.committed = true) (hready : s.wake.ready = false)
    (hopen : reg 0x5040 8 s = 1) (hcore : s.access.coreUp = true) :
    exec .sleepReady s = .next (setReg 0x5040 8 0
      (let t := flushLog (copyFreshness s)
      { t with
        wake := { t.wake with ready := true }
        power := { t.power with calibrated := decide (cfg 0x5040 1 s ≠ 1) }
        crust := { t.crust with sealedDigest := decide (cfg 0x5040 1 s ≠ 0) } })) :=
  congrArg Host.Outcome.next (if_pos (by simp [hcommitted, hready, hopen, hcore]))

theorem exec_deviceSleepEntry_ready (s : State) (hdev : s.dev = .sleepPrep) (hcommitted : s.wake.committed = true)
    (hready : s.wake.ready = true) (hasleep : (memberClusters s).all (fun c => clusterState c s == 0) = true) :
    exec .deviceSleepEntry s = .next (settle 4 (withInh (stopCore (if cfg 0x5040 1 s = 1 then 2 else 1)) s)) := by
  have hcond : (s.dev = .sleepPrep && s.wake.committed && s.wake.ready &&
      (memberClusters s).all (fun c => clusterState c s == 0)) = true := by simp [hdev, hcommitted, hready, hasleep]
  change execDeviceSleepEntry s = _
  simp only [execDeviceSleepEntry, if_pos hcond, beq_iff_eq]

theorem exec_warmDwellLimit_due (s : State) (hwarm : s.power.sleep = 1) (hdepth : cfg 0x5040 1 s = 2) (hcalled : s.wake.called = none)
    (hdue : due s.wake.sleptAt (cfg 0x5040 2 s * 60000000000) s = true) :
    exec .warmDwellLimit s = .next (emit (.ball "INH_OUT0" 0) (setReg 0x5030 2 0 (setReg 0x5040 9 1
      { s with power := { s.power with sleep := 2 } }))) :=
  congrArg Host.Outcome.next (if_pos (by simp [hwarm, hdepth, hcalled, hdue]))

/-! ### Waking (R303, R304, R450) -/

/-- A wake that is called in a warm sleep is served by what the retention still holds. -/
theorem exec_warmWake_called (n : Nat) (s : State) (hcalled : s.wake.called = some n) (hwarm : s.power.sleep = 1)
    (haon : s.power.aonUp = true) :
    exec .warmWake s = .next (if s.power.retentionLost then coldWake n s else settle 8 (withInh (warmWake n) s)) := by
  have hcond : ¬ (s.power.sleep ≠ 1 || !s.power.aonUp) = true := by simp [hwarm, haon]
  change execWarmWake s = _
  simp only [execWarmWake, hcalled, if_neg hcond]

theorem exec_warmWake_retained (n : Nat) (s : State) (hcalled : s.wake.called = some n) (hwarm : s.power.sleep = 1)
    (haon : s.power.aonUp = true) (hretained : s.power.retentionLost = false) :
    exec .warmWake s = .next (settle 8 (withInh (warmWake n) s)) := by
  rw [exec_warmWake_called n s hcalled hwarm haon, if_neg (by simp [hretained])]

theorem exec_warmWake_lost (n : Nat) (s : State) (hcalled : s.wake.called = some n) (hwarm : s.power.sleep = 1)
    (haon : s.power.aonUp = true) (hlost : s.power.retentionLost = true) :
    exec .warmWake s = .next (coldWake n s) := by
  rw [exec_warmWake_called n s hcalled hwarm haon, if_pos hlost]

/-- From a cold sleep the XTAL amplifier starts again (R450). -/
theorem coldWake_from_cold (n : Nat) (s : State) (hcold : s.power.sleep = 2) :
    coldWake n s = each ((memberClusters s).map fun c => (c, if bit (wakeSet n s) c then 1 else 0))
      (fun x s => setReg (nP x.1) 0x0A x.2 s) (setReg 0x5030 2 1 (holdReset 7 (inhHigh s))) := by
  rw [coldWake, hcold]
  rfl

theorem exec_coldWake_called (n : Nat) (s : State) (hcalled : s.wake.called = some n) (hcold : s.power.sleep = 2)
    (hbus : s.power.busUp = true) (haon : s.power.aonUp = true) : exec .coldWake s = .next (coldWake n s) := by
  change execColdWake s = _
  simp [execColdWake, hcalled, hcold, hbus, haon]

theorem exec_wakeDone_reported (s : State) (hopen : reg 0x5040 8 s = 2) (hcore : s.access.coreUp = true)
    (hdev : s.dev = .operate ∨ s.dev = .configure) :
    exec .wakeDone s = .next (setReg 0x5043 2 0 (setReg 0x5040 8 0 s)) :=
  congrArg Host.Outcome.next (if_pos (by simpa [hopen, hcore] using hdev))

/-! ### The fail-safe path (R308, R310) -/

theorem exec_wakeWatchdogExpiry_due (s : State) (hopen : reg 0x5040 8 s ≠ 0) (hreset : s.power.reset = 0)
    (hext : s.power.extending = none) (hawake : s.power.sleep = 0) (haon : s.power.aonUp = true) (hverified : srcSet 0xA2 s = false)
    (hboot : field (reg 0x5050 1 s) 0 2 ≠ 1) (hdue : due s.wake.watchdog (ms 500) s = true) :
    exec .wakeWatchdogExpiry s = .next (settle 4 (withInh (failSafe (reg 0x5040 8 s)) s)) :=
  congrArg Host.Outcome.next
    (if_pos (by simp [hopen, hreset, hext, hawake, haon, watchdogHeld, hverified, hboot, hdue]))

theorem exec_safeSleepTimeout_due (s : State) (hdev : s.dev = .safe ∨ s.dev = .terminal) (hlimit : cfg 0x5040 4 s ≠ 0)
    (hdue : due s.wake.safeAt (cfg 0x5040 4 s * 1000000000) s = true) (hawake : s.power.sleep = 0) (haon : s.power.aonUp = true) :
    exec .safeSleepTimeout s = .next (settle 4 (withInh (failSafe 3) s)) :=
  congrArg Host.Outcome.next (if_pos (by simpa [hlimit, hdue, hawake, haon] using hdev))

/-- Settles O44: when each event of the sleep, the wake and the fail-safe path acts, and on what. -/
theorem deviceSleepsAndWakes : Obligations.DeviceSleepsAndWakes := by
  refine ⟨exec_sleepReady_committed, exec_deviceSleepEntry_ready, exec_warmDwellLimit_due, exec_warmWake_retained, exec_warmWake_lost,
    ?_, exec_wakeDone_reported, exec_wakeWatchdogExpiry_due, exec_safeSleepTimeout_due⟩
  intro n s hcalled hcold hbus haon
  rw [exec_coldWake_called n s hcalled hcold hbus haon, coldWake_from_cold n s hcold]

end Sys2Proof.Machine
end

section
/-!
Resets and their releases (R452, R461, R463) and the supplies (R447, R448, R449, R450, R488), and O45. That a loss of VDDIO_BUS is a reset
of cause 2 is the model's choice (assumption log 96).
-/
namespace Sys2Proof.Machine

/-! ### Releases (R452) -/

theorem release_stable (s : State) (hxtal : reg 0x5030 2 s = 2) : release s = startUp s := by simp [release, hxtal]

/-- Until XTAL is stable the reset is extended. -/
theorem release_unstable (s : State) (hxtal : reg 0x5030 2 s ≠ 2) :
    release s = { s with power := { s.power with extending := some (wall s) } } := by simp [release, hxtal]

/-! ### Resets (R461) -/

theorem exec_porstNAssert_awake (s : State) (hreset : s.power.reset ≠ 1 ∧ s.power.reset ≠ 7) (hawake : s.power.sleep = 0)
    (haon : s.power.aonUp = true) : exec .porstNAssert s = .next (holdReset 2 s) := by
  obtain ⟨haonLost, hcold⟩ := hreset
  have hcond : ¬ (s.power.reset == 1 || s.power.reset == 7 || (s.power.sleep == 2 && s.power.reset == 0) || !s.power.aonUp) = true := by
    simp [haonLost, hcold, hawake, haon]
  refine congrArg Host.Outcome.next ((if_neg hcond).trans ?_)
  rw [hawake]
  rfl

/-- The straps stand below the level of VDDIO_GEN in the operand (R463). -/
theorem vddioGen_of_straps (v : Nat) (hv : v < 1024) : b2n (bit v 9) = v / 512 := by
  by_cases hhigh : v / 512 = 1
  · simp [b2n, bit, hhigh]
  · have hlow : v / 512 = 0 := by omega
    simp [b2n, bit, hlow]

theorem exec_porstNRelease_supplied (v : Fin 1024) (s : State) (hreset : s.power.reset = 1 ∨ s.power.reset = 2 ∨ s.power.reset = 7)
    (haon : s.power.aonUp = true) (hbus : s.power.busUp = true) (hext : s.power.extending = none) :
    exec (.porstNRelease v) s = .next (release (setReg 0x5050 6 (v.val / 512) (setReg 0x5050 1 (strapsShown v.val) s))) := by
  have hcond : ((s.power.reset == 1 || s.power.reset == 2 || s.power.reset == 7) && s.power.aonUp && s.power.busUp &&
      s.power.extending.isNone) = true := by simpa [haon, hbus, hext, or_assoc] using hreset
  rw [← vddioGen_of_straps v.val v.isLt]
  exact congrArg Host.Outcome.next (if_pos hcond)

theorem exec_rstNReset_powered (s : State) (hreset : s.power.reset = 0) (haon : s.power.aonUp = true) (hsleep : s.power.sleep ≠ 2) :
    exec .rstNReset s = .next (holdReset 3 s) :=
  congrArg Host.Outcome.next (if_pos (by simp [execRstNReset.coreOn_, hreset, haon, hsleep]))

theorem exec_rstNRelease_held (s : State) (hreset : s.power.reset = 3) (hext : s.power.extending = none) :
    exec .rstNRelease s = .next (release s) :=
  congrArg Host.Outcome.next (if_pos (by simp [hreset, hext]))

theorem softwareReset_granted (ses : Session) (s : State) (hdev : s.dev ≠ .terminal) (hrole : 2 ≤ roleOf ses s) :
    softwareReset ses s = (s, 0) := by
  rw [softwareReset, notTerminal_past _ _ hdev, needRole_granted _ _ _ _ hrole]
  rfl

/-- A software reset is answered before it is carried out. -/
theorem exec_softwareReset_granted (ses : Session) (s : State) (hs : Served ses s) (hdev : s.dev ≠ .terminal)
    (hrole : 2 ≤ roleOf ses s) :
    exec (.softwareReset ses) s = .next (release (holdReset 4 (answered ses (touch ses s)))) := by
  obtain ⟨hboot, hcatch, hlive, -⟩ := id hs
  have hreset := softwareReset_granted ses (touch ses s) (by simpa using hdev) (by simpa using hrole)
  have hcode : (serveWith ses (softwareReset ses) s).2 = 0 := by rw [serveWith_served ses _ s hs, hreset]
  change execSoftwareReset ses s = _
  simp [execSoftwareReset, hcode, hboot, hcatch, hlive, serve_done ses _ s _ hs hreset]

theorem exec_supplyReset_awake (s : State) (hreset : s.power.reset = 0) (haon : s.power.aonUp = true) (hawake : s.power.sleep = 0) :
    exec .supplyReset s = .next (holdReset 5 s) :=
  congrArg Host.Outcome.next (if_pos (by simp [hreset, haon, hawake]))

theorem exec_supplyResetRelease_held (s : State) (hreset : s.power.reset = 5) (hext : s.power.extending = none) :
    exec .supplyResetRelease s = .next (release s) :=
  congrArg Host.Outcome.next (if_pos (by simp [hreset, hext]))

/-! ### Supplies (R447–R450, R488) -/

theorem exec_railOutOfRange_monitored (r : Fin 16) (low : Bool) (s : State) (hr : r.val < 8) (haonRail : r.val ≠ 4)
    (hawake : s.power.sleep = 0) (hreset : s.power.reset = 0) (haon : s.power.aonUp = true) :
    exec (.railOutOfRange r low) s = .next (fire (if r.val = 0 then 0x47 else 0x48) (if low then r.val + 256 else r.val)
      { s with power := { s.power with rails := setIns r.val s.power.rails } }) := by
  have hcond : ¬ (r.val ≥ 8 || r.val == 4 || s.power.sleep ≠ 0 || s.power.reset ≠ 0 || !s.power.aonUp) = true := by
    simp [hr, haonRail, hawake, hreset, haon]
  have hdata : r.val + 256 * b2n low = if low then r.val + 256 else r.val := by cases low <;> rfl
  change execRailOutOfRange r low s = _
  simp only [execRailOutOfRange, if_neg hcond, hdata, beq_iff_eq]

theorem exec_retentionLost_warm (s : State) (hwarm : s.power.sleep = 1) :
    exec .retentionLost s = .next { s with power := { s.power with retentionLost := true } } :=
  congrArg Host.Outcome.next (if_pos (by simp [hwarm]))

theorem exec_vddAonReturn_lost (s : State) (haon : s.power.aonUp = false) (hbus : s.power.busUp = true) :
    exec .vddAonReturn s = .next (inhHigh (setReg 0x5030 2 1 { s with power := { s.power with aonUp := true } })) := by
  change execVddAonReturn s = _
  simp [execVddAonReturn, haon, hbus]

/-- The handshake ends and no wake is called any more. -/
def dropHandshake (s : State) : State := setReg 0x5040 8 0 { s with wake := { s.wake with called := none } }

theorem exec_vddioBusLoss_up (s : State) (hbus : s.power.busUp = true) (hreset : s.power.reset ≠ 1) :
    exec .vddioBusLoss s = .next (dropHandshake (holdReset 2 { s with power := { s.power with busUp := false } })) := by
  change execVddioBusLoss s = _
  simp [execVddioBusLoss, hbus, hreset, dropHandshake]

theorem exec_vddioBusReturn_lost (s : State) (hbus : s.power.busUp = false) (haon : s.power.aonUp = true) :
    exec .vddioBusReturn s = .next (inhHigh { s with power := { s.power with busUp := true } }) := by
  change execVddioBusReturn s = _
  simp [execVddioBusReturn, hbus, haon]

/-- Settles O45: the guard of each event, the two ends of a release, and the operands that straps and rails bring. -/
theorem resetsAndSupplies : Obligations.ResetsAndSupplies := by
  refine ⟨exec_porstNAssert_awake, ?_, exec_rstNReset_powered, ?_, ?_, ?_, exec_supplyReset_awake, exec_supplyResetRelease_held,
    exec_railOutOfRange_monitored, exec_retentionLost_warm, fun _ => rfl, exec_vddAonReturn_lost, exec_vddioBusLoss_up,
    exec_vddioBusReturn_lost⟩
  · intro v s hreset haon hbus hext
    rw [exec_porstNRelease_supplied v s hreset haon hbus hext]
    simp only [strapsShown, beq_iff_eq]
  · intro s hreset hext hxtal
    rw [exec_rstNRelease_held s hreset hext, release_stable s hxtal]
  · intro s hreset hext hxtal
    rw [exec_rstNRelease_held s hreset hext, release_unstable s hxtal]
  · intro ses s hs _ ⟨_, _, hterminal⟩ hrole
    exact exec_softwareReset_granted ses s hs hterminal hrole

end Sys2Proof.Machine
end

section
/-!
Key slots (R377 to R380): what each key command does where its checks pass, and where the key does not open or does not check.
-/
namespace Sys2Proof.Machine

/-! ### Reads of the Crust that an access leaves as they are -/

@[simp] theorem lifecycle_touch (ses : Session) (s : State) : lifecycle (touch ses s) = lifecycle s := touch_reg' _ _ _ _

@[simp] theorem keySelect_touch (ses : Session) (s : State) : keySelect (touch ses s) = keySelect s := touch_reg' _ _ _ _

@[simp] theorem keyInput_touch (ses : Session) (s : State) : keyInput (touch ses s) = keyInput s := by simp [keyInput]

@[simp] theorem keySlot_touch (n : Nat) (ses : Session) (s : State) : keySlot n (touch ses s) = keySlot n s :=
  touch_same (keySlot n) (fun _ _ => rfl) ses s

@[simp] theorem slotValue_touch (n : Nat) (ses : Session) (s : State) : slotValue n (touch ses s) = slotValue n s := by
  simp [slotValue]

@[simp] theorem slotInUse_touch (n : Nat) (ses : Session) (s : State) : slotInUse n (touch ses s) = slotInUse n s :=
  touch_same (slotInUse n) (fun _ _ => rfl) ses s

@[simp] theorem saUses_touch (n : Nat) (ses : Session) (s : State) : saUses n (touch ses s) = saUses n s := by simp [saUses]

@[simp] theorem trngWorks_touch (ses : Session) (s : State) : trngWorks (touch ses s) = trngWorks s := by simp [trngWorks]

@[simp] theorem saSelect_touch (ses : Session) (s : State) : saSelect (touch ses s) = saSelect s := by simp [saSelect]

@[simp] theorem sa_touch (k : Nat) (ses : Session) (s : State) : sa k (touch ses s) = sa k s :=
  touch_same (sa k) (fun _ _ => rfl) ses s

@[simp] theorem pnMax_touch (p : Nat) (ses : Session) (s : State) : pnMax p (touch ses s) = pnMax p s :=
  touch_same (pnMax p) (fun _ _ => rfl) ses s

@[simp] theorem macBytes_touch (slot n : Nat) (b : Bytes) (ses : Session) (s : State) :
    macBytes slot n b (touch ses s) = macBytes slot n b s := touch_same (macBytes slot n b) (fun _ _ => rfl) ses s

/-! ### Key commands (R379, R380) -/

/-- The Crust has erased the input, and the command reads its result. -/
def endKeyCommand (v : Nat) (s : State) : State := setReg 0x6020 8 v (setReg 0x6020 7 0 s)

theorem keyCommand_done (f : Svc) (s t : State) (hdev : s.dev ≠ .terminal) (hlife : lifecycle s ≠ 3) (hf : f s = (t, 0)) :
    keyCommand f s = (endKeyCommand 2 t, 0) := by
  rw [keyCommand, notTerminal_past _ _ hdev]
  simp [hlife, hf, endKeyCommand]

theorem keyCommand_refused (f : Svc) (s : State) (c : Nat) (hc : c ≠ 0) (hdev : s.dev ≠ .terminal) (hlife : lifecycle s ≠ 3)
    (hf : f s = (s, c)) : keyCommand f s = (endKeyCommand 3 s, c) := by
  rw [keyCommand, notTerminal_past _ _ hdev]
  simp [hlife, hf, hc, endKeyCommand]

/-- The input describes a volatile symmetric key that the selected slot may hold (R377, R379). -/
def SymmetricInput (s : State) : Prop :=
  keySelect s = byteAt (keyInput s) 0 ∧ (byteAt (keyInput s) 1 = 1 ∨ byteAt (keyInput s) 1 = 2) ∧
    symmetricFits (keySelect s) (leNat (slice 2 2 (keyInput s))) = true ∧
    leNat (slice 5 3 (keyInput s)) = 0 ∧ byteAt (keyInput s) 4 = 0

theorem SymmetricInput.touch (ses : Session) (s : State) (h : SymmetricInput s) : SymmetricInput (touch ses s) := by
  simpa [SymmetricInput] using h

theorem keyHead_volatile (l : Bytes) (hreserved : leNat (slice 5 3 l) = 0) (hvolatile : byteAt l 4 = 0) :
    keyHead l = (byteAt l 0, byteAt l 1, leNat (slice 2 2 l), false, true) := by simp [keyHead, hreserved, hvolatile]

/-- What the sealing key opens of a blob: the key, where the blob is the device's own and intact (R379). -/
def blobKey (s : State) : Option Bytes :=
  Config.gcmOpen (slotValue 0xE1 s) (beNat (slice 8 12 (keyInput s)))
    ((keyInput s).take 8 ++ leBytes 4 serialNo ++ slice 20 48 (keyInput s))

@[simp] theorem blobKey_touch (ses : Session) (s : State) : blobKey (touch ses s) = blobKey s := by simp [blobKey]

section
variable (ses : Session) (s : State) (hdev : s.dev ≠ .terminal) (hlife : lifecycle s ≠ 3) (hinput : SymmetricInput s)
  (hrole : usageRole (keySelect s) (leNat (slice 2 2 (keyInput s))) ≤ roleOf ses s) (huse : slotInUse (keySelect s) s = false)
include hdev hlife hinput hrole huse

theorem loadBlob_opened (k : Bytes) (hopen : blobKey s = some k) :
    loadBlob ses s = (endKeyCommand 2 (putKey (keySelect s) ⟨byteAt (keyInput s) 1, leNat (slice 2 2 (keyInput s)), 1, false,
      keyOf (byteAt (keyInput s) 1) k⟩ (roleOf ses s) s), 0) := by
  obtain ⟨hslot, htype, hfits, hreserved, hvolatile⟩ := hinput
  refine keyCommand_done _ s _ hdev hlife ?_
  rw [blobKey, List.append_assoc] at hopen
  rcases htype with htype | htype <;>
    simp [keyHead_volatile _ hreserved hvolatile, ← hslot, htype, hfits, huse, hopen, done, Nat.not_lt.mpr hrole]

theorem loadBlob_unopened (hopen : blobKey s = none) : loadBlob ses s = (endKeyCommand 3 s, 0x06090030) := by
  obtain ⟨hslot, htype, hfits, hreserved, hvolatile⟩ := hinput
  refine keyCommand_refused _ s _ (by decide) hdev hlife ?_
  rw [blobKey, List.append_assoc] at hopen
  rcases htype with htype | htype <;>
    simp [keyHead_volatile _ hreserved hvolatile, ← hslot, htype, hfits, huse, hopen, deny, Nat.not_lt.mpr hrole]

end

theorem importPublic_transport (ses : Session) (s : State) (hdev : s.dev ≠ .terminal) (hlife : lifecycle s ≠ 3)
    (hslot : keySelect s = 0xE5) (hpoint : byteAt (keyInput s) 0 = 4) (hrole : 3 ≤ roleOf ses s) :
    importPublic ses s = (endKeyCommand 2
      (putKey 0xE5 ⟨3, 0x20, 3, true, beNat ((keyInput s).take 65)⟩ (roleOf ses s) s), 0) := by
  refine keyCommand_done _ s _ hdev hlife ?_
  have hneeds : ¬ roleOf ses s < usageRole 0xE5 0x20 := Nat.not_lt.mpr hrole
  simp [hslot, hpoint, done, hneeds]

section
variable (ses : Session) (s : State) (hdev : s.dev ≠ .terminal) (hlife : lifecycle s ≠ 3) (hslot : keySelect s < 0xE0)
  (htrng : trngWorks s = true) (huse : slotInUse (keySelect s) s = false ∧ saUses (keySelect s) s = false)
  (hkek : bit (keySlot (reg 0x6030 1 s) s).usage 1 = true) (hshort : leNat (slice 24 16 (keyInput s)) = 0)
include hdev hlife hslot htrng huse hkek hshort

theorem unwrapSak_opened (v : Nat) (hopen : Config.unwrap (keySlot (reg 0x6030 1 s) s).value ((keyInput s).take 24) = some v) :
    unwrapSak ses s = (endKeyCommand 2 (putKey (keySelect s) ⟨1, 1, 2, false, v⟩ (roleOf ses s) s), 0) := by
  refine keyCommand_done _ s _ hdev hlife ?_
  simp [Nat.not_le.mpr hslot, htrng, huse, hkek, hshort, hopen, done]

theorem unwrapSak_unopened (hopen : Config.unwrap (keySlot (reg 0x6030 1 s) s).value ((keyInput s).take 24) = none) :
    unwrapSak ses s = (endKeyCommand 3 s, 0x06090030) := by
  refine keyCommand_refused _ s _ (by decide) hdev hlife ?_
  simp [Nat.not_le.mpr hslot, htrng, huse, hkek, hshort, hopen, deny]

end

/-- Slot n holds no key, nor does the flash for it (R380). -/
def dropKey (n : Nat) (s : State) : State :=
  { s with crust := { s.crust with slots := tdel s.crust.slots n, stored := tdel s.crust.stored n } }

theorem eraseKey_free (ses : Session) (s : State) (hdev : s.dev ≠ .terminal) (hlife : lifecycle s ≠ 3) (hslot : keySelect s < 0xE0)
    (hrole : usageRole (keySelect s) (keySlot (keySelect s) s).usage ≤ roleOf ses s) (huse : slotInUse (keySelect s) s = false) :
    eraseKey ses s = (endKeyCommand 2 (let k := keySlot (keySelect s) s
      refreshEval (sealRecord 0x000C (roleOf ses s) [keySelect s, k.usage, k.origin, leNat (checkBytes k)]
        (dropKey (keySelect s) s))), 0) := by
  have hfree : ¬ (0xE0 ≤ keySelect s ∧ keySelect s ≤ 0xE4 ∨ 0xEB ≤ keySelect s ∧ keySelect s ≤ 0xEF) := by omega
  have hmaker : ¬ 0xFC ≤ keySelect s := by omega
  refine keyCommand_done _ s _ hdev hlife ?_
  simp [hfree, hmaker, Nat.not_lt.mpr hrole, huse, done, dropKey]
  rfl

section
variable (ses : Session) (s : State) (hdev : s.dev ≠ .terminal) (hlife : lifecycle s = 1) (hrole : 4 ≤ roleOf ses s)
  (hinput : SymmetricInput s) (htype : byteAt (keyInput s) 1 = 2) (hzero : leNat (slice 44 84 (keyInput s)) = 0)
  (huse : slotInUse (keySelect s) s = false)

/-- The 256-bit key that a clear-import record gives. -/
def clearKey (l : Bytes) : KeySlot := ⟨2, leNat (slice 2 2 l), 5, false, keyOf 2 (slice 8 32 l)⟩

include hdev hlife hrole hinput htype hzero

include huse in
theorem clearImport_checked (hcheck : checkBytes (clearKey (keyInput s)) = slice 40 4 (keyInput s)) :
    clearImport ses s = (endKeyCommand 2 (putKey (keySelect s) (clearKey (keyInput s)) 4 s), 0) := by
  obtain ⟨hslot, -, hfits, hreserved, hvolatile⟩ := hinput
  refine keyCommand_done _ s _ hdev (by simp [hlife]) ?_
  rw [clearKey] at hcheck
  simp [keyHead_volatile _ hreserved hvolatile, ← hslot, htype, hfits, huse, hlife, Nat.not_lt.mpr hrole, hzero, hcheck, done, clearKey]

theorem clearImport_unchecked (hcheck : checkBytes (clearKey (keyInput s)) ≠ slice 40 4 (keyInput s)) :
    clearImport ses s = (endKeyCommand 3 s, 0x06090030) := by
  obtain ⟨hslot, -, hfits, hreserved, hvolatile⟩ := hinput
  refine keyCommand_refused _ s _ (by decide) hdev (by simp [hlife]) ?_
  rw [clearKey] at hcheck
  simp [keyHead_volatile _ hreserved hvolatile, ← hslot, htype, hfits, hlife, Nat.not_lt.mpr hrole, hzero, hcheck, deny]

end

/-! ### The commands of a session (R379) -/

section
variable (ses : Session) (s : State) (hs : Served ses s) (hdev : s.dev ≠ .terminal)
include hs hdev

section
variable (hlife : lifecycle s ≠ 3) (hinput : SymmetricInput s)
  (hrole : usageRole (keySelect s) (leNat (slice 2 2 (keyInput s))) ≤ roleOf ses s) (huse : slotInUse (keySelect s) s = false)
include hlife hinput hrole huse

theorem exec_loadWrappedBlob_opened (k : Bytes) (hopen : blobKey s = some k) :
    exec (.loadWrappedBlob ses) s = .next (answered ses (endKeyCommand 2 (putKey (keySelect s)
      ⟨byteAt (keyInput s) 1, leNat (slice 2 2 (keyInput s)), 1, false, keyOf (byteAt (keyInput s) 1) k⟩ (roleOf ses s)
      (touch ses s)))) := by
  have hload := loadBlob_opened ses (touch ses s) (by simpa using hdev) (by simpa using hlife) (hinput.touch ses s)
    (by simpa using hrole) (by simpa using huse) k (by simpa using hopen)
  simp only [keySelect_touch, keyInput_touch, touch_roleOf'] at hload
  exact congrArg Host.Outcome.next (serve_done ses _ s _ hs hload)

theorem exec_loadWrappedBlob_unopened (hopen : blobKey s = none) :
    exec (.loadWrappedBlob ses) s = .next (emit (.answer ses 0x06090030 []) (endKeyCommand 3 (touch ses s))) :=
  congrArg Host.Outcome.next (serve_refused ses _ s _ _ hs (loadBlob_unopened ses (touch ses s) (by simpa using hdev)
    (by simpa using hlife) (hinput.touch ses s) (by simpa using hrole) (by simpa using huse) (by simpa using hopen)))

end

theorem exec_importPublicKey_transport (hlife : lifecycle s ≠ 3) (hslot : keySelect s = 0xE5) (hpoint : byteAt (keyInput s) 0 = 4)
    (hrole : 3 ≤ roleOf ses s) :
    exec (.importPublicKey ses) s = .next (answered ses (endKeyCommand 2
      (putKey 0xE5 ⟨3, 0x20, 3, true, beNat ((keyInput s).take 65)⟩ (roleOf ses s) (touch ses s)))) := by
  have himport := importPublic_transport ses (touch ses s) (by simpa using hdev) (by simpa using hlife) (by simpa using hslot)
    (by simpa using hpoint) (by simpa using hrole)
  simp only [keyInput_touch, touch_roleOf'] at himport
  exact congrArg Host.Outcome.next (serve_done ses _ s _ hs himport)

section
variable (hlife : lifecycle s ≠ 3) (hslot : keySelect s < 0xE0) (htrng : trngWorks s = true)
  (huse : slotInUse (keySelect s) s = false ∧ saUses (keySelect s) s = false)
  (hkek : bit (keySlot (reg 0x6030 1 s) s).usage 1 = true) (hshort : leNat (slice 24 16 (keyInput s)) = 0)
include hlife hslot htrng huse hkek hshort

theorem exec_unwrapSak_opened (v : Nat)
    (hopen : Config.unwrap (keySlot (reg 0x6030 1 s) s).value ((keyInput s).take 24) = some v) :
    exec (.unwrapSak ses) s = .next (answered ses (endKeyCommand 2
      (putKey (keySelect s) ⟨1, 1, 2, false, v⟩ (roleOf ses s) (touch ses s)))) := by
  have hunwrap := unwrapSak_opened ses (touch ses s) (by simpa using hdev) (by simpa using hlife) (by simpa using hslot)
    (by simpa using htrng) (by simpa using huse) (by simpa using hkek) (by simpa using hshort) v (by simpa using hopen)
  simp only [keySelect_touch, touch_roleOf'] at hunwrap
  exact congrArg Host.Outcome.next (serve_done ses _ s _ hs hunwrap)

theorem exec_unwrapSak_unopened
    (hopen : Config.unwrap (keySlot (reg 0x6030 1 s) s).value ((keyInput s).take 24) = none) :
    exec (.unwrapSak ses) s = .next (emit (.answer ses 0x06090030 []) (endKeyCommand 3 (touch ses s))) :=
  congrArg Host.Outcome.next (serve_refused ses _ s _ _ hs (unwrapSak_unopened ses (touch ses s) (by simpa using hdev)
    (by simpa using hlife) (by simpa using hslot) (by simpa using htrng) (by simpa using huse) (by simpa using hkek)
    (by simpa using hshort) (by simpa using hopen)))

end

theorem exec_eraseKey_free (hlife : lifecycle s ≠ 3) (hslot : keySelect s < 0xE0)
    (hrole : usageRole (keySelect s) (keySlot (keySelect s) s).usage ≤ roleOf ses s) (huse : slotInUse (keySelect s) s = false) :
    exec (.eraseKey ses) s = .next (answered ses (endKeyCommand 2 (let k := keySlot (keySelect s) s
      refreshEval (sealRecord 0x000C (roleOf ses s) [keySelect s, k.usage, k.origin, leNat (checkBytes k)]
        (dropKey (keySelect s) (touch ses s)))))) := by
  have herase := eraseKey_free ses (touch ses s) (by simpa using hdev) (by simpa using hlife) (by simpa using hslot)
    (by simpa using hrole) (by simpa using huse)
  simp only [keySelect_touch, keySlot_touch, touch_roleOf'] at herase
  exact congrArg Host.Outcome.next (serve_done ses _ s _ hs herase)

section
variable (hlife : lifecycle s = 1) (hrole : 4 ≤ roleOf ses s) (hinput : SymmetricInput s) (htype : byteAt (keyInput s) 1 = 2)
  (hzero : leNat (slice 44 84 (keyInput s)) = 0)
include hlife hrole hinput htype hzero

theorem exec_clearImport_checked (huse : slotInUse (keySelect s) s = false)
    (hcheck : checkBytes (clearKey (keyInput s)) = slice 40 4 (keyInput s)) :
    exec (.clearImport ses) s = .next (answered ses (endKeyCommand 2
      (putKey (keySelect s) (clearKey (keyInput s)) 4 (touch ses s)))) := by
  have himport := clearImport_checked ses (touch ses s) (by simpa using hdev) (by simpa using hlife) (by simpa using hrole)
    (hinput.touch ses s) (by simpa using htype) (by simpa using hzero) (by simpa using huse) (by simpa using hcheck)
  simp only [keySelect_touch, keyInput_touch] at himport
  exact congrArg Host.Outcome.next (serve_done ses _ s _ hs himport)

theorem exec_clearImport_unchecked (hcheck : checkBytes (clearKey (keyInput s)) ≠ slice 40 4 (keyInput s)) :
    exec (.clearImport ses) s = .next (emit (.answer ses 0x06090030 []) (endKeyCommand 3 (touch ses s))) :=
  congrArg Host.Outcome.next (serve_refused ses _ s _ _ hs (clearImport_unchecked ses (touch ses s) (by simpa using hdev)
    (by simpa using hlife) (by simpa using hrole) (hinput.touch ses s) (by simpa using htype) (by simpa using hzero)
    (by simpa using hcheck)))

end

end

end Sys2Proof.Machine
end

section
/-!
The Crust's tests (R378, R381, R383), MACsec associations (R385), key agreement (R386) and module binding (R398), and O55.
-/
namespace Sys2Proof.Machine

/-! ### Errors and tests -/

/-- A parity error of a slot that holds a key (R378). -/
theorem exec_keyParityError_held (n : Fin 256) (s : State) (hheld : keySlot n.val s ≠ keySlot0) :
    exec (.keyParityError n) s = .next (refreshEval (fire 0xA6 n.val
      { s with crust := { s.crust with slots := tdel s.crust.slots n.val } })) :=
  congrArg Host.Outcome.next (if_neg hheld)

theorem exec_trngHealthFailure_works (s : State) (hworks : trngWorks s = true) :
    exec .trngHealthFailure s = .next (fire 0xA3 0 s) := congrArg Host.Outcome.next (if_pos hworks)

theorem exec_trngStartUpTest_passed (s : State) (hawaited : reg 0x6000 8 s = 0) :
    exec (.trngStartUpTest true) s = .next (refreshEval (setReg 0x6000 8 1 s)) :=
  congrArg Host.Outcome.next ((if_neg (not_not.mpr hawaited)).trans (if_pos rfl))

theorem exec_trngStartUpTest_failed (s : State) (hawaited : reg 0x6000 8 s = 0) :
    exec (.trngStartUpTest false) s = .next (fire 0xA4 0 (setReg 0x6000 8 2 s)) :=
  congrArg Host.Outcome.next ((if_neg (not_not.mpr hawaited)).trans (if_neg Bool.false_ne_true))

theorem exec_authUnitSelfTest_failed (s : State) (hworks : s.crust.authWorking = true) :
    exec (.authUnitSelfTest false) s = .next (fire 0xA5 0 s) :=
  congrArg Host.Outcome.next (if_pos hworks)

/-- A unit rejoins at a test in Boot or Catch (R383). -/
theorem exec_authUnitSelfTest_passed (s : State) (hdev : s.dev = .boot ∨ s.dev = .catch_) :
    exec (.authUnitSelfTest true) s = .next { s with crust := { s.crust with authWorking := true } } :=
  congrArg Host.Outcome.next (if_pos (c := (s.dev = .boot || s.dev = .catch_) = true) (by simpa using hdev))

/-! ### Associations (R385) -/

theorem writeAn_inRange (p an : Nat) (s : State) (hdev : s.dev ≠ .terminal) (han : an ≤ 3) :
    writeAn p an s = (setReg (pM p) 9 an s, 0) := by
  rw [writeAn, notTerminal_past _ _ hdev]
  exact if_neg (Nat.not_lt.mpr han)

theorem saCommand_taken (f : State → State) (s : State) (hdev : s.dev = .configure ∨ s.dev = .operate ∨ s.dev = .safe) :
    saCommand f s = (setReg 0x6180 0x0C 2 (f s), 0) := by
  rcases hdev with hdev | hdev | hdev <;> simp [saCommand, hdev, done]

/-- The record's fields show an association. -/
def showSa (x : SecAssoc) (s : State) : State :=
  setReg 0x6180 4 x.sci (setReg 0x6180 6 x.slot (setReg 0x6180 7 x.nextPn (setReg 0x6180 8 x.ssci (setReg 0x6180 9 x.salt
    (setReg 0x6180 0x0A (b2n x.enabled) (setReg 0x6180 0x0B x.lowest s))))))

theorem saRead_taken (s : State) (hdev : s.dev = .configure ∨ s.dev = .operate ∨ s.dev = .safe) :
    saRead s = (setReg 0x6180 0x0C 2 (showSa (sa (saSelect s) s) s), 0) := saCommand_taken _ s hdev

/-- The association that the record's fields describe, not enabled. -/
def shownSa (s : State) : SecAssoc :=
  ⟨reg 0x6180 4 s, reg 0x6180 6 s, reg 0x6180 7 s, reg 0x6180 8 s, reg 0x6180 9 s, false, reg 0x6180 7 s⟩

@[simp] theorem shownSa_touch (ses : Session) (s : State) : shownSa (touch ses s) = shownSa s := by simp [shownSa]

/-- An association that is not enabled needs no key. -/
theorem saWrite_disabled (s : State) (hdev : s.dev = .configure ∨ s.dev = .operate ∨ s.dev = .safe) (hoff : reg 0x6180 0x0A s = 0)
    (hpn : reg 0x6180 7 s ≤ pnMax (reg 0x6180 1 s) s) :
    saWrite s = (setReg 0x6180 0x0C 2 (setSa (saSelect s) (shownSa s) s), 0) := by
  have hlimit : ¬ reg 0x6180 7 s > pnMax (reg 0x6180 1 s) s := Nat.not_lt.mpr hpn
  simp only [saWrite, hoff, if_neg hlimit]
  exact saCommand_taken _ s hdev

theorem exec_pnExhaustion_reached (p : Fin 16) (s : State) (hon : macsecOn p.val s = true) (hxpn : isXpn p.val s = false)
    (hpn : 0xC0000000 ≤ (sa (txSa p.val s) s).nextPn) : exec (.pnExhaustion p) s = .next (hostEvent 4 s) :=
  congrArg Host.Outcome.next (if_pos (by simp [hon, hxpn, hpn]))

/-! ### Key agreement (R386) -/

theorem mkaCommand_done (f : Svc) (s t : State) (hdev : s.dev ≠ .terminal) (hf : f s = (t, 0)) :
    mkaCommand f s = (setReg 0x6030 6 2 t, 0) := by
  rw [mkaCommand, notTerminal_past _ _ hdev]
  simp [hf]

/-- The key of 128 bits that a CAK gives for a use (R386). -/
def agreedKey (use : Nat) (s : State) : KeySlot :=
  ⟨1, 2, 0, false, Config.kdf (keySlot (reg 0x6030 3 s) s).value (leBytes 1 use ++ leBytes 1500 (reg 0x6030 4 s))⟩

@[simp] theorem agreedKey_touch (use : Nat) (ses : Session) (s : State) : agreedKey use (touch ses s) = agreedKey use s := by
  simp [agreedKey]

/-- KEK and ICK stand in slots a and b. -/
def putAgreed (a b : Nat) (kek ick : KeySlot) (s : State) : State :=
  { s with crust := { s.crust with slots := tset keySlot0 (tset keySlot0 s.crust.slots a kek) b ick } }

theorem deriveKeys_fromCak (s : State) (hdev : s.dev ≠ .terminal) (husage : bit (keySlot (reg 0x6030 3 s) s).usage 1 = true)
    (htype : (keySlot (reg 0x6030 3 s) s).type = 1)
    (hfree : slotInUse (reg 0x6030 1 s) s = false ∧ slotInUse (reg 0x6030 2 s) s = false)
    (hidle : saUses (reg 0x6030 1 s) s = false ∧ saUses (reg 0x6030 2 s) s = false) :
    deriveKeys s = (setReg 0x6030 6 2 (putAgreed (reg 0x6030 1 s) (reg 0x6030 2 s) (agreedKey 0 s) (agreedKey 1 s) s), 0) := by
  refine mkaCommand_done _ s _ hdev ?_
  simp [husage, htype, hfree, hidle, done, putAgreed, agreedKey]

theorem computeIcv_fromIck (s : State) (hdev : s.dev ≠ .terminal) (husage : bit (keySlot (reg 0x6030 2 s) s).usage 1 = true) :
    computeIcv s = (setReg 0x6030 6 2 (setReg 0x6030 5
      (leNat (macBytes (reg 0x6030 2 s) 16 (leBytes 1500 (reg 0x6030 4 s)) s)) s), 0) := by
  refine mkaCommand_done _ s _ hdev ?_
  simp [husage, done]

/-! ### Module binding (R398) -/

theorem bindCommand_valid (ses : Session) (p : Nat) (f : State → State) (s : State) (hdev : s.dev ≠ .terminal)
    (hrole : 2 ≤ roleOf ses s) (hvalid : reg (pI p) 4 s = 2) : bindCommand ses p f s = (f s, 0) := by
  rw [bindCommand, notTerminal_past _ _ hdev, needRole_granted _ _ _ _ hrole]
  simp [hvalid, done]

/-- The binding of port p is noted: the stored digest with its mark (0 none), and what the record shows of it. -/
def noteBinding (p mark shown digest time : Nat) (s : State) : State :=
  setReg (0x6050 + p) 3 time (setReg (0x6050 + p) 2 digest (setReg (0x6050 + p) 1 shown
    { s with crust := { s.crust with bound := tset 0 s.crust.bound p mark } }))

theorem setBound_roleOf (ses : Session) (b : Tab Nat) (s : State) :
    roleOf ses { s with crust := { s.crust with bound := b } } = roleOf ses s := rfl

theorem setBound_nowNs (b : Tab Nat) (s : State) : nowNs { s with crust := { s.crust with bound := b } } = nowNs s := rfl

/-- A change of the binding of port p to or from a module's digest is recorded. -/
def recordBinding (p shown role d : Nat) (s : State) : State :=
  setReg (pI p) 6 shown (sealRecord 0x000F role [p, d / 2 ^ 192, d / 2 ^ 128 % 2 ^ 64, d / 2 ^ 64 % 2 ^ 64, d % 2 ^ 64] s)

theorem bindModule_valid (ses : Session) (p : Nat) (s : State) (hdev : s.dev ≠ .terminal) (hrole : 2 ≤ roleOf ses s)
    (hvalid : reg (pI p) 4 s = 2) :
    bindModule ses p s = (let d := recDigest (reg (pI p) 5 s)
      recordBinding p 1 (roleOf ses s) d (noteBinding p (d + 1) 1 (leNat (beBytes 32 d)) (time80 (nowNs s)) s), 0) := by
  rw [bindModule, bindCommand_valid ses p _ s hdev hrole hvalid]
  simp only [setReg_roleOf', setBound_roleOf, setBound_nowNs, recordBinding, noteBinding]

theorem unbindModule_valid (ses : Session) (p : Nat) (s : State) (hdev : s.dev ≠ .terminal) (hrole : 2 ≤ roleOf ses s)
    (hvalid : reg (pI p) 4 s = 2) :
    unbindModule ses p s = (let d := tget 0 s.crust.bound p - 1
      recordBinding p 0 (roleOf ses s) d (noteBinding p 0 0 0 0 s), 0) := by
  rw [unbindModule, bindCommand_valid ses p _ s hdev hrole hvalid]
  simp only [setReg_roleOf', setBound_roleOf, recordBinding, noteBinding]

/-! ### The commands of a session -/

section
variable (ses : Session) (s : State) (hs : Served ses s)
include hs

theorem exec_transmitAnWrite_inRange (p : Fin 16) (an : Byte) (hdev : s.dev ≠ .terminal) (han : an.toNat ≤ 3) :
    exec (.transmitAnWrite ses p an) s = .next (answered ses (setReg (pM p.val) 9 an.toNat (touch ses s))) :=
  congrArg Host.Outcome.next (serve_done ses _ s _ hs (writeAn_inRange _ _ _ (by simpa using hdev) han))

theorem exec_saRead_taken (hdev : s.dev = .configure ∨ s.dev = .operate ∨ s.dev = .safe) :
    exec (.saRead ses) s = .next (answered ses (setReg 0x6180 0x0C 2 (showSa (sa (saSelect s) s) (touch ses s)))) := by
  have hread := saRead_taken (touch ses s) (by simpa using hdev)
  simp only [saSelect_touch, sa_touch] at hread
  exact congrArg Host.Outcome.next (serve_done ses _ s _ hs hread)

theorem exec_saWrite_disabled (hdev : s.dev = .configure ∨ s.dev = .operate ∨ s.dev = .safe) (hoff : reg 0x6180 0x0A s = 0)
    (hpn : reg 0x6180 7 s ≤ pnMax (reg 0x6180 1 s) s) :
    exec (.saWrite ses) s = .next (answered ses (setReg 0x6180 0x0C 2 (setSa (saSelect s) (shownSa s) (touch ses s)))) := by
  have hwrite := saWrite_disabled (touch ses s) (by simpa using hdev) (by simpa using hoff) (by simpa using hpn)
  simp only [saSelect_touch, shownSa_touch] at hwrite
  exact congrArg Host.Outcome.next (serve_done ses _ s _ hs hwrite)

theorem exec_deriveKekIck_fromCak (hdev : s.dev ≠ .terminal) (husage : bit (keySlot (reg 0x6030 3 s) s).usage 1 = true)
    (htype : (keySlot (reg 0x6030 3 s) s).type = 1)
    (hfree : slotInUse (reg 0x6030 1 s) s = false ∧ slotInUse (reg 0x6030 2 s) s = false)
    (hidle : saUses (reg 0x6030 1 s) s = false ∧ saUses (reg 0x6030 2 s) s = false) :
    exec (.deriveKekIck ses) s = .next (answered ses (setReg 0x6030 6 2
      (putAgreed (reg 0x6030 1 s) (reg 0x6030 2 s) (agreedKey 0 s) (agreedKey 1 s) (touch ses s)))) := by
  have hderive := deriveKeys_fromCak (touch ses s) (by simpa using hdev) (by simpa using husage) (by simpa using htype)
    (by simpa using hfree) (by simpa using hidle)
  simp only [touch_reg', agreedKey_touch] at hderive
  exact congrArg Host.Outcome.next (serve_done ses _ s _ hs hderive)

theorem exec_computeIcv_fromIck (hdev : s.dev ≠ .terminal) (husage : bit (keySlot (reg 0x6030 2 s) s).usage 1 = true) :
    exec (.computeIcv ses) s = .next (answered ses (setReg 0x6030 6 2 (setReg 0x6030 5
      (leNat (macBytes (reg 0x6030 2 s) 16 (leBytes 1500 (reg 0x6030 4 s)) s)) (touch ses s)))) := by
  have hcompute := computeIcv_fromIck (touch ses s) (by simpa using hdev) (by simpa using husage)
  simp only [touch_reg', macBytes_touch] at hcompute
  exact congrArg Host.Outcome.next (serve_done ses _ s _ hs hcompute)

theorem exec_moduleBind_valid (p : Fin 16) (hdev : s.dev ≠ .terminal) (hrole : 2 ≤ roleOf ses s) (hvalid : reg (pI p.val) 4 s = 2) :
    exec (.moduleBind ses p) s = .next (answered ses (let d := recDigest (reg (pI p.val) 5 s)
      recordBinding p.val 1 (roleOf ses s) d
        (noteBinding p.val (d + 1) 1 (leNat (beBytes 32 d)) (time80 (nowNs s)) (touch ses s)))) := by
  have hbind := bindModule_valid ses p.val (touch ses s) (by simpa using hdev) (by simpa using hrole) (by simpa using hvalid)
  simp only [touch_reg', touch_roleOf', touch_nowNs'] at hbind
  exact congrArg Host.Outcome.next (serve_done ses _ s _ hs hbind)

theorem exec_moduleUnbind_valid (p : Fin 16) (hdev : s.dev ≠ .terminal) (hrole : 2 ≤ roleOf ses s)
    (hvalid : reg (pI p.val) 4 s = 2) :
    exec (.moduleUnbind ses p) s = .next (answered ses (let d := tget 0 s.crust.bound p.val - 1
      recordBinding p.val 0 (roleOf ses s) d (noteBinding p.val 0 0 0 0 (touch ses s)))) := by
  have hunbind := unbindModule_valid ses p.val (touch ses s) (by simpa using hdev) (by simpa using hrole) (by simpa using hvalid)
  simp only [touch_roleOf', touch_crust] at hunbind
  exact congrArg Host.Outcome.next (serve_done ses _ s _ hs hunbind)

end

/-- Settles O55: each command's effect after the access of its session, and each event's; where a key may not open or not check, both ends
of the command. -/
theorem crustHoldsKeys : Obligations.CrustHoldsKeys := by
  refine ⟨?_, ?_, ?_, ?_, ?_, exec_keyParityError_held, exec_trngHealthFailure_works, exec_trngStartUpTest_passed,
    exec_trngStartUpTest_failed, exec_authUnitSelfTest_failed, exec_authUnitSelfTest_passed, ?_, ?_, ?_,
    exec_pnExhaustion_reached, ?_, ?_, ?_, ?_⟩
  · intro ses s hs hdev hlife hslot htype hfits hzero hrole huse
    have hinput : SymmetricInput s := ⟨hslot, htype, hfits, hzero⟩
    dsimp only
    split
    next hopen => exact exec_loadWrappedBlob_unopened ses s hs hdev hlife hinput hrole huse hopen
    next k hopen => exact exec_loadWrappedBlob_opened ses s hs hdev hlife hinput hrole huse k hopen
  · intro ses s hs hdev hlife hslot hpoint hrole
    exact exec_importPublicKey_transport ses s hs hdev hlife hslot hpoint hrole
  · intro ses s hs hdev hlife hslot htrng huse hkek hshort
    split
    next hopen => exact exec_unwrapSak_unopened ses s hs hdev hlife hslot htrng huse hkek hshort hopen
    next v hopen => exact exec_unwrapSak_opened ses s hs hdev hlife hslot htrng huse hkek hshort v hopen
  · intro ses s hs hdev hlife hslot hrole huse
    exact exec_eraseKey_free ses s hs hdev hlife hslot hrole huse
  · intro ses s hs hdev hlife hrole hslot htype hfits hreserved hzero huse
    have hinput : SymmetricInput s := ⟨hslot, Or.inr htype, hfits, hreserved⟩
    dsimp only
    split
    next hcheck => exact exec_clearImport_checked ses s hs hdev hlife hrole hinput htype hzero huse hcheck
    next hcheck => exact exec_clearImport_unchecked ses s hs hdev hlife hrole hinput htype hzero hcheck
  · intro ses p an s hs hdev han
    exact exec_transmitAnWrite_inRange ses s hs p an hdev han
  · intro ses s hs hdev
    exact exec_saRead_taken ses s hs hdev
  · intro ses s hs hdev hoff hpn
    exact exec_saWrite_disabled ses s hs hdev hoff hpn
  · intro ses s hs hdev husage htype hfree hidle
    exact exec_deriveKekIck_fromCak ses s hs hdev husage htype hfree hidle
  · intro ses s hs hdev husage
    exact exec_computeIcv_fromIck ses s hs hdev husage
  · intro ses p s hs hdev hrole hvalid
    exact exec_moduleBind_valid ses s hs p hdev hrole hvalid
  · intro ses p s hs hdev hrole hvalid
    exact exec_moduleUnbind_valid ses s hs p hdev hrole hvalid

end Sys2Proof.Machine
end

section
/-!
Packages and their installation (R429, R431, R432, R433, R445), and the arming, the header and the instant of an activation (R438, R440);
then O56. Which refusal a package command answers, and that a discard is taken in every state, is the model's choice (assumption log 92).
-/
namespace Sys2Proof.Machine

/-! ### Reads that an access leaves as they are -/

@[simp] theorem packageKind_touch (ses : Session) (s : State) : packageKind (touch ses s) = packageKind s := by simp [packageKind]

@[simp] theorem spareSlot_touch (k : Nat) (ses : Session) (s : State) : spareSlot k (touch ses s) = spareSlot k s := by
  simp [spareSlot, activeSlot]

@[simp] theorem armRefusal_touch (kinds target : Nat) (check : Bool) (ses : Session) (s : State) :
    armRefusal kinds target check (touch ses s) = armRefusal kinds target check s :=
  touch_same (armRefusal kinds target check) (fun _ _ => rfl) ses s

/-! ### Packages (R432, R433) -/

theorem packageCommand_done (ses : Session) (f : Svc) (s t : State) (hdev : s.dev ≠ .terminal) (hrole : 1 ≤ roleOf ses s)
    (hf : f s = (t, 0)) : packageCommand ses f s = (t, 0) := by
  rw [packageCommand, notTerminal_past _ _ hdev, needRole_granted _ _ _ _ hrole]
  simp [hf]

/-- The staging area is empty, in a state of the package and with its command carried out (R432, R433). -/
def emptyStaging (state : Nat) (s : State) : State :=
  setReg 0x6800 6 2 (setReg 0x6800 7 state (setReg 0x6800 4 0 { s with update := { s.update with package := [] } }))

theorem beginPackage_free (ses : Session) (s : State) (hdev : s.dev ≠ .terminal) (hrole : 1 ≤ roleOf ses s)
    (hidle : reg 0x6800 7 s ≠ 2) (harmed : bit s.update.armed (packageKind s) = false) :
    beginPackage ses s = (emptyStaging 1 s, 0) := by
  refine packageCommand_done ses _ s _ hdev hrole ?_
  simp [hidle, harmed, done, emptyStaging]

theorem discardPackage_free (ses : Session) (s : State) (hdev : s.dev ≠ .terminal) (hrole : 1 ≤ roleOf ses s)
    (harmed : bit s.update.armed (packageKind s) = false) : discardPackage ses s = (emptyStaging 0 s, 0) := by
  refine packageCommand_done ses _ s _ hdev hrole ?_
  simp [harmed, done, emptyStaging]

/-- A piece stands behind what the staging area held. -/
def appendPiece (l : Bytes) (s : State) : State :=
  setReg 0x6800 4 (reg 0x6800 4 s + l.length) { s with update := { s.update with package := s.update.package ++ l } }

theorem packageData_fits (l : Bytes) (s : State) (hdev : s.dev ≠ .terminal) (hsome : l ≠ []) (hlen : l.length ≤ 4096)
    (hopen : reg 0x6800 7 s = 1) (hroom : reg 0x6800 4 s + l.length ≤ reg 0x6800 3 s) :
    packageData l s = (appendPiece l s, 0) := by
  have hlong : ¬ (l.isEmpty || decide (l.length > 4096)) = true := by simp [hsome, hlen]
  rw [packageData, notTerminal_past _ _ hdev, if_neg hlong, if_neg (not_not.mpr hopen), if_neg (Nat.not_lt.mpr hroom)]
  rfl

/-- The objects of the package's progress are none of its slots'. -/
theorem slotReg_setPackageReg (k j j' v : Nat) (s : State) (hj : j < 256) (hj' : j' < 256) (h : j ≠ j') :
    reg (slotP k) j (setReg 0x6800 j' v s) = reg (slotP k) j s :=
  reg_setReg_ne _ _ _ _ _ _ fun hkey => h (by simp only [okey, slotP] at hkey; omega)

/-- The package is being installed. -/
def startInstall (s : State) : State := setReg 0x6800 6 1 (setReg 0x6800 7 2 s)

theorem packageKind_startInstall (s : State) : packageKind (startInstall s) = packageKind s := by simp [packageKind, startInstall]

theorem spareSlot_startInstall (k : Nat) (s : State) : spareSlot k (startInstall s) = spareSlot k s := by
  simp [spareSlot, activeSlot, startInstall, slotReg_setPackageReg]

/-- An image in full names no base (R431). -/
theorem wrongBase_full (s : State) (hfull : reg 0x6800 2 s = 0) : wrongBase s = false := by simp [wrongBase, hfull]

theorem wrongBase_startInstall (s : State) (hfull : reg 0x6800 2 s = 0) : wrongBase (startInstall s) = false :=
  wrongBase_full _ (by simp [startInstall, hfull])

/-- The spare slot of the package's kind holds no image (state 2), and the sealed digests are void (R376). -/
def voidSpare (k slot : Nat) (s : State) : State := setSlotState k slot 2 { s with crust := { s.crust with sealedDigest := false } }

theorem installPackage_full (ses : Session) (s : State) (hdev : s.dev ≠ .terminal) (hrole : 1 ≤ roleOf ses s)
    (hopen : reg 0x6800 7 s = 1) (harmed : bit s.update.armed (packageKind s) = false) (hfull : reg 0x6800 2 s = 0) :
    installPackage ses s = (voidSpare (packageKind s) (spareSlot (packageKind s) s) (startInstall s), 0) := by
  have hcond : ¬ (reg 0x6800 7 s ≠ 1 || bit s.update.armed (packageKind s)) = true := by simp [hopen, harmed]
  have hbase : ¬ wrongBase (startInstall s) = true := by simp [wrongBase_startInstall s hfull]
  refine packageCommand_done ses _ s _ hdev hrole ((if_neg hcond).trans ((if_neg hbase).trans ?_))
  rw [← packageKind_startInstall s, ← spareSlot_startInstall _ s]
  rfl

/-! ### The end of an installation (R429, R431, R445) -/

section
variable (base : List Byte) (s : State) (hstate : reg 0x6800 7 s = 2) (hcore : s.access.coreUp = true)
include hstate hcore

/-- A full image is installed where it verifies, else its result is noted. -/
theorem exec_installComplete_full (hfull : reg 0x6800 2 s = 0) :
    exec (.installComplete base false) s = .next (let r := verifyImage (packageKind s + 1) s.update.package s
      if r = 1 then installed s.update.package s else installFails r s) := by
  change execInstallComplete base false s = _
  simp [execInstallComplete, hstate, hcore, hfull, wrongBase_full s hfull, packageImage]

theorem exec_installComplete_flashError (hbase : wrongBase s = false) :
    exec (.installComplete base true) s = .next (installFails 7 s) := by
  change execInstallComplete base true s = _
  simp [execInstallComplete, hstate, hcore, hbase]

end

/-! ### Arming and cancelling (R438) -/

/-- An activation of some kinds is armed for a target, in place of the one before. -/
def armedFor (kinds target : Nat) (now : Bool) (s : State) : State :=
  imageEvent 3 kinds (setReg 0x6808 7 0 (setReg 0x6808 6 1 (setReg 0x6808 5 2
    { s with update := { s.update with armed := kinds, flag := 0, target := target, armedNow := now } })))

/-- With no header rewritten yet none is restored. -/
theorem armAt_accepted (target : Nat) (check : Bool) (s : State) (haccept : armRefusal (reg 0x6808 2 s) target check s = none)
    (hflag : s.update.flag = 0) : armAt target check s = (armedFor (reg 0x6808 2 s) target (!check) s, 0) := by
  simp [armAt, haccept, hflag, done, armedFor]

theorem armTarget_accepted (ses : Session) (s : State) (hdev : s.dev ≠ .terminal) (hrole : 1 ≤ roleOf ses s)
    (haccept : armRefusal (reg 0x6808 2 s) (ofTime80 (reg 0x6808 1 s)) true s = none) (hflag : s.update.flag = 0) :
    armTarget ses s = (armedFor (reg 0x6808 2 s) (ofTime80 (reg 0x6808 1 s)) false s, 0) := by
  rw [armTarget, notTerminal_past _ _ hdev, needRole_granted _ _ _ _ hrole]
  exact armAt_accepted _ true s haccept hflag

theorem armNow_accepted (ses : Session) (s : State) (hdev : s.dev ≠ .terminal) (hrole : 1 ≤ roleOf ses s)
    (haccept : armRefusal (reg 0x6808 2 s) (nowNs s + ms 100) false s = none) (hflag : s.update.flag = 0) :
    armNow ses s = (armedFor (reg 0x6808 2 s) (nowNs s + ms 100) true s, 0) := by
  rw [armNow, notTerminal_past _ _ hdev, needRole_granted _ _ _ _ hrole]
  exact armAt_accepted _ false s haccept hflag

theorem cancelArmed_armed (ses : Session) (s : State) (hdev : s.dev ≠ .terminal) (hrole : 1 ≤ roleOf ses s)
    (harmed : s.update.armed ≠ 0) : cancelArmed ses s = (setReg 0x6808 5 2 (cancelActivation 0 s), 0) := by
  rw [cancelArmed, notTerminal_past _ _ hdev, needRole_granted _ _ _ _ hrole]
  exact if_neg (by simpa using harmed)

theorem cancelArmed_unarmed (ses : Session) (s : State) (hdev : s.dev ≠ .terminal) (hrole : 1 ≤ roleOf ses s)
    (harmed : s.update.armed = 0) : cancelArmed ses s = (setReg 0x6808 5 3 s, 0x08000022) := by
  rw [cancelArmed, notTerminal_past _ _ hdev, needRole_granted _ _ _ _ hrole]
  exact if_pos (by simpa using harmed)

/-! ### The header and the instant (R440) -/

section
variable (s : State) (harmed : s.update.armed ≠ 0) (hflag : s.update.flag = 0) (hnear : s.update.target ≤ nowNs s + ms 50)
include harmed hflag hnear

/-- The header of an armed activation is due once, 50 ms before its instant. -/
theorem exec_activationHeaderDeadline_due (written : Bool) :
    exec (.activationHeaderDeadline written) s = .next (
      if written then headerSwap s.update.armed { s with update := { s.update with flag := s.update.armed } }
      else cancelActivation 9 s) := by
  have hcond : ¬ (s.update.armed == 0 || s.update.flag ≠ 0 || nowNs s + ms 50 < s.update.target) = true := by
    simp [harmed, hflag, hnear]
  exact congrArg Host.Outcome.next (if_neg hcond)

theorem exec_activationHeaderDeadline_written :
    exec (.activationHeaderDeadline true) s =
      .next (headerSwap s.update.armed { s with update := { s.update with flag := s.update.armed } }) := by
  rw [exec_activationHeaderDeadline_due s harmed hflag hnear, if_pos rfl]

theorem exec_activationHeaderDeadline_unwritten :
    exec (.activationHeaderDeadline false) s = .next (cancelActivation 9 s) := by
  rw [exec_activationHeaderDeadline_due s harmed hflag hnear, if_neg Bool.false_ne_true]

end

theorem exec_activation_carriedOut (m : ConfigImage) (s : State) (hdue : activationDue s = true)
    (hdev : s.dev ≠ .safe ∧ s.dev ≠ .terminal) (hsync : reg 0x3800 6 s ≠ 4) (hflag : s.update.flag ≠ 0) :
    exec (.activation m) s = .next (settle 8 (activate m s)) := by
  change execActivation m s = _
  simp [execActivation, hdue, hdev, hsync, hflag]

theorem exec_activation_safe (m : ConfigImage) (s : State) (hdue : activationDue s = true) (hdev : s.dev = .safe ∨ s.dev = .terminal) :
    exec (.activation m) s = .next (cancelActivation 5 s) := by
  change execActivation m s = _
  rcases hdev with hdev | hdev <;> simp [execActivation, hdue, hdev]

/-! ### The commands of a session -/

section
variable (ses : Session) (s : State) (hs : Served ses s) (hdev : s.dev ≠ .terminal)
include hs hdev

theorem exec_updateData_fits (l : List Byte) (hsome : l ≠ []) (hlen : l.length ≤ 4096) (hopen : reg 0x6800 7 s = 1)
    (hroom : reg 0x6800 4 s + l.length ≤ reg 0x6800 3 s) :
    exec (.updateData ses l) s = .next (answered ses (let t := touch ses s
      setReg 0x6800 4 (reg 0x6800 4 s + l.length) { t with update := { t.update with package := t.update.package ++ l } })) := by
  have hdata := packageData_fits l (touch ses s) (by simpa using hdev) hsome hlen (by simpa using hopen) (by simpa using hroom)
  rw [appendPiece, touch_reg'] at hdata
  exact congrArg Host.Outcome.next (serve_done ses _ s _ hs hdata)

variable (hrole : 1 ≤ roleOf ses s)
include hrole

theorem exec_updateBegin_free (hidle : reg 0x6800 7 s ≠ 2) (harmed : bit s.update.armed (packageKind s) = false) :
    exec (.updateBegin ses) s = .next (answered ses (emptyStaging 1 (touch ses s))) :=
  congrArg Host.Outcome.next (serve_done ses _ s _ hs (beginPackage_free ses (touch ses s) (by simpa using hdev)
    (by simpa using hrole) (by simpa using hidle) (by simpa using harmed)))

theorem exec_updateInstall_full (hopen : reg 0x6800 7 s = 1) (harmed : bit s.update.armed (packageKind s) = false)
    (hfull : reg 0x6800 2 s = 0) :
    exec (.updateInstall ses) s = .next (answered ses
      (voidSpare (packageKind s) (spareSlot (packageKind s) s) (startInstall (touch ses s)))) := by
  have hinstall := installPackage_full ses (touch ses s) (by simpa using hdev) (by simpa using hrole) (by simpa using hopen)
    (by simpa using harmed) (by simpa using hfull)
  rw [packageKind_touch, spareSlot_touch] at hinstall
  exact congrArg Host.Outcome.next (serve_done ses _ s _ hs hinstall)

theorem exec_updateDiscard_free (harmed : bit s.update.armed (packageKind s) = false) :
    exec (.updateDiscard ses) s = .next (answered ses (emptyStaging 0 (touch ses s))) :=
  congrArg Host.Outcome.next (serve_done ses _ s _ hs (discardPackage_free ses (touch ses s) (by simpa using hdev)
    (by simpa using hrole) (by simpa using harmed)))

theorem exec_activationArm_accepted (haccept : armRefusal (reg 0x6808 2 s) (ofTime80 (reg 0x6808 1 s)) true s = none)
    (hflag : s.update.flag = 0) :
    exec (.activationArm ses) s = .next (answered ses
      (armedFor (reg 0x6808 2 s) (ofTime80 (reg 0x6808 1 s)) false (touch ses s))) := by
  have harm := armTarget_accepted ses (touch ses s) (by simpa using hdev) (by simpa using hrole) (by simpa using haccept)
    (by simpa using hflag)
  rw [touch_reg', touch_reg'] at harm
  exact congrArg Host.Outcome.next (serve_done ses _ s _ hs harm)

theorem exec_activationArmNow_accepted (haccept : armRefusal (reg 0x6808 2 s) (nowNs s + ms 100) false s = none)
    (hflag : s.update.flag = 0) :
    exec (.activationArmNow ses) s = .next (answered ses (armedFor (reg 0x6808 2 s) (nowNs s + ms 100) true (touch ses s))) := by
  have harm := armNow_accepted ses (touch ses s) (by simpa using hdev) (by simpa using hrole) (by simpa using haccept)
    (by simpa using hflag)
  rw [touch_reg', touch_nowNs'] at harm
  exact congrArg Host.Outcome.next (serve_done ses _ s _ hs harm)

theorem exec_activationCancel_armed (harmed : s.update.armed ≠ 0) :
    exec (.activationCancel ses) s = .next (answered ses (setReg 0x6808 5 2 (cancelActivation 0 (touch ses s)))) :=
  congrArg Host.Outcome.next (serve_done ses _ s _ hs (cancelArmed_armed ses (touch ses s) (by simpa using hdev)
    (by simpa using hrole) (by simpa using harmed)))

theorem exec_activationCancel_unarmed (harmed : s.update.armed = 0) :
    exec (.activationCancel ses) s = .next (emit (.answer ses 0x08000022 []) (setReg 0x6808 5 3 (touch ses s))) :=
  congrArg Host.Outcome.next (serve_refused ses _ s _ _ hs (cancelArmed_unarmed ses (touch ses s) (by simpa using hdev)
    (by simpa using hrole) (by simpa using harmed)))

end

/-- Settles O56: each command's effect after the access of its session, and the branch that each event takes. -/
theorem packagesAreInstalled : Obligations.PackagesAreInstalled := by
  refine ⟨exec_updateBegin_free, ?_, exec_updateInstall_full, exec_updateDiscard_free,
    fun base s hstate hcore hfull => exec_installComplete_full base s hstate hcore hfull,
    fun base s hstate hcore hbase => exec_installComplete_flashError base s hstate hcore hbase,
    exec_activationArm_accepted, exec_activationArmNow_accepted, exec_activationCancel_armed, exec_activationCancel_unarmed,
    exec_activationHeaderDeadline_written, exec_activationHeaderDeadline_unwritten, exec_activation_carriedOut, exec_activation_safe⟩
  intro ses l s hs hdev hsome hlen hopen hroom
  exact exec_updateData_fits ses s hs hdev l hsome hlen hopen hroom

end Sys2Proof.Machine
end

section
/-!
Proofing, confirmation and revert (R442, R443, R444, R445) and the recovery loader (R446, R461), and O57. That an erase acts from the offset
on, the code of a failed VERIFY, and the straps that a RESTART keeps are the model's choice (assumption log 95).
-/
namespace Sys2Proof.Machine

/-! ### The verdicts (R442, R443) -/

/-- Where no host verdict is asked for, healthy firmware confirms the images with itself. -/
theorem exec_firmwareConfirm_healthy (burned : Bool) (s : State) (hproof : s.update.proof ≠ 0) (hopen : reg 0x6810 2 s = 0)
    (hhealthy : firmwareHealthy s = true) (halone : cfg 0x6810 3 s = 0) :
    exec (.firmwareConfirm burned) s = .next (confirmImages burned (setReg 0x6810 2 1 s)) := by
  have hcond : ¬ (s.update.proof == 0 || reg 0x6810 2 s ≠ 0 || !firmwareHealthy s) = true := by simp [hproof, hopen, hhealthy]
  have hverdict : (cfg 0x6810 3 (setReg 0x6810 2 1 s) == 0 || (setReg 0x6810 2 1 s).update.hostOk) = true := by simp [halone]
  exact congrArg Host.Outcome.next ((if_neg hcond).trans (if_pos hverdict))

/-- The host's part of the confirmation is in place. -/
def hostConfirmed (s : State) : State := { s with update := { s.update with hostOk := true } }

@[simp] theorem hostConfirmed_reg (i j : Nat) (s : State) : reg i j (hostConfirmed s) = reg i j s := rfl

theorem hostConfirm_alone (ses : Session) (burned : Bool) (s : State) (hdev : s.dev ≠ .terminal) (hrole : 1 ≤ roleOf ses s)
    (hproof : s.update.proof ≠ 0) (hopen : reg 0x6810 2 s ≠ 1) : hostConfirm ses burned s = (hostConfirmed s, 0) := by
  rw [hostConfirm, notTerminal_past _ _ hdev, needRole_granted _ _ _ _ hrole]
  have hcond : ¬ (reg 0x6810 2 (hostConfirmed s) == 1) = true := by simpa using hopen
  exact (if_neg (by simpa using hproof)).trans (congrArg done (if_neg hcond))

theorem hostConfirm_last (ses : Session) (burned : Bool) (s : State) (hdev : s.dev ≠ .terminal) (hrole : 1 ≤ roleOf ses s)
    (hproof : s.update.proof ≠ 0) (hconfirmed : reg 0x6810 2 s = 1) :
    hostConfirm ses burned s = (confirmImages burned (hostConfirmed s), 0) := by
  rw [hostConfirm, notTerminal_past _ _ hdev, needRole_granted _ _ _ _ hrole]
  have hcond : (reg 0x6810 2 (hostConfirmed s) == 1) = true := by simpa using hconfirmed
  exact (if_neg (by simpa using hproof)).trans (congrArg done (if_pos hcond))

theorem hostReject_proofing (ses : Session) (s : State) (hdev : s.dev ≠ .terminal) (hrole : 1 ≤ roleOf ses s)
    (hproof : s.update.proof ≠ 0) : hostReject ses s = (revertImages s, 0) := by
  rw [hostReject, notTerminal_past _ _ hdev, needRole_granted _ _ _ _ hrole]
  exact if_neg (by simpa using hproof)

section
variable (ses : Session) (s : State) (hs : Served ses s) (hdev : s.dev ≠ .terminal) (hrole : 1 ≤ roleOf ses s)
  (hproof : s.update.proof ≠ 0)
include hs hdev hrole hproof

theorem exec_hostConfirm_alone (burned : Bool) (hopen : reg 0x6810 2 s ≠ 1) :
    exec (.hostConfirm ses burned) s = .next (answered ses (hostConfirmed (touch ses s))) :=
  congrArg Host.Outcome.next (serve_done ses _ s _ hs (hostConfirm_alone ses burned (touch ses s) (by simpa using hdev)
    (by simpa using hrole) (by simpa using hproof) (by simpa using hopen)))

theorem exec_hostConfirm_last (burned : Bool) (hconfirmed : reg 0x6810 2 s = 1) :
    exec (.hostConfirm ses burned) s = .next (answered ses (confirmImages burned (hostConfirmed (touch ses s)))) :=
  congrArg Host.Outcome.next (serve_done ses _ s _ hs (hostConfirm_last ses burned (touch ses s) (by simpa using hdev)
    (by simpa using hrole) (by simpa using hproof) (by simpa using hconfirmed)))

theorem exec_hostReject_proofing : exec (.hostReject ses) s = .next (answered ses (revertImages (touch ses s))) :=
  congrArg Host.Outcome.next (serve_done ses _ s _ hs (hostReject_proofing ses (touch ses s) (by simpa using hdev)
    (by simpa using hrole) (by simpa using hproof)))

end

theorem exec_proofingWindowExpiry_due (s : State) (hproof : s.update.proof ≠ 0)
    (hdue : due s.update.openedAt (cfg 0x6810 1 s * 1000000000) s = true) :
    exec .proofingWindowExpiry s = .next (revertImages s) :=
  congrArg Host.Outcome.next (if_pos (by simp [hproof, hdue]))

theorem exec_revertConfigurationSwitch_awaited (m : ConfigImage) (s : State) (hawaited : s.update.revertAt ≠ none) :
    exec (.revertConfigurationSwitch m) s = .next (settle 8 (refreshEval (switchImage m
      { s with update := { s.update with revertAt := none } }))) :=
  congrArg Host.Outcome.next (if_neg (by simpa using hawaited))

theorem exec_thermometerBurnRetry_burns (s : State) (howed : s.update.burnDue = true) (hcore : s.access.coreUp = true)
    (hproof : s.update.proof = 0) (habove : majorAbove s = true) :
    exec (.thermometerBurnRetry true) s = .next (imageEvent 8 1 (raiseFloors 3
      { s with update := { s.update with burnDue := false } })) :=
  congrArg Host.Outcome.next (if_pos (by simp [howed, hcore, hproof, habove]))

/-! ### Requests of the loader (R446) -/

section
variable (op k o n c : Nat) (l : Bytes) (f : Svc) (s : State) (hrecovery : s.power.recovery = true) (hreset : s.power.reset = 0)
include hrecovery hreset

theorem loaderRequest_corrupt (hcrc : crc16 0xFFFF (loaderHeader op k o n ++ l) ≠ c) :
    loaderRequest op k o n l c f s = count 0x1230 2 s := by
  simp [loaderRequest, hrecovery, hreset, hcrc]

/-- A request of a slot that exists, with a length that fits, while no result waits. -/
theorem loaderRequest_taken (hcrc : crc16 0xFFFF (loaderHeader op k o n ++ l) = c) (hfree : s.access.spi = none) (hslot : k ≤ 3)
    (hlen : n ≤ 256) : loaderRequest op k o n l c f s = spiDone (f s).2 [] (f s).1 := by
  simp [loaderRequest, hrecovery, hreset, hcrc, hfree, Nat.not_lt.mpr hslot, Nat.not_lt.mpr hlen]

end

/-- Bytes that are written at the end of what the slot holds stand behind it. -/
theorem append_at_end (held l : Bytes) (p : Nat) (hend : held.length = p) :
    ((held ++ List.replicate (p - held.length) (0xFF : Byte)).take p ++ l ++
      (held ++ List.replicate (p - held.length) (0xFF : Byte)).drop (p + l.length)) = held ++ l := by
  subst hend
  simp

section
variable (k : Byte) (o : Fin 4294967296) (n c : Fin 65536) (s : State) (hrecovery : s.power.recovery = true)
  (hreset : s.power.reset = 0)
include hrecovery hreset

theorem exec_recoveryErase_corrupt (hcrc : crc16 0xFFFF (loaderHeader 0x20 k.toNat o.val n.val) ≠ c.val) :
    exec (.recoveryErase k o n c) s = .next (count 0x1230 2 s) :=
  congrArg Host.Outcome.next (loaderRequest_corrupt _ _ _ _ _ [] _ s hrecovery hreset (by simpa using hcrc))

variable (hfree : s.access.spi = none) (hslot : k.toNat ≤ 3) (hlen : n.val ≤ 256)
include hfree hslot hlen

theorem exec_recoveryErase_taken (hcrc : crc16 0xFFFF (loaderHeader 0x20 k.toNat o.val n.val) = c.val)
    (hend : o.val + n.val ≤ 2097152) :
    exec (.recoveryErase k o n c) s =
      .next (spiDone 0 [] (setSlotBytes k.toNat (((slotBytes k.toNat s).getD []).take o.val) s)) := by
  refine congrArg Host.Outcome.next
    ((loaderRequest_taken _ _ _ _ _ [] _ s hrecovery hreset (by simpa using hcrc) hfree hslot hlen).trans ?_)
  rw [if_neg (Nat.not_lt.mpr hend)]
  rfl

theorem exec_recoveryWrite_taken (l : List Byte) (hcrc : crc16 0xFFFF (loaderHeader 0x21 k.toNat o.val n.val ++ l) = c.val)
    (hdata : l.length = n.val) (hend : o.val + n.val ≤ 2097152) (hheld : ((slotBytes k.toNat s).getD []).length = o.val) :
    exec (.recoveryWrite k o n l c) s =
      .next (spiDone 0 [] (setSlotBytes k.toNat ((slotBytes k.toNat s).getD [] ++ l) s)) := by
  refine congrArg Host.Outcome.next
    ((loaderRequest_taken _ _ _ _ _ l _ s hrecovery hreset hcrc hfree hslot hlen).trans ?_)
  dsimp only
  rw [if_neg (not_not.mpr hdata), if_neg (Nat.not_lt.mpr hend), append_at_end _ l _ hheld]
  rfl

/-- An image that verifies stands in its slot, confirmed and active, and the header names it (R446). -/
def activateSlot (k : Nat) (l : Bytes) (s : State) : State :=
  let t := headerWritten (setReg (slotP (k / 2)) 1 (k % 2) (noteSlot (k / 2) (k % 2) (imageInfo l) (setSlotState (k / 2) (k % 2) 1 s)))
  { t with update := { t.update with owed := t.update.owed ++ [(0x0010, [9, 2 ^ (k / 2)])] } }

theorem exec_recoveryVerify_whole (l : List Byte) (hcrc : crc16 0xFFFF (loaderHeader 0x22 k.toNat o.val n.val) = c.val)
    (hheld : slotBytes k.toNat s = some l) (hwhole : l.length = 512 + leNat (slice 12 4 l)) :
    exec (.recoveryVerify k o n c []) s = .next (
      if verifyImage (k.toNat / 2 + 1) l s = 1 then spiDone 0 [] (activateSlot k.toNat l s) else spiDone 0x08000000 [] s) := by
  have himage : l.take (512 + leNat (slice 12 4 l)) = l := List.take_of_length_le hwhole.le
  refine congrArg Host.Outcome.next
    ((loaderRequest_taken _ _ _ _ _ [] _ s hrecovery hreset (by simpa using hcrc) hfree hslot hlen).trans ?_)
  simp only [hheld, Option.getD_some, himage]
  by_cases hverified : verifyImage (k.toNat / 2 + 1) l s = 1
  · rw [if_neg (not_not.mpr hverified), if_pos hverified]
    rfl
  · rw [if_pos hverified, if_neg hverified]
    rfl

/-- The device restarts where the request's own result waits. -/
theorem exec_recoveryRestart_taken (hcrc : crc16 0xFFFF (loaderHeader 0x23 k.toNat o.val n.val) = c.val) :
    exec (.recoveryRestart k o n c) s = .next (release (holdReset 6 (spiDone 0 [] s))) := by
  have htaken := loaderRequest_taken 0x23 k.toNat o.val n.val c.val [] done s hrecovery hreset (by simpa using hcrc) hfree hslot hlen
  change execRecoveryRestart k o n c s = _
  simp only [execRecoveryRestart, htaken]
  exact congrArg Host.Outcome.next (if_pos (by simp [hfree, spiDone, done]))

end

/-- Settles O57: the verdicts, the ends of the window, and the loader's requests that are taken. -/
theorem imagesAreProofed : Obligations.ImagesAreProofed := by
  refine ⟨exec_firmwareConfirm_healthy, ?_, ?_, exec_hostReject_proofing, exec_proofingWindowExpiry_due,
    exec_revertConfigurationSwitch_awaited, exec_thermometerBurnRetry_burns, ?_, exec_recoveryErase_corrupt, ?_, ?_, ?_⟩
  · intro ses burned s hs hdev hrole hproof hopen
    exact exec_hostConfirm_alone ses s hs hdev hrole hproof burned hopen
  · intro ses burned s hs hdev hrole hproof hconfirmed
    exact exec_hostConfirm_last ses s hs hdev hrole hproof burned hconfirmed
  · intro k o n c s hrecovery hreset hcrc hfree hslot hlen hend
    exact exec_recoveryErase_taken k o n c s hrecovery hreset hfree hslot hlen hcrc hend
  · intro k o n l c s hrecovery hreset hcrc hfree hslot hlen hdata hend hheld
    exact exec_recoveryWrite_taken k o n c s hrecovery hreset hfree hslot hlen l hcrc hdata hend hheld
  · intro k o n c l s hrecovery hreset hcrc hfree hslot hlen hheld hwhole
    exact exec_recoveryVerify_whole k o n c s hrecovery hreset hfree hslot hlen l hcrc hheld hwhole
  · intro k o n c s hrecovery hreset hcrc hfree hslot hlen
    exact exec_recoveryRestart_taken k o n c s hrecovery hreset hfree hslot hlen hcrc

end Sys2Proof.Machine
end
